-- ==== Sys2Proof/Word.lean ====
section
/-! DEFINITION. The word types of the XM6448 model: bytes, 32-bit words, 64-bit tick counts, byte strings, and
the sparse tables that State keeps its big memories in. What reads, writes and converts them is in
Machine/Ops.lean. -/

namespace Sys2Proof

/-- A byte. -/
abbrev Byte := BitVec 8

/-- A 32-bit word: a Joiner register, an ODA word, a table word. -/
abbrev Word := BitVec 32

/-- A truss time: a 64-bit count of 62.5 ps ticks (R180). -/
abbrev Ticks := BitVec 64

/-- A byte string: the value of an ODA entry in little-endian order, or the data of a message. -/
abbrev Bytes := List Byte

/-- A table that lists only its entries that differ from a default: keys strictly rising, no entry equal to the
default. Its operations are in Machine/Ops.lean. -/
abbrev Sparse (α : Type) := List (Nat × α)

end Sys2Proof
end

