-- ==== Sys2Proof/Syntax.lean ====
section
/-! DEFINITION. The commands of the XM6448: one constructor of `Instr` for each row of spec/opcode_table.json,
with the row's operands. The first operand `t` of every command is the device time, in femtoseconds since POR
was last released, at which the command comes about (assumption log 1). A Joiner instruction names the timetable
whose turn it is; the instruction's own operands are bits of the program in that Joiner's code SRAM, which is
state (R54, R76). What only the world outside the device fixes (a measured temperature, an edge, a block that
arrives) is an operand of the event that brings it. -/

namespace Sys2Proof

/-! ## Operands -/

/-- Where a message comes in and its reply goes out (R284, R215): the management port, an ETH port (R212), or a
RONZAL lane. -/
inductive Port where
  | mgmt
  | eth (p : Fin 16)
  | lane (l : Fin 48)
  deriving DecidableEq, Repr

/-- Where an IPv4 request came from: its source address and UDP port (R213). A request over a lane has none. -/
structure Peer where
  addr : Word := 0
  udp : BitVec 16 := 0
  deriving DecidableEq, Repr

/-- The common header of an ODA request (R282), but for its TYPE, which the command's row fixes, and LENGTH,
which its data fixes; and the sender to which its reply goes (R213). -/
structure Req where
  port : Port
  peer : Peer := {}
  ver : BitVec 4
  device : Fin 64
  seq : Word
  session : Word
  deriving DecidableEq, Repr

/-- The entry a READ, WRITE or DESCRIBE names (R282, R290): index, subindex, and element or byte offset. -/
structure EntryRef where
  index : BitVec 16
  sub : BitVec 8
  deriving DecidableEq, Repr

/-- A bulk message as it is accepted (R215): its port, sequence number and the four words of message fields. -/
structure BulkMsg where
  port : Port
  peer : Peer := {}
  seq : Word
  w0 : Word
  w1 : Word
  w2 : Word
  w3 : Word
  deriving DecidableEq, Repr

/-- A bell word (R173). -/
structure BellWord where
  kind : BitVec 4
  originDev : BitVec 6
  hops : BitVec 6
  payload : Byte
  number : Byte
  origin : Ticks
  source : BitVec 4
  sourceId : BitVec 14
  deriving DecidableEq, Repr

/-- A truss setting with its switch time, as a SETTINGS block carries it (R192). -/
structure SettingChange where
  setting : BitVec 8
  item : BitVec 8
  at_ : Ticks
  value : BitVec 64
  deriving DecidableEq, Repr

/-- A HEARTBEAT block (R192). -/
structure HeartbeatBlock where
  seq : Word
  lstate : BitVec 4
  time : Ticks
  deriving DecidableEq, Repr

/-- A BREAK block (R192). -/
structure BreakBlock where
  detector : BitVec 6
  lane : BitVec 6
  time : Ticks
  deriving DecidableEq, Repr

/-- A TRAIN block (R192). -/
structure TrainBlock where
  version : BitVec 4
  role : BitVec 4
  deviceNum : BitVec 6
  king : Bool
  part : BitVec 16
  refFreq : Word
  tbWords : Word
  deriving DecidableEq, Repr

/-- A TIME block (R192). -/
structure TimeBlock where
  kind : BitVec 8
  exchange : BitVec 10
  ta : BitVec 64
  tb : BitVec 64
  deriving DecidableEq, Repr

/-- A JOIN block (R192). -/
structure JoinBlock where
  kind : BitVec 8
  device : BitVec 6
  parent : BitVec 6
  old : Bool
  reason : BitVec 8
  delay : BitVec 64
  deriving DecidableEq, Repr

/-- What an Ethernet frame carries (R212): a PAUSE or priority flow-control frame, an ARP request for an address, an
IPv4 datagram to an address (an ICMP echo request, or UDP to a port), a fragment of a datagram, or anything else. -/
inductive Carried where
  | pause
  | arp (target : Word)
  | echo (dst : Word)
  | udp (dst : Word) (port : Nat)
  | fragment
  | other
  deriving DecidableEq, Repr

/-- What an Ethernet frame brings to R212 to R214: its length, whether its FCS is right, its destination, the VLAN tags,
what it carries, and the IPv4 address of its sender. -/
structure EthFrame where
  length : Nat
  fcsOk : Bool
  dst : BitVec 48
  vlans : List (BitVec 12)
  carries : Carried
  src : Word
  deriving DecidableEq, Repr

/-- What boot finds outside the registers and memories that State holds (R312, R313): whether every HBM stack trained,
whether a rail fault or an overtemperature stands, whether FRZ_N is low, and the core temperatures (1/16 degree). -/
structure BootFindings where
  hbmTrained : Bool
  railFault : Bool
  hot : Bool
  frzLow : Bool
  coreTemps : List (BitVec 16)
  deriving DecidableEq, Repr

/-- Depth classes of a droop (R309): 3.0 to 4.5 %, 4.5 to 6.0 %, more than 6.0 %. -/
inductive DroopClass where
  | light | middle | deep
  deriving DecidableEq, Repr

/-- What the preconditions of R263 measure outside the device's registers: VREF_EXT against the bandgap (uV), the
unit's temperature (1/16 degree) and how far it moved in the last 1.0 s. -/
structure PlumbConditions where
  vref : Nat
  temp : BitVec 16
  moved : Nat
  deriving DecidableEq, Repr

/-- The result of one Plumb run of a core (R254, R255): the trims an amplitude run computes, before any range
limit, or the mean difference of a timing run's stamps from their nominal times, in femtoseconds, as the loopback
comparator takes them at the pad: the device subtracts the route to the balls (R18). -/
inductive PlumbResult where
  | amp (cells : List Int) (gain offset : Int)
  | time (padFs : Int)
  deriving DecidableEq, Repr

/-- The two synthesizers: SYN-M and SYN-A. -/
inductive Syn where
  | M | A
  deriving DecidableEq, Repr

/-- The loops of a synthesizer (R150): SYN-A has a main loop only. -/
inductive Loop where
  | main | timeBase
  deriving DecidableEq, Repr

/-- The channel settings of CHANNEL_SETTING_WRITE (R393). -/
inductive ChannelSetting where
  | mode | phaseOfs | ncoAmp | gain | offset | hold | parkCode | pbFill
  deriving DecidableEq, Repr

/-! ## The commands -/

/-- The commands, one constructor for each row of spec/opcode_table.json, in the table's families. -/
inductive Instr where
  /-- NOP (R77): Joiner instruction that does nothing for one issue cycle. -/
  | nop (t : Nat) (tt : Fin 6144)
  /-- HALT (R77): Instruction that halts the issuing timetable with HALT_CAUSE 0. -/
  | halt (t : Nat) (tt : Fin 6144)
  /-- YIELD (R62): Instruction that makes the timetable the last issued at its priority. -/
  | yield (t : Nat) (tt : Fin 6144)
  /-- SLEEP (R93): Enqueues a GAP descriptor of C granules to every gang channel. -/
  | sleep (t : Nat) (tt : Fin 6144)
  /-- PLAY (R47): Enqueues a PLAY descriptor of one segment with REPEAT 1, copying the entry and taking pins. -/
  | play (t : Nat) (tt : Fin 6144)
  /-- PLAYN (R77): Enqueues a PLAY descriptor with REPEAT taken from a register. -/
  | playn (t : Nat) (tt : Fin 6144)
  /-- PLAYG (R77): Enqueues a PLAY descriptor of the segment named in a register. -/
  | playg (t : Nat) (tt : Fin 6144)
  /-- STRM (R52): Enqueues a STREAM descriptor for a stream ring. -/
  | strm (t : Nat) (tt : Fin 6144)
  /-- LOOP (R80): Pushes a loop count and start address on the loop stack. -/
  | loop (t : Nat) (tt : Fin 6144)
  /-- ENDL (R80): Decrements the top loop count and jumps back or pops. -/
  | endl (t : Nat) (tt : Fin 6144)
  /-- BRK (R80): Pops the loop stack and jumps to a target. -/
  | brk (t : Nat) (tt : Fin 6144)
  /-- JMP (R77): Jumps to a register plus immediate address. -/
  | jmp (t : Nat) (tt : Fin 6144)
  /-- JCC (R77): Jumps when a flag or BELLHIT condition holds. -/
  | jcc (t : Nat) (tt : Fin 6144)
  /-- JBEL (R77): Jumps when a named bell is latched, keeping the latch. -/
  | jbel (t : Nat) (tt : Fin 6144)
  /-- WBEL (R78): Takes a latched bell into a register or waits for one. -/
  | wbel (t : Nat) (tt : Fin 6144)
  /-- WTIME (R79): Enqueues a TIMEGATE descriptor at an absolute or bell-relative truss time. -/
  | wtime (t : Nat) (tt : Fin 6144)
  /-- RING (R81): Emits a bell with a number and payload, subject to ownership and admission. -/
  | ring (t : Nat) (tt : Fin 6144)
  /-- CLRB (R72): Clears one or all bell latches of the timetable. -/
  | clrb (t : Nat) (tt : Fin 6144)
  /-- POST (R75): Writes a POST record to the host event ring under EVR_POLICY. -/
  | post (t : Nat) (tt : Fin 6144)
  /-- TRAP (R82): Faults the timetable with cause USER and a code. -/
  | trap (t : Nat) (tt : Fin 6144)
  /-- RSVD_OPCODE (R77): An instruction with an undefined opcode faults with RSVD_OPCODE. -/
  | rsvdOpcode (t : Nat) (tt : Fin 6144)
  /-- SETF (R91): Enqueues a CONTROL descriptor setting a new frequency word. -/
  | setf (t : Nat) (tt : Fin 6144)
  /-- SETP (R91): Enqueues a CONTROL descriptor setting the phase offset. -/
  | setp (t : Nat) (tt : Fin 6144)
  /-- RAMP (R126): Enqueues a CONTROL descriptor that starts or stops the NCO ramp. -/
  | ramp (t : Nat) (tt : Fin 6144)
  /-- PRST (R122): Enqueues a CONTROL descriptor resetting the NCO phase accumulator. -/
  | prst (t : Nat) (tt : Fin 6144)
  /-- MODE (R91): Enqueues a CONTROL descriptor selecting the channel mode. -/
  | mode (t : Nat) (tt : Fin 6144)
  /-- GAIN (R91): Enqueues a CONTROL descriptor setting the gain. -/
  | gain (t : Nat) (tt : Fin 6144)
  /-- OFFS (R91): Enqueues a CONTROL descriptor setting the offset. -/
  | offs (t : Nat) (tt : Fin 6144)
  /-- SPAN (R131): Enqueues a CONTROL descriptor setting span and full-scale current. -/
  | span (t : Nat) (tt : Fin 6144)
  /-- MARK (R105): Enqueues a CONTROL descriptor setting marker levels. -/
  | mark (t : Nat) (tt : Fin 6144)
  /-- TRGO (R39): Enqueues a CONTROL descriptor turning segment-start triggers on or off. -/
  | trgo (t : Nat) (tt : Fin 6144)
  /-- ESC (R97): Enqueues a CONTROL descriptor that arms or disarms an escape on a watched bell. -/
  | esc (t : Nat) (tt : Fin 6144)
  /-- GANG (R65): Sets the timetable's gang from a register. -/
  | gang (t : Nat) (tt : Fin 6144)
  /-- LI (R77): Loads a short or long immediate into a register. -/
  | li (t : Nat) (tt : Fin 6144)
  /-- ADD (R76): Adds a B operand to a register and sets Z and N. -/
  | add (t : Nat) (tt : Fin 6144)
  /-- SUB (R76): Subtracts a B operand from a register and sets Z and N. -/
  | sub (t : Nat) (tt : Fin 6144)
  /-- AND (R76): Bitwise AND with a B operand, setting Z and N. -/
  | and (t : Nat) (tt : Fin 6144)
  /-- OR (R76): Bitwise OR with a B operand, setting Z and N. -/
  | or (t : Nat) (tt : Fin 6144)
  /-- XOR (R76): Bitwise XOR with a B operand, setting Z and N. -/
  | xor (t : Nat) (tt : Fin 6144)
  /-- SHF (R77): Shifts or rotates a register, setting Z and N. -/
  | shf (t : Nat) (tt : Fin 6144)
  /-- CMP (R76): Compares a register with a B operand and sets flags only. -/
  | cmp (t : Nat) (tt : Fin 6144)
  /-- LD (R56): Loads one word from scratch, shared memory or write-port registers. -/
  | ld (t : Nat) (tt : Fin 6144)
  /-- ST (R56): Stores one word to scratch, shared memory or write-port registers. -/
  | st (t : Nat) (tt : Fin 6144)
  /-- QUEUE_ROOM_WAKE (R66): A channel instruction waiting on QUEUE takes effect when every gang queue has room. -/
  | queueRoomWake (t : Nat) (tt : Fin 6144)
  /-- WP_JOB_SLOT_WAKE (R58): A WP_GO waiting on WP_JOB takes effect when a job slot frees. -/
  | wpJobSlotWake (t : Nat) (tt : Fin 6144)
  /-- WP_SYNC_WAKE (R58): An LD of WP_SYNC completes when all jobs of the timetable reach HBM. -/
  | wpSyncWake (t : Nat) (tt : Fin 6144)
  /-- EVR_SLOT_WAKE (R75): A POST waiting on a full event ring writes its record when a slot frees. -/
  | evrSlotWake (t : Nat) (tt : Fin 6144)
  /-- BELL_ADMIT (R177): A RING waiting on BELL_OUT emits its bell once the 20 ns admission test passes. -/
  | bellAdmit (t : Nat) (tt : Fin 6144)
  /-- WP_JOB_COMPLETE (R74): A write-port job completes when its last unit reaches HBM. -/
  | wpJobComplete (t : Nat) (j : Fin 96)
  /-- TT_START (R84): TT_CMD START resets PC, loop stack, flags, latches and arrival set and makes the timetable
  READY. -/
  | ttStart (t : Nat) (r : Req)
  /-- TT_STOP (R84): TT_CMD STOP halts a running timetable at the next cycle boundary. -/
  | ttStop (t : Nat) (r : Req)
  /-- TT_FLUSH (R84): TT_CMD FLUSH empties the gang queues and ends playing descriptors at the next boundary. -/
  | ttFlush (t : Nat) (r : Req)
  /-- TT_CLEAR (R84): TT_CMD CLEAR returns a FAULTED timetable to IDLE. -/
  | ttClear (t : Nat) (r : Req)
  /-- LEADER_WRITE (R64): Host sets the leader timetable of a channel. -/
  | leaderWrite (t : Nat) (r : Req) (data : Bytes)
  /-- TT_GANG_WRITE (R65): Host sets a timetable's gang through TT_GANG. -/
  | ttGangWrite (t : Nat) (r : Req) (data : Bytes)
  /-- QUEUE_LIMIT_WRITE (R92): Host sets the room limit of a play queue. -/
  | queueLimitWrite (t : Nat) (r : Req) (data : Bytes)
  /-- EVR_TAIL_WRITE (R75): Host consumes event-ring records by writing EVR_TAIL. -/
  | evrTailWrite (t : Nat) (r : Req) (data : Bytes)
  /-- EVR_ENABLE_WRITE (R75): Host starts or stops the event-ring writer. -/
  | evrEnableWrite (t : Nat) (r : Req) (data : Bytes)
  /-- CODE_DATA_WRITE (R83): Host writes code words at CODE_OFFSET and advances the offset. -/
  | codeDataWrite (t : Nat) (r : Req) (data : Bytes)
  /-- CODE_DATA_READ (R83): Host reads code words at CODE_OFFSET and advances the offset. -/
  | codeDataRead (t : Nat) (r : Req)
  /-- SHARED_DATA_WRITE (R83): Host writes Joiner-shared memory at SHARED_OFFSET and advances the offset. -/
  | sharedDataWrite (t : Nat) (r : Req) (data : Bytes)
  /-- SHARED_DATA_READ (R83): Host reads Joiner-shared memory at SHARED_OFFSET and advances the offset. -/
  | sharedDataRead (t : Nat) (r : Req)
  /-- SEG_ENTRY_WRITE (R32): Host writes a segment-table entry, checked when VALID is set. -/
  | segEntryWrite (t : Nat) (r : Req) (data : Bytes)
  /-- MPROG_ENTRY_WRITE (R37): Host writes a marker-program entry. -/
  | mprogEntryWrite (t : Nat) (r : Req) (data : Bytes)
  /-- RING_ENTRY_WRITE (R51): Host writes a stream-ring entry, resetting PLAY_PTR and SPLITS and setting RING on its
  pages. -/
  | ringEntryWrite (t : Nat) (r : Req) (data : Bytes)
  /-- BULK_WINDOW_WRITE (R44): Host writes BULK_BASE or BULK_PAGES, resetting every page and invalidating every ring. -/
  | bulkWindowWrite (t : Nat) (r : Req) (pages : Bool) (data : Bytes)
  /-- PATROL_SCRUB (R43): Patrol scrubber reads, corrects and writes back words of its stack. -/
  | patrolScrub (t : Nat) (word : Fin 12884901888) (raced : Bool)
  /-- BULK_WRITE (R216): Bulk message writing data into a window page or an absolute address. -/
  | bulkWrite (t : Nat) (m : BulkMsg) (data : Bytes)
  /-- CLAIM (R46): Bulk message moving a FREE page to HOST. -/
  | claim (t : Nat) (m : BulkMsg)
  /-- RELEASE (R46): Bulk message moving a HOST page to FREE. -/
  | release (t : Nat) (m : BulkMsg)
  /-- HANDOVER (R48): Bulk message that sets CLOSING and hands a HOST page to the device once earlier writes land. -/
  | handover (t : Nat) (m : BulkMsg)
  /-- RECLAIM (R46): Bulk message moving a DEVICE page back to HOST. -/
  | reclaim (t : Nat) (m : BulkMsg)
  /-- HANDOVER_COMPLETE (R48): Earlier writes reach HBM and the page becomes DEVICE, optionally ringing a bell. -/
  | handoverComplete (t : Nat) (page : Fin 16384)
  /-- DESCRIPTOR_VISIBLE (R67): An enqueued descriptor becomes visible on the channel's CCLK side. -/
  | descriptorVisible (t : Nat) (ch : Fin 64)
  /-- DESCRIPTOR_START (R90): A descriptor starts on an idle channel after its cold-start latency. -/
  | descriptorStart (t : Nat) (ch : Fin 64)
  /-- DESCRIPTOR_END (R90): A descriptor ends and the next follows, or playback ends on an empty queue. -/
  | descriptorEnd (t : Nat) (ch : Fin 64)
  /-- REPETITION_END (R69): One repetition of a PLAY descriptor ends and the next begins. -/
  | repetitionEnd (t : Nat) (ch : Fin 64)
  /-- TIMEGATE_OPEN (R94): A time gate reaches its opening boundary and releases what follows. -/
  | timegateOpen (t : Nat) (ch : Fin 64)
  /-- ESCAPE_ARMED (R97): An escape becomes armed once its head-buffer fill has had 640 ns. -/
  | escapeArmed (t : Nat) (ch : Fin 64)
  /-- ESCAPE_FIRE (R99): A watched bell's firing boundary replaces output with the escape segment. -/
  | escapeFire (t : Nat) (ch : Fin 64)
  /-- ESCAPE_END (R102): An escape segment ends and the next descriptor follows, with fill if needed. -/
  | escapeEnd (t : Nat) (ch : Fin 64)
  /-- STREAM_CHECK (R52): At check time a STREAM descriptor takes the page at PLAY_PTR or meets an underrun. -/
  | streamCheck (t : Nat) (ch : Fin 64)
  /-- UNDERRUN_RECHECK (R110): Under SLIP or KEEPTIME the late page is checked again at a granule boundary. -/
  | underrunRecheck (t : Nat) (ch : Fin 64)
  /-- STREAM_PAGE_COMPLETE (R52): The last granule of a stream page leaves and its pin is released, freeing the page. -/
  | streamPageComplete (t : Nat) (ch : Fin 64)
  /-- MARKER_EVENT_FIRE (R38): A marker-program event fires at its sample and sets port levels. -/
  | markerEventFire (t : Nat) (ch : Fin 64) (e : Fin 4)
  /-- TRIGGER_PULSE_END (R39): A segment-start trigger pulse ends after its length. -/
  | triggerPulseEnd (t : Nat) (ch : Fin 64)
  /-- NCO_RAMP_STEP (R126): A running NCO ramp adds its step to F at a granule boundary and moves through its pieces. -/
  | ncoRampStep (t : Nat) (ch : Fin 64)
  /-- MUTE_END (R132): A span mute of M granules ends and the new setting applies. -/
  | muteEnd (t : Nat) (ch : Fin 64)
  /-- CHANNEL_SETTING_APPLY (R393): A host-written channel setting takes effect at the next granule boundary. -/
  | channelSettingApply (t : Nat) (ch : Fin 64)
  /-- SPAN_APPLY (R132): A written span applies at its segment boundary and mutes the channel. -/
  | spanApply (t : Nat) (ch : Fin 64)
  /-- CHANNEL_SETTING_WRITE (R393): Host writes MODE, PHASE_OFS, NCO_AMP, GAIN, OFFSET, HOLD, PARK_CODE or PB_FILL,
  pending the next boundary. -/
  | channelSettingWrite (t : Nat) (r : Req) (ch : Fin 64) (k : ChannelSetting) (data : Bytes)
  /-- FTW_HI_WRITE (R124): Host write of FTW_HI commits the staged 48-bit frequency word. -/
  | ftwHiWrite (t : Nat) (r : Req) (ch : Fin 64) (data : Bytes)
  /-- SPAN_CFG_WRITE (R131): Host writes span and I_FS, pending the next segment boundary. -/
  | spanCfgWrite (t : Nat) (r : Req) (ch : Fin 64) (data : Bytes)
  /-- CHANNEL_ENABLE (R134): Host sets ENABLE and the channel starts ENABLING. -/
  | channelEnable (t : Nat) (r : Req) (ch : Fin 64) (data : Bytes)
  /-- ENABLING_COMPLETE (R134): After 2 us of running clock the channel becomes PARKED and its detectors arm. -/
  | enablingComplete (t : Nat) (ch : Fin 64)
  /-- CHANNEL_DISABLE (R135): Host clears ENABLE and the channel becomes OFF at the next boundary. -/
  | channelDisable (t : Nat) (r : Req) (ch : Fin 64) (data : Bytes)
  /-- FAULT_CLR (R135): Host moves a channel from FAULT to OFF. -/
  | faultClr (t : Nat) (r : Req) (ch : Fin 64) (data : Bytes)
  /-- DETECTOR_TRIP (R138): A comparator tripped for 32 ns puts the channel in FAULT and rings its fault bell. -/
  | detectorTrip (t : Nat) (ch : Fin 64) (legs : BitVec 6)
  /-- SETTLE_IN_END (R141): The settle-in granules end and the fade-in begins. -/
  | settleInEnd (t : Nat) (bay : Fin 8)
  /-- FADE_IN_END (R141): The fade-in ends, the primary switch opens and cover begins. -/
  | fadeInEnd (t : Nat) (bay : Fin 8)
  /-- SETTLE_OUT_END (R141): The settle-out granules end and the fade-out begins. -/
  | settleOutEnd (t : Nat) (bay : Fin 8)
  /-- FADE_OUT_END (R141): The fade-out ends, the substitute switch opens and the channel returns. -/
  | fadeOutEnd (t : Nat) (bay : Fin 8)
  /-- REF_FREQ_WRITE (R145): Host declares REFIN frequency and the device derives TB_DIV and TB_N. -/
  | refFreqWrite (t : Nat) (r : Req) (data : Bytes)
  /-- REFIN_LOSS (R146): A missing or weak REFIN edge declares REFIN lost. -/
  | refinLoss (t : Nat)
  /-- REFIN_GATE_END (R146): A 1 ms frequency gate ends and REFIN is judged present or lost. -/
  | refinGateEnd (t : Nat) (ampOk : Bool) (count : Nat)
  /-- REFIN_QUALIFIED (R165): REFIN has been present for REF_QUAL ms and the phase-step measurement starts. -/
  | refinQualified (t : Nat)
  /-- REF_STEP_MEASURED (R165): The phase step is measured and REF_RETURN decides how to rejoin REFIN. -/
  | refStepMeasured (t : Nat) (meanFs : Int)
  /-- SLEW_COMPLETE (R165): The slew removes the phase step and the loops rejoin REFIN. -/
  | slewComplete (t : Nat)
  /-- XTAL_GATE_END (R148): A 1 s crystal gate against REFIN completes and updates XTAL_OFFSET. -/
  | xtalGateEnd (t : Nat) (offset : Int)
  /-- PPS_EDGE (R147): An active PPS_IN edge is sampled against REFIN. -/
  | ppsEdge (t : Nat) (disagree : Bool)
  /-- ALIGN_TIMEOUT (R161): No PPS_IN edge arrives within 1.1 s while waiting to align. -/
  | alignTimeout (t : Nat)
  /-- ALIGN_SRC_WRITE (R161): Host writes ALIGN_SRC, and LOCAL releases a waiting alignment at once. -/
  | alignSrcWrite (t : Nat) (r : Req) (data : Bytes)
  /-- SYN_ENABLE (R154): Host enables SYN-M or SYN-A, selecting a band and attempting lock. -/
  | synEnable (t : Nat) (r : Req) (y : Syn)
  /-- SYN_DISABLE (R167): Host disables a synthesizer and its outputs are gated. -/
  | synDisable (t : Nat) (r : Req) (y : Syn)
  /-- LOCK_DECLARED (R159): A loop's phase error stays in window for 1,024 cycles and lock is declared. -/
  | lockDeclared (t : Nat) (y : Syn) (loop : Loop)
  /-- LOSS_OF_LOCK (R159): A loop loses lock, its outputs are gated and channels stop their clocks. -/
  | lossOfLock (t : Nat) (y : Syn) (loop : Loop)
  /-- LOCK_RETRY (R159): After 1 ms or 10 ms without lock the synthesizer reselects its band and retries. -/
  | lockRetry (t : Nat) (y : Syn)
  /-- SETTLE_COMPLETE (R161): Lock holds for 20 us and the alignment edge is chosen. -/
  | settleComplete (t : Nat) (y : Syn)
  /-- ALIGNMENT_EDGE (R161): At the alignment edge modulator, dividers and delays are reset and fine delays loaded. -/
  | alignmentEdge (t : Nat) (y : Syn)
  /-- OUTPUT_RELEASE (R161): 2.048 us after alignment every output is ungated together and timing Plumb is requested. -/
  | outputRelease (t : Nat) (y : Syn)
  /-- CEILING_TRIP (R160): An early edge is swallowed by the ceiling guard and the output is gated. -/
  | ceilingTrip (t : Nat) (out : Fin 80)
  /-- BAND_TABLE_WRITE (R153): Host replaces a synthesizer's VCO band table. -/
  | bandTableWrite (t : Nat) (r : Req) (y : Syn) (data : Bytes)
  /-- OUTPUT_ENABLE (R158): An output is enabled and re-aligned to the phase of the last alignment. -/
  | outputEnable (t : Nat) (r : Req) (y : Syn) (data : Bytes)
  /-- OUTPUT_DISABLE (R158): An output is disabled and stops at its low phase. -/
  | outputDisable (t : Nat) (r : Req) (y : Syn) (data : Bytes)
  /-- OUT_DELAY_WRITE (R156): Host writes the coarse and user fine delay of an output. -/
  | outDelayWrite (t : Nat) (r : Req) (y : Syn) (data : Bytes)
  /-- FINE_DELAY_STEP (R157): An enabled output moves its fine delay by at most 64 units per output cycle towards its
  target. -/
  | fineDelayStep (t : Nat) (out : Fin 80)
  /-- REF_CMD_SLEW (R166): Host command that slews back to REFIN from WAIT_HOST. -/
  | refCmdSlew (t : Nat) (r : Req)
  /-- REF_CMD_HOP (R166): Host command that hops back to REFIN from WAIT_HOST. -/
  | refCmdHop (t : Nat) (r : Req)
  /-- SYNA_RAMP_START (R171): RAMP_CMD START checks and starts the SYN-A ramp profile. -/
  | synaRampStart (t : Nat) (r : Req)
  /-- SYNA_RAMP_STOP (R170): RAMP_CMD STOP stops the SYN-A ramp. -/
  | synaRampStop (t : Nat) (r : Req)
  /-- SYNA_RAMP_BELL_START (R170): A bell-started SYN-A ramp starts at the phase-detector edge at its effective time. -/
  | synaRampBellStart (t : Nat)
  /-- SYNA_RAMP_STEP (R170): The SYN-A ramp adds its step after each DWELL cycles and moves through pieces. -/
  | synaRampStep (t : Nat)
  /-- MK_EDGE (R175): A selected edge on an MK input port is stamped and raises a bell. -/
  | mkEdge (t : Nat) (port : Fin 16) (rising : Bool) (code : BitVec 12) (levels : BitVec 16)
  /-- BELL_RING (R174): Host write of BELL_RING raises a bell. -/
  | bellRing (t : Nat) (r : Req) (data : Bytes)
  /-- BELL_RING_ACCEPT (R177): A held BELL_RING write is accepted at the first admissible truss time. -/
  | bellRingAccept (t : Nat)
  /-- BELL_ARRIVAL (R193): A BELL block arrives at the bell unit and is forwarded on other truss links. -/
  | bellArrival (t : Nat) (lane : Fin 48) (b : BellWord)
  /-- BELL_RELEASE (R186): At ORIGIN plus T_MAX a bell is released to the Joiners, TIU, SYN-A and recess logic. -/
  | bellRelease (t : Nat)
  /-- BELL_PASS (R187): At E minus 160 ns a bell is passed to channels whose escape watches it. -/
  | bellPass (t : Nat)
  /-- HORIZON_WRITE (R185): Host sets the horizon at the king post, applied at a switch time. -/
  | horizonWrite (t : Nat) (r : Req) (data : Bytes)
  /-- BELL_OWNER_WRITE (R179): Host sets bell ownership at the king post, applied at a switch time. -/
  | bellOwnerWrite (t : Nat) (r : Req) (data : Bytes)
  /-- EPOCH_CMD_NOW (R182): Host sets truss time to EPOCH_VALUE at a switch time. -/
  | epochCmdNow (t : Nat) (r : Req)
  /-- EPOCH_CMD_PPS (R182): Host sets truss time to EPOCH_VALUE at a predicted PPS edge. -/
  | epochCmdPps (t : Nat) (r : Req)
  /-- TRUSS_RESUME (R200): TRUSS_CMD RESUME ends BROKEN on every device at a switch time. -/
  | trussResume (t : Nat) (r : Req)
  /-- TRUSS_RESET_CMD (R201): TRUSS_CMD TRUSS_RESET raises a TRUSS_RESET bell at the king post. -/
  | trussResetCmd (t : Nat) (r : Req)
  /-- SETTING_SWITCH (R179): A truss setting takes effect on a device at its switch time S. -/
  | settingSwitch (t : Nat)
  /-- SETTINGS_BLOCK_RX (R179): A SETTINGS block arrives and is scheduled, or applied if its S has passed. -/
  | settingsBlockRx (t : Nat) (lane : Fin 48) (c : SettingChange)
  /-- TRUSS_RESET (R323): At the reset bell's E every device resets timetables, slots and channel playback. -/
  | trussReset (t : Nat)
  /-- TRUSS_TIME_RECOVERY (R183): When TCLK returns the device recovers truss time from its parent, a member or its
  backup. -/
  | trussTimeRecovery (t : Nat) (partnerTime : BitVec 80)
  /-- TIME_SNAPSHOT (R19): Every 1 us truss time is handed to each channel to re-anchor its local copy. -/
  | timeSnapshot (t : Nat) (core : Fin 72)
  /-- HEARTBEAT_SEND (R194): A link end sends a HEARTBEAT when 1 us would pass without one. -/
  | heartbeatSend (t : Nat) (lane : Fin 48)
  /-- HEARTBEAT_RX (R184): A HEARTBEAT arrives and its truss time is checked against the receiver's. -/
  | heartbeatRx (t : Nat) (lane : Fin 48) (b : HeartbeatBlock)
  /-- LINK_LOST (R194): 4 us pass without a good HEARTBEAT and the link is declared lost. -/
  | linkLost (t : Nat) (lane : Fin 48)
  /-- BREAK_BLOCK_RX (R198): A BREAK block arrives and the device enters BROKEN. -/
  | breakBlockRx (t : Nat) (lane : Fin 48) (b : BreakBlock)
  /-- BREAK_POLICY_APPLY (R199): At the first granule boundary after BROKEN each channel applies its break policy. -/
  | breakPolicyApply (t : Nat) (ch : Fin 64)
  /-- CLOCK_RECOVERY_LOCK (R195): Clock recovery locks in SIGNAL and the link moves to BLOCK_LOCK. -/
  | clockRecoveryLock (t : Nat) (lane : Fin 48)
  /-- SIGNAL_TIMEOUT (R195): SIGNAL fails for 100 ms, restarts and counts a training failure. -/
  | signalTimeout (t : Nat) (lane : Fin 48)
  /-- CODEWORD_ALIGNED (R195): 64 good codewords complete BLOCK_LOCK and the link moves to CAPABILITY. -/
  | codewordAligned (t : Nat) (lane : Fin 48)
  /-- BLOCK_LOCK_TIMEOUT (R195): BLOCK_LOCK or RATE fails for 10 ms and the link returns to SIGNAL. -/
  | blockLockTimeout (t : Nat) (lane : Fin 48)
  /-- TRAIN_BLOCK_RX (R195): A TRAIN block is checked for role, reference and version. -/
  | trainBlockRx (t : Nat) (lane : Fin 48) (b : TrainBlock)
  /-- CAPABILITY_RETRY (R195): A link held in CAPABILITY on mismatch retries every 100 ms. -/
  | capabilityRetry (t : Nat) (lane : Fin 48)
  /-- RATE_LOCKED (R195): Both ends lock at 112 Gbit/s and the link moves to DELAY, or UP for a stream lane. -/
  | rateLocked (t : Nat) (lane : Fin 48)
  /-- TIME_BLOCK_RX (R192): A TIME REQUEST or RESPONSE block of the delay measurement arrives. -/
  | timeBlockRx (t : Nat) (lane : Fin 48) (b : TimeBlock) (arrival : BitVec 64) (reply : BitVec 64)
  /-- DELAY_COMPLETE (R195): 1,024 exchanges complete and the one-way delay is averaged. -/
  | delayComplete (t : Nat) (lane : Fin 48)
  /-- TIME_TRANSFER_RX (R181): A child sets its truss time from its parent's TRANSFER block. -/
  | timeTransferRx (t : Nat) (lane : Fin 48) (b : TimeBlock)
  /-- JOIN_REPORT_RX (R197): The king post checks a member's JOIN REPORT and admits or refuses it. -/
  | joinReportRx (t : Nat) (lane : Fin 48) (b : JoinBlock)
  /-- JOIN_ADMIT_RX (R197): A member receives ADMIT and its link becomes UP. -/
  | joinAdmitRx (t : Nat) (lane : Fin 48) (b : JoinBlock)
  /-- JOIN_REFUSE_RX (R197): A member receives REFUSE and its link becomes REFUSED. -/
  | joinRefuseRx (t : Nat) (lane : Fin 48) (b : JoinBlock)
  /-- DEVICE_NUM_WRITE (R197): Host writes the member device number, returning a REFUSED link to SIGNAL. -/
  | deviceNumWrite (t : Nat) (r : Req) (data : Bytes)
  /-- LINK_CFG_WRITE (R197): Host sets a lane's truss role. -/
  | linkCfgWrite (t : Nat) (r : Req) (data : Bytes)
  /-- BAD_BLOCK_RX (R191): A control block of unused kind is discarded and counted. -/
  | badBlockRx (t : Nat) (lane : Fin 48) (kind : BitVec 8)
  /-- CREDIT_BLOCK_RX (R208): A CREDIT block updates the sender's view of freed blocks. -/
  | creditBlockRx (t : Nat) (lane : Fin 48) (freed : BitVec 32)
  /-- QUAD_ENABLE (R204): Host enables a quad in RONZAL or ETH mode. -/
  | quadEnable (t : Nat) (r : Req) (data : Bytes)
  /-- QUAD_DISABLE (R204): Host disables a quad, stopping its lanes and truncating messages. -/
  | quadDisable (t : Nat) (r : Req) (data : Bytes)
  /-- DATA_BLOCK_RX (R209): A data block arrives on a RONZAL lane and is stored or, if it breaks credit, discarded. -/
  | dataBlockRx (t : Nat) (lane : Fin 48) (block : BitVec 256)
  /-- ETH_FRAME_RX (R214): An Ethernet frame is checked and admitted whole to the ingress buffer or dropped. -/
  | ethFrameRx (t : Nat) (port : Fin 16) (f : EthFrame)
  /-- ARP_REQUEST (R212): The port answers an ARP request for its address. -/
  | arpRequest (t : Nat) (port : Port) (f : EthFrame)
  /-- ICMP_ECHO_REQUEST (R212): The port answers an ICMP echo request. -/
  | icmpEchoRequest (t : Nat) (port : Port) (f : EthFrame)
  /-- LANE_TEST_START (R222): Host starts a PRBS or loop test on a lane. -/
  | laneTestStart (t : Nat) (r : Req) (data : Bytes)
  /-- LANE_TEST_END (R222): Host ends a lane test and the lane returns to training. -/
  | laneTestEnd (t : Nat) (r : Req)
  /-- OPEN (R283): ODA request that opens a session and chooses a version. -/
  | odaOpen (t : Nat) (r : Req) (versions : BitVec 8)
  /-- CLOSE (R283): ODA request that closes a session. -/
  | odaClose (t : Nat) (r : Req)
  /-- READ (R291): ODA request that returns an entry's value at one cycle boundary. -/
  | odaRead (t : Nat) (r : Req) (e : EntryRef)
  /-- WRITE (R291): ODA request writing an entry that has no behaviour of its own. -/
  | odaWrite (t : Nat) (r : Req) (e : EntryRef) (data : Bytes)
  /-- DESCRIBE (R294): ODA request that returns the 24-byte description of an entry. -/
  | odaDescribe (t : Nat) (r : Req) (e : EntryRef)
  /-- MEM_READ (R295): ODA request that reads a range of segment memory. -/
  | memRead (t : Nat) (r : Req) (addr : BitVec 37) (length : BitVec 32)
  /-- ODA_UNDEFINED_TYPE (R282): A message of undefined type or wrong length is answered with BAD_MESSAGE. -/
  | odaUndefinedType (t : Nat) (r : Req) (type : BitVec 8)
  /-- ODA_BAD_MESSAGE_DISCARD (R281): A message with wrong MAGIC or under 32 bytes is discarded without reply. -/
  | odaBadMessageDiscard (t : Nat)
  /-- SESSION_TIMEOUT (R283): A session silent for SESSION_TIMEOUT seconds is closed. -/
  | sessionTimeout (t : Nat) (session : BitVec 32)
  /-- ROUTED_REPLY_RX (R287): A member's reply to a routed request reaches the king post and is cached and sent. -/
  | routedReplyRx (t : Nat) (session : BitVec 32) (seq : BitVec 32) (abort : BitVec 32) (data : Bytes)
  /-- ROUTE_TIMEOUT (R287): No member reply arrives within ROUTE_TIMEOUT and the king post replies ROUTE_TIMEOUT. -/
  | routeTimeout (t : Nat) (session : BitVec 32) (seq : BitVec 32)
  /-- RAW_WRITE (R296): A write through the raw register window, skipping entry-level checks. -/
  | rawWrite (t : Nat) (r : Req) (block : Fin 4096) (word : Fin 256) (data : Bytes)
  /-- W1_WRITE (R301): A write of a write-once entry, locking it or refusing with LOCKED. -/
  | w1Write (t : Nat) (r : Req) (e : EntryRef) (data : Bytes)
  /-- PARITY_SCRUB (R302): The scrubber checks configuration-register parity and puts a block in its safe state on
  mismatch. -/
  | parityScrub (t : Nat) (reg : EntryRef) (element : Fin 65536) (mismatch : Bool)
  /-- CFG_SAVE (R300): CFG_CMD SAVE builds the image from values in force and writes the older copy. -/
  | cfgSave (t : Nat) (r : Req)
  /-- CFG_BUILD (R300): CFG_CMD BUILD builds the image into the staging buffer. -/
  | cfgBuild (t : Nat) (r : Req)
  /-- CFG_INSTALL (R300): CFG_CMD INSTALL checks the staged image and writes it to the older copy. -/
  | cfgInstall (t : Nat) (r : Req)
  /-- CFG_CMD_COMPLETE (R300): A configuration command finishes, setting DONE or FAILED. -/
  | cfgCmdComplete (t : Nat)
  /-- CFG_DATA_WRITE (R292): Host writes the staging buffer at CFG_OFFSET and advances the offset. -/
  | cfgDataWrite (t : Nat) (r : Req) (data : Bytes)
  /-- CFG_DATA_READ (R292): Host reads the staging buffer at CFG_OFFSET and advances the offset. -/
  | cfgDataRead (t : Nat) (r : Req)
  /-- RAIL_WARNING (R306): A rail outside 3 % for 1 us sets its WARN bit. -/
  | railWarning (t : Nat) (rail : Fin 13)
  /-- RAIL_FAULT (R306): A rail outside 8 % for 10 us takes its rail-table action. -/
  | railFault (t : Nat) (rail : Fin 13)
  /-- POR (R308): A rail below 97 % holds the device in power-on reset. -/
  | por (t : Nat)
  /-- POR_RELEASE (R308): 10 ms after the last rail is good POR is released and boot begins. -/
  | porRelease (t : Nat)
  /-- BOOT_COMPLETE (R312): Boot ends and the device enters READY or FAULT-SAFE. -/
  | bootComplete (t : Nat) (f : BootFindings)
  /-- DROOP (R309): VDD_CORE sags below 97 % and ECLK is stretched by depth class. -/
  | droop (t : Nat) (depth : DroopClass)
  /-- DROOP_RELEASE (R310): After 100 ns above 98 % the stretch release begins and the event is counted. -/
  | droopRelease (t : Nat)
  /-- ECLK_RELEASE_STEP (R310): ECLK rises one of four steps towards its ceiling. -/
  | eclkReleaseStep (t : Nat)
  /-- SYS_STANDBY (R317): SYS_CMD STANDBY stops ECLK and places HBM in self-refresh. -/
  | sysStandby (t : Nat) (r : Req)
  /-- SYS_WAKE (R317): SYS_CMD WAKE restarts ECLK and HBM and returns to READY. -/
  | sysWake (t : Nat) (r : Req)
  /-- SYS_SHUTDOWN (R317): SYS_CMD SHUTDOWN enters STANDBY, saves the report card and sets SAFE_OFF. -/
  | sysShutdown (t : Nat) (r : Req)
  /-- SYS_SAFE (R317): SYS_CMD SAFE enters FAULT-SAFE with cause HOST. -/
  | sysSafe (t : Nat) (r : Req)
  /-- OVERTEMP (R318): A die above 135 °C for 10 ms sends the device to FAULT-SAFE. -/
  | overtemp (t : Nat)
  /-- RST_N_ASSERT (R321): RST_N low for 100 ns asserts PIN reset. -/
  | rstNAssert (t : Nat)
  /-- RST_N_RELEASE (R321): RST_N released starts boot. -/
  | rstNRelease (t : Nat)
  /-- WARM_RESET (R322): RESET_CMD WARM is accepted and replied to before the reset. -/
  | warmReset (t : Nat) (r : Req) (target : BitVec 8)
  /-- WARM_RESET_BEGIN (R322): 1 ms after the reply the WARM reset saves, quiesces and restarts the device. -/
  | warmResetBegin (t : Nat)
  /-- WATCHDOG_RESET (R322): Silent management firmware for 250 ms causes a reset as WARM. -/
  | watchdogReset (t : Nat)
  /-- CHANNEL_RESET (R323): RESET_CMD CHANNEL resets one channel's playback at its next boundary. -/
  | channelReset (t : Nat) (r : Req) (target : BitVec 8)
  /-- JOINER_RESET (R323): RESET_CMD JOINER stops every timetable of a Joiner. -/
  | joinerReset (t : Nat) (r : Req) (target : BitVec 8)
  /-- JOINER_RESET_COMPLETE (R323): After started jobs complete the Joiner's timetables become IDLE and its bell table
  clears. -/
  | joinerResetComplete (t : Nat) (j : Fin 96)
  /-- LANE_RESET (R323): RESET_CMD LANE returns a lane to training and empties its buffer. -/
  | laneReset (t : Nat) (r : Req) (target : BitVec 8)
  /-- FW_INSTALL (R334): FW_CMD INSTALL checks a firmware image in segment memory and writes the target copy. -/
  | fwInstall (t : Nat) (r : Req)
  /-- FW_INSTALL_COMPLETE (R334): The firmware install finishes and FW_BUSY clears. -/
  | fwInstallComplete (t : Nat)
  /-- ADVANCE_ROLLBACK (R333): FW_CMD ADVANCE_ROLLBACK raises the fuse rollback counter to the running level. -/
  | advanceRollback (t : Nat) (r : Req)
  /-- OWNER_KEY_DIGEST_WRITE (R336): Host blows the owner key digest into fuses and sets OWNER_SET. -/
  | ownerKeyDigestWrite (t : Nat) (r : Req) (data : Bytes)
  /-- OWNER_POLICY_WRITE (R338): Host writes the owner signing policy. -/
  | ownerPolicyWrite (t : Nat) (r : Req) (data : Bytes)
  /-- CODE_LOAD (R339): CODE_CMD LOAD checks a signed code image and copies it into selected Joiners. -/
  | codeLoad (t : Nat) (r : Req)
  /-- CODE_LOAD_COMPLETE (R339): A code load finishes and CODE_BUSY clears. -/
  | codeLoadComplete (t : Nat)
  /-- ATTEST_STATEMENT_REQ (R341): ATTEST_CMD 1 snapshots state for a signed statement and clears the nonce. -/
  | attestStatementReq (t : Nat) (r : Req)
  /-- ATTEST_TRIMS_REQ (R341): ATTEST_CMD 2 snapshots state and trims for a signed statement. -/
  | attestTrimsReq (t : Nat) (r : Req)
  /-- ATTEST_COMPLETE (R341): The statement is signed and ATTEST_BUSY clears. -/
  | attestComplete (t : Nat)
  /-- REC_ERASE (R335): Recovery command that erases the target firmware copy. -/
  | recErase (t : Nat) (r : Req)
  /-- REC_WRITE (R335): Recovery write of one piece of a firmware image. -/
  | recWrite (t : Nat) (r : Req) (data : Bytes)
  /-- REC_VERIFY (R335): Recovery command that checks the image and programs its header. -/
  | recVerify (t : Nat) (r : Req)
  /-- RC_SAVE_PERIODIC (R349): Every 900 s of power-on time the report card is saved. -/
  | rcSavePeriodic (t : Nat)
  /-- RC_SAVE_AFTER_BOOT (R349): 10 s after boot reaches READY the report card is saved. -/
  | rcSaveAfterBoot (t : Nat)
  /-- RC_SAVE_CMD (R349): Host command to save the report card now. -/
  | rcSaveCmd (t : Nat) (r : Req)
  /-- RC_SAVE_COMPLETE (R349): A report-card save finishes and RC_LAST_SAVE is set. -/
  | rcSaveComplete (t : Nat)
  /-- TEMP_HIST_TICK (R348): Each second the hottest sensor of each die adds one to its histogram bin. -/
  | tempHistTick (t : Nat) (temps : Vector Int 10)
  /-- AGEING_MEASUREMENT (R350): Ring-oscillator pairs are measured and the ECLK ceiling may be lowered. -/
  | ageingMeasurement (t : Nat) (die : Fin 6) (pairs : List (Nat × Nat))
  /-- FRZ_N_LOW (R354): A deglitched low level on FRZ_N freezes the device into recess. -/
  | frzNLow (t : Nat)
  /-- RECESS_BELL (R354): At the effective time of the recess bell the device freezes. -/
  | recessBell (t : Nat)
  /-- RECESS_CMD (R354): Host command that freezes the device into recess. -/
  | recessCmd (t : Nat) (r : Req)
  /-- CAPTURE_READY (R357): The capture path finishes reading the frozen state into the capture image. -/
  | captureReady (t : Nat)
  /-- CAPTURE_DATA_READ (R359): Host reads the capture image at CAPTURE_OFFSET and advances the offset. -/
  | captureDataRead (t : Nat) (r : Req)
  /-- TAP_INSTRUCTION_UPDATE (R373): Update-IR loads a TAP instruction, entering or leaving pin control. -/
  | tapInstructionUpdate (t : Nat) (ir : BitVec 8)
  /-- TAP_CAPTURE_READ (R373): Under CAPTURE_READ each Capture-DR loads the next capture word. -/
  | tapCaptureRead (t : Nat)
  /-- TAP_RESET (R373): TRST_N or five TMS-high cycles put the TAP in Test-Logic-Reset. -/
  | tapReset (t : Nat)
  /-- TIU_EDGE (R231): A qualifying edge on a TIU channel is stamped by the next interpolator or missed. -/
  | tiuEdge (t : Nat) (c : Fin 17) (rising : Bool) (code : BitVec 12)
  /-- STAMP_DRAIN (R232): The drain takes one stamp into the measurement logic, producing results and statistics. -/
  | stampDrain (t : Nat)
  /-- TIU_START (R237): TIU_CMD START arms a measurement slot. -/
  | tiuStart (t : Nat) (r : Req)
  /-- TIU_STOP (R238): TIU_CMD STOP stops a running slot. -/
  | tiuStop (t : Nat) (r : Req)
  /-- TIU_CLEAR (R238): TIU_CMD CLEAR zeroes a slot's results. -/
  | tiuClear (t : Nat) (r : Req)
  /-- TIU_ARM (R237): A slot becomes RUNNING at its arming time from host, gate edge or bell. -/
  | tiuArm (t : Nat) (slot : Fin 16)
  /-- STREAM_TAIL_WRITE (R242): Host consumes stamp records by writing STREAM_TAIL. -/
  | streamTailWrite (t : Nat) (r : Req) (data : Bytes)
  /-- TCLK_UNGATE (R236): Under STOP policy TCLK is ungated after 20 us of lock on returned REFIN. -/
  | tclkUngate (t : Nat)
  /-- CODE_DENSITY_START (R247): A code-density run starts once its channel's slots are idle. -/
  | codeDensityStart (t : Nat) (c : Fin 17) (e : PlumbConditions)
  /-- CODE_DENSITY_COMPLETE (R247): A code-density run finishes and installs a passing bin table. -/
  | codeDensityComplete (t : Nat) (c : Fin 17) (hits : List (Fin 100 × Sparse Nat)) (e : PlumbConditions)
  /-- PLUMB_RUN_CMD (R259): PLUMB_CMD RUN sets pending flags for the named kinds and cores. -/
  | plumbRunCmd (t : Nat) (r : Req) (kinds : BitVec 3) (target : BitVec 8)
  /-- PLUMB_CLEAR_FAILED (R266): PLUMB_CMD CLEAR_FAILED removes a PLUMB_FAILED mark. -/
  | plumbClearFailed (t : Nat) (r : Req) (target : BitVec 8)
  /-- PLUMB_CANCEL (R268): PLUMB_CMD CANCEL discards the run in progress and clears every flag. -/
  | plumbCancel (t : Nat) (r : Req)
  /-- PLUMB_TEMP_TRIGGER (R259): A core or clock-die temperature change beyond PLUMB_DT_EFF sets Plumb flags. -/
  | plumbTempTrigger (t : Nat) (core : Option (Fin 72)) (temp : BitVec 16)
  /-- PLUMB_PERIODIC_TRIGGER (R259): PLUMB_PERIOD elapses and every flag is set. -/
  | plumbPeriodicTrigger (t : Nat)
  /-- PLUMB_START (R262): The sequencer picks the next core, checks preconditions and hands the channel over. -/
  | plumbStart (t : Nat) (e : PlumbConditions)
  /-- PLUMB_RUN_COMPLETE (R265): A Plumb run ends and its pair is tested for agreement, retried or installed. -/
  | plumbRunComplete (t : Nat) (e : PlumbConditions) (m : PlumbResult)
  /-- PLUMB_MODE_WRITE (R269): Host selects AUTO, MANUAL or FACTORY_ONLY. -/
  | plumbModeWrite (t : Nat) (r : Req) (data : Bytes)
  /-- YB_COMMIT (R277): YB_CMD COMMIT snapshots calibration and starts writing a Yearbook record. -/
  | ybCommit (t : Nat) (r : Req)
  /-- COMMIT_COMPLETE (R278): The record is sealed and becomes the record in force. -/
  | commitComplete (t : Nat) (readBackOk : Bool)
  /-- FUSE_HOLDUP_LOST (R279): VDD_FUSE falls below its hold-up threshold and a commit stops. -/
  | fuseHoldupLost (t : Nat)
  /-- HOLDUP_TEST (R382): Every 10 s a load pulse on VDD_FUSE sets or clears HOLDUP_OK. -/
  | holdupTest (t : Nat) (held : Bool)
  /-- ETH_LINK_UP (R212): Auto-negotiation and link training of an ETH port complete and the port's lane enters UP. -/
  | ethLinkUp (t : Nat) (port : Fin 16)
  /-- ETH_LINK_DOWN (R224): An ETH port loses its link, leaves UP, sets LINK_DOWN and counts in LANE_DOWNS and the
  report card. -/
  | ethLinkDown (t : Nat) (port : Fin 16)
  /-- ADVANCE_ROLLBACK_COMPLETE (R333): Fuse programming of ADVANCE_ROLLBACK ends, ROLLBACK reaches the running level
  and the FW_CMD is no longer in progress. -/
  | advanceRollbackComplete (t : Nat)
  deriving DecidableEq, Repr

end Sys2Proof
end

