-- ==== Sys2Proof/Decode.lean ====
section
/-! DEFINITION. Commands from words. spec/opcode_table.json gives none of its rows any bits: the block's commands come
as ODA messages, bulk messages, link blocks, pins and the device's own clocks, none of which is an instruction word.
The instruction words of the Joiners are data in code SRAM; Machine/Joiner.lean reads them. -/

namespace Sys2Proof

/-- The command that a word spells by the table's bits: none, since no row has bits. -/
def decodeTableWord (_nbits _w : Nat) : Option Instr := none

end Sys2Proof
end

