-- ==== Sys2Proof/Config.lean ====
section
/-! DEFINITION. What one device fixes and what the spec leaves open. Every `opaque` constant here is a free value:
it has no body, so nothing can be proved of it that does not hold for every value. The assumption log says where
each is used. -/

namespace Sys2Proof

/-- What a read of an aligned 8-byte word of segment memory gives (R26, R40, R42): data, corrected data, or an
uncorrectable error. -/
inductive WordRead where
  | data (v : BitVec 64)
  | corrected (v : BitVec 64)
  | bad
  deriving DecidableEq, Repr, Inhabited

namespace Config

/-- A read of a word that has not been written whole since POR (R26), by draw, reader and address; each read may give
any of the three results (assumption log 3). -/
opaque freeRead : Nat → Nat → Nat → WordRead

/-- A value that the spec does not state, by draw and by the place that draws it (assumption log 2). -/
opaque freeValue : Nat → Nat → BitVec 64

/-- What a counter of the given width reads once it has counted past its width, which the spec does not state
(assumption log 16). -/
opaque counterPast : Nat → Nat → Nat

/-- SHA-384 (R271, R315, R329): a function of the bytes, not worked out in the model (assumption log 17). -/
opaque sha384 : Bytes → BitVec 384

/-- ECDSA P-384 verification of a signature over bytes under a public key (R329; assumption log 17). -/
opaque ecdsaVerify : Bytes → Bytes → Bytes → Bool

/-- The signature that the identity key makes over bytes (R271, R341; assumption log 17). -/
opaque ecdsaSign : Bytes → BitVec 768

/-- SERIAL: twelve characters, each a digit or an upper-case letter (R392; assumption log 9). -/
opaque serialChar : Fin 12 → Fin 36

/-- The 22 free bits of the organization's part of the MAC addresses, and the device's own 24 (R392; assumption
log 9). -/
opaque macOui : Nat
opaque macNic : Nat

/-- The lowest of the device's 17 MAC addresses (R392): universally administered and unicast, and so are the 16 after
it. -/
def macBase : BitVec 48 :=
  BitVec.ofNat 48 (macOui / 65536 % 64 * 2 ^ 42 + macOui % 65536 * 2 ^ 24 + macNic % (2 ^ 24 - 16))

/-- X and Y of the identity public key, 48 bytes each, most significant first (R326; assumption log 9). -/
opaque identityPoint : BitVec 768

/-- DEVICE_CERT, which binds an identity public key to a serial number, and PRODUCT_CERT (R326, R392; assumption
log 9). -/
opaque deviceCert : Bytes → Bytes → Bytes
opaque productCert : Bytes

/-- The ratio at manufacture of oscillator pair `k` (4 x die + pair), as numerator and denominator less one (R350;
assumption log 7). -/
opaque pairRatio : Nat → Nat × Nat

/-- The public key that firmware signatures verify under (R329; assumption log 9). -/
opaque firmwareKey : Bytes

/-- ROUTES of the factory record: pad-to-ball delays of the 72 cores, fs (R18, R271; assumption log 7). -/
opaque route : Nat → Int

/-- The factory route difference of a substitute for a channel it serves, in fine-delay units (R18, R141; assumption
log 7). -/
opaque routeDiff : Nat → Nat → Int

/-- BAY_SENSE of the factory record: R_S of each bay, micro-ohm (R254, R271; assumption log 7). -/
opaque baySense : Nat → Nat

/-- The entry, element and byte offset that a raw register word backs, if the register exists (R296; assumption
log 18). -/
opaque rawTarget : Nat → Nat → Option (Nat × Nat × Nat)

/-- Bytes of a capture item of a crossing whose entry size R19 does not give (R19, R357; assumption log 70). -/
opaque crossingItem : Nat → Nat

end Config

end Sys2Proof
end

