-- ==== Sys2Proof/Machine/State.lean ====
section
/-! DEFINITION. The state of the XM6448 as plain data: every register, memory, queue, counter, mode and pin the
spec gives the device, with its value after POR as the field's default, the queue of waiting commands, and the
reasons a step can stop. Each field's docstring gives its name, width, rule and reset value. -/

namespace Sys2Proof.Machine

/-- Why a step faults. No command of the block does: every event of the spec has an effect or is turned away with
an abort code, which is a next state. -/
inductive Fault where
  /-- Raised by nobody: the model has no fault. Safe. -/
  | never
  deriving DecidableEq, Repr

/-- Why a step refuses. -/
inductive Refusal where
  /-- Raised by an arm of `exec` that has no meaning yet. Safe: nothing is claimed of it. -/
  | notModelled (mnemonic : String)
  deriving DecidableEq, Repr

/-- A value written to a channel setting that applies at a later boundary (R393). -/
inductive SettingValue where
  | mode (v : BitVec 2)
  | ftw (v : BitVec 48)
  | phaseOfs (v : BitVec 16)
  | ncoAmp (v : BitVec 16)
  | gain (v : BitVec 16)
  | offset (v : BitVec 16)
  | hold (v : Nat)
  | park (v : BitVec 12)
  | fill (hold : Bool)
  deriving DecidableEq, Repr

/-- A control block the device sends on a link (R191, R192, R208). -/
inductive LinkBlock where
  | heartbeat (b : HeartbeatBlock)
  | bell (b : BellWord)
  | credit (window : Nat) (freed : Word)
  | break_ (b : BreakBlock)
  | settings (c : SettingChange)
  | train (b : TrainBlock)
  | time (b : TimeBlock)
  | join (b : JoinBlock)
  deriving DecidableEq, Repr

/-- A message the device sends. -/
inductive OutMsg where
  /-- an ODA reply (R281, R282): port and receiver, word 0 of the header, SEQ, SESSION, the four words of fields, data
  -/
  | reply (port : Port) (peer : Peer) (header seq session f0 abort len f3 : Word) (data : Bytes)
  /-- a BULK_REPLY (R215): port and receiver, SEQ, words 0 to 2 of the fields -/
  | bulkReply (port : Port) (peer : Peer) (seq w0 w1 w2 : Word)
  /-- an ODA message that a member passes on along the truss tree (R207, R287): its lane and its blocks' bytes -/
  | passed (lane : Fin 48) (bytes : Bytes)
  /-- an ODA request forwarded along the truss tree (R287): device, TYPE, SEQ, SESSION, request fields, data -/
  | forward (device : Fin 64) (type : BitVec 8) (seq session f0 f1 f2 : Word) (data : Bytes)
  /-- a control block on a link -/
  | link (lane : Fin 48) (b : LinkBlock)
  /-- CREDIT blocks that fill the idle reserved slots of the superframes that have ended (R206, R208): lane, how many,
  the count they repeat -/
  | idleCredit (lane : Fin 48) (n : Nat) (freed : Word)
  /-- an answer to an ARP request or an ICMP echo request (R212): port, the request's sender, the port's address, and
  its MAC address -/
  | arpReply (port : Port) (dest addr : Word) (mac : BitVec 48)
  | echoReply (port : Port) (dest addr : Word)
  /-- a word shifted out of the TAP (R372, R373) -/
  | tapWord (w : Word)
  deriving DecidableEq, Repr

/-! ## Joiners and timetables (03_joiners.md) -/

/-- The five timetable states (R57), coded as TT_STATE codes them. -/
inductive TState where
  | idle | ready | waiting | halted | faulted
  deriving DecidableEq, Repr

/-- The wait kinds (R58), coded as TT_STATE WAIT codes them. -/
inductive WaitKind where
  | none | bell | queue | wpJob | wpSync | evr | bellOut
  deriving DecidableEq, Repr

/-- The trap causes (03, table of trap causes). -/
inductive TrapCause where
  | rsvdOpcode | badOperand | pcRange | codeUe | loopOverflow | loopUnderflow | memRange | segInvalid
  | hallpass | ringInvalid | notLeader | noChannel | noBellTime | bellNotListened | user
  deriving DecidableEq, Repr

/-- An instruction as the Joiner fetched it: its address, its word, and the extension word (zero for a
one-word instruction) (R76). -/
structure Fetched where
  pc : Nat := 0
  word : Word := 0
  ext : Word := 0
  deriving DecidableEq, Repr

/-- TT_FAULT (R82). -/
structure FaultRecord where
  /-- TT_FAULT cause and TRAP code. | 8 + 16 | R82, 03_joiners.md | 0 -/
  cause : Nat := 0
  /-- TT_FAULT code of a TRAP. | 16 | R82, 03_joiners.md | 0 -/
  code : BitVec 16 := 0
  /-- TT_FAULT PC. | 32 | R82, 03_joiners.md | 0 -/
  pc : Nat := 0
  /-- TT_FAULT instruction word. | 32 | R82, 03_joiners.md | 0 -/
  word : Word := 0
  /-- TT_FAULT extension word. | 32 | R82, 03_joiners.md | 0 -/
  ext : Word := 0
  deriving DecidableEq, Repr

/-- One timetable (03, state held by each timetable). -/
structure Timetable where
  /-- PC, word address of the next instruction. | 15 | R54, 03_joiners.md | 0 -/
  pc : Nat := 0
  /-- g0 to g15 (g0 reads zero). | 16 x 32 | 03_joiners.md TT_REGS | 0 -/
  regs : Vector Word 16 := Vector.replicate 16 0
  /-- Context scratch. | 64 x 32 | R56, 03_joiners.md TT_SCRATCH | 0 -/
  scratch : Sparse Word := []
  /-- Loop stack, innermost first: count and start address. | 8 x (32 + 15) | R80, 03_joiners.md | empty -/
  loops : List (Word × Nat) := []
  /-- Z flag. | 1 | R76, 03_joiners.md TT_STATE | 0 -/
  z : Bool := false
  /-- N flag. | 1 | R76, 03_joiners.md TT_STATE | 0 -/
  n : Bool := false
  /-- Bell latches. | 256 | R70, 03_joiners.md TT_LATCHED | 0 -/
  latches : BitVec 256 := 0
  /-- The last ECLK cycle in which a latch was set, and the latches set in it (R72 keeps them through a CLRB of that cycle). | Nat + 256 | R72, 03_joiners.md | 0, 0 -/
  fresh : Nat × BitVec 256 := (0, 0)
  /-- Arrival set. | 256 | R79, 03_joiners.md | 0 -/
  arrivals : BitVec 256 := 0
  /-- Listen set TT_LISTEN. | 256 | R73, 03_joiners.md | 0 -/
  listen : BitVec 256 := 0
  /-- Gang base channel. | 6 | R65, 03_joiners.md TT_GANG | n for T(64n), n < 64 (R63); else 0 -/
  gangBase : Nat := 0
  /-- Gang mask. | 16 | R65, 03_joiners.md TT_GANG | 1 for T(64n), n < 64 (R63); else 0 -/
  gangMask : BitVec 16 := 0
  /-- Priority TT_PRIO. | 3 | R60, 03_joiners.md | 0 -/
  prio : Nat := 0
  /-- State. | 3 | R57, 03_joiners.md TT_STATE | IDLE -/
  state : TState := .idle
  /-- Wait kind. | 3 | R58, 03_joiners.md TT_STATE | none -/
  wait : WaitKind := .none
  /-- The waiting instruction, while WAITING. | 79 | R58, 03_joiners.md | none -/
  held : Option Fetched := none
  /-- The ECLK cycle from which the timetable may issue again. | Nat | R61, 03_joiners.md | 0 -/
  readyAt : Nat := 0
  /-- HALT_CAUSE. | 2 | R84, 03_joiners.md TT_STATE | 0 -/
  haltCause : Nat := 0
  /-- WP_SRC. | 32 | R74, 03_joiners.md | 0 -/
  wpSrc : Word := 0
  /-- WP_DST_LO. | 32 | R74, 03_joiners.md | 0 -/
  wpDstLo : Word := 0
  /-- WP_DST_HI. | 32 | R74, 03_joiners.md | 0 -/
  wpDstHi : Word := 0
  /-- WP_LEN. | 32 | R74, 03_joiners.md | 0 -/
  wpLen : Word := 0
  /-- WP_STATUS jobs completed, modulo 65,536. | 16 | R74, 03_joiners.md | 0 -/
  wpDone : BitVec 16 := 0
  /-- TT_ENTRY. | 16 | R84, 03_joiners.md | 0 -/
  entry : Nat := 0
  /-- TT_UNDERRUN. | 32 | R109, 03_joiners.md | 0 -/
  underrun : Word := 0
  /-- TT_FAULT_CFG. | 32 | R82, 03_joiners.md | 0 -/
  faultCfg : Word := 0
  /-- TT_FAULT. | 128 | R82, 03_joiners.md | 0 -/
  fault : FaultRecord := {}
  deriving DecidableEq, Repr

/-- A bell-table entry (R70). -/
structure BellEntry where
  /-- Payload of the latest arrival. | 8 | R70, 03_joiners.md | 0 -/
  payload : Byte := 0
  /-- Effective truss time of the latest arrival. | 64 | R70, 03_joiners.md | 0 -/
  time : Ticks := 0
  deriving DecidableEq, Repr

/-- A started write-port job (R74). -/
structure WpJob where
  tt : Nat
  src : Nat
  dst : Nat
  units : Nat
  /-- what its port has been admitted of it so far, in units / 10^15 (R22) -/
  served : Nat := 0
  /-- the draw of free values that says when each of its units reaches HBM (R17) -/
  draw : Nat := 0
  /-- source words that were sent before a store changed them -/
  kept : Sparse (Option Word) := []
  deriving DecidableEq, Repr

/-- One Joiner (03, memories of a Joiner). -/
structure Joiner where
  /-- Code SRAM. | 32,768 x 32 | R54, 03_joiners.md | 0 (R312 step 2 zeroes it) -/
  code : Sparse Word := []
  /-- The last ECLK cycle in which a code word was written, and what the words written in it held before (a fetch of that cycle reads the old word). | Nat + words | R83, 03_joiners.md | 0, none -/
  codeOld : Nat × Sparse (Option Word) := (0, [])
  /-- Code words that read uncorrectable; no command sets a mark (log 53). | 32,768 marks | R55, 03_joiners.md | none -/
  codeUe : List Nat := []
  /-- The last ECLK cycle in which a write ended such marks, and the marks it ended (a fetch of that cycle reads the old word). | Nat + marks | R83, 03_joiners.md | 0, none -/
  codeUeOld : Nat × List Nat := (0, [])
  /-- Joiner-shared memory. | 4,096 x 32 | R56, 03_joiners.md | 0 (R312 step 2) -/
  shared : Sparse Word := []
  /-- The last ECLK cycle in which an ST wrote shared words, and what they held before (the write port reads the old value in that cycle). | Nat + words | R56, 03_joiners.md | 0, none -/
  sharedOld : Nat × Sparse (Option Word) := (0, [])
  /-- Bell table. | 256 x (8 + 64) | R70, 03_joiners.md | 0 -/
  bells : Sparse BellEntry := []
  /-- Slot last issued at each priority. | 8 x 6 | R60, 03_joiners.md | 63 -/
  last : Vector Nat 8 := Vector.replicate 8 63
  /-- Started write-port jobs, oldest first. | 4 jobs | R74, 03_joiners.md | none -/
  jobs : List WpJob := []
  /-- The ECLK cycle in which the port began the oldest job (one unit a cycle). | Nat | R74, 03_joiners.md | 0 -/
  portFrom : Nat := 0
  /-- The cycle after the last issue cycle (one issue a cycle). | Nat | R60, 03_joiners.md | 0 -/
  nextIssue : Nat := 0
  /-- A JOINER reset is waiting for started jobs. | 1 | R323, 12_power_reset_states.md | 0 -/
  resetting : Bool := false
  /-- BELL_OVERWRITES. | 32 | R71, 03_joiners.md | 0 -/
  overwrites : Nat := 0
  deriving DecidableEq, Repr

/-- The host event ring's registers (R75). -/
structure EventRing where
  /-- EVR_BASE. | 32 | R75, 03_joiners.md | 0 -/
  base : Nat := 0
  /-- EVR_HEAD. | 32 | R75, 03_joiners.md | 0 -/
  head : Word := 0
  /-- EVR_TAIL. | 32 | R75, 03_joiners.md | 0 -/
  tail : Word := 0
  /-- The ECLK cycle in which the host last wrote EVR_TAIL, and what it held before. | cycle + 32 | R305, 11_object_dictionary.md | none -/
  tailWas : Option (Nat × Word) := none
  /-- EVR_POLICY: WAIT when true. | 8 | R75, 03_joiners.md | 0 DROP -/
  waitPolicy : Bool := false
  /-- EVR_DROPPED. | 32 | R75, 03_joiners.md | 0 -/
  dropped : Nat := 0
  /-- EVR_ENABLE. | 1 | R75, 03_joiners.md | 0 -/
  enable : Bool := false
  deriving DecidableEq, Repr

/-! ## Segment memory and the bulk window (02_segment_memory.md) -/

/-- A segment-table entry (R31); its RSVD fields hold zero (R10). -/
structure SegEntry where
  /-- BASE. | 27 | R31, 02_segment_memory.md | 0 -/
  base : BitVec 27 := 0
  /-- LEN_G. | 32 | R31, 02_segment_memory.md | 0 -/
  lenG : Word := 0
  /-- VALID. | 1 | R31, 02_segment_memory.md | 0 -/
  valid : Bool := false
  /-- MKEN. | 1 | R31, 02_segment_memory.md | 0 -/
  mken : Bool := false
  /-- FORMAT. | 2 | R31, 02_segment_memory.md | 0 -/
  format : BitVec 2 := 0
  /-- TRIG_LEN. | 4 | R31, 02_segment_memory.md | 0 -/
  trigLen : BitVec 4 := 0
  /-- MPROG. | 10 | R31, 02_segment_memory.md | 0 -/
  mprog : BitVec 10 := 0
  /-- TRIG_MASK. | 16 | R31, 02_segment_memory.md | 0 -/
  trigMask : BitVec 16 := 0
  /-- HOST_TAG. | 32 | R31, 02_segment_memory.md | 0 -/
  hostTag : Word := 0
  deriving DecidableEq, Repr

/-- A marker-program event (R37). -/
structure MEvent where
  /-- GOFF. | 32 | R37, 02_segment_memory.md | 0 -/
  goff : Word := 0
  /-- EVALID. | 1 | R37, 02_segment_memory.md | 0 -/
  valid : Bool := false
  /-- LEVEL. | 1 | R37, 02_segment_memory.md | 0 -/
  level : Bool := false
  /-- SOFF. | 4 | R37, 02_segment_memory.md | 0 -/
  soff : BitVec 4 := 0
  /-- MASK. | 16 | R37, 02_segment_memory.md | 0 -/
  mask : BitVec 16 := 0
  deriving DecidableEq, Repr

/-- A stream-ring entry (R50). -/
structure Ring where
  /-- VALID. | 1 | R50, 02_segment_memory.md | 0 -/
  valid : Bool := false
  /-- FORMAT. | 2 | R50, 02_segment_memory.md | 0 -/
  format : BitVec 2 := 0
  /-- FIRST_PAGE. | 14 | R50, 02_segment_memory.md | 0 -/
  first : Nat := 0
  /-- COUNT. | 15 | R50, 02_segment_memory.md | 0 -/
  count : Nat := 0
  /-- PAGE_LEN_G. | 17 | R50, 02_segment_memory.md | 0 -/
  lenG : Nat := 0
  /-- SPLITS. | 16 | R53, 02_segment_memory.md | 0 -/
  splits : Nat := 0
  /-- PLAY_PTR. | 14 | R52, 02_segment_memory.md | 0 -/
  playPtr : Nat := 0
  /-- The channels that took the ring's previous page (R53 judges SPLITS by them). | 64 | R53, 02_segment_memory.md | none -/
  takers : List Nat := []
  /-- The advances of PLAY_PTR made in the last ECLK cycle that made one, newest first: STRM, cycle and page (one STRM to a gang, R53). | - | R53, 02_segment_memory.md | none -/
  checks : List (Nat × Nat × Nat) := []
  deriving DecidableEq, Repr

/-- The hall passes (R46), coded as PAGE_STATUS codes them. -/
inductive Pass where
  | free | host | device | reading
  deriving DecidableEq, Repr

/-- A page of the bulk window (R45 to R48, R217). -/
structure Page where
  /-- PASS. | 2 | R46, 02_segment_memory.md | FREE -/
  pass : Pass := .free
  /-- CLOSING. | 1 | R48, 02_segment_memory.md | 0 -/
  closing : Bool := false
  /-- RING. | 1 | R51, 02_segment_memory.md | 0 -/
  ring : Bool := false
  /-- PINS. | 16 | R47, 02_segment_memory.md | 0 -/
  pins : Nat := 0
  /-- ACCEPTED_BYTES. | 32 | R217, 08_lanes_and_streaming.md | 0 -/
  accepted : Nat := 0
  /-- A stream play of the page has completed since its pins were taken (R46's last two rows). | 1 | R46, 02_segment_memory.md | 0 -/
  played : Bool := false
  /-- The HANDOVER that waits for earlier writes (CLOSING = 1). | message | R48, 02_segment_memory.md | none -/
  handover : Option BulkMsg := none
  /-- A RELEASE, HANDOVER or RECLAIM that waits for an incomplete stream-lane write to the page, with its type. | message | R218, 08_lanes_and_streaming.md | none -/
  waiting : Option (Nat × BulkMsg) := none
  deriving DecidableEq, Repr

/-- A check of a stream page met in an ECLK cycle and settled at its end (R49, R53). -/
structure PageCheck where
  cycle : Nat
  channel : Nat
  /-- a re-check of a late page (R110, R111) -/
  again : Bool
  /-- the scheduled start that is checked, or the boundary of the re-check -/
  k : Nat
  /-- device time (fs) of the check -/
  at_ : Nat
  deriving DecidableEq, Repr

/-- A host pass request met in an ECLK cycle and settled at its end, after pins and writes (R49): its message type. -/
structure PassRequest where
  cycle : Nat
  type : Nat
  msg : BulkMsg
  deriving DecidableEq, Repr

/-- Segment memory, its tables and the bulk window (OD 0x2200). -/
structure SegMem where
  /-- Segment memory, the bytes written since POR. | 2^36.6 x 8 | R26, 02_segment_memory.md | undefined: no byte listed, an unwritten word reads free (log 3) -/
  bytes : List Host.Cell := []
  /-- Aligned words that read uncorrectable. | 1 a word | R40 R42, 02_segment_memory.md | none -/
  ue : List Nat := []
  /-- Aligned words with a correctable error. | 1 a word | R40, 02_segment_memory.md | none -/
  ce : List Nat := []
  /-- Segment table. | 65,536 x 256 | R31, 02_segment_memory.md | 0 -/
  segs : Sparse SegEntry := []
  /-- The last ECLK cycle in which the host wrote a segment entry, and what the entries written in it held before (an enqueue of that cycle copies the old entry). | Nat + entries | R33, 02_segment_memory.md | 0, none -/
  segsOld : Nat × Sparse (Option SegEntry) := (0, [])
  /-- The same for marker-program events. | Nat + events | R33, 02_segment_memory.md | 0, none -/
  eventsOld : Nat × Sparse (Option MEvent) := (0, [])
  /-- Marker programs, key 4 x program + event. | 1,024 x 4 x 64 | R37, 02_segment_memory.md | 0 -/
  events : Sparse MEvent := []
  /-- Stream rings. | 256 x 128 | R50, 02_segment_memory.md | 0 -/
  rings : Sparse Ring := []
  /-- Window pages. | 16,384 pages | R46, 02_segment_memory.md | FREE, no pins -/
  pages : Sparse Page := []
  /-- Checks of stream pages met in the current ECLK cycle. | list | R49 R53, 02_segment_memory.md | none -/
  checks : List PageCheck := []
  /-- Host pass requests met in the current ECLK cycle, in order. | list | R49, 02_segment_memory.md | none -/
  passes : List PassRequest := []
  /-- BULK_BASE. | 32 | R44, 02_segment_memory.md | 0 -/
  bulkBase : Nat := 0
  /-- BULK_PAGES. | 16 | R44, 02_segment_memory.md | 0 -/
  bulkPages : Nat := 0
  /-- HBM_CE_COUNT. | 64 | R40, 02_segment_memory.md | 0 -/
  ceCount : Nat := 0
  /-- HBM_UE_GRANULES. | 64 | R41, 02_segment_memory.md | 0 -/
  ueGranules : Nat := 0
  /-- HBM_UE_SCRUB. | 32 | R43, 02_segment_memory.md | 0 -/
  ueScrub : Nat := 0
  /-- BULK_REFUSED. | 32 | R45, 02_segment_memory.md | 0 -/
  refused : Nat := 0
  deriving DecidableEq, Repr

/-! ## Play queues, channels and bays (03, 04, 05) -/

/-- Descriptor kinds (R68). -/
inductive DKind where
  | play | stream | gap | timegate | control
  deriving DecidableEq, Repr

/-- The escape head buffer's contents (R15, R97): the segment loaded, from where, and the words of it that no longer
equal segment memory. -/
structure Head where
  seg : BitVec 16
  base : BitVec 27
  words : Nat
  /-- device time (fs) at which its fill began -/
  start : Nat
  buf : Sparse (Option WordRead) := []
  deriving DecidableEq, Repr

/-- A play-queue descriptor (R68), with what the model keeps beside its 16 words: its pins, when it became
visible, and the STRM it came from. -/
structure Descriptor where
  /-- KIND. | 4 | R68, 03_joiners.md | PLAY -/
  kind : DKind := .play
  /-- FORMAT. | 2 | R68, 03_joiners.md | 0 -/
  format : BitVec 2 := 0
  /-- TRIG_LEN. | 4 | R68, 03_joiners.md | 0 -/
  trigLen : BitVec 4 := 0
  /-- MKEN. | 1 | R68, 03_joiners.md | 0 -/
  mken : Bool := false
  /-- OPC. | 6 | R68, 03_joiners.md | 0 -/
  opc : BitVec 6 := 0
  /-- TT. | 13 | R68, 03_joiners.md | 0 -/
  tt : Nat := 0
  /-- BASE, or the ring number of a STREAM. | 27 | R68, 03_joiners.md | 0 -/
  base : BitVec 27 := 0
  /-- LEN_G. | 32 | R68, 03_joiners.md | 0 -/
  lenG : Word := 0
  /-- REPEAT. | 32 | R68, 03_joiners.md | 0 -/
  reps : Word := 0
  /-- SEG_ID. | 16 | R68, 03_joiners.md | 0 -/
  segId : BitVec 16 := 0
  /-- TRIG_MASK. | 16 | R68, 03_joiners.md | 0 -/
  trigMask : BitVec 16 := 0
  /-- ARG0. | 32 | R68, 03_joiners.md | 0 -/
  arg0 : Word := 0
  /-- ARG1. | 32 | R68, 03_joiners.md | 0 -/
  arg1 : Word := 0
  /-- MPROG_COPY, four events. | 256 | R33 R68, 03_joiners.md | 0 -/
  mprog : List MEvent := []
  /-- Window pages this descriptor has pinned. | 16,384 | R47, 02_segment_memory.md | none -/
  pins : List Nat := []
  /-- The ECLK cycle whose end the ECLK side of the crossing takes (2 or 10 cycles after the enqueue). | Nat | R67, 03_joiners.md | 0 -/
  crossCycle : Nat := 0
  /-- Device time (fs) of that cycle's edge, once ECLK has changed its frequency after it. | time | R67, 03_joiners.md | none -/
  crossFs : Option Nat := none
  /-- Device time (fs) at which it became visible on the CCLK side. | time | R67, 03_joiners.md | 0 -/
  visibleAt : Nat := 0
  /-- It has become visible. | 1 | R67, 03_joiners.md | 0 -/
  visible : Bool := false
  /-- A STREAM's scheduled start, once its check has been made. | Nat | R52 R109, 02_segment_memory.md | none -/
  sched : Option Nat := none
  /-- A late page that a re-check took: the boundary at which it starts. | Nat | R110 R111, 04_timetable_playback.md | none -/
  startAt : Option Nat := none
  /-- The underrun escape segment that replaces a late STREAM. | 1 | R112, 04_timetable_playback.md | 0 -/
  underrunEsc : Bool := false
  /-- Serial number of the STRM that enqueued it (one STRM to a gang, R53). | Nat | R53, 02_segment_memory.md | 0 -/
  serial : Nat := 0
  /-- Serial number of the instruction that enqueued it (a STOP may take it back, R85). | Nat | R85, 03_joiners.md | 0 -/
  order : Nat := 0
  /-- The page its check took. | 14 | R52, 02_segment_memory.md | none -/
  page : Option Nat := none
  /-- Its check has been made and found the page late. | 1 | R109, 04_timetable_playback.md | 0 -/
  late : Bool := false
  /-- The late page is treated as KEEPTIME (else SLIP). | 1 | R109 to R112, 04_timetable_playback.md | 0 -/
  lateKeep : Bool := false
  /-- The late page's fill is the park code (else it holds). | 1 | R89 R109, 04_timetable_playback.md | 0 -/
  latePark : Bool := false
  /-- KEEPTIME has skipped the whole page. | 1 | R111, 04_timetable_playback.md | 0 -/
  skipped : Bool := false
  /-- An arming ESC: the device time (fs) at which its head-buffer fill began, once begun at its visibility. | time | R97, 04_timetable_playback.md | none -/
  fillAt : Option Nat := none
  /-- Its words in the sample fetch buffer that no longer equal segment memory, by word of the play. | 24 KiB in all | R15 R17 R35, 01_architecture.md | none -/
  buf : Sparse (Option WordRead) := []
  /-- A fired escape: the head buffer from which it plays its first 12 KiB. | 12 KiB | R15 R99, 01_architecture.md | none -/
  head : Option Head := none
  deriving DecidableEq, Repr

/-- A ramp piece of the NCO profile (R125). -/
structure NcoPiece where
  /-- STEP, 48-bit two's complement. | 48 | R125, 05_channels_and_dac.md | 0 -/
  step : BitVec 48 := 0
  /-- LEN_G. | 32 | R125, 05_channels_and_dac.md | 0 -/
  lenG : Nat := 0
  deriving DecidableEq, Repr

/-- What a channel is producing (R69, R88 to R112). Boundary indexes k are those of R188. -/
inductive Activity where
  /-- no descriptor in progress: park code or fill -/
  | idle
  /-- a PLAY: its descriptor, the boundary at which the current repetition began, repetitions left with this one, and
  its hold factor -/
  | play (d : Descriptor) (k0 : Nat) (left : Nat) (h : Nat)
  /-- a stream page: descriptor, page, the boundary at which the page's schedule began, granules dropped in front,
  hold factor -/
  | stream (d : Descriptor) (page : Nat) (k0 : Nat) (dropped : Nat) (h : Nat)
  /-- a late page under SLIP or KEEPTIME: descriptor, scheduled start, hold factor -/
  | late (d : Descriptor) (k0 : Nat) (h : Nat)
  /-- a GAP: descriptor, first boundary -/
  | gap (d : Descriptor) (k0 : Nat)
  /-- a TIMEGATE: descriptor, first boundary -/
  | gate (d : Descriptor) (k0 : Nat)
  /-- an escape segment (a watched one, or an underrun escape): descriptor copy, first boundary, hold factor, whether
  a watched bell fired it -/
  | escape (d : Descriptor) (k0 : Nat) (h : Nat) (watched : Bool)
  deriving DecidableEq, Repr

/-- An escape armed or being armed (R97): the segment copied by its ESC, its bell, and the boundary from
which it is armed (for one being armed: the boundary at which it is due). -/
structure Escape where
  d : Descriptor
  bell : Nat
  k : Nat
  /-- truss time of boundary `k`, fixed when the clock stops on an arming (R163) -/
  due : Option Ticks := none
  deriving DecidableEq, Repr

/-- A bell in a channel's bell delivery queue (R187, R190). -/
structure PassedBell where
  number : Nat
  payload : Byte
  effective : Ticks
  /-- the truss time before which it may not act: its effective time, or its arrival when late under APPLY -/
  actsFrom : Ticks
  deriving DecidableEq, Repr

/-- Channel states, coded as CH_STATUS STATE codes them (R135). -/
inductive ChState where
  | off | parked | playing | held | substituted | muted | fault
  deriving DecidableEq, Repr

/-- The settings that apply at a granule boundary (R393). -/
structure ChValues where
  /-- MODE in force. | 2 | R118 R124, 05_channels_and_dac.md | 0 DIRECT -/
  mode : BitVec 2 := 0
  /-- Frequency word F in force. | 48 | R118 R124, 05_channels_and_dac.md | 0 -/
  freq : BitVec 48 := 0
  /-- PHASE_OFS in force. | 16 | R118, 05_channels_and_dac.md | 0 -/
  phase : BitVec 16 := 0
  /-- NCO_AMP in force. | 16 | R119, 05_channels_and_dac.md | 0x7FF8 -/
  amp : BitVec 16 := 0x7FF8
  /-- GAIN in force. | 16 | R119, 05_channels_and_dac.md | 0x8000 -/
  gain : BitVec 16 := 0x8000
  /-- OFFSET in force. | 16 | R119, 05_channels_and_dac.md | 0 -/
  offset : BitVec 16 := 0
  /-- HOLD in force. | 16 | R123, 05_channels_and_dac.md | 1 -/
  hold : Nat := 1
  /-- PARK_CODE in force. | 12 | R89 R144, 05_channels_and_dac.md | 0 -/
  park : BitVec 12 := 0
  /-- PB_FILL in force: HOLD when true. | 8 | R89 R117, 04_timetable_playback.md | 0 PARK -/
  fillHold : Bool := false
  deriving DecidableEq, Repr

/-- What a truss break's policy did to a channel, until RESUME (R199, R200). -/
inductive BreakMark where
  | none | pending | held | parked | highz | deferred
  deriving DecidableEq, Repr

/-- A granule that has left the digital path: its index, the codes it drives, its samples' markers A and B (bit j for
sample j), the span setting of its codes and whether the channel was MUTED. -/
structure Drawn where
  k : Nat
  codes : List (BitVec 12)
  a : BitVec 16
  b : BitVec 16
  span : BitVec 3
  muted : Bool
  deriving DecidableEq, Repr

/-- One channel: its queue, playback, settings and states (OD 0x2400+n, 0x2300:19-1B, 0x2300:28-31). -/
structure Channel where
  /-- LEADER; 0xFFFF none. | 16 | R63 R64, 03_joiners.md | 64 x channel -/
  leader : Nat := 0xFFFF
  /-- Play queue, oldest first. | 64 x 64 bytes | R66 to R69, 03_joiners.md | empty -/
  queue : List Descriptor := []
  /-- Slots freed but not yet seen on the ECLK side: the cycle at which each is seen. | 64 | R67, 03_joiners.md | none -/
  freed : List Nat := []
  /-- QUEUE_LIMIT. | 8 | R92, 04_timetable_playback.md | 64 -/
  limit : Nat := 64
  /-- QUEUE_FULL_WAITS. | 32 | 03_joiners.md 0x2300:1B | 0 -/
  fullWaits : Nat := 0
  /-- ENABLE. | 1 | R134, 05_channels_and_dac.md CH_CTRL | 0 -/
  enable : Bool := false
  /-- DETECT_EN. | 1 | R137, 05_channels_and_dac.md CH_CTRL | 1 -/
  detectEn : Bool := true
  /-- STATE. | 3 | R135, 05_channels_and_dac.md CH_STATUS | OFF -/
  state : ChState := .off
  /-- The state a mute returns to (R132). | 3 | R132, 05_channels_and_dac.md | OFF -/
  under : ChState := .off
  /-- Boundary at which the mute ends. | Nat | R132, 05_channels_and_dac.md | 0 -/
  muteEnd : Nat := 0
  /-- STALE. | 1 | R143 R199, 05_channels_and_dac.md CH_STATUS | 0 -/
  stale : Bool := false
  /-- CLK_STOPPED. | 1 | R135 R163, 05_channels_and_dac.md CH_STATUS | 0 (log 6) -/
  clkStopped : Bool := false
  /-- The device time (fs) at which the 2 us of R134 began; none when not ENABLING. | time | R134, 05_channels_and_dac.md CH_STATUS ENABLING | none -/
  enabling : Option Nat := none
  /-- A cleared ENABLE waits for its boundary (R135): the boundary, and whether ENABLE was set again before it. | Nat + 1 | R135, 05_channels_and_dac.md | none -/
  disabling : Option (Nat × Bool) := none
  /-- A FLUSH has emptied the queue: the boundary at which it ends what is in progress. | Nat | R84 R114, 04_timetable_playback.md | none -/
  flushing : Option Nat := none
  /-- A hold handover has opened its switch: the boundary at which the live codes resume. | Nat | R143, 05_channels_and_dac.md | none -/
  returning : Option Nat := none
  /-- SPAN_CFG in force. | 3 | R131, 05_channels_and_dac.md | 0x04 -/
  span : BitVec 3 := 4
  /-- The setting that the change under the mute replaced. | 3 | R132, 05_channels_and_dac.md | 0x04 -/
  spanOld : BitVec 3 := 4
  /-- Written span that awaits its boundary (SPAN_PENDING), the device time of its write, and its segment boundary once that has come. | 3 | R131, 05_channels_and_dac.md | none -/
  spanPending : Option (BitVec 3 × Nat × Option Nat) := none
  /-- Span change deferred while HELD, and whether the host wrote it (SPAN_PENDING shows it). | 3 + 1 | R133 R393, 05_channels_and_dac.md | none -/
  spanDeferred : Option (BitVec 3 × Bool) := none
  /-- TRGO_ON. | 1 | R39, 02_segment_memory.md, CH_STATUS | 0 -/
  trgo : Bool := false
  /-- Settings in force. | record | R393, 05_channels_and_dac.md | as its fields -/
  vals : ChValues := {}
  /-- Host-written settings waiting for the next boundary, in order, each with the device time (fs) of its write. | list | R393, 05_channels_and_dac.md | none -/
  pend : List (Nat × SettingValue) := []
  /-- FTW_LO, staged. | 32 | R124, 05_channels_and_dac.md | 0 -/
  ftwLo : Word := 0
  /-- MARKER_ROUTE. | 16 | R127, 05_channels_and_dac.md | 0 -/
  route : BitVec 16 := 0
  /-- RAMP_PROFILE. | 16 pieces | R125, 05_channels_and_dac.md | 0 -/
  profile : Sparse NcoPiece := []
  /-- FAULT_BELL EN and number. | 16 | R138, 05_channels_and_dac.md | 0 -/
  faultBell : BitVec 16 := 0
  /-- Detector flags OPEN_P OPEN_N CLO_P CLO_N CHI_P CHI_N, SAT and PARITY (CH_STATUS [23:16]). | 8 | R138 R121, 05_channels_and_dac.md CH_STATUS | 0 -/
  flags : BitVec 8 := 0
  /-- SAT_COUNT. | 64 | R121, 05_channels_and_dac.md | 0 -/
  satCount : Nat := 0
  /-- UE_GRANULES. | 32 | R41, 05_channels_and_dac.md | 0 -/
  ueGranules : Nat := 0
  /-- COMPL_FAULTS. | 32 | R138, 05_channels_and_dac.md | 0 -/
  complFaults : Nat := 0
  /-- Accumulator acc_n of granule accK. | 48 | R118 R122, 05_channels_and_dac.md | 0 -/
  acc : BitVec 48 := 0
  /-- The granule index whose accumulator and output the model has worked out so far. | Nat | R118, 05_channels_and_dac.md | 0 -/
  accK : Nat := 0
  /-- Running ramp: piece, boundaries of it completed, and the boundary of its next step. | 4 + 32 | R126, 05_channels_and_dac.md | none -/
  ramp : Option (Nat × Nat × Nat) := none
  /-- Marker levels. | 16 | R105, 04_timetable_playback.md | 0 -/
  marks : BitVec 16 := 0
  /-- Marker levels before their latest changes, newest first, each with the output sample of the change: what is still on its way to the balls. | list | R127 R128, 05_channels_and_dac.md | none -/
  marksWere : List (Nat × BitVec 16) := []
  /-- Trigger pulses: mask, first output sample, and first output sample after the pulse. | list | R39, 02_segment_memory.md | none -/
  pulses : List (BitVec 16 × Nat × Nat) := []
  /-- The granules that have left the digital path lately, newest first. | 24 granules | R127 R128, 05_channels_and_dac.md | none -/
  drawn : List Drawn := []
  /-- Marker events of the play in progress still to fire (event numbers). | 4 | R38 R106, 04_timetable_playback.md | none -/
  events : List Nat := []
  /-- The last code that left the path since the channel was enabled. | 12 | R89, 04_timetable_playback.md | none -/
  lastCode : Option (BitVec 12) := none
  /-- What the channel is producing. | record | R69, 03_joiners.md | idle -/
  act : Activity := .idle
  /-- Device time (fs) at which the core clock last began to run. | time | R67 R163, 03_joiners.md | 0 -/
  runsFrom : Nat := 0
  /-- The boundary at which the core clock last stopped. | Nat | R163, 06_clock_synthesis.md | 0 -/
  stopK : Nat := 0
  /-- The boundary from which the idle channel takes its queue. | Nat | R90 R134 R163, 04_timetable_playback.md | 0 -/
  idleFrom : Nat := 0
  /-- The boundary at which the starts of the queued descriptors last became fixed anew: a firing, a changed HOLD, the start of taking the queue. | Nat | R52, 02_segment_memory.md | 0 -/
  planned : Nat := 0
  /-- The boundary before which no PLAY or STREAM may start after an escape. | Nat | R102, 04_timetable_playback.md | 0 -/
  notBefore : Nat := 0
  /-- The opening boundary of a gate whose PLAY or STREAM has not yet started. | Nat | R94, 04_timetable_playback.md | none -/
  gateOpened : Option Nat := none
  /-- Playback has ended on an empty queue and no descriptor has started since (EMPTIED already set). | 1 | R90, 04_timetable_playback.md | 1 -/
  emptied : Bool := true
  /-- A descriptor has reached the head since the channel was last PARKED. | 1 | R135 R200, 05_channels_and_dac.md | 0 -/
  begun : Bool := false
  /-- Armed escape. | record | R97 R98, 04_timetable_playback.md | none -/
  armed : Option Escape := none
  /-- Escape being armed. | record | R97, 04_timetable_playback.md | none -/
  arming : Option Escape := none
  /-- Escape head buffer. | 12 KiB | R15 R97, 01_architecture.md | none -/
  head : Option Head := none
  /-- Bell delivery queue. | 32 bells | R187, 07_bells_and_truss.md | empty -/
  bells : List PassedBell := []
  /-- BOUNDARY_HIT ESC_FIRED LATE_GATE EMPTIED UNDERRUN ESC_BAD (PB_STATUS [31:26]). | 6 | R117, 04_timetable_playback.md | 0 -/
  pbFlags : BitVec 6 := 0
  /-- QUEUE_EMPTIES. | 32 | R90, 04_timetable_playback.md | 0 -/
  empties : Nat := 0
  /-- LATE_GATES. | 32 | R94 R95, 04_timetable_playback.md | 0 -/
  lateGates : Nat := 0
  /-- ESC_FIRES. | 32 | R99, 04_timetable_playback.md | 0 -/
  escFires : Nat := 0
  /-- UNDERRUNS. | 32 | R109, 04_timetable_playback.md | 0 -/
  underruns : Nat := 0
  /-- SLIP_GRANULES. | 64 | R110, 04_timetable_playback.md | 0 -/
  slip : Nat := 0
  /-- DROPPED_GRANULES. | 64 | R111, 04_timetable_playback.md | 0 -/
  dropped : Nat := 0
  /-- What a truss break did to the channel. | 3 | R199 R200, 07_bells_and_truss.md | none -/
  broke : BreakMark := .none
  /-- Host-written settings by the opcode of their instruction, with the boundary at which each last applied. | list | R305, 11_object_dictionary.md | none -/
  hostSet : List (Nat × Nat) := []
  /-- A reset the channel has still to act on: its boundary, and whether it is a TRUSS reset. | Nat + 1 | R323, 12_power_reset_states.md | none -/
  resetK : Option (Nat × Bool) := none
  /-- The boundary at which the core takes the factory trims on entry to FACTORY_ONLY. | Nat | R269, 10_plumb_and_yearbook.md | none -/
  reloadK : Option Nat := none
  deriving DecidableEq, Repr

/-- Handover phases, coded as SUB_STATUS PHASE codes them (R141). -/
inductive SubPhase where
  | idle | settleIn | fadeIn | cover | settleOut | fadeOut | ownPlumb | unavailable
  deriving DecidableEq, Repr

/-- One bay and its substitute (OD 0x2480+b). -/
structure Bay where
  /-- FADE_G. | 16 | R142, 05_channels_and_dac.md | 16 -/
  fadeG : Nat := 16
  /-- SUB_STATUS PHASE (UNAVAILABLE is worked out at reads). | 3 | R141, 05_channels_and_dac.md | IDLE -/
  phase : SubPhase := .idle
  /-- A handover that begins at a boundary still to come: b0, and the boundary from which Plumb hands back. | Nat | R141, 05_channels_and_dac.md | none -/
  connecting : Option Nat := none
  /-- The boundary at which Plumb's handback begins the settle-out. | Nat | R141, 05_channels_and_dac.md | none -/
  leaving : Option Nat := none
  /-- SUB_STATUS HOLD_MODE. | 1 | R143, 05_channels_and_dac.md | 0 -/
  holdMode : Bool := false
  /-- SUB_STATUS CHANNEL. | 6 | R141, 05_channels_and_dac.md | 0 -/
  channel : Nat := 0
  /-- Boundary (of the channel served) at which the phase began. | Nat | R141, 05_channels_and_dac.md | 0 -/
  phaseK : Nat := 0
  /-- FADE_G taken by the fade in progress. | 16 | R142, 05_channels_and_dac.md | 0 -/
  fadeK : Nat := 0
  /-- The held code c_h. | 12 | R143, 05_channels_and_dac.md | 0 -/
  heldCode : BitVec 12 := 0
  /-- A parity fault of the bay holds SUBb unavailable. | 1 | R302, 11_object_dictionary.md | 0 -/
  parity : Bool := false
  /-- HANDOVERS. | 32 | R141, 05_channels_and_dac.md | 0 -/
  handovers : Nat := 0
  /-- HOLDS. | 32 | R143, 05_channels_and_dac.md | 0 -/
  holds : Nat := 0
  /-- FADE_ABORTS. | 32 | R142, 05_channels_and_dac.md | 0 -/
  aborts : Nat := 0
  deriving DecidableEq, Repr

/-- The trims of one core (R130, R272). -/
structure Trims where
  /-- Cell trims of cells 1 to 63. | 63 x 8 | R130, 05_channels_and_dac.md | DESIGN CHOICE 128 each, no adjustment (log 7) -/
  cells : List Byte := List.replicate 63 128
  /-- Gain trim. | 12 | R130, 05_channels_and_dac.md | DESIGN CHOICE 0 (log 7) -/
  gain : BitVec 12 := 0
  /-- Offset trim. | 12 | R130, 05_channels_and_dac.md | DESIGN CHOICE 0 (log 7) -/
  offset : BitVec 12 := 0
  /-- FINE_TRIM. | 24 | R156 R272, 06_clock_synthesis.md | DESIGN CHOICE 0 (log 7) -/
  fine : Int := 0
  deriving DecidableEq, Repr

/-- Ranks of a Plumb flag (R260): commanded, post-lock, temperature, periodic. -/
inductive PlumbRank where
  | commanded | postLock | temperature | periodic
  deriving DecidableEq, Repr

/-- One DAC core and its Plumb record (OD 0x2480+b:04-07, 0x2800:0A-10). -/
structure Core where
  /-- Trims in force. | record | R130, 05_channels_and_dac.md | as its fields -/
  trims : Trims := {}
  /-- Amplitude trims are still those of slot 0. | 1 | R272, 10_plumb_and_yearbook.md | 1 -/
  ampFactory : Bool := true
  /-- FINE_TRIM is still that of slot 0. | 1 | R272, 10_plumb_and_yearbook.md | 1 -/
  timeFactory : Bool := true
  /-- CORE_TEMP, 1/16 degree. | 16 | 05_channels_and_dac.md 0x2480+b:07 | DESIGN CHOICE 0 (log 7) -/
  temp : BitVec 16 := 0
  /-- TEMP_AT_AMP, 1/16 degree. | 16 | R259, 10_plumb_and_yearbook.md | DESIGN CHOICE 0 (log 7) -/
  tempAtAmp : BitVec 16 := 0
  /-- An amplitude run of the core has agreed. | 1 | R259, 10_plumb_and_yearbook.md | 0 -/
  ampDone : Bool := false
  /-- PLUMB_FAILED. | 1 | R266, 10_plumb_and_yearbook.md | 0 -/
  failed : Bool := false
  /-- AMP_PENDING and its rank. | 1 + rank | R259 R260, 10_plumb_and_yearbook.md | none -/
  amp : Option PlumbRank := none
  /-- TIME_PENDING and its rank. | 1 + rank | R259 R260, 10_plumb_and_yearbook.md | none -/
  time : Option PlumbRank := none
  /-- Amplitude flag set while the core's runs are in progress, for its next turn. | 1 + rank | R268, 10_plumb_and_yearbook.md | none -/
  ampNext : Option PlumbRank := none
  /-- Timing flag set while the core's runs are in progress, for its next turn. | 1 + rank | R268, 10_plumb_and_yearbook.md | none -/
  timeNext : Option PlumbRank := none
  /-- Amplitude and timing flags that stay after a run whose check failed: the run is tried again once its preconditions hold. | 2 | R264, 10_plumb_and_yearbook.md | 0 -/
  ampHeld : Bool := false
  timeHeld : Bool := false
  /-- RETRIES. | 4 | R266, 10_plumb_and_yearbook.md | 0 -/
  retries : Nat := 0
  /-- LAST_REASON. | 8 | R264, 10_plumb_and_yearbook.md | 0 -/
  reason : Nat := 0
  /-- PLUMB_COUNT. | 32 | R265, 10_plumb_and_yearbook.md | 0 -/
  count : Nat := 0
  /-- PLUMB_DISAGREES. | 32 | R266, 10_plumb_and_yearbook.md | 0 -/
  disagrees : Nat := 0
  /-- PLUMB_REFUSED. | 32 | R263, 10_plumb_and_yearbook.md | 0 -/
  refused : Nat := 0
  /-- PLUMB_LAST. | 64 | R265, 10_plumb_and_yearbook.md | 0 -/
  last : Ticks := 0
  /-- Device time (fs) of the last installed result, from which PLUMB_AGE counts. | time | R265, 10_plumb_and_yearbook.md | none -/
  lastAt : Option Nat := none
  deriving DecidableEq, Repr

/-! ## Clock synthesis (06_clock_synthesis.md) -/

/-- REF_STATUS MODE codes. -/
inductive RefMode where
  | refin | holdover | qualifying | slewing | waitHost | xtal
  deriving DecidableEq, Repr

/-- From device time `dev` on, when the loops' own time is `syn`, the loops run at `scale` / 10^9 of nominal (R165). -/
structure Warp where
  dev : Nat
  syn : Nat
  scale : Nat
  deriving DecidableEq, Repr

/-- References (OD 0x2100:01-0F). -/
structure Ref where
  /-- REF_FREQ. | 32 | R145, 06_clock_synthesis.md | 10,000,000 -/
  freq : Nat := 10000000
  /-- TB_DIV. | 8 | R145, 06_clock_synthesis.md TB_WORDS | 1 -/
  tbDiv : Nat := 1
  /-- TB_N. | 16 | R145, 06_clock_synthesis.md TB_WORDS | 200 -/
  tbN : Nat := 200
  /-- REF_WINDOW. | 16 | R146, 06_clock_synthesis.md | 100 -/
  window : Nat := 100
  /-- REF_SRC: XTAL when true. | 8 | R164, 06_clock_synthesis.md | 0 AUTO -/
  xtalSrc : Bool := false
  /-- REF_RETURN. | 8 | R165, 06_clock_synthesis.md | 0 SLEW -/
  ret : Nat := 0
  /-- REF_QUAL, ms. | 16 | R165, 06_clock_synthesis.md | 100 -/
  qual : Nat := 100
  /-- SLEW_RATE, ppb. | 16 | R166, 06_clock_synthesis.md | 1,000 -/
  slewRate : Nat := 1000
  /-- REF_STEP, fs. | 64 | R165, 06_clock_synthesis.md | 0 -/
  step : Int := 0
  /-- Device time (fs) at which the current holdover began (HOLDOVER_TIME counts from it). | time | R164, 06_clock_synthesis.md | none -/
  holdSince : Option Nat := none
  /-- HOLDOVER_COUNT. | 32 | 06_clock_synthesis.md 0x2100:0B | 0 -/
  holdovers : Nat := 0
  /-- XTAL_ADJ. | 32 | R148, 06_clock_synthesis.md | 0 -/
  xtalAdj : Int := 0
  /-- Completed crystal gates, newest first (XTAL_OFFSET is the mean of the last 16). | 16 x 32 | R148, 06_clock_synthesis.md | none -/
  gates : List Int := []
  /-- A crystal gate is running against REFIN since this device time. | time | R148, 06_clock_synthesis.md | none -/
  gateSince : Option Nat := none
  /-- ALIGN_SRC: PPS when true. | 8 | R161, 06_clock_synthesis.md | 0 LOCAL -/
  alignPps : Bool := false
  /-- MODE. | 3 | 06_clock_synthesis.md REF_STATUS | 0 REFIN -/
  mode : RefMode := .refin
  /-- REF_PRESENT. | 1 | R146, 06_clock_synthesis.md REF_STATUS | 0 -/
  present : Bool := false
  /-- REF_AMP_OK. | 1 | R146, 06_clock_synthesis.md REF_STATUS | 0 -/
  ampOk : Bool := false
  /-- REF_FREQ_OK. | 1 | R146, 06_clock_synthesis.md REF_STATUS | 0 -/
  freqOk : Bool := false
  /-- REF_LOST. | 1 | 06_clock_synthesis.md REF_STATUS | 0 -/
  lost : Bool := false
  /-- REF_RETURNED. | 1 | R165, 06_clock_synthesis.md REF_STATUS | 0 -/
  returned : Bool := false
  /-- Device time (fs) of the last active PPS_IN edge (PPS_PRESENT for 1.1 s after it). | time | R147, 06_clock_synthesis.md | none -/
  ppsAt : Option Nat := none
  /-- PPS_MARGIN. | 1 | R147, 06_clock_synthesis.md REF_STATUS | 0 -/
  ppsMargin : Bool := false
  /-- ALIGN_TIMEOUT. | 1 | R161, 06_clock_synthesis.md REF_STATUS | 0 -/
  alignTimeout : Bool := false
  /-- XTAL_RANGE. | 1 | R148, 06_clock_synthesis.md REF_STATUS | 0 -/
  xtalRange : Bool := false
  /-- Device time (fs) since which REFIN has been present after a loss. | time | R165, 06_clock_synthesis.md | none -/
  presentSince : Option Nat := none
  /-- The phase-step measurement runs, and what it is made for (0 REF_RETURN as it stands at its end, 3 SLEW or 4 HOP of a REF_CMD), with the device time at which it began. | 3 + time | R165 R166, 06_clock_synthesis.md | none -/
  measuring : Option (Nat × Nat) := none
  /-- Device time (fs) at which REFIN was qualified after its last loss. | time | R165 R236, 06_clock_synthesis.md | none -/
  qualAt : Option Nat := none
  /-- Device time (fs) at which the slew ends. | time | R165, 06_clock_synthesis.md | none -/
  slewEnd : Option Nat := none
  /-- The slews made and the one in progress, newest first: what relates device time to the loops' own time. | list | R165 R166, 06_clock_synthesis.md | none -/
  warps : List Warp := []
  /-- The REF_CMD writes accepted in the last ECLK cycle that saw one: its number, and the requests. | list | R167, 06_clock_synthesis.md | none -/
  cmds : Nat × List Req := (0, [])
  deriving DecidableEq, Repr

/-- The third-order MASH 1-1-1 modulator of a synthesizer (R151, R161). -/
structure Mash where
  /-- Its three accumulators, as they stood at `at_`. | 3 x 32 | R151 R357, 06_clock_synthesis.md | DESIGN CHOICE 0 (log 118) -/
  acc1 : Word := 0
  acc2 : Word := 0
  acc3 : Word := 0
  /-- The loops' own time (fs) up to which its cycles are counted. | time | R151, 06_clock_synthesis.md | 0 -/
  at_ : Nat := 0
  /-- The words it has run with since its reset are those the host wrote: not the words, unstated, that the device recomputes on a change of reference (R164). | 1 | R151 R164, 06_clock_synthesis.md | 0 -/
  known : Bool := false
  deriving DecidableEq, Repr

/-- A VCO band entry (R152). -/
structure Band where
  /-- F_LO, kHz. | 32 | R152, 06_clock_synthesis.md | Yearbook: DESIGN CHOICE (log 8) -/
  lo : Nat := 0
  /-- F_HI, kHz. | 32 | R152, 06_clock_synthesis.md | Yearbook: DESIGN CHOICE (log 8) -/
  hi : Nat := 0
  /-- VALID. | 1 | R152, 06_clock_synthesis.md | Yearbook: DESIGN CHOICE (log 8) -/
  valid : Bool := false
  /-- GAIN_CLASS. | 2 | R152, 06_clock_synthesis.md | Yearbook: DESIGN CHOICE (log 8) -/
  gain : BitVec 2 := 0
  /-- BAND. | 8 | R152, 06_clock_synthesis.md | Yearbook: DESIGN CHOICE (log 8) -/
  code : BitVec 8 := 0
  deriving DecidableEq, Repr

/-- Synthesizer phases, coded as SYNM_STATUS PHASE codes them. -/
inductive SynPhase where
  | disabled | acquiring | settling | aligning | running | noBand | alignWait
  deriving DecidableEq, Repr

/-- One synthesizer (OD 0x2100:10-18 and :30-38). -/
structure Synth where
  /-- SYNx_EN. | 1 | R154, 06_clock_synthesis.md | 0 -/
  en : Bool := false
  /-- REF_DIV. | 8 | R149, 06_clock_synthesis.md | 1 -/
  refDiv : Nat := 1
  /-- N_INT. | 16 | R149, 06_clock_synthesis.md | 1,600 (SYN-M), 1,200 (SYN-A) -/
  nInt : Nat := 1600
  /-- FRAC. | 32 | R149, 06_clock_synthesis.md | 0 -/
  frac : Nat := 0
  /-- LBW. | 8 | R151, 06_clock_synthesis.md | 1 -/
  lbw : Nat := 1
  /-- PHASE. | 3 | 06_clock_synthesis.md SYNM_STATUS | DISABLED -/
  phase : SynPhase := .disabled
  /-- The main loop is locked (LOCKED, for SYN-M together with TB_LOCKED). | 1 | R150 R159, 06_clock_synthesis.md SYNM_STATUS | 0 -/
  locked : Bool := false
  /-- GATED. | 1 | R159, 06_clock_synthesis.md SYNM_STATUS | 0 -/
  gated : Bool := false
  /-- LOL. | 1 | R159, 06_clock_synthesis.md SYNM_STATUS | 0 -/
  lol : Bool := false
  /-- Lock has been lost and the clocks have not returned: play queues read full (SYN-M). | 1 | R21 R85, 01_architecture.md | 0 -/
  lost : Bool := false
  /-- CEIL_TRIP. | 1 | R160, 06_clock_synthesis.md SYNM_STATUS | 0 -/
  ceilTrip : Bool := false
  /-- ALIGNED_XTAL. | 1 | R162, 06_clock_synthesis.md SYNM_STATUS | 0 -/
  alignedXtal : Bool := false
  /-- TB_LOCKED: the time-base loop is locked (SYN-M only). | 1 | R150, 06_clock_synthesis.md SYNM_STATUS | 0 -/
  tbLocked : Bool := false
  /-- BAND_ENTRY selected. | 6 | R154, 06_clock_synthesis.md SYNM_STATUS | none (reads 0) -/
  entry : Option Nat := none
  /-- Band table. | 64 x 128 | R152, 06_clock_synthesis.md | Yearbook: DESIGN CHOICE (log 8) -/
  bands : Sparse Band := []
  /-- LOCK_ATTEMPTS. | 32 | R159, 06_clock_synthesis.md | 0 -/
  attempts : Nat := 0
  /-- LOL_COUNT. | 32 | R159, 06_clock_synthesis.md | 0 -/
  lols : Nat := 0
  /-- Device time (fs) at which the current phase began. | time | R159 R161, 06_clock_synthesis.md | 0 -/
  since : Nat := 0
  /-- The loop is held on the crystal. | 1 | R150 R164, 06_clock_synthesis.md | 0 -/
  onXtal : Bool := false
  /-- Device time (fs) of the alignment edge, once it has come and until the release. | time | R161, 06_clock_synthesis.md | none -/
  alignEdge : Option Nat := none
  /-- The first retry, 1 ms after a loss, has been made; the next ones follow every 10 ms. | 1 | R159, 06_clock_synthesis.md | 0 -/
  retried : Bool := false
  /-- Enabled from the crystal: y of R148 as it stood then; else f_REF is REF_FREQ. | 32 | R148 R149, 06_clock_synthesis.md | none -/
  xtalY : Option Int := none
  /-- The loops' own time (fs) at the release edge of the last alignment: boundary 0 of every channel. | time | R161 R188, 07_bells_and_truss.md | 0 -/
  releaseAt : Nat := 0
  /-- Anchor A: truss time of that release edge. | 64 | R188, 07_bells_and_truss.md | 0 -/
  anchor : Ticks := 0
  /-- The register parity fault that gated it stands. | 1 | R302, 11_object_dictionary.md | 0 -/
  parity : Bool := false
  /-- The sigma-delta modulator. | 3 x 32 + time | R151 R161 R357, 06_clock_synthesis.md | as Mash -/
  mash : Mash := {}
  deriving DecidableEq, Repr

/-- One synthesizer output (OUT_CFG, OUT_DELAY; CLKOUT_CFG, CLKOUT_DELAY). -/
structure Output where
  /-- OUT_EN. | 1 | R158, 06_clock_synthesis.md | 0 -/
  en : Bool := false
  /-- CEIL, percent. | 4 | R160, 06_clock_synthesis.md | 5 -/
  ceil : Nat := 5
  /-- DIV. | 12 | R155, 06_clock_synthesis.md | 2 (OUT_CFG), 12 (CLKOUT_CFG) -/
  div : Nat := 2
  /-- COARSE, output periods. | 6 | R156, 06_clock_synthesis.md | 0 -/
  coarse : Int := 0
  /-- FINE_USER. | 17 | R156, 06_clock_synthesis.md | 0 -/
  fine : Int := 0
  /-- Fine delay reached so far (target FINE_TRIM + FINE_USER). | 24 | R157, 06_clock_synthesis.md | 0 -/
  pos : Int := 0
  /-- Held gated by its ceiling guard. | 1 | R160, 06_clock_synthesis.md | 0 -/
  ceilGated : Bool := false
  deriving DecidableEq, Repr

/-- A piece of SYN-A's ramp profile (R169). -/
structure SynPiece where
  /-- STEP. | 32 | R169, 06_clock_synthesis.md | 0 -/
  step : Word := 0
  /-- DWELL. | 16 | R169, 06_clock_synthesis.md | 0 -/
  dwell : Nat := 0
  /-- COUNT. | 32 | R169, 06_clock_synthesis.md | 0 -/
  count : Nat := 0
  deriving DecidableEq, Repr

/-- SYN-A's ramp generator (OD 0x2100:48-4C). -/
structure SynRamp where
  /-- RAMP_CFG REPEAT. | 1 | R170, 06_clock_synthesis.md | 0 -/
  repeats : Bool := false
  /-- RAMP_CFG BELL_EN. | 1 | R170, 06_clock_synthesis.md | 0 -/
  bellEn : Bool := false
  /-- RAMP_CFG BELL. | 8 | R170, 06_clock_synthesis.md | 0 -/
  bell : Nat := 0
  /-- RAMP_PROFILE. | 32 pieces | R169, 06_clock_synthesis.md | 0 -/
  profile : Sparse SynPiece := []
  /-- RUNNING. | 1 | R170, 06_clock_synthesis.md RAMP_STATUS | 0 -/
  running : Bool := false
  /-- A START waits for its bell (true), and once the bell is released, its effective time. | 1 + 64 | R170, 06_clock_synthesis.md | no -/
  waiting : Bool := false
  /-- Effective time at which a bell-started ramp starts. | 64 | R170, 06_clock_synthesis.md | none -/
  startAt : Option Ticks := none
  /-- Current piece. | 5 | R170, 06_clock_synthesis.md RAMP_STATUS | 0 -/
  piece : Nat := 0
  /-- Steps of the piece made. | 32 | R170, 06_clock_synthesis.md | 0 -/
  made : Nat := 0
  /-- Passes completed. | 16 | R170, 06_clock_synthesis.md RAMP_STATUS | 0 -/
  passes : Nat := 0
  /-- The ramp's sum of steps so far, added to N_INT + FRAC / 2^32 (units of 2^-32). | 44 | R170, 06_clock_synthesis.md | 0 -/
  shift : Int := 0
  /-- The loops' own time (fs) from which the phase-detector cycles of the current step are counted. | time | R170, 06_clock_synthesis.md | 0 -/
  from_ : Nat := 0
  /-- Phase-detector cycles from the ramp's start to its next step. | Nat | R170, 06_clock_synthesis.md | 0 -/
  cycles : Nat := 0
  /-- Highest division of the checked profile (CLKOUT ceiling guards). | 44 | R160 R171, 06_clock_synthesis.md | 0 -/
  top : Int := 0
  /-- RAMP_LATE. | 32 | R170, 06_clock_synthesis.md | 0 -/
  late : Nat := 0
  deriving DecidableEq, Repr

/-! ## Bells and the truss (07_bells_and_truss.md) -/

/-- A bell held by the bell unit until release and passing (R186, R187). -/
structure PendingBell where
  word : BellWord
  /-- effective time E, from the horizon in force at ORIGIN -/
  effective : Ticks
  /-- release time ORIGIN + T_MAX, or the arrival when later -/
  releaseAt : Ticks
  /-- arrival at this device's bell unit -/
  arrived : Ticks
  late : Bool
  released : Bool
  passed : Bool
  /-- the Joiners have it (at most one bell in an ECLK cycle, R70) -/
  heard : Bool
  deriving DecidableEq, Repr

/-- A BELL_RING write held for the 20 ns admission test (R177). -/
structure HeldRing where
  req : Req
  number : Nat
  payload : Byte
  deriving DecidableEq, Repr

/-- A member as TRUSS_MAP shows it (R197). -/
structure Member where
  /-- present. | 1 | R197, 07_bells_and_truss.md TRUSS_MAP | 0 -/
  present : Bool := false
  /-- XM2412. | 1 | R197, 07_bells_and_truss.md TRUSS_MAP | 0 -/
  old : Bool := false
  /-- parent. | 6 | R197, 07_bells_and_truss.md TRUSS_MAP | 0 -/
  parent : Nat := 0
  deriving DecidableEq, Repr

/-- Bells and the truss (OD 0x2500, but for its lanes). -/
structure Truss where
  /-- DEVICE_NUM as stored. | 8 | R197, 07_bells_and_truss.md | 0 -/
  num : Nat := 0
  /-- Horizons in force: from each switch time on, newest first. | list | R185, 07_bells_and_truss.md HORIZON | 640 -/
  horizons : List (Ticks × Nat) := []
  /-- T_MAX in force: from each switch time on, newest first. | list | R185 R186, 07_bells_and_truss.md TRANSPORT_MAX | 0 -/
  tmaxes : List (Ticks × Nat) := []
  /-- H_MIN. | 16 | R185, 07_bells_and_truss.md | 160 -/
  hMin : Nat := 160
  /-- DIAMETER. | 6 | R197, 07_bells_and_truss.md TRUSS_STATUS | 0 -/
  diameter : Nat := 0
  /-- BELL_OWNER: owners in force from each switch time on, newest first, by number. | 256 x 8 | R176 R179, 07_bells_and_truss.md | 0 -/
  owners : Sparse (List (Ticks × Nat)) := []
  /-- The UP link has completed JOIN: the device is a member (R179). | 1 | R179, 07_bells_and_truss.md | 0 -/
  joined : Bool := false
  /-- LATE_POLICY. | 8 | R190, 07_bells_and_truss.md | 1 DROP -/
  latePolicy : Nat := 1
  /-- EPOCH_VALUE. | 64 | R182, 07_bells_and_truss.md | 0 -/
  epochValue : Ticks := 0
  /-- EPOCH_SET. | 1 | R182, 07_bells_and_truss.md TRUSS_STATUS | 0 -/
  epochSet : Bool := false
  /-- TIME_APPROX. | 1 | R183, 07_bells_and_truss.md TRUSS_STATUS | 0 -/
  timeApprox : Bool := false
  /-- TIME_VALID. | 1 | 07_bells_and_truss.md TRUSS_STATUS | 0 -/
  timeValid : Bool := false
  /-- MIXED in force from each switch time on, newest first. | 1 | R179 R196, 07_bells_and_truss.md TRUSS_STATUS | 0 -/
  mixes : List (Ticks × Nat) := []
  /-- BROKEN. | 1 | R198, 07_bells_and_truss.md TRUSS_STATUS STATE | 0 -/
  broken : Bool := false
  /-- BREAK_SEEN LATE REF_MISMATCH HORIZON_RAISED ID_CONFLICT EPOCH_PPS_MISS (TRUSS_STATUS [23:18]). | 6 | 07_bells_and_truss.md TRUSS_STATUS | 0 -/
  flags : BitVec 6 := 0
  /-- LATE_BELLS. | 32 | R189, 07_bells_and_truss.md | 0 -/
  lateBells : Nat := 0
  /-- SLOW_BELLS. | 32 | R186, 07_bells_and_truss.md | 0 -/
  slowBells : Nat := 0
  /-- BELLS_REFUSED. | 32 | R176 R177, 07_bells_and_truss.md | 0 -/
  refused : Nat := 0
  /-- MK_CFG of each port. | 16 x 32 | R175, 07_bells_and_truss.md | 0 -/
  mkCfg : Sparse Word := []
  /-- MK_BELLS_LOST. | 32 | R177, 07_bells_and_truss.md | 0 -/
  mkLost : Nat := 0
  /-- TRUSS_MAP (members other than this king post; D0 itself is present where KING reads 1). | 64 x 8 | R197, 07_bells_and_truss.md | 0 -/
  map : Sparse Member := []
  /-- BREAK_POLICY. | 64 x 8 | R199, 07_bells_and_truss.md | 0 HOLD -/
  policy : Sparse Nat := []
  /-- BREAK_BELL EN and number. | 16 | R198, 07_bells_and_truss.md | 0 -/
  breakBell : BitVec 16 := 0
  /-- BREAK_TIME. | 64 | R198, 07_bells_and_truss.md | 0 -/
  breakTime : Ticks := 0
  /-- REJOIN_STEP. | 64 | R181, 07_bells_and_truss.md | 0 -/
  rejoinStep : Int := 0
  /-- TIME_RESIDUE, fs. | 32 | R181, 07_bells_and_truss.md | 0 -/
  residue : Int := 0
  /-- LINK_LOSSES. | 32 | R194, 07_bells_and_truss.md | 0 -/
  linkLosses : Nat := 0
  /-- TRAIN_FAILS. | 32 | R195, 07_bells_and_truss.md | 0 -/
  trainFails : Nat := 0
  /-- BAD_BLOCKS. | 32 | R191, 07_bells_and_truss.md | 0 -/
  badBlocks : Nat := 0
  /-- Origin of the last bell admitted, by number. | 256 x 64 | R177, 07_bells_and_truss.md | none -/
  lastOrigin : Sparse (Option Ticks) := []
  /-- Bells awaiting release or passing, by effective time and number. | 512 | R186, 07_bells_and_truss.md | none -/
  bells : List PendingBell := []
  /-- The ECLK cycle from which the next bell may reach the Joiners. | Nat | R70, 03_joiners.md | 0 -/
  heardCycle : Nat := 0
  /-- BELL_RING writes held by the admission test. | list | R177, 07_bells_and_truss.md | none -/
  heldRings : List HeldRing := []
  /-- The PPS_IN edge that an accepted EPOCH_CMD PPS predicted, device time (fs), until the actual edge. | time | R182, 07_bells_and_truss.md | none -/
  ppsDue : Option Nat := none
  /-- Truss time is still to be recovered by a transfer (R183). | 1 | R183, 07_bells_and_truss.md | 0 -/
  recover : Bool := false
  /-- The moment (its ECLK cycle) at which a flag of TRUSS_STATUS was last set, and the flags from before that cycle; the same of LATE_BELLS. | moment + 6, moment + 32 | R304, 11_object_dictionary.md | none -/
  flagsWas : Option (Nat × BitVec 6) := none
  lateWas : Option (Nat × Nat) := none
  /-- Truss settings waiting for their switch time, in order of S. | list | R179, 07_bells_and_truss.md | none -/
  settings : List SettingChange := []
  /-- Bells on their way to the bell unit while ECLK stands, oldest first. | list | R14, 01_architecture.md | none -/
  inbound : List BellWord := []
  /-- Effective times of the TRUSS resets not yet carried out. | list | R201, 07_bells_and_truss.md | none -/
  resets : List Ticks := []
  deriving DecidableEq, Repr

/-! ## Lanes and links (07, 08) -/

/-- Link training states, coded as LINK_STATUS LSTATE codes them (R195). -/
inductive LinkState where
  | disabled | signal | blockLock | capability | rate | delay | join | up | refused
  deriving DecidableEq, Repr

/-- A message whose blocks are still arriving on a RONZAL lane (R207, R218). -/
structure LaneMsg where
  /-- window page of an accepted BULK_WRITE -/
  page : Option Nat
  /-- absolute byte address of the next data byte -/
  addr : Nat
  /-- data bytes still due -/
  due : Nat
  /-- the message was refused: its data is passed over -/
  skip : Bool
  deriving DecidableEq, Repr

/-- One quad (QUAD_CFG). -/
structure Quad where
  /-- QUAD_EN. | 1 | R204, 08_lanes_and_streaming.md | 0 -/
  en : Bool := false
  /-- MODE: 0 OFF, 1 RONZAL, 2 ETH. | 2 | R204, 08_lanes_and_streaming.md | 0 -/
  mode : Nat := 0
  deriving DecidableEq, Repr

/-- One lane: link, credit, bulk, ETH port and test (OD 0x2500:13-15, 0x2600:04-1A). -/
structure Lane where
  /-- LINK_CFG role: 0 NONE, 1 UP, 2 DOWN. | 2 | R197, 07_bells_and_truss.md | 0 -/
  role : Nat := 0
  /-- LSTATE. | 4 | R195, 07_bells_and_truss.md LINK_STATUS | DISABLED -/
  link : LinkState := .disabled
  /-- VERSION of the link. | 2 | R196, 07_bells_and_truss.md LINK_STATUS | 0 -/
  version : Nat := 0
  /-- PARTNER_OLD. | 1 | R196, 07_bells_and_truss.md LINK_STATUS | 0 -/
  partnerOld : Bool := false
  /-- LOST. | 1 | R194, 07_bells_and_truss.md LINK_STATUS | 0 -/
  lost : Bool := false
  /-- ROLE_MISMATCH. | 1 | R197 R205, 07_bells_and_truss.md LINK_STATUS | 0 -/
  roleBad : Bool := false
  /-- ROLE_MISMATCH of LANE_STATUS (cleared by its own read). | 1 | R205, 08_lanes_and_streaming.md LANE_STATUS | 0 -/
  roleBadLane : Bool := false
  /-- REF_MISMATCH. | 1 | R184, 07_bells_and_truss.md LINK_STATUS | 0 -/
  refBad : Bool := false
  /-- ID_CONFLICT. | 1 | R197, 07_bells_and_truss.md LINK_STATUS | 0 -/
  idBad : Bool := false
  /-- PARTNER. | 6 | 07_bells_and_truss.md LINK_STATUS | 0 -/
  partner : Nat := 0
  /-- One-way delay held to 2^-16 tick. | 64 | R192, 07_bells_and_truss.md LINK_DELAY | 0 -/
  delay : Nat := 0
  /-- Sum of the round trips of DELAY so far, 2^-16 tick. | 80 | R195, 07_bells_and_truss.md | 0 -/
  trips : Nat := 0
  /-- Exchanges of DELAY completed. | 11 | R195, 07_bells_and_truss.md | 0 -/
  exchanges : Nat := 0
  /-- T_A of the REQUEST last sent on this lane, 2^-16 tick. | 64 | R192, 07_bells_and_truss.md | 0 -/
  requestTa : BitVec 64 := 0
  /-- The devices that have reported through this DOWN lane. | 64 | R192, 07_bells_and_truss.md | none -/
  below : List Nat := []
  /-- Device time (fs) at which LSTATE was entered. | time | R195, 07_bells_and_truss.md | 0 -/
  since : Nat := 0
  /-- Device time (fs) of the last good HEARTBEAT. | time | R194, 07_bells_and_truss.md | 0 -/
  heardAt : Nat := 0
  /-- Device time (fs) of the last HEARTBEAT sent. | time | R194, 07_bells_and_truss.md | 0 -/
  saidAt : Nat := 0
  /-- LINK_SEQ: heartbeats sent since UP. | 32 | R192, 07_bells_and_truss.md | 0 -/
  seq : Nat := 0
  /-- Consecutive heartbeats more than 16 ticks off. | 3 | R184, 07_bells_and_truss.md | 0 -/
  offBeats : Nat := 0
  /-- LANE_TEST. | 8 | R222, 08_lanes_and_streaming.md | 0 -/
  test : Nat := 0
  /-- Device time (fs) at which the test began. | time | R222, 08_lanes_and_streaming.md | 0 -/
  testSince : Nat := 0
  /-- PRBS_BITS. | 64 | R222, 08_lanes_and_streaming.md | 0 -/
  prbsBits : Nat := 0
  /-- PRBS_ERRORS. | 64 | R222, 08_lanes_and_streaming.md | 0 -/
  prbsErrors : Nat := 0
  /-- PRBS_LOCK, as it stood when the checker was last looked at. | 1 | R222, 08_lanes_and_streaming.md | 0 -/
  prbsLock : Bool := false
  /-- Device time (fs) at which the checker was last looked at. | time | R222, 08_lanes_and_streaming.md | 0 -/
  prbsAt : Nat := 0
  /-- SENT: data blocks sent since UP. | 32 | R208, 08_lanes_and_streaming.md | 0 -/
  sent : Nat := 0
  /-- Messages that wait to be sent in data blocks, oldest first, with the blocks of each still to go. | list | R207 R208, 08_lanes_and_streaming.md | empty -/
  outbox : List (OutMsg × Nat) := []
  /-- FREED of this receiver since UP. | 32 | R208, 08_lanes_and_streaming.md | 0 -/
  freed : Nat := 0
  /-- Blocks at the front of the landing buffer that came before the lane last entered UP: they count in no FREED. | Nat | R208 R209, 08_lanes_and_streaming.md | 0 -/
  stale : Nat := 0
  /-- FREED last received from the partner. | 32 | R208, 08_lanes_and_streaming.md | 0 -/
  partnerFreed : Word := 0
  /-- Landing buffer, oldest block first; none marks where the rest of a message was discarded (R209). | 512 x 256 | R208, 08_lanes_and_streaming.md | empty -/
  landing : List (Option (BitVec 256)) := []
  /-- Data blocks still to arrive of the message that is arriving. | Nat | R207 R209, 08_lanes_and_streaming.md | 0 -/
  rxDue : Nat := 0
  /-- Device time (fs) since which the landing buffer is full. | time | R211, 08_lanes_and_streaming.md | none -/
  fullSince : Option Nat := none
  /-- CREDIT_ZERO_NS, in fs. | 64 | R211, 08_lanes_and_streaming.md | 0 -/
  zeroFs : Nat := 0
  /-- CREDIT_VIOLATIONS. | 32 | R209, 08_lanes_and_streaming.md | 0 -/
  violations : Nat := 0
  /-- The rest of a message that broke credit is being discarded. | 1 | R209, 08_lanes_and_streaming.md | 0 -/
  discarding : Bool := false
  /-- CTRL_DISPLACED. | 32 | R206, 08_lanes_and_streaming.md | 0 -/
  displaced : Nat := 0
  /-- Control blocks placed in the current superframe, and its number. | 4 + Nat | R206, 08_lanes_and_streaming.md | 0 -/
  superframe : Nat × Nat := (0, 0)
  /-- Data blocks sent in the current superframe. | 11 | R206, 08_lanes_and_streaming.md | 0 -/
  dataSlots : Nat := 0
  /-- The message in progress. | record | R218, 08_lanes_and_streaming.md | none -/
  msg : Option LaneMsg := none
  /-- The ODA message that is coming in over a truss link: its blocks so far. | bytes | R207, 08_lanes_and_streaming.md | none -/
  inMsg : Bytes := []
  /-- Its blocks still to come out of the landing buffer. | Nat | R207, 08_lanes_and_streaming.md | 0 -/
  inDue : Nat := 0
  /-- MSG_TRUNCATED. | 32 | R218, 08_lanes_and_streaming.md | 0 -/
  truncated : Nat := 0
  /-- MSG_REFUSED. | 32 | R216, 08_lanes_and_streaming.md | 0 -/
  refused : Nat := 0
  /-- BULK_SEQ_GAPS. | 32 | R220, 08_lanes_and_streaming.md | 0 -/
  seqGaps : Nat := 0
  /-- Sequence number of the last bulk message since UP. | 32 | R220, 08_lanes_and_streaming.md | none -/
  bulkSeq : Option Word := none
  /-- LANE_DOWNS. | 32 | R205, 08_lanes_and_streaming.md | 0 -/
  downs : Nat := 0
  /-- OVER_RATE CREDIT_VIOL SEQ_GAP LINK_DOWN (LANE_STATUS [23:20]). | 4 | 08_lanes_and_streaming.md LANE_STATUS | 0 -/
  flags : BitVec 4 := 0
  /-- ETH_MAC as rewritten by the host; none reads the factory value. | 64 | R392 R224, 08_lanes_and_streaming.md | factory value, free (log 9) -/
  mac : Option (BitVec 48) := none
  /-- ETH_IPV4. | 32 | R212, 08_lanes_and_streaming.md | 0 -/
  ipv4 : Word := 0
  /-- ETH_VLAN EN. | 1 | R212, 08_lanes_and_streaming.md | 0 -/
  vlanEn : Bool := false
  /-- ETH_VLAN VID. | 12 | R212, 08_lanes_and_streaming.md | 0 -/
  vid : BitVec 12 := 0
  /-- ETH_PMD. | 8 | R212, 08_lanes_and_streaming.md | 0 KR1 -/
  pmd : Nat := 0
  /-- Frames in the ingress buffer, oldest first: the bytes of each that have not left. | 4 MiB | R214, 08_lanes_and_streaming.md | empty -/
  ingress : List Nat := []
  /-- ETH_RX_FRAMES. | 64 | R214, 08_lanes_and_streaming.md | 0 -/
  rxFrames : Nat := 0
  /-- ETH_DROPPED. | 32 | R214, 08_lanes_and_streaming.md | 0 -/
  ethDropped : Nat := 0
  /-- ETH_DROP_BYTES. | 64 | R214, 08_lanes_and_streaming.md | 0 -/
  dropBytes : Nat := 0
  /-- ETH_FCS_ERRORS. | 32 | R213, 08_lanes_and_streaming.md | 0 -/
  fcsErrors : Nat := 0
  /-- ETH_OTHER. | 32 | R213, 08_lanes_and_streaming.md | 0 -/
  other : Nat := 0
  /-- ETH_PAUSE_RX. | 32 | R212, 08_lanes_and_streaming.md | 0 -/
  pauseRx : Nat := 0
  /-- ETH_BUF_PEAK. | 32 | R214, 08_lanes_and_streaming.md | 0 -/
  peak : Nat := 0
  deriving DecidableEq, Repr

/-! ## Time-interval unit (09_time_interval_unit.md) -/

/-- A stamp (R233). -/
structure Stamp where
  /-- COARSE * 2^20 + FRAC, FU from the epoch -/
  fu : Int
  rising : Bool
  tbXtal : Bool
  src : Nat
  seq : BitVec 16
  channel : Nat
  /-- an edge was missed between the channel's previous stamp and this one -/
  gap : Bool
  deriving DecidableEq, Repr

/-- Measurement slot states, coded as MEAS_STATUS codes them. -/
inductive SlotState where
  | idle | armed | running | done | stopped | calibrating | aborted
  deriving DecidableEq, Repr

/-- A bin table (R247, R248, R274): ideal after no load, rebuilt from a summary, or counted by a run. -/
inductive BinTable where
  /-- rebuilt from seven knot deviations and H_DIV (R274) -/
  | rebuilt (dev : List Int) (hDiv : Nat)
  /-- from the hits of each code of a passing run (R247) -/
  | counted (hits : Sparse Nat)
  deriving DecidableEq, Repr

/-- A running measurement as it stood at a TIU_CMD STOP, and the ECLK cycle of the STOP (R251). -/
structure SlotStop where
  cycle : Nat
  armAt : Option Int
  starts : List Stamp
  stops : List Stamp
  gateN : Nat
  deriving DecidableEq, Repr

/-- One TIU channel and the measurement slot it owns (OD 0x2700:05-17, 1F). -/
structure TiuSlot where
  /-- What a STOP of the running measurement took from the slot. | record | R251, 09_time_interval_unit.md | none -/
  stopped : Option SlotStop := none
  /-- TIU_CH_CFG. | 32 | R225, 09_time_interval_unit.md | 0x0000_0600 -/
  cfg : Word := 0x600
  /-- TIU_MEAS. | 32 | R237, 09_time_interval_unit.md | 0 -/
  meas : Word := 0
  /-- TIU_N. | 32 | R238, 09_time_interval_unit.md | 1 -/
  n : Nat := 1
  /-- FREQ_GATE, us. | 32 | R240, 09_time_interval_unit.md | 1,000 -/
  gate : Nat := 1000
  /-- CMP_LO. | 64 | R243, 09_time_interval_unit.md | 0 -/
  cmpLo : Int := 0
  /-- CMP_HI. | 64 | R243, 09_time_interval_unit.md | 0 -/
  cmpHi : Int := 0
  /-- CMP_BELL. | 8 | R243, 09_time_interval_unit.md | 0 -/
  cmpBell : Nat := 0
  /-- STATE. | 3 | R237 R238, 09_time_interval_unit.md MEAS_STATUS | IDLE -/
  state : SlotState := .idle
  /-- The state held before a code-density run. | 3 | R247, 09_time_interval_unit.md | IDLE -/
  before : SlotState := .idle
  /-- ORDER MISSED LATE_ARM TB_XTAL TAP_GAP RANGE_OVER CMP_HIT CMP_REFUSED (MEAS_STATUS [28:21]). | 8 | 09_time_interval_unit.md MEAS_STATUS | 0 -/
  flags : BitVec 8 := 0
  /-- Arming time T_A once fixed, in FU from the epoch. | 84 | R237, 09_time_interval_unit.md | none -/
  armAt : Option Int := none
  /-- Results produced towards N. | 33 | R238, 09_time_interval_unit.md | 0 -/
  made : Nat := 0
  /-- count. | 64 | R244, 09_time_interval_unit.md | 0 -/
  count : Nat := 0
  /-- s1. | 128 | R244, 09_time_interval_unit.md | 0 -/
  s1 : Int := 0
  /-- s2. | 192 | R244, 09_time_interval_unit.md | 0 -/
  s2 : Nat := 0
  /-- xmin. | 64 | R244, 09_time_interval_unit.md | 0 -/
  xmin : Int := 0
  /-- xmax. | 64 | R244, 09_time_interval_unit.md | 0 -/
  xmax : Int := 0
  /-- last. | 64 | R244, 09_time_interval_unit.md | 0 -/
  last : Int := 0
  /-- Start stamps not yet paired (PERIOD: the previous edge; FREQUENCY: the gate's first), oldest first. | list | R239 R240 R241, 09_time_interval_unit.md | none -/
  starts : List Stamp := []
  /-- Stop stamps not yet paired, oldest first. | list | R239 R241, 09_time_interval_unit.md | none -/
  stops : List Stamp := []
  /-- Intervals of the open frequency gate. | Nat | R240, 09_time_interval_unit.md | 0 -/
  gateN : Nat := 0
  /-- PAIR_RESYNCS. | 32 | R239, 09_time_interval_unit.md | 0 -/
  resyncs : Nat := 0
  /-- MISSED. | 32 | R231, 09_time_interval_unit.md | 0 -/
  missed : Nat := 0
  /-- MISSED_FULL. | 32 | R232, 09_time_interval_unit.md | 0 -/
  missedFull : Nat := 0
  /-- An edge has been missed since the channel's last stamp. | 1 | R239 R240, 09_time_interval_unit.md | 0 -/
  gap : Bool := false
  /-- SEQ: qualifying edges counted. | 16 | R232, 09_time_interval_unit.md | 0 -/
  seq : BitVec 16 := 0
  /-- Stamp queue, oldest first. | 256 x 128 | R232, 09_time_interval_unit.md | empty -/
  queue : List Stamp := []
  /-- Device times (fs) of the last four stamped edges, newest first. | 4 | R231, 09_time_interval_unit.md | none -/
  stampedAt : List Nat := []
  /-- Next interpolator in rotation. | 2 | R231, 09_time_interval_unit.md | 0 -/
  rot : Nat := 0
  /-- MK_MISSED of MK port of this index. | 32 | R250, 09_time_interval_unit.md | 0 -/
  mkMissed : Nat := 0
  /-- Device times (fs) of the port's last two stamped MK edges, newest first. | 2 | R250, 09_time_interval_unit.md | none -/
  mkAt : List Nat := []
  /-- Next MK interpolator in rotation. | 1 | R250, 09_time_interval_unit.md | 0 -/
  mkRot : Nat := 0
  /-- Stamps still in the start channel's queue that no longer take part (a resynchronisation, a gating edge). | 9 | R237 R239, 09_time_interval_unit.md | 0 -/
  skipA : Nat := 0
  /-- The same in the stop channel's queue. | 9 | R237 R239, 09_time_interval_unit.md | 0 -/
  skipB : Nat := 0
  deriving DecidableEq, Repr

/-- The TIU as a whole (OD 0x2700:01-04, 18-1E). -/
structure Tiu where
  /-- TB_SEL: XTAL when true. | 8 | R235, 09_time_interval_unit.md | 0 EXT -/
  xtal : Bool := false
  /-- TB_POLICY: STOP when true. | 8 | R236, 09_time_interval_unit.md | 0 FALLBACK -/
  stop : Bool := false
  /-- TB (0 EXT, 2 EXT_HOLDOVER, 3 STOPPED; XTAL is worked out). | 2 | R235 R236, 09_time_interval_unit.md TIU_STATUS | 0 -/
  tb : Nat := 0
  /-- TB_LOST. | 1 | R236, 09_time_interval_unit.md TIU_STATUS | 0 -/
  lost : Bool := false
  /-- The time-base loop is on the crystal, or has not rejoined REFIN since. | 1 | R150 R235, 09_time_interval_unit.md | 0 -/
  onXtal : Bool := false
  /-- The slews that TCLK has made and makes, newest first: what relates device time to the time that TCLK counts. | list | R165 R236, 09_time_interval_unit.md | none -/
  warps : List Warp := []
  /-- The time-base loop has rejoined REFIN on its own, before the main loop. | 1 | R236, 09_time_interval_unit.md | 0 -/
  own : Bool := false
  /-- Channels and slots (16), and the calibration channel 16. | 17 records | R225 R249, 09_time_interval_unit.md | as TiuSlot -/
  slots : Sparse TiuSlot := []
  /-- CAL_RUNNING and CAL_CH: the channel under a code-density run. | 1 + 5 | R247, 09_time_interval_unit.md TIU_STATUS | none -/
  cal : Option Nat := none
  /-- The ECLK cycle in which that run began. | Nat | R251, 09_time_interval_unit.md | 0 -/
  calCycle : Nat := 0
  /-- Bin tables of the 100 interpolators. | 100 x 4,096 x 16 | R248 R274, 09_time_interval_unit.md | Yearbook: DESIGN CHOICE linear (log 7) -/
  tables : Sparse BinTable := []
  /-- Channel from which the drain goes on in rotation. | 4 | R232, 09_time_interval_unit.md | 0 -/
  drainAt : Nat := 0
  /-- Earliest device time (fs) of the next drain. | time | R232, 09_time_interval_unit.md | 0 -/
  drainNext : Nat := 0
  /-- Stream ring records by slot. | 65,536 x 128 | R242, 09_time_interval_unit.md | none -/
  ring : Sparse (Option Stamp) := []
  /-- STREAM_HEAD. | 32 | R242, 09_time_interval_unit.md | 0 -/
  head : Word := 0
  /-- STREAM_TAIL. | 32 | R242, 09_time_interval_unit.md | 0 -/
  tail : Word := 0
  /-- STREAM_DROPPED. | 32 | R242, 09_time_interval_unit.md | 0 -/
  dropped : Nat := 0
  deriving DecidableEq, Repr

/-! ## Plumb and the Yearbook (10_plumb_and_yearbook.md) -/

/-- The kind of a core run in progress. -/
inductive RunKind where
  | amp | time
  deriving DecidableEq, Repr

/-- The core run in progress (R260, R265). -/
structure CoreRun where
  core : Nat
  kind : RunKind
  /-- the result of the first run of the pair, once made -/
  first : Option PlumbResult
  /-- the channel was handed over (cover or hold) -/
  handed : Bool
  /-- retries of this kind made -/
  retries : Nat
  deriving DecidableEq, Repr

/-- A Yearbook record (R271 to R274) as it stands in its slot. -/
structure YbRecord where
  /-- SEAL. | 1 | R271, 10_plumb_and_yearbook.md | slot 0: 1 -/
  sealed : Bool
  /-- TYPE. | 8 | R271, 10_plumb_and_yearbook.md | slot 0: 0 -/
  type : Nat
  /-- SEQ. | 32 | R271, 10_plumb_and_yearbook.md | slot 0: 0 -/
  seq : Nat
  /-- UTC. | 64 | R271, 10_plumb_and_yearbook.md | slot 0: UNSET (log 7) -/
  utc : BitVec 64
  /-- FAILED_CORES. | 16 | R271, 10_plumb_and_yearbook.md | slot 0: 0 (log 7) -/
  failedCores : Nat
  /-- TEMP_MEAN. | 16 | R271, 10_plumb_and_yearbook.md | slot 0: 0 (log 7) -/
  tempMean : Int
  /-- VREF_NOM. | 32 | R271, 10_plumb_and_yearbook.md | slot 0: 0 (log 7) -/
  vrefNom : Nat
  /-- REF_FREQ. | 32 | R271, 10_plumb_and_yearbook.md | slot 0: 10,000,000 (log 7) -/
  refFreq : Nat
  /-- TRIMS with FLAGS. | 72 x 70 bytes | R272, 10_plumb_and_yearbook.md | slot 0: no adjustment (log 7) -/
  trims : Sparse (Trims × BitVec 8)
  /-- SYN-M bands. | 64 x 8 bytes | R273, 10_plumb_and_yearbook.md | slot 0: one band (log 8) -/
  bandsM : Sparse Band
  /-- SYN-A bands. | 64 x 8 bytes | R273, 10_plumb_and_yearbook.md | slot 0: one band (log 8) -/
  bandsA : Sparse Band
  /-- TIU summaries: seven deviations and H_DIV. | 100 x 16 bytes | R274, 10_plumb_and_yearbook.md | slot 0: linear (log 7) -/
  tiu : Sparse (List Int × Nat)
  /-- Read-back found every programmed word right (the digest field matches). | 1 | R275 R279, 10_plumb_and_yearbook.md | slot 0: 1 -/
  intact : Bool
  /-- 8-byte words programmed from byte 0 on. | 10 | R278 R279, 10_plumb_and_yearbook.md | slot 0: all 1,021 -/
  words : Nat
  deriving DecidableEq, Repr

/-- Plumb and the Yearbook (OD 0x2800). -/
structure Plumb where
  /-- PLUMB_MODE: 0 AUTO, 1 MANUAL, 2 FACTORY_ONLY. | 8 | R269, 10_plumb_and_yearbook.md | 0 -/
  mode : Nat := 0
  /-- PLUMB_DT. | 16 | 10_plumb_and_yearbook.md 0x2800:02 | 32 -/
  dt : Nat := 32
  /-- PLUMB_PERIOD, s. | 32 | R259, 10_plumb_and_yearbook.md | 0 -/
  period : Nat := 0
  /-- Device time (fs) from which PLUMB_PERIOD counts: the last periodic trigger, or the write that turned it on. | time | R259, 10_plumb_and_yearbook.md | 0 -/
  periodAt : Nat := 0
  /-- VREF_NOM, uV. | 32 | R258, 10_plumb_and_yearbook.md | 0 -/
  vrefNom : Nat := 0
  /-- VREF_MEAS, uV. | 32 | R257, 10_plumb_and_yearbook.md | 0 -/
  vrefMeas : Nat := 0
  /-- DISAGREE FAILED REFUSED RANGE ABORTED (PLUMB_STATUS [23:19]). | 5 | 10_plumb_and_yearbook.md PLUMB_STATUS | 0 -/
  flags : BitVec 5 := 0
  /-- The core run in progress (CORE_BUSY, CURRENT). | record | R260, 10_plumb_and_yearbook.md PLUMB_STATUS | none, CURRENT 0x7F -/
  run : Option CoreRun := none
  /-- TIU flag and its rank. | 1 + rank | R259, 10_plumb_and_yearbook.md | none -/
  tiuFlag : Option PlumbRank := none
  /-- TIU run in progress (TIU_BUSY): the next channel, 0 to 16. | 5 | R256, 10_plumb_and_yearbook.md | none -/
  tiuRun : Option Nat := none
  /-- The first run's hits of the TIU channel under the run. | tables | R256 R265 R266, 10_plumb_and_yearbook.md | none -/
  tiuFirst : Option (List (Fin 100 × Sparse Nat)) := none
  /-- The TIU run in progress has installed a table. | 1 | R259, 10_plumb_and_yearbook.md | 0 -/
  tiuInstalled : Bool := false
  /-- The TIU flag stays after a run whose check failed: the run is tried again once its preconditions hold. | 1 | R264, 10_plumb_and_yearbook.md | 0 -/
  tiuHeld : Bool := false
  /-- Retries of the TIU channel under the run. | 2 | R266, 10_plumb_and_yearbook.md | 0 -/
  tiuRetries : Nat := 0
  /-- TIU_PLUMB_FAILED. | 17 | R266, 10_plumb_and_yearbook.md | 0 -/
  tiuFailed : BitVec 17 := 0
  /-- Clock-die temperature at the last installed TIU run, 1/16 degree. | 16 | R259, 10_plumb_and_yearbook.md | none: no TIU run installed yet -/
  tiuTemp : Option (BitVec 16) := none
  /-- No trigger acts until a faulty register of 0x2800 is rewritten. | 1 | R302, 11_object_dictionary.md | 0 -/
  parity : Bool := false
  /-- YB_UTC. | 64 | 10_plumb_and_yearbook.md 0x2800:19 | all ones -/
  utc : BitVec 64 := BitVec.allOnes 64
  /-- Yearbook slots written. | 133 slots | R270, 10_plumb_and_yearbook.md | slot 0 only (log 7) -/
  slots : Sparse (Option YbRecord) := []
  /-- The record being committed and its slot (STATE is IDLE while there is none). | record | R278, 10_plumb_and_yearbook.md YB_STATUS | none -/
  commit : Option (Nat × YbRecord) := none
  /-- Device time (fs) of the commit, and its draw of free values (how long signing takes). | time + Nat | R278, 10_plumb_and_yearbook.md | 0 -/
  commitAt : Nat × Nat := (0, 0)
  /-- Cores and bin tables installed in an ECLK cycle, as they were before it. | cycle + tables | R268, 10_plumb_and_yearbook.md | none -/
  trimsOld : Nat × Sparse (Option (Trims × BitVec 8)) := (0, [])
  tablesOld : Nat × Sparse (Option BinTable) := (0, [])
  /-- DONE. | 1 | R278, 10_plumb_and_yearbook.md YB_STATUS | 0 -/
  done : Bool := false
  /-- PROGRAM_FAIL. | 1 | R279, 10_plumb_and_yearbook.md YB_STATUS | 0 -/
  programFail : Bool := false
  /-- HOLDUP_LOST. | 1 | R279, 10_plumb_and_yearbook.md YB_STATUS | 0 -/
  holdupLost : Bool := false
  /-- FACTORY_BAD. | 1 | R275, 10_plumb_and_yearbook.md YB_STATUS | 0 -/
  factoryBad : Bool := false
  /-- HOLDUP_OK. | 1 | R382, 16_electrical.md YB_STATUS | 0 -/
  holdupOk : Bool := false
  /-- Device time (fs) of the last hold-up test since POR release. | time | R382, 16_electrical.md | none -/
  holdupAt : Option Nat := none
  /-- The outcome of a hold-up test that fell due during programming. | 1 | R382, 16_electrical.md | none -/
  holdupDue : Option Bool := none
  /-- YB_COMMITS. | 16 | R278, 10_plumb_and_yearbook.md | 0 -/
  commits : Nat := 0
  /-- YB_LAST_UTC. | 64 | R278, 10_plumb_and_yearbook.md | all ones -/
  lastUtc : BitVec 64 := BitVec.allOnes 64
  /-- YB_IN_FORCE. | 8 | R275, 10_plumb_and_yearbook.md | 0 -/
  inForce : Nat := 0
  /-- YB_READ_SLOT. | 8 | 10_plumb_and_yearbook.md 0x2800:20 | 0 -/
  readSlot : Nat := 0
  /-- Device time (fs) of the last host write of YB_UTC. | time | R305, 11_object_dictionary.md | none -/
  utcAt : Option Nat := none
  /-- Device time (fs) of the last seal, which sets YB_UTC to UNSET. | time | R278 R305, 10_plumb_and_yearbook.md | none -/
  sealedAt : Option Nat := none
  /-- YB_SKIPPED. | 16 | R275, 10_plumb_and_yearbook.md | 0 -/
  skipped : Nat := 0
  deriving DecidableEq, Repr

/-! ## ODA, the configuration copy and registers (11_object_dictionary.md) -/

/-- A reply kept in a replay cache (R286). -/
structure CachedReply where
  seq : Word
  type : BitVec 8
  /-- DEVICE: the device that answers -/
  device : Nat
  field0 : Word
  abort : Word
  data : Bytes
  /-- word 3: OPEN's largest length and version; else 0 -/
  field3 : Word
  deriving DecidableEq, Repr

/-- The selectors of one session (R292). -/
structure Selectors where
  /-- Selector values by entry, key 256 x index + subindex. | 8 to 32 each | R292, 11_object_dictionary.md | 0 (each entry's default) -/
  vals : Sparse Nat := []
  deriving DecidableEq, Repr

/-- An ODA request as its message brings it: header, TYPE, the request's field words 0 to 2, and its data. -/
structure OdaMsg where
  req : Req
  type : BitVec 8
  w0 : Word
  w1 : Word
  w2 : Word
  data : Bytes
  deriving DecidableEq, Repr

/-- One session (R283). -/
structure Session where
  /-- SESSION number. | 32 | R283, 11_object_dictionary.md | - -/
  id : Word
  /-- chosen version. | 4 | R284, 11_object_dictionary.md | - -/
  version : Nat
  /-- port it was opened on. | - | R284, 11_object_dictionary.md | - -/
  port : Port
  /-- device time (fs) of its last message. | time | R283, 11_object_dictionary.md | - -/
  lastAt : Nat
  /-- its selectors. | record | R292, 11_object_dictionary.md | defaults -/
  sel : Selectors
  /-- replay cache, newest first. | 16 replies | R286, 11_object_dictionary.md | empty -/
  cache : List CachedReply
  /-- requests not yet answered (SEQ). | 16 | R285, 11_object_dictionary.md | none -/
  open_ : List Word
  /-- it is a proxy session, opened for the king post's session of the same number. | 1 | R287, 11_object_dictionary.md | no -/
  proxy : Bool
  deriving DecidableEq, Repr

/-- A request the king post has forwarded to a member (R287). -/
structure Routed where
  session : Word
  seq : Word
  type : BitVec 8
  field0 : Word
  device : Fin 64
  sentAt : Nat
  /-- the port its request came in on, and its sender -/
  port : Port
  peer : Peer
  deriving DecidableEq, Repr

/-- An ODA message that has come over a truss link and waits in the mailbox to PCLK (R19, R207). -/
structure Mail where
  lane : Nat
  seq : Word
  session : Word
  bytes : Bytes
  deriving DecidableEq, Repr

/-- ODA (OD 0x1100). -/
structure Oda where
  /-- Own sessions. | 16 | R283, 11_object_dictionary.md SESSIONS_OPEN | none -/
  sessions : List Session := []
  /-- The number the next session takes. | 32 | R283, 11_object_dictionary.md | DESIGN CHOICE 1, counting up (log 10) -/
  next : Word := 1
  /-- SESSION_TIMEOUT, s. | 16 | R283, 11_object_dictionary.md | 60 -/
  timeout : Nat := 60
  /-- ROUTE_TIMEOUT, us. | 32 | R287, 11_object_dictionary.md | 10,000 -/
  routeTimeout : Nat := 10000
  /-- MGMT_IPV4. | 32 | R284, 11_object_dictionary.md | 0 -/
  ipv4 : Word := 0
  /-- ODA_ABORTS. | 32 | R288, 11_object_dictionary.md | 0 -/
  aborts : Nat := 0
  /-- ODA_DUPLICATES. | 32 | R286, 11_object_dictionary.md | 0 -/
  duplicates : Nat := 0
  /-- ODA_BAD_MESSAGES. | 32 | R281, 11_object_dictionary.md | 0 -/
  bad : Nat := 0
  /-- ODA_TIMEOUTS. | 32 | R283, 11_object_dictionary.md | 0 -/
  timeouts : Nat := 0
  /-- ROUTE_TIMEOUTS. | 32 | R287, 11_object_dictionary.md | 0 -/
  routeTimeouts : Nat := 0
  /-- Requests forwarded and not yet answered. | list | R287, 11_object_dictionary.md | none -/
  routed : List Routed := []
  /-- Requests that wait behind a held BELL_RING of their session, in order of arrival. | list | R177 R285, 11_object_dictionary.md | none -/
  waiting : List OdaMsg := []
  /-- Messages in the mailbox between ECLK and PCLK, oldest first. | 64 messages | R19 R285, 01_architecture.md | empty -/
  mailbox : List Mail := []
  deriving DecidableEq, Repr

/-- CFG_STATUS STATE. -/
inductive CfgState where
  | idle | building | checking | writing
  deriving DecidableEq, Repr

/-- A copy in the boot flash (R315, R330): a firmware, configuration or report-card image. -/
structure FlashCopy where
  /-- SEQ. | 32 | R315, 12_power_reset_states.md | - -/
  seq : Nat
  /-- SIGNED. | 1 | R315, 12_power_reset_states.md | - -/
  signed : Bool
  /-- payload. | bytes | R315 R332, 12_power_reset_states.md | - -/
  payload : Bytes
  /-- signature block. | 208 bytes | R328, 13_security_identity.md | - -/
  sig : Bytes
  /-- the header and digest of the copy match. | 1 | R330, 13_security_identity.md | - -/
  good : Bool
  /-- the copy was fitted at manufacture, with a signature of Novinward's that verifies (the MODEL's own field). | 1 | model (log 13), R330 | - -/
  built : Bool := false
  deriving DecidableEq, Repr

/-- The configuration copy's registers (OD 0x1200). -/
structure Cfg where
  /-- CFG_STATUS STATE. | 3 | R300, 11_object_dictionary.md | IDLE -/
  state : CfgState := .idle
  /-- The command in progress, its outcome when it ends (abort code, 0 success) and the image it writes. | 2 + 32 + image | R300, 11_object_dictionary.md | none -/
  job : Option (Nat × Word × Option FlashCopy) := none
  /-- DONE. | 1 | 11_object_dictionary.md CFG_STATUS | 0 -/
  done : Bool := false
  /-- FAILED. | 1 | 11_object_dictionary.md CFG_STATUS | 0 -/
  failed : Bool := false
  /-- ABORT. | 27 | 11_object_dictionary.md CFG_STATUS | 0 -/
  abort : Word := 0
  /-- Staging buffer. | 1,048,576 x 8 | R300, 11_object_dictionary.md | DESIGN CHOICE 0 (log 11) -/
  staging : Sparse Byte := []
  /-- CFG_LENGTH. | 32 | R300, 11_object_dictionary.md | 0 -/
  length : Nat := 0
  /-- Digest of the copy applied at boot (zero: none). | 384 | R341, 13_security_identity.md | 0 -/
  digest : Bytes := List.replicate 48 0
  /-- CFG_SEQ. | 32 | 11_object_dictionary.md 0x1200:06 | 0 -/
  seq : Nat := 0
  /-- CFG_SLOT. | 8 | 11_object_dictionary.md 0x1200:07 | 0 -/
  slot : Nat := 0
  /-- CFG_APPLIED. | 32 | R299, 11_object_dictionary.md | 0 -/
  applied : Nat := 0
  /-- CFG_SKIPPED. | 32 | R299, 11_object_dictionary.md | 0 -/
  skipped : Nat := 0
  /-- CFG_FIRST_SKIP. | 96 | R299, 11_object_dictionary.md | 0 -/
  firstSkip : Bytes := List.replicate 12 0
  deriving DecidableEq, Repr

/-! ## Power, resets and device states (12_power_reset_states.md) -/

/-- Device states, coded as SYS_STATE codes them (OFF is not a state of a powered device). -/
inductive SysState where
  | boot | ready | run | standby | recess | faultSafe
  deriving DecidableEq, Repr

/-- System registers and reset logic (OD 0x2000). -/
structure Sys where
  /-- SYS_STATE. | 8 | R316, 12_power_reset_states.md | 1 BOOT -/
  state : SysState := .boot
  /-- Held in POR. | 1 | R308, 12_power_reset_states.md | 0 -/
  por : Bool := false
  /-- Held in PIN reset, by RST_N or a pin-controlling TAP instruction. | 1 | R321, 12_power_reset_states.md | 0 -/
  pin : Bool := false
  /-- RESET_CAUSE. | 8 | 12_power_reset_states.md reset kinds | 1 POR -/
  cause : Nat := 1
  /-- Device time (fs) of the release that began the boot. | time | R312, 12_power_reset_states.md | 0 -/
  bootAt : Nat := 0
  /-- The boot under way has made its steps up to the pass 2 records and waits for SYN-M. | 1 | R312, 12_power_reset_states.md | 0 -/
  stepsDone : Bool := false
  /-- BOOT_TIME, ms. | 32 | R312, 12_power_reset_states.md | 0 -/
  bootTime : Nat := 0
  /-- Device time (fs) at which the boot reached READY. | time | R349, 14_report_card_and_recess.md | none -/
  readyAt : Option Nat := none
  /-- Device time (fs) of the last POR release, from which crystal seconds count. | time | R347, 14_report_card_and_recess.md | 0 -/
  porAt : Nat := 0
  /-- Device time (fs) at which an accepted WARM begins. | time | R322, 12_power_reset_states.md | none -/
  warmAt : Option Nat := none
  /-- ALERT_STATUS [31:16]. | 16 | R320, 12_power_reset_states.md | 0 -/
  alert : BitVec 16 := 0
  /-- The moment (its ECLK cycle) at which a bit of ALERT_STATUS was last set, and ALERT_STATUS from before that cycle. | moment + 16 | R304, 11_object_dictionary.md | none -/
  alertWas : Option (Nat × BitVec 16) := none
  /-- Causes that stand now: level sources FAULT_SAFE and OVERTEMP (die above 125 degrees). | 1 | R320, 12_power_reset_states.md | 0 -/
  hot : Bool := false
  /-- FS_CAUSE. | 8 | R318, 12_power_reset_states.md | 0 -/
  fsCause : Nat := 0
  /-- ALERT_MASK. | 32 | R320, 12_power_reset_states.md | 0xFFFF_FFFF -/
  alertMask : Word := 0xFFFFFFFF
  /-- WARN. | 13 | R306, 12_power_reset_states.md RAIL_STATUS | 0 -/
  warn : BitVec 13 := 0
  /-- GOOD, once boot has ended: a clear bit marks a rail that has crossed its warning threshold since, whose GOOD is not stated further (log 12). | 13 | R306, 12_power_reset_states.md RAIL_STATUS | GOOD 0 (log 12) -/
  good : BitVec 13 := 0
  /-- SAFE_OFF. | 1 | R317, 12_power_reset_states.md RAIL_STATUS | 0 -/
  safeOff : Bool := false
  /-- A SHUTDOWN waits for its writes to end. | 1 | R317, 12_power_reset_states.md | 0 -/
  shutting : Bool := false
  /-- Registers with a standing parity fault, oldest first (PARITY_ADDR, PARITY_ACTIVE). | list | R302, 11_object_dictionary.md | none -/
  parity : List (EntryRef × Nat) := []
  /-- PARITY_FAULTS. | 32 | R302, 11_object_dictionary.md | 0 -/
  parityFaults : Nat := 0
  /-- CFG_PARITY of REG_STATUS. | 1 | R302, 11_object_dictionary.md REG_STATUS | 0 -/
  cfgParity : Bool := false
  /-- WRITE_LOST. | 1 | R305, 11_object_dictionary.md REG_STATUS | 0 -/
  writeLost : Bool := false
  /-- WRITE_LOST_COUNT. | 32 | R305, 11_object_dictionary.md | 0 -/
  writeLosts : Nat := 0
  /-- LOCK_VIOLATION. | 1 | R301, 11_object_dictionary.md REG_STATUS | 0 -/
  lockViolation : Bool := false
  /-- LOCK_VIOLATIONS. | 32 | R301, 11_object_dictionary.md | 0 -/
  lockViolations : Nat := 0
  /-- RST_N is asserted (`pin` is held by RST_N or by a pin-controlling TAP instruction). | 1 | R321 R374, 12_power_reset_states.md | 0 -/
  rstLow : Bool := false
  /-- DEBUG_LOCK (written once it is 1). | 1 | R301, 11_object_dictionary.md 0x2B00:07 | 0 -/
  debugLock : Bool := false
  /-- RAW_WRITE_EN. | 1 | R296, 11_object_dictionary.md | 0 -/
  rawEn : Bool := false
  deriving DecidableEq, Repr

/-- The engine clock ECLK (R309, R310, R351). -/
structure Eclk where
  /-- Frequency now, Hz. | 32 | R309, 12_power_reset_states.md | 1,200,000,000 -/
  hz : Nat := 1200000000
  /-- ECLK_CEILING, MHz. | 16 | R351, 14_report_card_and_recess.md | 1,200 -/
  ceiling : Nat := 1200
  /-- Device time (fs) and cycle from which cycles are counted at the present frequency. | time + Nat | R60, 03_joiners.md | 0, 0 -/
  base : Nat × Nat := (0, 0)
  /-- ECLK is stopped (STANDBY, RECESS). | 1 | R317, 12_power_reset_states.md | 0 -/
  stopped : Bool := false
  /-- Deepest class of the stretch in progress. | 2 | R309 R310, 12_power_reset_states.md | none -/
  droop : Option DroopClass := none
  /-- Release in progress: device time (fs) it began, frequency it began from, steps made. | time | R310, 12_power_reset_states.md | none -/
  release : Option (Nat × Nat × Nat) := none
  /-- The stretch in progress began during a release: it is no event of its own. | 1 | R310, 12_power_reset_states.md | 0 -/
  again : Bool := false
  deriving DecidableEq, Repr

/-! ## Security (13_security_identity.md) -/

/-- A write of the boot flash in progress (R331). -/
structure FlashJob where
  /-- 1 firmware, 2 configuration, 3 report card -/
  kind : Nat
  /-- the image to be written, with SEQ given at the end -/
  copy : FlashCopy
  deriving DecidableEq, Repr

/-- Security, identity, attestation (OD 0x2900) and the boot flash (R314). -/
structure Sec where
  /-- OWNER_KEY_DIGEST in fuses. | 384 | R336, 13_security_identity.md | 0 unset (log 13) -/
  ownerDigest : Bytes := List.replicate 48 0
  /-- OWNER_POLICY REQ_SIGNED_CODE. | 1 | R338, 13_security_identity.md | 0 -/
  reqSigned : Bool := false
  /-- ATTEST_NONCE. | 256 | R341, 13_security_identity.md | 0 -/
  nonce : Bytes := List.replicate 32 0
  /-- The statement being built (ATTEST_BUSY): its bytes before DIGEST. | bytes | R341, 13_security_identity.md | none -/
  building : Option Bytes := none
  /-- The moment (its ECLK cycle) in which ATTEST_NONCE was last written, and what it held before. | moment + 256 | R344, 13_security_identity.md | none -/
  nonceWas : Option (Nat × Bytes) := none
  /-- The moment (its ECLK cycle) of the last snapshot of a statement. | moment | R341 R344, 13_security_identity.md | none -/
  stmtAt : Option Nat := none
  /-- ATTEST_STATEMENT. | 488 or 5,528 bytes | R341, 13_security_identity.md | empty: none made yet (log 14) -/
  statement : Bytes := []
  /-- STMT_SEQ. | 32 | R342, 13_security_identity.md | 0 -/
  stmts : Nat := 0
  /-- SEC_REFUSALS. | 32 | R343, 13_security_identity.md | 0 -/
  refusals : Nat := 0
  /-- SEC_LAST_ABORT. | 32 | R345, 13_security_identity.md | 0 -/
  lastAbort : Word := 0
  /-- LAST_FAILED. | 1 | 13_security_identity.md SEC_STATUS | 0 -/
  lastFailed : Bool := false
  /-- FW_SRC. | 64 | R334, 13_security_identity.md | 0 -/
  fwSrc : Nat := 0
  /-- FW_LEN. | 32 | R334, 13_security_identity.md | 0 -/
  fwLen : Nat := 0
  /-- CODE_SRC. | 64 | R339, 13_security_identity.md | 0 -/
  codeSrc : Nat := 0
  /-- CODE_LEN. | 32 | R339, 13_security_identity.md | 0 -/
  codeLen : Nat := 0
  /-- REC_LENGTH. | 32 | R335, 13_security_identity.md | 0 -/
  recLength : Nat := 0
  /-- Recovery payload bytes written to the erased target. | 12 MiB | R335, 13_security_identity.md | none -/
  recBytes : Sparse (Option Byte) := []
  /-- The recovery target has been erased. | 1 | R335, 13_security_identity.md | 0 -/
  erased : Bool := false
  /-- FW_BUSY: an install in progress and its verdict (abort code, 0 good). | 1 + 32 | R334, 13_security_identity.md SEC_STATUS | none -/
  fwJob : Option (Word × FlashCopy) := none
  /-- CODE_BUSY: a load in progress: its verdict, Joiner mask, word offset and words. | 1 + image | R339, 13_security_identity.md SEC_STATUS | none -/
  codeJob : Option (Word × Nat × Nat × List Word) := none
  /-- ROLLBACK. | 16 | R333, 13_security_identity.md | Fuse: DESIGN CHOICE 0 (log 13) -/
  rollback : Nat := 0
  /-- ROLLBACK as the last boot found it: what the copies are judged by until the next. | 16 | R333, 13_security_identity.md | 0 -/
  bootRollback : Nat := 0
  /-- An ADVANCE_ROLLBACK in progress. | 1 | R333, 13_security_identity.md | 0 -/
  advancing : Bool := false
  /-- RUN_LEVEL. | 16 | 13_security_identity.md SEC_STATUS | 0 -/
  runLevel : Nat := 0
  /-- FW_VERSION of the firmware running. | 32 | R332, 13_security_identity.md | DESIGN CHOICE 0x0100_0000 (log 13) -/
  fwVersion : Word := 0x01000000
  /-- DIGEST of the header of the running firmware copy. | 384 | R341, 13_security_identity.md | DESIGN CHOICE 0 until the boot reads it (log 13) -/
  fwDigest : Bytes := List.replicate 48 0
  /-- FW_SLOT. | 2 | 13_security_identity.md SEC_STATUS | 0 -/
  fwSlot : Nat := 0
  /-- FW_OTHER_VALID. | 1 | 13_security_identity.md SEC_STATUS | 0 -/
  fwOther : Bool := false
  /-- RECOVERY. | 1 | R335, 13_security_identity.md SEC_STATUS | 0 -/
  recovery : Bool := false
  /-- Flash copies: firmware A 0, B 1; configuration A 2, B 3; report card A 4, B 5. | 6 regions | R314, 12_power_reset_states.md | firmware A only (log 13) -/
  flash : Sparse (Option FlashCopy) := []
  /-- The flash write in progress. | record | R331, 13_security_identity.md | none -/
  job : Option FlashJob := none
  /-- A report-card save waits for the flash write in progress. | 1 | R331, 13_security_identity.md | 0 -/
  saveDue : Bool := false
  deriving DecidableEq, Repr

/-! ## Report card, ageing, recess (14_report_card_and_recess.md) and the TAP (15_package_and_balls.md) -/

/-- The report card (R347) and ageing (R350 to R353). -/
structure Card where
  /-- POWER_CYCLES. | 32 | R347, 14_report_card_and_recess.md | Flash: DESIGN CHOICE 0 (log 15) -/
  cycles : Nat := 0
  /-- POWER_ON_SECONDS summed before the last POR release. | 64 | R347, 14_report_card_and_recess.md | Flash: DESIGN CHOICE 0 (log 15) -/
  seconds : Nat := 0
  /-- THROTTLE_EVENTS. | 32 | R310, 12_power_reset_states.md | Flash: DESIGN CHOICE 0 (log 15) -/
  throttles : Nat := 0
  /-- DROOP_EVENTS by class. | 3 x 32 | R310 R347, 14_report_card_and_recess.md | Flash: DESIGN CHOICE 0 (log 15) -/
  droops : Sparse Nat := []
  /-- LATE_BELLS_LIFE. | 32 | R189, 14_report_card_and_recess.md | Flash: DESIGN CHOICE 0 (log 15) -/
  lateBells : Nat := 0
  /-- UNDERRUNS_LIFE. | 32 | R109, 14_report_card_and_recess.md | Flash: DESIGN CHOICE 0 (log 15) -/
  underruns : Nat := 0
  /-- HBM_CE_LIFE. | 64 | R40, 14_report_card_and_recess.md | Flash: DESIGN CHOICE 0 (log 15) -/
  hbmCe : Nat := 0
  /-- HBM_UE_LIFE. | 64 | R41 R43, 14_report_card_and_recess.md | Flash: DESIGN CHOICE 0 (log 15) -/
  hbmUe : Nat := 0
  /-- FAULT_SAFE_ENTRIES. | 32 | R318, 14_report_card_and_recess.md | Flash: DESIGN CHOICE 0 (log 15) -/
  faultSafes : Nat := 0
  /-- AGEING_STEPS. | 8 | R351, 14_report_card_and_recess.md | 0 -/
  steps : Nat := 0
  /-- DT_STEPS. | 2 | R352, 14_report_card_and_recess.md | 0 -/
  dtSteps : Nat := 0
  /-- CEIL_LOWERED DT_TIGHTENED MARGIN_LOW END_OF_MARGIN MONITOR_FAIL (AGEING_STATUS [31:27]). | 5 | R353, 14_report_card_and_recess.md | 0 -/
  flags : BitVec 5 := 0
  /-- TEMP_HIST, key 16 x die + bin. | 160 x 32 | R348, 14_report_card_and_recess.md | Flash: DESIGN CHOICE 0 (log 15) -/
  hist : Sparse Nat := []
  /-- COMPL_FAULTS_LIFE. | 64 x 32 | R138, 14_report_card_and_recess.md | Flash: DESIGN CHOICE 0 (log 15) -/
  compl : Sparse Nat := []
  /-- PLUMB_LIFE. | 72 x 32 | R265, 14_report_card_and_recess.md | Flash: DESIGN CHOICE 0 (log 15) -/
  plumbs : Sparse Nat := []
  /-- PLUMB_DISAGREE_LIFE. | 72 x 32 | R266, 14_report_card_and_recess.md | Flash: DESIGN CHOICE 0 (log 15) -/
  disagrees : Sparse Nat := []
  /-- LANE_DOWNS_LIFE. | 48 x 32 | R347, 14_report_card_and_recess.md | Flash: DESIGN CHOICE 0 (log 15) -/
  laneDowns : Sparse Nat := []
  /-- MONITORS: DEGRADE_PPM and hours, by die. | 6 x 64 | R350, 14_report_card_and_recess.md | Flash: DESIGN CHOICE 0 (log 15) -/
  monitors : Sparse (Int × Nat) := []
  /-- Oscillator pairs excluded until POR, key 4 x die + pair. | 14 | R350, 14_report_card_and_recess.md | none -/
  excluded : List Nat := []
  /-- TRIM_TREND: worst excursion and its kind, by core. | 72 x 32 | R352, 14_report_card_and_recess.md | Flash: DESIGN CHOICE 0 (log 15) -/
  trend : Sparse (Nat × Nat) := []
  /-- The save in progress: truss time of its snapshot. | 64 | R349, 14_report_card_and_recess.md | none -/
  saving : Option Ticks := none
  /-- POWER_ON_SECONDS at the last periodic save. | 64 | R349, 14_report_card_and_recess.md | 0 -/
  savedAt : Nat := 0
  /-- RC_LAST_SAVE. | 64 | R349, 14_report_card_and_recess.md | 0 -/
  lastSave : Ticks := 0
  /-- The counts have been loaded since the last POR or PIN reset (step 4 of boot). | 1 | R312, 12_power_reset_states.md | 0 -/
  loaded : Bool := false
  /-- The second of crystal time since POR release whose readings TEMP_HIST holds last. | Nat | R348, 14_report_card_and_recess.md | 0 -/
  ticks : Nat := 0
  /-- Once the boot has reached READY: POWER_ON_SECONDS at the last measurement of each die since. | 6 x 64 | R350, 14_report_card_and_recess.md | none -/
  ageing : Option (Sparse (Option Nat)) := none
  deriving DecidableEq, Repr

/-- Recess, capture (OD 0x2B00) and the TAP (R372 to R374). -/
structure Recess where
  /-- FRZ_IGNORE. | 1 | R354, 14_report_card_and_recess.md RECESS_CFG | 0 -/
  ignore : Bool := false
  /-- RECESS_HIGHZ. | 1 | R355, 14_report_card_and_recess.md RECESS_CFG | 0 -/
  highzCfg : Bool := false
  /-- BELL_EN. | 1 | R354, 14_report_card_and_recess.md RECESS_CFG | 0 -/
  bellEn : Bool := false
  /-- BELL. | 8 | R354, 14_report_card_and_recess.md RECESS_CFG | 0 -/
  bell : Nat := 0
  /-- Bells released to the recess logic whose effective time has not passed, or that the recess waits for: number, effective time, late. | list of 8 + 64 + 1 | R354, 14_report_card_and_recess.md | none -/
  dues : List (Nat × Ticks × Bool) := []
  /-- FRZ_N was low at the end of its last deglitch. | 1 | R354, 14_report_card_and_recess.md | 0 -/
  frzLow : Bool := false
  /-- A cause of FAULT-SAFE came about during recess. | 1 | R325, 12_power_reset_states.md | 0 -/
  faulted : Bool := false
  /-- CAPTURE: 0 NONE, 1 CAPTURING, 2 READY. | 3 | R357, 14_report_card_and_recess.md RECESS_STATUS | 0 -/
  capture : Nat := 0
  /-- CAUSE. | 2 | R354, 14_report_card_and_recess.md RECESS_STATUS | 0 -/
  cause : Nat := 0
  /-- LATE_ENTRY. | 1 | R354, 14_report_card_and_recess.md RECESS_STATUS | 0 -/
  late : Bool := false
  /-- HIGHZ. | 1 | R355, 14_report_card_and_recess.md RECESS_STATUS | 0 -/
  highz : Bool := false
  /-- READ_LOCKED. | 1 | R359, 14_report_card_and_recess.md RECESS_STATUS | 0 -/
  readLocked : Bool := false
  /-- FREEZE_TIME. | 64 | R357, 14_report_card_and_recess.md | 0 -/
  freeze : Ticks := 0
  /-- SYS_STATE before the freeze, and the bell number. | 8 + 8 | R357, 14_report_card_and_recess.md | BOOT, 0 -/
  prior : Nat × Nat := (1, 0)
  /-- Device time (fs) of the freeze. | time | R357, 14_report_card_and_recess.md | 0 -/
  at_ : Nat := 0
  /-- Device time (fs) at which the ECLK cycle of the freeze would have ended. | time | R354, 14_report_card_and_recess.md | 0 -/
  cycleEnd : Nat := 0
  /-- The draw of free values made at the freeze, for the bytes of the capture image that the spec does not lay out (the MODEL's own field). | Nat | model (log 2), R357 | DESIGN CHOICE 0 (log 2) -/
  draw : Nat := 0
  /-- TAP instruction register. | 8 | R372, 15_package_and_balls.md | 0x01 IDCODE (Test-Logic-Reset) -/
  ir : BitVec 8 := 1
  /-- Boundary-scan register, cell i at bit i. | 268 | R372, 15_package_and_balls.md | DESIGN CHOICE 0 (log 54) -/
  scan : BitVec 268 := 0
  /-- Next word of the capture read-out. | Nat | R373, 15_package_and_balls.md | 0 -/
  word : Nat := 0
  /-- The capture word loaded for shifting. | 32 | R373, 15_package_and_balls.md | 0 -/
  shift : Word := 0
  deriving DecidableEq, Repr

/-! ## The whole device -/

/-- Truss time: the count at a TCLK edge, and when that edge was (R180). -/
structure TrussTime where
  /-- The count at the device time `at_`. | 64 | R180, 07_bells_and_truss.md | 0 -/
  count : Ticks := 0
  /-- The time (fs) of that TCLK edge: the loops' own while TCLK runs from them, device time while it stands or runs from the crystal alone. | time | R180, 07_bells_and_truss.md | 0 -/
  at_ : Nat := 0
  /-- TCLK runs. | 1 | R180, 07_bells_and_truss.md | 0: SYN-M is disabled -/
  running : Bool := false
  deriving DecidableEq, Repr

/-- The on-chip network (R22, R23). -/
structure Net where
  /-- Device time (fs) up to which the write ports' admission has been worked out (`WpJob.served`). | time | R22, 01_architecture.md | 0 -/
  portsFrom : Nat := 0
  /-- Network traffic other than lanes and Joiner writes that waits for its share of the path into HBM, in bytes / 10^6. | Nat | R23 R210, 08_lanes_and_streaming.md | 0 -/
  traffic : Nat := 0
  /-- What the lanes' share of the last ECLK cycle left below a whole unit of 32 bytes, while lanes wait, in bytes / 10^6. | Nat | R210, 08_lanes_and_streaming.md | 0 -/
  carry : Nat := 0
  /-- The lane whose turn on that path is next. | 6 | R210, 08_lanes_and_streaming.md | DESIGN CHOICE 0 (log 100) -/
  turn : Nat := 0
  deriving DecidableEq, Repr

/-- A waiting instruction that took effect in an ECLK cycle, with its timetable as it stood before and the serial number
of the descriptors it enqueued: a STOP of the same cycle abandons it (R85). -/
structure Woken where
  cycle : Nat
  tt : Nat
  before : Timetable
  serial : Nat
  deriving DecidableEq, Repr

/-- The device: everything the spec gives it, and the queue of commands that are waiting. -/
structure State where
  /-- Device time, fs since POR release. | time | model (log 1) | 0 -/
  now : Nat := 0
  /-- Truss time. | record | R180, 07_bells_and_truss.md | as its fields -/
  time : TrussTime := {}
  /-- ECLK. | record | R309, 12_power_reset_states.md | as its fields -/
  eclk : Eclk := {}
  /-- System, power and resets. | record | 12_power_reset_states.md | as its fields -/
  sys : Sys := {}
  /-- ODA. | record | 11_object_dictionary.md | as its fields -/
  oda : Oda := {}
  /-- Configuration copy. | record | 11_object_dictionary.md | as its fields -/
  cfg : Cfg := {}
  /-- Segment memory. | record | 02_segment_memory.md | as its fields -/
  mem : SegMem := {}
  /-- The on-chip network. | record | R22 R23, 01_architecture.md | as its fields -/
  net : Net := {}
  /-- Joiners J0 to J95. | 96 records | 03_joiners.md | as Joiner -/
  joiners : Sparse Joiner := []
  /-- Timetables T0 to T6143. | 6,144 records | 03_joiners.md | as Timetable -/
  tts : Sparse Timetable := []
  /-- Host STOPs that act at the end of the ECLK cycle: timetable and cycle. | list | R84, 03_joiners.md | none -/
  stops : List (Nat × Nat) := []
  /-- Waits that ended in the current ECLK cycle. | list | R85, 03_joiners.md | none -/
  woken : List Woken := []
  /-- Host event ring. | record | R75, 03_joiners.md | as its fields -/
  evr : EventRing := {}
  /-- Channels CH0 to CH63. | 64 records | 04, 05 | as Channel -/
  chans : Sparse Channel := []
  /-- Bays BAY0 to BAY7. | 8 records | 05_channels_and_dac.md | as Bay -/
  bays : Sparse Bay := []
  /-- DAC cores 0 to 71. | 72 records | R226 R253 | as Core -/
  cores : Sparse Core := []
  /-- References. | record | 06_clock_synthesis.md | as its fields -/
  ref : Ref := {}
  /-- SYN-M. | record | 06_clock_synthesis.md | as its fields -/
  synM : Synth := {}
  /-- SYN-A. | record | 06_clock_synthesis.md | as its fields, N_INT 1,200 -/
  synA : Synth := { nInt := 1200 }
  /-- Outputs 0 to 75 of SYN-M, and CLKOUT0 to 3 at 76 to 79. | 80 records | 06_clock_synthesis.md | as Output -/
  outs : Sparse Output := []
  /-- SYN-A's ramp generator. | record | 06_clock_synthesis.md | as its fields -/
  ramp : SynRamp := {}
  /-- Bells and the truss. | record | 07_bells_and_truss.md | as its fields -/
  truss : Truss := {}
  /-- Quads Q0 to Q11. | 12 records | 08_lanes_and_streaming.md | as Quad -/
  quads : Sparse Quad := []
  /-- Lanes L0 to L47. | 48 records | 07, 08 | as Lane -/
  lanes : Sparse Lane := []
  /-- Lane-style counters of the management port (its bulk messages). | record | R216 R220, 08_lanes_and_streaming.md | as Lane -/
  mgmt : Lane := {}
  /-- TIU. | record | 09_time_interval_unit.md | as its fields -/
  tiu : Tiu := {}
  /-- Plumb and the Yearbook. | record | 10_plumb_and_yearbook.md | as its fields -/
  plumb : Plumb := {}
  /-- Security and boot flash. | record | 13_security_identity.md | as its fields -/
  sec : Sec := {}
  /-- Report card. | record | 14_report_card_and_recess.md | as its fields -/
  card : Card := {}
  /-- Recess and TAP. | record | 14, 15 | as its fields -/
  recess : Recess := {}
  /-- Messages the device has sent, oldest first (replies, bulk replies, link blocks). | list | R282 R220 R191 | empty -/
  out : List OutMsg := []
  /-- How many free values have been drawn (the MODEL's own field, log 2). | Nat | model (log 2) | DESIGN CHOICE 0 (log 2) -/
  draws : Nat := 0
  /-- Serial number of the next STRM (the MODEL's own field: R53's one STRM to a gang). | Nat | R53, 02_segment_memory.md | 0 -/
  serial : Nat := 0
  /-- Commands that are waiting, first in, first out. | list | block form | empty -/
  pending : List Instr := []
  deriving DecidableEq, Repr

/-- The device right after POR is released: every field at its default (R324, column POR), the boot under way
(R312). -/
def State.reset : State := {}

end Sys2Proof.Machine
end

