-- ==== Sys2Proof/Machine/Ops.lean ====
section
/-! DEFINITION. The named operations every meaning uses: sparse tables, little-endian values, device time, truss
time, ECLK cycles and granule boundaries, the accessors of State's tables, and segment memory. -/

namespace Sys2Proof.Machine

/-! ## Sparse tables -/

/-- Entry `k` of a table whose unlisted entries are `d k`. -/
def sget {α : Type} (d : Nat → α) : Sparse α → Nat → α
  | [], k => d k
  | (j, v) :: r, k => if j = k then v else sget d r k

/-- The table with entry `k` listed with `v`. -/
def sput {α : Type} : Sparse α → Nat → α → Sparse α
  | [], k, v => [(k, v)]
  | (j, w) :: r, k, v =>
    if k < j then (k, v) :: (j, w) :: r else if j = k then (k, v) :: r else (j, w) :: sput r k v

/-- The table with entry `k` not listed. -/
def sdrop {α : Type} (xs : Sparse α) (k : Nat) : Sparse α := xs.filter fun p => decide (p.1 ≠ k)

/-- The table with entry `k` set to `v`; an entry that equals its default is not listed. -/
def sset {α : Type} [DecidableEq α] (d : Nat → α) (xs : Sparse α) (k : Nat) (v : α) : Sparse α :=
  if v = d k then sdrop xs k else sput xs k v

/-- Keys strictly rising from a lower bound, no entry equal to its default. -/
def swfFrom {α : Type} [DecidableEq α] (d : Nat → α) : Nat → Sparse α → Bool
  | _, [] => true
  | lo, (j, v) :: r => decide (lo ≤ j) && !decide (v = d j) && swfFrom d (j + 1) r

/-- A table in canonical form. -/
def swf {α : Type} [DecidableEq α] (d : Nat → α) (xs : Sparse α) : Bool := swfFrom d 0 xs

/-- Entries 0 to `n - 1` of a table, each changed by `f`. -/
def smap {α : Type} [DecidableEq α] (d : Nat → α) (f : Nat → α → α) : Nat → Sparse α → Sparse α
  | 0, xs => xs
  | n + 1, xs => sset d (smap d f n xs) n (f n (sget d xs n))

/-! ## Words of one cycle (R33, R56, R83) -/

/-- Values that entries written in cycle `c` held before, with those of the entries `ks` as they now stand: an entry
keeps the first of the cycle. -/
def keepOld {α : Type} (old : Nat × Sparse (Option α)) (c : Nat) (now : Nat → α) (ks : List Nat) :
    Nat × Sparse (Option α) :=
  let m := if old.1 = c then old.2 else []
  (c, ks.foldl (fun m k => if (sget (fun _ => none) m k).isSome then m else sput m k (some (now k))) m)

/-- Entry `k` as a reader in cycle `c` sees it that must not see the writes of its own cycle. -/
def oldIn {α : Type} (old : Nat × Sparse (Option α)) (c : Nat) (now : Nat → α) (k : Nat) : α :=
  if old.1 = c then (sget (fun _ => none) old.2 k).getD (now k) else now k

/-! ## Little-endian values (R9) -/

/-- The `n` bytes of `v`, least significant first. -/
def leBytes : Nat → Nat → Bytes
  | 0, _ => []
  | n + 1, v => BitVec.ofNat 8 v :: leBytes n (v / 256)

/-- The number that bytes spell, least significant first. -/
def leNat : Bytes → Nat
  | [] => 0
  | b :: r => b.toNat + 256 * leNat r

/-- `n` bytes of `bs` from byte `i` as a number. -/
def leAt (bs : Bytes) (i n : Nat) : Nat := leNat ((bs.drop i).take n)

/-- The 32-bit word at byte `4 * w`. -/
def wordAt (bs : Bytes) (w : Nat) : Word := BitVec.ofNat 32 (leAt bs (4 * w) 4)

/-- The bytes of a list of words. -/
def wordsBytes (ws : List Word) : Bytes := ws.flatMap fun w => leBytes 4 w.toNat

/-- Whole words of a byte string. -/
def bytesWords (bs : Bytes) : List Word := (List.range (bs.length / 4)).map (wordAt bs)

/-- Bits `[hi:lo]` of a number. -/
def bits (v hi lo : Nat) : Nat := (v / 2 ^ lo) % 2 ^ (hi + 1 - lo)

/-- Bit `i` of a number. -/
def bitOf (v i : Nat) : Bool := (v / 2 ^ i) % 2 == 1

/-- A flag at a bit position. -/
def flag (b : Bool) (i : Nat) : Nat := if b then 2 ^ i else 0

/-- The signed value of the low `w` bits of `v`. -/
def signed (w v : Nat) : Int := (BitVec.ofNat w v).toInt

/-- The low `w` bits of an integer. -/
def lowBits (w : Nat) (v : Int) : Nat := (BitVec.ofInt w v).toNat

/-- What a counter of width `w` reads that has counted `c`. -/
def counter (w c : Nat) : Nat := if c < 2 ^ w then c else Config.counterPast w c % 2 ^ w

/-- The least whole number not less than `a / b`. -/
def ceilDiv (a b : Nat) : Nat := (a + b - 1) / b

/-- `v` rounded to a multiple of 1, an exact half to even, as `num / den`. -/
def roundHalfEven (num : Int) (den : Nat) : Int :=
  let q := num / den
  let r := num % den
  if 2 * r > den ∨ (2 * r = den ∧ q % 2 = 1) then q + 1 else q

/-! ## Device time (assumption log 1) -/

/-- Femtoseconds in a tick (62.5 ps), a TCLK period, a microsecond, a millisecond, a second. -/
def tickFs : Nat := 62500
def tclkFs : Nat := 500000
def nsFs : Nat := 1000000
def usFs : Nat := 1000000000
def msFs : Nat := 1000000000000
def secFs : Nat := 1000000000000000

/-- Device time moves on to `t`, and a fresh draw of free values begins. -/
def State.tick (s : State) (t : Nat) : State := { s with now := max s.now t, draws := s.draws + 1 }

/-! ## Loop time (R165, R166)

While they slew, both synthesizers run off nominal by SLEW_RATE. What they clock is counted in their own time, in which
every loop word keeps its nominal value. -/

/-- The loops' own time at device time `x`. -/
def warped : List Warp → Nat → Nat
  | [], x => x
  | w :: r, x => if w.dev ≤ x then w.syn + (x - w.dev) * w.scale / 1000000000 else warped r x

/-- The first device time at which the loops' own time is `v`. -/
def unwarped : List Warp → Nat → Nat
  | [], v => v
  | w :: r, v => if w.syn ≤ v then w.dev + ceilDiv ((v - w.syn) * 1000000000) w.scale else unwarped r v

/-- The loops' own time at device time `x`. -/
def State.loopFs (s : State) (x : Nat) : Nat := warped s.ref.warps x

/-- The device time at which the loops' own time comes to `v`. -/
def State.devFs (s : State) (v : Nat) : Nat := unwarped s.ref.warps v

/-- The least loop time that comes at or after device time `x`. -/
def State.loopFrom (s : State) (x : Nat) : Nat := if x = 0 then 0 else s.loopFs (x - 1) + 1

/-- The time that TCLK counts at device time `x`: slewed with the loops, unless TB_SEL holds it on the crystal (R150)
or its loop has rejoined REFIN before them (R236). -/
def State.tclkAt (s : State) (x : Nat) : Nat := if s.tiu.xtal then x else warped s.tiu.warps x

/-- The device time at which the time of TCLK comes to `v`. -/
def State.tclkDev (s : State) (v : Nat) : Nat := if s.tiu.xtal then v else unwarped s.tiu.warps v

/-! ## Truss time (R180) -/

/-- The truss time at device time `x`: the count of the last TCLK edge at or before it. -/
def State.trussAt (s : State) (x : Nat) : Ticks :=
  if s.time.running then s.time.count + BitVec.ofNat 64 (8 * ((s.tclkAt x - s.time.at_) / tclkFs)) else s.time.count

/-- How far device time is past the last TCLK edge, fs of TCLK's time. -/
def State.tclkPhase (s : State) : Nat := if s.time.running then (s.tclkAt s.now - s.time.at_) % tclkFs else 0

/-- The truss time now. -/
def State.trussNow (s : State) : Ticks := s.trussAt s.now

/-- TCLK stands at its last edge (R180, R357). -/
def State.stopTime (s : State) : TrussTime :=
  { count := s.trussNow
    at_ := if s.time.running then s.tclkDev (s.tclkAt s.now - s.tclkPhase) else s.time.at_
    running := false }

/-- The signed difference of two truss times, by which they are compared (R180). -/
def ticksDiff (a b : Ticks) : Int := (a - b).toInt

/-- `a` lies at or after `b`. -/
def ticksGe (a b : Ticks) : Bool := decide (0 ≤ ticksDiff a b)

/-- The device time of a truss time, not before the last step of the count. -/
def State.fsOfTicks (s : State) (e : Ticks) : Nat :=
  let x := ((s.time.at_ : Int) + ticksDiff e s.time.count * tickFs).toNat
  if s.time.running then s.tclkDev x else x

/-! ## ECLK (R60, R309) -/

/-- The ECLK cycle in which device time `x` lies. -/
def Eclk.cycleAt (e : Eclk) (x : Nat) : Nat :=
  if e.stopped then e.base.2 else e.base.2 + (x - e.base.1) * e.hz / secFs

/-- The ECLK cycle now. -/
def State.cycle (s : State) : Nat := s.eclk.cycleAt s.now

/-- What tells two things of one ECLK cycle: the cycle, or the device time while ECLK stands (assumption log 127). -/
def State.moment (s : State) : Nat := if s.eclk.stopped then 2 * s.now + 1 else 2 * s.cycle

/-- The device time of the edge that begins a cycle. -/
def Eclk.cycleFs (e : Eclk) (c : Nat) : Nat := e.base.1 + ceilDiv ((c - e.base.2) * secFs) e.hz

/-- A descriptor whose ECLK-side crossing (R67) has ended by cycle `c` keeps the device time of its edge, which a later
change of frequency does not move. -/
def Descriptor.cross (e : Eclk) (c : Nat) (d : Descriptor) : Descriptor :=
  if d.visible || d.crossFs.isSome || decide (c < d.crossCycle) then d
  else { d with crossFs := some (e.cycleFs d.crossCycle) }

/-! ## Tables of State -/

/-- A channel as POR leaves it: its default leader is T(64n) (R63). -/
def Channel.init (n : Nat) : Channel := { leader := 64 * n }

/-- A timetable as POR leaves it: T(64n), n below 64, has gang {CHn} (R63). -/
def Timetable.init (i : Nat) : Timetable :=
  if i % 64 = 0 ∧ i < 4096 then { gangBase := i / 64, gangMask := 1 } else {}

/-- An output as POR leaves it: divider 2, or 12 for the CLKOUTs (76 to 79). OUT_CFG and OUT_DELAY of the fixed
outputs 72 to 75, whose values the spec does not give, read as these do (DESIGN CHOICE, assumption log 89). -/
def Output.init (i : Nat) : Output := if i < 76 then {} else { div := 12 }

def State.chan (s : State) (n : Nat) : Channel := sget Channel.init s.chans n
def State.setChan (s : State) (n : Nat) (c : Channel) : State := { s with chans := sset Channel.init s.chans n c }
def State.modChan (s : State) (n : Nat) (f : Channel → Channel) : State := s.setChan n (f (s.chan n))

def State.tt (s : State) (i : Nat) : Timetable := sget Timetable.init s.tts i
def State.setTt (s : State) (i : Nat) (v : Timetable) : State := { s with tts := sset Timetable.init s.tts i v }
def State.modTt (s : State) (i : Nat) (f : Timetable → Timetable) : State := s.setTt i (f (s.tt i))

/-- The descriptors that have crossed on the ECLK side by now keep the device time of their edge (R67): ECLK is about to
change or to stop. -/
def State.crossAll (s : State) : State :=
  (s.chans.map (·.1)).foldl
    (fun v n => v.modChan n fun c => { c with queue := c.queue.map (Descriptor.cross s.eclk s.cycle) }) s

/-! ## The write ports' share of the path into HBM (R22) -/

/-- What a job still needs of its port, in units / 10^15. -/
def WpJob.unserved (w : WpJob) : Nat := w.units * secFs - w.served

/-- The same of a Joiner's oldest job. -/
def Joiner.unserved (jn : Joiner) : Nat := (jn.jobs.head?.map WpJob.unserved).getD 0

/-- Units a second that each of `k` busy ports is given: one an ECLK cycle, and an equal share of 256.0 GB/s (R22). -/
def portRate (hz k : Nat) : Nat := min hz (16000000000 / k)

/-- A port's oldest job is given `x` more. -/
def Joiner.serve (jn : Joiner) (x : Nat) : Joiner :=
  match jn.jobs with
  | [] => jn
  | w :: r => { jn with jobs := { w with served := min (w.units * secFs) (w.served + x) } :: r }

/-- The ports that have units to send are served for `fs`: they share alike until one of them is done, then the others
share on. -/
def servedFor : Nat → Nat → Nat → Sparse Joiner → Sparse Joiner
  | 0, _, _, js => js
  | fuel + 1, hz, fs, js =>
    let busy := js.filter fun p => decide (p.2.unserved ≠ 0)
    let r := portRate hz busy.length
    if r = 0 then js
    else
      let step := busy.foldl (fun m p => min m (ceilDiv p.2.unserved r)) fs
      let js := js.map fun p => (p.1, p.2.serve (r * step))
      if step < fs then servedFor fuel hz (fs - step) js else js

/-- The write ports' admission worked out to now; none is given while ECLK stands. -/
def State.servePorts (s : State) : State :=
  { s with
    net := { s.net with portsFrom := s.now }
    joiners := if s.eclk.stopped then s.joiners else servedFor 97 s.eclk.hz (s.now - s.net.portsFrom) s.joiners }

/-- ECLK goes on at `hz` from now, its cycles counted on. -/
def State.eclkAt (s : State) (hz : Nat) : State :=
  let s := s.crossAll.servePorts
  { s with eclk := { s.eclk with base := (s.now, s.cycle), hz := hz } }

/-- Every timetable changed. -/
def State.allTts (s : State) (f : Nat → Timetable → Timetable) : State :=
  { s with tts := smap Timetable.init f 6144 s.tts }

/-- The timetables of Joiner `j` changed. -/
def State.joinerTts (s : State) (j : Nat) (f : Timetable → Timetable) : State :=
  s.allTts fun i v => if i / 64 = j then f v else v

/-- Every channel changed. -/
def State.allChans (s : State) (f : Nat → Channel → Channel) : State :=
  { s with chans := smap Channel.init f 64 s.chans }

def State.joiner (s : State) (i : Nat) : Joiner := sget (fun _ => {}) s.joiners i
def State.setJoiner (s : State) (i : Nat) (v : Joiner) : State :=
  { s with joiners := sset (fun _ => {}) s.joiners i v }
def State.modJoiner (s : State) (i : Nat) (f : Joiner → Joiner) : State := s.setJoiner i (f (s.joiner i))

def State.bay (s : State) (i : Nat) : Bay := sget (fun _ => {}) s.bays i
def State.setBay (s : State) (i : Nat) (v : Bay) : State := { s with bays := sset (fun _ => {}) s.bays i v }
def State.modBay (s : State) (i : Nat) (f : Bay → Bay) : State := s.setBay i (f (s.bay i))

def State.core (s : State) (i : Nat) : Core := sget (fun _ => {}) s.cores i
def State.setCore (s : State) (i : Nat) (v : Core) : State := { s with cores := sset (fun _ => {}) s.cores i v }
def State.modCore (s : State) (i : Nat) (f : Core → Core) : State := s.setCore i (f (s.core i))

def State.output (s : State) (i : Nat) : Output := sget Output.init s.outs i
def State.setOutput (s : State) (i : Nat) (v : Output) : State := { s with outs := sset Output.init s.outs i v }
def State.modOutput (s : State) (i : Nat) (f : Output → Output) : State := s.setOutput i (f (s.output i))

def State.quad (s : State) (i : Nat) : Quad := sget (fun _ => {}) s.quads i
def State.setQuad (s : State) (i : Nat) (v : Quad) : State := { s with quads := sset (fun _ => {}) s.quads i v }

def State.lane (s : State) (i : Nat) : Lane := sget (fun _ => {}) s.lanes i
def State.setLane (s : State) (i : Nat) (v : Lane) : State := { s with lanes := sset (fun _ => {}) s.lanes i v }
def State.modLane (s : State) (i : Nat) (f : Lane → Lane) : State := s.setLane i (f (s.lane i))

def State.slot (s : State) (i : Nat) : TiuSlot := sget (fun _ => {}) s.tiu.slots i
def State.setSlot (s : State) (i : Nat) (v : TiuSlot) : State :=
  { s with tiu := { s.tiu with slots := sset (fun _ => {}) s.tiu.slots i v } }
def State.modSlot (s : State) (i : Nat) (f : TiuSlot → TiuSlot) : State := s.setSlot i (f (s.slot i))

def SegMem.seg (m : SegMem) (i : Nat) : SegEntry := sget (fun _ => {}) m.segs i
def SegMem.event (m : SegMem) (prog e : Nat) : MEvent := sget (fun _ => {}) m.events (4 * prog + e)
def SegMem.ring (m : SegMem) (i : Nat) : Ring := sget (fun _ => {}) m.rings i
def SegMem.page (m : SegMem) (i : Nat) : Page := sget (fun _ => {}) m.pages i
def SegMem.setRing (m : SegMem) (i : Nat) (v : Ring) : SegMem := { m with rings := sset (fun _ => {}) m.rings i v }
def SegMem.setPage (m : SegMem) (i : Nat) (v : Page) : SegMem := { m with pages := sset (fun _ => {}) m.pages i v }

def State.setMem (s : State) (m : SegMem) : State := { s with mem := m }
def State.modMem (s : State) (f : SegMem → SegMem) : State := { s with mem := f s.mem }
def State.modPage (s : State) (i : Nat) (f : Page → Page) : State :=
  s.modMem fun m => m.setPage i (f (m.page i))

/-- A message leaves the device. -/
def State.send (s : State) (m : OutMsg) : State := { s with out := s.out ++ [m] }

/-- Bytes of network traffic other than lanes and Joiner writes take the path into HBM (R23, R210). -/
def State.addTraffic (s : State) (n : Nat) : State :=
  { s with net := { s.net with traffic := s.net.traffic + 1000000 * n } }

/-- Fold a state change over a list. -/
def State.forAll {α : Type} (s : State) (xs : List α) (f : State → α → State) : State := xs.foldl f s

/-- A change made only when a condition holds. -/
def State.when (s : State) (b : Bool) (f : State → State) : State := if b then f s else s

/-! ## ALERT_STATUS bits (R320) -/

def alFaultSafe : Nat := 31
def alRailUv : Nat := 30
def alRailWarn : Nat := 29
def alOvertemp : Nat := 28
def alCfgParity : Nat := 27
def alChFault : Nat := 26
def alTrussBreak : Nat := 25
def alLateBell : Nat := 24
def alSynLol : Nat := 23
def alRefLost : Nat := 22
def alHbmUe : Nat := 21
def alPlumbFailed : Nat := 20
def alAgeing : Nat := 19
def alLaneDown : Nat := 18
def alThrottle : Nat := 17
def alBootDegraded : Nat := 16

/-- An RC field is about to be set or counted at moment `x`: its value from before that cycle, `now` being its value,
is kept for a read of that cycle (R304). -/
def keepWas {α : Type} (was : Option (Nat × α)) (x : Nat) (now : α) : Option (Nat × α) :=
  match was with
  | some (y, v) => if y = x then some (y, v) else some (x, now)
  | none => some (x, now)

/-- The value of an RC field from before the cycle of moment `x`, where it was set or counted in that cycle. -/
def wasIn {α : Type} (was : Option (Nat × α)) (x : Nat) : Option α :=
  match was with
  | some (y, v) => if y = x then some v else none
  | none => none

/-- Sources of ALERT_STATUS (R320): set bit `16 + i` of the register. -/
def State.alert (s : State) (i : Nat) : State :=
  { s with sys := { s.sys with
    alert := s.sys.alert ||| BitVec.ofNat 16 (2 ^ (i - 16))
    alertWas := keepWas s.sys.alertWas s.moment s.sys.alert } }

/-- A channel is neither OFF nor FAULT, or a timetable is READY or WAITING: what keeps the device in RUN (R316). -/
def State.busy (s : State) : Bool :=
  (s.chans.any fun p => decide (p.2.state ≠ .off ∧ p.2.state ≠ .fault))
    || s.tts.any fun p => decide (p.2.state = .ready ∨ p.2.state = .waiting)

/-- READY becomes RUN and RUN becomes READY as channels and timetables come and go (R316). -/
def State.judge (s : State) : State :=
  if s.sys.state = .ready ∧ s.busy = true then { s with sys := { s.sys with state := .run } }
  else if s.sys.state = .run ∧ s.busy = false then { s with sys := { s.sys with state := .ready } }
  else s

/-- The device's clocks stand: held in POR or PIN reset (R308, R321), or in recess (R354). -/
def State.still (s : State) : Bool := s.sys.por || s.sys.pin || decide (s.sys.state = .recess)

/-- What a step answers. -/
abbrev Result := Host.Outcome State Fault Refusal

/-- The end of every command: READY and RUN follow what is busy, and the queue is `q`; it is not a command's to
change. -/
def State.close (s : State) (q : List Instr) : State := { s.judge with pending := q }

/-- Saturating count of the report card (R346). -/
def satInc (w c : Nat) : Nat := if c + 1 < 2 ^ w then c + 1 else 2 ^ w - 1

/-- SAFE_OFF is set when a SHUTDOWN finds no flash or Yearbook write in progress (R317). -/
def State.settleOff (s : State) : State :=
  if s.sys.shutting && s.sec.job.isNone && s.plumb.commit.isNone && !s.sec.saveDue then
    { s with sys := { s.sys with shutting := false, safeOff := true } }
  else s

/-! ## Segment memory (R26, R40, R42) -/

/-- One past the last byte of segment memory: 96 GiB. -/
def hbmBytes : Nat := 103079215104

/-- The byte listed at an address, if a write has put one there since POR. -/
def cellAt : List Host.Cell → Nat → Option Byte
  | [], _ => none
  | (j, v) :: r, a => if j = a then some v else if a < j then none else cellAt r a

/-- The memory with one byte written. -/
def cellPut : List Host.Cell → Nat → Byte → List Host.Cell
  | [], a, v => [(a, v)]
  | (j, w) :: r, a, v =>
    if a < j then (a, v) :: (j, w) :: r else if j = a then (a, v) :: r else (j, w) :: cellPut r a v

/-- The memory with bytes written from an address upwards. -/
def cellPuts : List Host.Cell → Nat → Bytes → List Host.Cell
  | m, _, [] => m
  | m, a, b :: r => cellPuts (cellPut m a b) (a + 1) r

/-- Addresses strictly rising: the canonical form of the list of written bytes. -/
def cellsFrom : Nat → List Host.Cell → Bool
  | _, [] => true
  | lo, (j, _) :: r => decide (lo ≤ j) && cellsFrom (j + 1) r

/-- The canonical form of segment memory. -/
def SegMem.wf (m : SegMem) : Bool := cellsFrom 0 m.bytes

/-- The bytes of an aligned word if all eight have been written. -/
def SegMem.word? (m : SegMem) (a : Nat) : Option Bytes :=
  (List.range 8).mapM fun i => cellAt m.bytes (a + i)

/-- One read of the aligned 8-byte word at `a` by a reader, under a draw of free values (R26, R40). -/
def SegMem.readWord (m : SegMem) (draw reader a : Nat) : WordRead :=
  if m.ue.contains a then .bad
  else match m.word? a with
    | some bs => if m.ce.contains a then .corrected (BitVec.ofNat 64 (leNat bs)) else .data (BitVec.ofNat 64 (leNat bs))
    | none => Config.freeRead draw reader a

/-- The reads of `n` aligned words from `a` on. -/
def SegMem.readWords (m : SegMem) (draw reader a : Nat) : Nat → List WordRead
  | 0 => []
  | n + 1 => m.readWord draw reader a :: m.readWords draw reader (a + 8) n

/-- How many of the reads were corrected. -/
def countCorrected (rs : List WordRead) : Nat :=
  (rs.filter fun r => match r with | .corrected _ => true | _ => false).length

/-- Some word of the reads is uncorrectable. -/
def anyBad (rs : List WordRead) : Bool := rs.any fun r => match r with | .bad => true | _ => false

/-- The bytes of reads without an uncorrectable word. -/
def readBytes (rs : List WordRead) : Bytes :=
  rs.flatMap fun r => match r with | .data v => leBytes 8 v.toNat | .corrected v => leBytes 8 v.toNat | .bad => []

/-- Whole words written: the bytes stand, and their words' errors end (R42). -/
def SegMem.write (m : SegMem) (a : Nat) (bs : Bytes) : SegMem :=
  { m with
    bytes := cellPuts m.bytes a bs
    ue := m.ue.filter fun w => decide (w + 8 ≤ a ∨ a + bs.length ≤ w)
    ce := m.ce.filter fun w => decide (w + 8 ≤ a ∨ a + bs.length ≤ w) }

/-- Corrected errors count in HBM_CE_COUNT and on the report card (R40). -/
def State.countCe (s : State) (n : Nat) : State :=
  { s with
    mem := { s.mem with ceCount := s.mem.ceCount + n }
    card := { s.card with hbmCe := min (s.card.hbmCe + n) (2 ^ 64 - 1) } }

/-- A read of a range of words by anyone but a channel (R40, R42): none when a word is uncorrectable. -/
def State.readMem (s : State) (a words : Nat) : Option Bytes × State :=
  let rs := s.mem.readWords s.draws 0 a words
  let s := s.countCe (countCorrected rs)
  (if anyBad rs then none else some (readBytes rs), s)

/-! ## Synthesizers and granule boundaries (R149, R188) -/

def State.syn (s : State) : Syn → Synth
  | .M => s.synM
  | .A => s.synA
def State.setSyn (s : State) (y : Syn) (v : Synth) : State :=
  match y with
  | .M => { s with synM := v }
  | .A => { s with synA := v }
def State.modSyn (s : State) (y : Syn) (f : Synth → Synth) : State := s.setSyn y (f (s.syn y))

/-- N_INT + FRAC / 2^32, in units of 2^-32. -/
def Synth.words (y : Synth) : Nat := y.nInt * 2 ^ 32 + y.frac

/-- f_REF of R149 in Hz as numerator and denominator: REF_FREQ, or 100 MHz * (1 + y / 10^11) where it was enabled from
the crystal. -/
def State.fRef (s : State) (y : Synth) : Nat × Nat :=
  match y.xtalY with
  | none => (s.ref.freq, 1)
  | some d => (((100000000000 : Int) + d).toNat, 1000)

/-- f_VCO in Hz as numerator and denominator (R149). -/
def State.fVco (s : State) (y : Synth) : Nat × Nat :=
  ((s.fRef y).1 * y.words, (s.fRef y).2 * y.refDiv * 2 ^ 32)

/-- The granule time of an output of divider `d`, in fs, as numerator and denominator: 16 D / f_VCO. -/
def State.granuleFs (s : State) (d : Nat) : Nat × Nat :=
  let (f, q) := s.fVco s.synM
  (16 * d * q * secFs, f)

/-- G of R188 in units of 2^-32 tick: 256 * 10^9 * D / f_VCO ticks, rounded to nearest, an exact half up. -/
def State.granuleTicks (s : State) (d : Nat) : Nat :=
  let (f, q) := s.fVco s.synM
  (2 * (256000000000 * d * q * 2 ^ 32) + f) / (2 * f)

/-- SYN-M's outputs run: aligned, not gated. -/
def State.synRuns (s : State) (y : Syn) : Bool :=
  decide ((s.syn y).phase = .running) && !(s.syn y).gated

/-- The core clock of core `n` runs (R21, R135, R160). -/
def State.clockRuns (s : State) (n : Nat) : Bool :=
  s.synRuns .M && (s.output n).en && !(s.output n).ceilGated

/-- The device time of granule boundary `k` of channel `n`. -/
def State.boundaryFs (s : State) (n k : Nat) : Nat :=
  let (a, b) := s.granuleFs (s.output n).div
  s.devFs (s.synM.releaseAt + k * a / b)

/-- The first boundary of channel `n` at or after device time `x`. -/
def State.boundaryFrom (s : State) (n x : Nat) : Nat :=
  let (a, b) := s.granuleFs (s.output n).div
  ceilDiv ((s.loopFrom x - s.synM.releaseAt) * b) a

/-- The first boundary of channel `n` later than device time `x`. -/
def State.boundaryAfter (s : State) (n x : Nat) : Nat :=
  let (a, b) := s.granuleFs (s.output n).div
  if s.loopFs x < s.synM.releaseAt then 0 else (s.loopFs x - s.synM.releaseAt) * b / a + 1

/-- Truss time of boundary `k`: B_k = A + ceil(k * G) (R188). -/
def State.boundaryTicks (s : State) (n k : Nat) : Ticks :=
  s.synM.anchor + BitVec.ofNat 64 (ceilDiv (k * s.granuleTicks (s.output n).div) (2 ^ 32))

/-- The firing boundary of a truss time: the first boundary not less than it (R188). -/
def State.boundaryOfTicks (s : State) (n : Nat) (e : Ticks) : Nat :=
  let d := ticksDiff e s.synM.anchor
  if d ≤ 0 then 0 else (d.toNat - 1) * 2 ^ 32 / s.granuleTicks (s.output n).div + 1

/-- Granules that cover a time in fs: the least whole number of granules not shorter. -/
def State.granulesFor (s : State) (n x : Nat) : Nat :=
  let (a, b) := s.granuleFs (s.output n).div
  ceilDiv (x * b) a

end Sys2Proof.Machine
end

