-- ==== Sys2Proof/Machine/Abort.lean ====
section
/-! DEFINITION. Abort codes (11_object_dictionary.md, R288; 13_security_identity.md) and the form of a refusable
action: its conditions with their codes, and the state after it where none holds. -/

namespace Sys2Proof.Machine

/-- The abort codes, from the top of the table of R288 down; those of 13_security_identity.md follow. -/
inductive Abort where
  | badMessage | version | noSession | busy | route | noDevice | routeTimeout
  | noEntry | access | length | wrongState | blockRunning | locked | range
  | notLeader | pageNotHeld | pageBusy | byteCount | memUe | noBand | notOwner | yearbookFull | fuseHoldup
  | sigInvalid | unsignedCfg | unsignedCode | rollback | imageFormat | policyLocked | nonceUnset
  deriving DecidableEq, Repr

/-- The 32-bit code. -/
def Abort.code : Abort → Nat
  | .badMessage => 0x01000001
  | .version => 0x01000002
  | .noSession => 0x01000003
  | .busy => 0x01000004
  | .route => 0x01000005
  | .noDevice => 0x01000006
  | .routeTimeout => 0x01000007
  | .noEntry => 0x02000001
  | .access => 0x02000002
  | .length => 0x02000003
  | .wrongState => 0x02000004
  | .blockRunning => 0x02000005
  | .locked => 0x02000006
  | .range => 0x02000007
  | .notLeader => 0x03000001
  | .pageNotHeld => 0x03000002
  | .pageBusy => 0x03000003
  | .byteCount => 0x03000004
  | .memUe => 0x03000005
  | .noBand => 0x03000006
  | .notOwner => 0x03000007
  | .yearbookFull => 0x03000008
  | .fuseHoldup => 0x03000009
  | .sigInvalid => 0x09000001
  | .unsignedCfg => 0x09000002
  | .unsignedCode => 0x09000003
  | .rollback => 0x09000004
  | .imageFormat => 0x09000005
  | .policyLocked => 0x09000006
  | .nonceUnset => 0x09000007

/-- Conditions that refuse a request, each with its code. -/
abbrev Checks := List (Bool × Abort)

/-- Of the codes that apply, the one nearest the top of the table (R288): the lowest code. -/
def Checks.verdict (cs : Checks) : Option Abort :=
  cs.foldl (fun m p =>
    if p.1 then match m with
      | none => some p.2
      | some a => if p.2.code < a.code then some p.2 else some a
    else m) none

/-- A refusable action: what refuses it, the state after it where nothing does, and the state after a refusal. -/
structure Act where
  checks : Checks
  after : State
  refused : Abort → State

/-- An action that leaves the state as it was when it is refused. -/
def State.act (s : State) (checks : Checks) (after : State) : Act :=
  { checks := checks, after := after, refused := fun _ => s }

/-- The condition, with RANGE. -/
def rangeIf (b : Bool) : Bool × Abort := (b, .range)

/-- The state after an action. -/
def Act.outcome (a : Act) : Option Abort × State :=
  match a.checks.verdict with
  | none => (none, a.after)
  | some x => (some x, a.refused x)

end Sys2Proof.Machine
end

