-- ==== Sys2Proof/Machine/Wire.lean ====
section
/-! DEFINITION. The lanes as the rest of the device uses them: what a lane is in its truss (R197, R204, R205), and what
leaves on it: control blocks, CREDIT blocks in idle slots, and data blocks under credit (R191, R206 to R208). -/

namespace Sys2Proof.Machine

/-! ## The device in its truss -/

/-- LINK_CFG roles. -/
def roleUp : Nat := 1
def roleDown : Nat := 2

/-- QUAD_CFG modes. -/
def modeOff : Nat := 0
def modeRonzal : Nat := 1
def modeEth : Nat := 2

/-- The lanes, in order. -/
def allLanes : List Nat := List.range 48

/-- The quad of a lane. -/
def State.laneQuad (s : State) (l : Nat) : Quad := s.quad (l / 4)

/-- The lane runs in RONZAL mode. -/
def State.ronzal (s : State) (l : Nat) : Bool := (s.laneQuad l).en && decide ((s.laneQuad l).mode = modeRonzal)

/-- The lane is a truss link. -/
def State.trussLane (s : State) (l : Nat) : Bool := s.ronzal l && decide ((s.lane l).role ≠ 0)

/-- The lane is a stream lane. -/
def State.streamLane (s : State) (l : Nat) : Bool := s.ronzal l && decide ((s.lane l).role = 0)

/-- The lane is a truss link that leads towards D0, or away from it (R197). -/
def State.upLane (s : State) (l : Nat) : Bool := s.ronzal l && decide ((s.lane l).role = roleUp)
def State.downLane (s : State) (l : Nat) : Bool := s.ronzal l && decide ((s.lane l).role = roleDown)

/-- The lane is a truss link that is UP. -/
def State.linkIsUp (s : State) (l : Nat) : Bool := s.trussLane l && decide ((s.lane l).link = .up)

/-- The device has no UP link: it is the king post (R197). -/
def State.king (s : State) : Bool := allLanes.all fun l => !s.upLane l

/-- The device number in use (R197). -/
def State.deviceNum (s : State) : Nat := if s.king then 0 else s.truss.num

/-- Its own king post (R179): it has not joined a truss as a member. -/
def State.ownKing (s : State) : Bool := s.king || !s.truss.joined

/-- Truss links that are UP, a given lane left out. -/
def State.upLinks (s : State) (but : Option Nat) : List Nat :=
  allLanes.filter fun l => s.linkIsUp l && decide (some l ≠ but)

/-- The king post's lowest DOWN link that is UP: it leads to a member (R183). -/
def State.memberLink (s : State) : Option Nat := allLanes.find? fun l => s.downLane l && decide ((s.lane l).link = .up)

/-- The lane is an ETH port that runs. -/
def State.ethPort (s : State) (l : Nat) : Bool := (s.laneQuad l).en && decide ((s.laneQuad l).mode = modeEth)

/-! ## Superframes (R206) -/

/-- A superframe of 56 codewords: 2.720 us (R206). -/
def superframeFs : Nat := 2720 * nsFs

/-- Blocks of a superframe, its reserved slots, and those left for data (R206). -/
def superBlocks : Nat := 1120
def superControls : Nat := 15
def superData : Nat := 1105

/-- The superframe of a lane that is UP, by number since it entered UP. -/
def Lane.superNow (v : Lane) (now : Nat) : Nat := (now - v.since) / superframeFs

/-- A control block goes into the current superframe; one beyond the 15 reserved slots displaces data (R206). -/
def Lane.placeControl (v : Lane) (now : Nat) : Lane :=
  let i := v.superNow now
  let n := if v.superframe.2 = i then v.superframe.1 + 1 else 1
  { v with superframe := (n, i), displaced := if superControls < n then v.displaced + 1 else v.displaced }

/-- A control block leaves on a lane (R191, R206). -/
def State.sendLink (s : State) (l : Nat) (b : LinkBlock) : State :=
  (s.modLane l fun v => v.placeControl s.now).send (.link (Fin.ofNat 48 l) b)

/-- A control block leaves on several lanes. -/
def State.sendLinks (s : State) (ls : List Nat) (b : LinkBlock) : State := s.forAll ls fun s l => s.sendLink l b

/-! ## Data blocks that leave (R206 to R208, R211) -/

/-- CREDIT_WINDOW of a partner, which is the size of a landing buffer. -/
def landingMax : Nat := 512

/-- Data blocks that credit lets a lane send now (R208). -/
def Lane.window (v : Lane) : Nat := landingMax - (BitVec.ofNat 32 v.sent - v.partnerFreed).toNat

/-- Data slots of the current superframe that are still free (R206). -/
def Lane.slotsLeft (v : Lane) : Nat := superBlocks - max superControls v.superframe.1 - v.dataSlots

/-- Waiting messages sent with at most `n` blocks: those whose last block has gone, those that wait on, and the blocks
sent. -/
def sendUpTo : Nat → List (OutMsg × Nat) → List OutMsg × List (OutMsg × Nat) × Nat
  | _, [] => ([], [], 0)
  | n, (m, k) :: r =>
    if k ≤ n then
      let (out, rest, used) := sendUpTo (n - k) r
      (m :: out, rest, k + used)
    else ([], (m, k - n) :: r, n)

/-- A lane that is UP comes to the superframe of this moment: idle reserved slots of those that have ended carried
CREDIT blocks (R206, R208), and what waits is sent as far as credit and slots let it. -/
def State.runLane (s : State) (l : Nat) : State :=
  let v := s.lane l
  let i := v.superNow s.now
  let ended := i - v.superframe.2
  let idle := superControls * ended - min superControls v.superframe.1
  -- data slots of the superframes that have ended; those of this one come on top
  let past := if ended = 0 then 0 else v.slotsLeft + superData * (ended - 1)
  let here := if ended = 0 then v.slotsLeft else superData
  let (out, rest, used) := sendUpTo (min v.window (past + here)) v.outbox
  let s := s.setLane l { v with
    superframe := if ended = 0 then v.superframe else (0, i)
    dataSlots := if ended = 0 then v.dataSlots + used else used - past
    outbox := rest, sent := v.sent + used }
  let s := if 0 < ended ∧ 0 < idle then
      s.send (.idleCredit (Fin.ofNat 48 l) idle (BitVec.ofNat 32 v.freed)) else s
  s.forAll out State.send

/-- The RONZAL lanes that are UP. -/
def State.upLanes (s : State) : List Nat :=
  (s.lanes.filter fun p => decide (p.2.link = .up) && s.ronzal p.1).map (·.1)

/-- A message of `blocks` data blocks is to leave on a lane (R207). -/
def State.sendBlocks (s : State) (l blocks : Nat) (m : OutMsg) : State :=
  let s := s.modLane l fun v => { v with outbox := v.outbox ++ [(m, blocks)] }
  s.when (s.ronzal l && decide ((s.lane l).link = .up)) fun s => s.runLane l

/-- Blocks of a message with `n` bytes of data: its header block and whole body blocks (R207). -/
def blocksOf (n : Nat) : Nat := 1 + ceilDiv n 32

/-- A message with `n` bytes of data leaves by a port: over a lane in data blocks (R207, R213). -/
def State.sendPort (s : State) (p : Port) (n : Nat) (m : OutMsg) : State :=
  match p with
  | .lane l => s.sendBlocks l (blocksOf n) m
  | _ => s.send m

end Sys2Proof.Machine
end

