-- ==== Sys2Proof/Machine/Bells.lean ====
section
/-! DEFINITION. The bell unit (07_bells_and_truss.md): who the device is in the truss, settings in force, raising a
bell under ownership and admission (R174 to R178), sending on links, bells that reach the unit slow or late (R186, R189)
and the entry into BROKEN (R198). -/

namespace Sys2Proof.Machine

/-- Members of the truss with the device itself (R197). -/
def State.members (s : State) : Nat := 1 + (s.truss.map.filter fun p => p.2.present).length

/-! ## Settings in force (R179, R185) -/

/-- The value of a setting in force at a truss time, from its switch times, newest first. -/
def inForce (dflt : Nat) : List (Ticks × Nat) → Ticks → Nat
  | [], _ => dflt
  | (x, v) :: r, o => if ticksGe o x then v else inForce dflt r o

/-- A setting's history with the changes that are received and not yet made, newest first: a bell with its origin at or
after such a switch time uses the new value (R179, R202). -/
def State.histories (s : State) (setting item : Nat) (past : List (Ticks × Nat)) : List (Ticks × Nat) :=
  (s.truss.settings.filter fun c => decide (c.setting.toNat = setting ∧ c.item.toNat = item)).foldl
    (fun r c => (c.at_, c.value.toNat) :: r) past

/-- The value of a setting once every change received has been made. -/
def lastOf (dflt : Nat) (h : List (Ticks × Nat)) : Nat := (h.head?.map (·.2)).getD dflt

/-- SETTING codes of a SETTINGS block (R192). -/
def setHorizon : Nat := 1
def setOwner : Nat := 2
def setEpoch : Nat := 3
def setResume : Nat := 4
def setMixed : Nat := 5
def setTmax : Nat := 6

/-- HORIZON in force at an origin, ns. -/
def State.horizonAt (s : State) (o : Ticks) : Nat := inForce 640 (s.histories setHorizon 0 s.truss.horizons) o

/-- T_MAX in force at an origin, ns. -/
def State.tmaxAt (s : State) (o : Ticks) : Nat := inForce 0 (s.histories setTmax 0 s.truss.tmaxes) o

/-- The truss is mixed at an origin (R6, R196). -/
def State.mixedAt (s : State) (o : Ticks) : Bool := decide (inForce 0 (s.histories setMixed 0 s.truss.mixes) o = 1)

/-- MIXED now. -/
def State.mixed (s : State) : Bool := s.mixedAt s.trussNow

/-- Ticks in `n` nanoseconds. -/
def nsTicks (n : Nat) : Ticks := BitVec.ofNat 64 (16 * n)

/-- The effective time of a bell: ORIGIN + 16 * HORIZON (R185). -/
def State.effective (s : State) (o : Ticks) : Ticks := o + nsTicks (s.horizonAt o)

/-- The release time of a bell: ORIGIN + T_MAX (R186). -/
def State.releaseTime (s : State) (o : Ticks) : Ticks := o + nsTicks (s.tmaxAt o)

/-- The owner of a bell number at an origin (R176, R179). -/
def State.ownerAt (s : State) (number : Nat) (o : Ticks) : Nat :=
  inForce 0 (s.histories setOwner number (sget (fun _ => []) s.truss.owners number)) o

/-- The owner of a bell number now. -/
def State.owner (s : State) (number : Nat) : Nat := s.ownerAt number s.trussNow

/-! ## Flags of TRUSS_STATUS -/

def tfBreakSeen : Nat := 5
def tfLate : Nat := 4
def tfRefMismatch : Nat := 3
def tfHorizonRaised : Nat := 2
def tfIdConflict : Nat := 1
def tfPpsMiss : Nat := 0

/-- A TRUSS_STATUS flag set. -/
def State.trussFlag (s : State) (i : Nat) : State :=
  { s with truss := { s.truss with
    flags := s.truss.flags ||| BitVec.ofNat 6 (2 ^ i), flagsWas := keepWas s.truss.flagsWas s.moment s.truss.flags } }

/-! ## Bell words -/

/-- Bell sources, as the bell word codes them (R173). -/
def srcMk : Nat := 0
def srcTiu : Nat := 1
def srcRing : Nat := 2
def srcOda : Nat := 3
def srcHandover : Nat := 4
def srcChFault : Nat := 5
def srcTtFault : Nat := 6
def srcUnderrun : Nat := 7
def srcBreak : Nat := 8
def srcTrussCmd : Nat := 9

/-- The bell word of a bell that the device raises; in a truss that is mixed at its origin it has no payload (R6). -/
def State.bellWord (s : State) (kind number : Nat) (payload : Byte) (origin : Ticks) (source id : Nat) : BellWord :=
  { kind := BitVec.ofNat 4 kind, originDev := BitVec.ofNat 6 s.deviceNum, hops := 0
    payload := if s.mixedAt origin then 0 else payload
    number := BitVec.ofNat 8 number, origin := origin, source := BitVec.ofNat 4 source
    sourceId := BitVec.ofNat 14 id }

/-- A bell goes out on lane `l`, HOPS one up; a version 1 link carries it without PAYLOAD (R193, R196). -/
def State.sendBell (s : State) (l : Nat) (w : BellWord) : State :=
  s.sendLink l (.bell { w with hops := w.hops + 1, payload := if (s.lane l).version = 1 then 0 else w.payload })

/-- A bell goes out on every truss link that is UP but the one it came on (R193). -/
def State.forwardBell (s : State) (w : BellWord) (but : Option Nat) : State := s.forAll (s.upLinks but) fun s l => s.sendBell l w

/-! ## The bell unit (R186, R189) -/

/-- A bell waits in the bell unit for its release and for the moment of passing. -/
def State.keepBell (s : State) (b : PendingBell) : State :=
  { s with truss := { s.truss with bells := s.truss.bells ++ [b] } }

/-- A bell that reaches the unit on time. -/
def State.punctual (s : State) (w : BellWord) (arrived : Ticks) : PendingBell :=
  { word := w, effective := s.effective w.origin, releaseAt := s.releaseTime w.origin, arrived := arrived
    late := false, released := false, passed := false, heard := false }

/-- A bell reaches the unit later than 50 ns before its effective time (R189). -/
def PendingBell.isLate (b : PendingBell) : Bool := decide (0 < ticksDiff b.arrived (b.effective - nsTicks 50))

/-- A bell reaches the unit after its release time (R186). -/
def PendingBell.isSlow (b : PendingBell) : Bool := decide (0 < ticksDiff b.arrived b.releaseAt)

/-- A LOCAL bell (R173): it stays on the device and is subject to neither ownership nor admission. -/
def State.raiseLocal (s : State) (number : Nat) (payload : Byte) (origin : Ticks) (source id : Nat) : State :=
  s.keepBell (s.punctual (s.bellWord 2 number payload origin source id) origin)

/-- The device enters BROKEN, unless it is (R198): over a lost link, from a BREAK block, or on a late bell; `lane` is
left out of the BREAK blocks, `shown` stands in their LANE field. -/
def State.enterBroken (s : State) (lane : Option Nat) (shown : Nat) (payload : Byte) : State :=
  if s.truss.broken then s
  else
    let now := s.trussNow
    let s := { (s.trussFlag tfBreakSeen).alert alTrussBreak with
      truss := { (s.trussFlag tfBreakSeen).truss with broken := true, breakTime := now } }
    let s := s.sendLinks (s.upLinks lane)
      (.break_ { detector := BitVec.ofNat 6 s.deviceNum, lane := BitVec.ofNat 6 shown, time := now })
    let v := s.truss.breakBell.toNat
    let s := if bitOf v 15 then s.raiseLocal (v % 256) payload now srcBreak shown else s
    s.allChans fun _ c => { c with broke := .pending }

/-- A late bell of KIND = BELL under LATE_POLICY = BREAK (R190). -/
def State.lateBreak (s : State) : State := s.when (decide (s.truss.latePolicy = 2)) fun s => s.enterBroken none 63 0xFE

/-- A late bell counts (R189). -/
def State.countLate (s : State) : State :=
  let t := (s.trussFlag tfLate).truss
  ({ s with
    truss := { t with
      lateBells := s.truss.lateBells + 1, lateWas := keepWas s.truss.lateWas s.moment s.truss.lateBells }
    card := { s.card with lateBells := satInc 32 s.card.lateBells } } : State).alert alLateBell

/-- A bell as LATE_POLICY leaves it where it is late at truss time `x`: released at once, and passed to channels, at its
arrival there, under APPLY alone (R189, R190). -/
def PendingBell.turnLate (b : PendingBell) (policy : Nat) (x : Ticks) : PendingBell :=
  { b with
    late := true, arrived := x, releaseAt := if b.released then b.releaseAt else x
    passed := b.passed || decide (policy ≠ 0) }

/-- A bell comes to the bell unit at truss time `arrived` (R186, R189, R190): it waits there for its release and for the
moment of passing; a slow bell counts, and so does a late one, which may break the truss. While ECLK stands it does not
reach the unit: it is on its way until ECLK runs (R14). The number of ECLK cycles that the way takes otherwise R14 does not
give; `arrived` is its end (DESIGN CHOICE, assumption log 117). -/
def State.holdBell (s : State) (w : BellWord) (arrived : Ticks) : State :=
  let b := s.punctual w arrived
  if s.eclk.stopped then { s with truss := { s.truss with inbound := s.truss.inbound ++ [w] } }
  else if b.isLate then
    let s := s.countLate.keepBell (b.turnLate s.truss.latePolicy arrived)
    if w.kind = 1 then s else s.lateBreak
  else if b.isSlow then
    ({ s with truss := { s.truss with slowBells := s.truss.slowBells + 1 } } : State).keepBell { b with releaseAt := arrived }
  else s.keepBell b

/-! ## Raising a bell -/

/-- A bell is refused: BELLS_REFUSED counts one (R176, R177). -/
def State.refuseBell (s : State) : State :=
  { s with truss := { s.truss with refused := s.truss.refused + 1 } }

/-- The device owns the number at an origin (R176, R179). -/
def State.ownsAt (s : State) (number : Nat) (o : Ticks) : Bool := decide (s.ownerAt number o = s.deviceNum)

/-- The device owns the number now (R176). -/
def State.owns (s : State) (number : Nat) : Bool := s.ownsAt number s.trussNow

/-- The origin lies at least 20 ns (320 ticks) after that of the last bell of the number admitted (R177). -/
def State.admissible (s : State) (number : Nat) (origin : Ticks) : Bool :=
  match sget (fun _ => none) s.truss.lastOrigin number with
  | none => true
  | some o => decide (320 ≤ ticksDiff origin o)

/-- A bell of KIND = BELL admitted and raised (R174); it reaches this device's own bell unit at truss time `arrived`. -/
def State.admitBell (s : State) (number : Nat) (payload : Byte) (origin : Ticks) (source id : Nat) (arrived : Ticks) :
    State :=
  let w := s.bellWord 0 number payload origin source id
  let s := { s with truss := { s.truss with
    lastOrigin := sset (fun _ => none) s.truss.lastOrigin number (some origin) } }
  (s.forwardBell w none).holdBell w arrived

/-- A bell raised by a source that neither waits nor is held: not raised, and counted, where it is not owned or
comes too soon (R176, R177). -/
def State.raiseBell (s : State) (number : Nat) (payload : Byte) (origin : Ticks) (source id : Nat) (arrived : Ticks) :
    State :=
  if s.ownsAt number origin && s.admissible number origin then s.admitBell number payload origin source id arrived
  else s.refuseBell

end Sys2Proof.Machine
end

