-- ==== Sys2Proof/Machine/Datapath.lean ====
section
/-! DEFINITION. The arithmetic of the channel digital path (05_channels_and_dac.md): the quarter-wave table, the
output code of one sample (R118), stored samples (R28), and how a channel's output is worked out from one granule
boundary to a later one. -/

namespace Sys2Proof.Machine

/-! ## R118 -/

/-- pi / 2 in units of 2^-64. -/
def halfPi : Nat := 28976077832308491370

/-- Terms of the sine series from the k-th on: `t` is the last term's magnitude, `neg` the next one's sign; all in
units of 2^-64, `x2` the angle's square. -/
def sineSeries : Nat → Nat → Nat → Bool → Nat → Int
  | 0, _, _, _, _ => 0
  | n + 1, k, x2, neg, t =>
    let t' : Nat := t * x2 / 2 ^ 64 / (2 * k * (2 * k + 1))
    (if neg then -(t' : Int) else (t' : Int)) + sineSeries n (k + 1) x2 (!neg) t'

/-- The quarter-wave table: QW[i] = 32,767 sin(pi/2 (i + 0.5) / 16,384), rounded to the nearest integer (R118). The
series in 64-bit fractions is exact enough for every one of the 16,384 entries: none lies within 2 * 10^-6 of a
half. -/
def quarterWave (i : Nat) : Int :=
  let x := (2 * i + 1) * halfPi / 32768
  let s := (x : Int) + sineSeries 13 1 (x * x / 2 ^ 64) true x
  (2 * 32767 * s + 2 ^ 64) / 2 ^ 65

/-- The sine value of a 16-bit phase index (R118). -/
def sineOf (theta : BitVec 16) : Int :=
  let q := theta.toNat / 16384
  let j := theta.toNat % 16384
  match q with
  | 0 => quarterWave j
  | 1 => quarterWave (16383 - j)
  | 2 => -quarterWave j
  | _ => -quarterWave (16383 - j)

/-- The phase index of output sample `k` of a granule with accumulator `acc` (R118). -/
def phaseIndex (v : ChValues) (acc : BitVec 48) (k : Nat) : BitVec 16 :=
  BitVec.ofNat 16 ((acc + BitVec.ofNat 48 k * v.freq).toNat / 2 ^ 32) + v.phase

/-- The code before saturation (R118): mode, gain, offset and one rounding, half to even. -/
def rawCode (v : ChValues) (s sine : Int) : Int :=
  let m : Int := match v.mode.toNat with
    | 0 => s * 2 ^ 30
    | 1 => v.amp.toNat * sine * 2 ^ 11
    | 2 => s * sine * 2 ^ 15
    | _ => s * 2 ^ 30 + v.amp.toNat * sine * 2 ^ 11
  roundHalfEven (m * v.gain.toNat + v.offset.toInt * 2 ^ 41) (2 ^ 45)

/-- The 12-bit code and whether it saturated (R118, R121). -/
def limitCode (c : Int) : BitVec 12 × Bool :=
  if c > 2047 then (2047, true) else if c < -2048 then (BitVec.ofInt 12 (-2048), true) else (BitVec.ofInt 12 c, false)

/-- The output code of sample `k` of a granule: stored sample `smp`, accumulator `acc` at the granule's start. -/
def sampleCode (v : ChValues) (acc : BitVec 48) (k : Nat) (smp : BitVec 12) : BitVec 12 × Bool :=
  limitCode (rawCode v smp.toInt (sineOf (phaseIndex v acc k)))

/-- The accumulator `n` granules on, F unchanged (R118, R122). -/
def accAfter (acc freq : BitVec 48) (n : Nat) : BitVec 48 := acc + BitVec.ofNat 48 (16 * n) * freq

/-! ## Stored samples (R28) -/

/-- A stored sample: its code and markers A and B. -/
structure Stored where
  code : BitVec 12
  a : Bool
  b : Bool
  deriving DecidableEq, Repr

/-- Bytes of a granule: 24 for P12, 32 for W16. -/
def granuleBytes (format : BitVec 2) : Nat := if format = 0 then 24 else 32

/-- Sample `k` of a granule's bytes (R28, R29). -/
def storedSample (format : BitVec 2) (bs : Bytes) (k : Nat) : Stored :=
  if format = 0 then
    { code := BitVec.ofNat 12 (leNat bs / 2 ^ (12 * k)), a := false, b := false }
  else
    let c := leAt bs (2 * k) 2
    { code := BitVec.ofNat 12 c, a := bitOf c 12, b := bitOf c 13 }

/-- Words of a granule. -/
def granuleWords (format : BitVec 2) : Nat := granuleBytes format / 8

/-! ## Fetching (R15)

The buffers are held as their difference from segment memory: a word of a buffer that is not listed equals the word
of segment memory that it was read from. A write of segment memory lists the words that it leaves behind in a
buffer (`State.holdFetched`). -/

/-- What supplies a channel's samples: stored words from byte address `base` on, `words` of them, played from word
`first` of the descriptor's play at boundary `k0` with hold factor `h`; the words of the sample fetch buffer and of
the escape head buffer that differ from memory. -/
structure Source where
  base : Nat
  words : Nat
  first : Nat
  format : BitVec 2
  k0 : Nat
  h : Nat
  buf : Sparse (Option WordRead)
  head : Option Head
  deriving DecidableEq, Repr

/-- The port of a Joiner can have sent unit `i` of its oldest job by ECLK cycle `c`: one unit a cycle, in order (R74). -/
def Joiner.canSend (jn : Joiner) (i c : Nat) : Bool := decide (jn.portFrom + i ≤ c)

/-- Unit `i` of the oldest job `w` has reached HBM by ECLK cycle `c`, before the job is complete: no earlier than a cycle
after the port can have sent it, and then after a time that is free (R17, R74). -/
def Joiner.landed (jn : Joiner) (w : WpJob) (i c : Nat) : Bool :=
  decide (jn.portFrom + i + 1 + (Config.freeValue w.draw (2 ^ 110 + i)).toNat ≤ c)

/-- The 64-bit word at byte address `x` as a unit of a write-port job has left it that has reached HBM by ECLK cycle `c`,
the job not being complete. Of each port only the oldest job has begun (R17, R74). -/
def State.coming (s : State) (c x : Nat) : Option (BitVec 64) :=
  s.joiners.foldl (fun m p => match p.2.jobs with
    | w :: _ =>
      if w.dst ≤ x ∧ x < w.dst + 16 * w.units ∧ p.2.landed w ((x - w.dst) / 16) c = true then
        let k := w.src + (x - w.dst) / 4
        let word (k : Nat) : Word := (sget (fun _ => none) w.kept k).getD (sget (fun _ => 0) p.2.shared k)
        some (BitVec.ofNat 64 ((word k).toNat + (word (k + 1)).toNat * 2 ^ 32))
      else m
    | [] => m) none

/-- A playback read of the word at `x` in ECLK cycle `c`: as segment memory has it, or as a unit of an unfinished
write-port job has left it (R17). -/
def State.playWord (s : State) (c reader x : Nat) : WordRead :=
  match s.coming c x with
  | some v => .data v
  | none => s.mem.readWord s.draws reader x

/-- Word `w` of a descriptor's play as its buffers give it, a read being made in ECLK cycle `c`. -/
def Source.word (src : Source) (s : State) (c reader w : Nat) : WordRead :=
  match src.head with
  | some v =>
    if w < v.words then (sget (fun _ => none) v.buf w).getD (s.playWord c reader (768 * v.base.toNat + 8 * w))
    else (sget (fun _ => none) src.buf w).getD (s.playWord c reader (src.base + 8 * w))
  | none => (sget (fun _ => none) src.buf w).getD (s.playWord c reader (src.base + 8 * (w % src.words)))

/-- The words of stored granule `i` of the present repetition. -/
def Source.granule (src : Source) (s : State) (c reader i : Nat) : List WordRead :=
  let n := granuleWords src.format
  (List.range n).map fun j => src.word s c reader (src.first + i * n + j)

/-- How many of the words of stored granule `i` are read from HBM for it: those of the escape head buffer were read when
it was filled (R40, R99). -/
def Source.fresh (src : Source) (i : Nat) (rs : List WordRead) : List WordRead :=
  match src.head with
  | some v => rs.drop (v.words - (src.first + i * granuleWords src.format))
  | none => rs

/-- The reader of free values that a read of channel `n` for granule `g` is: another for each (R26). -/
def playReader (n g : Nat) : Nat := 1 + n + 64 * g

/-- The byte address of the payload of window page `p` (02_segment_memory.md, Stream rings). -/
def SegMem.payload (m : SegMem) (p : Nat) : Nat :=
  let q := m.bulkBase + p
  q * 2097152 + 256 * (q % 3)

/-- The ring of a STREAM. -/
def Descriptor.ringNo (d : Descriptor) : Nat := d.base.toNat % 256

/-- Words of a segment. -/
def Descriptor.segWords (d : Descriptor) : Nat := d.lenG.toNat * granuleWords d.format

/-- The source of the channel's activity, if stored samples supply it. -/
def Channel.source (c : Channel) (m : SegMem) : Option Source :=
  match c.act with
  | .play d k0 left h => some
      { base := 768 * d.base.toNat, words := d.segWords, first := (d.reps.toNat - left) * d.segWords, format := d.format
        k0 := k0, h := h, buf := d.buf, head := none }
  | .escape d k0 h _ => some
      { base := 768 * d.base.toNat, words := d.segWords, first := 0, format := d.format, k0 := k0, h := h, buf := d.buf
        head := d.head }
  | .stream d p k0 _ h => some
      { base := m.payload p, words := (m.ring d.ringNo).lenG * granuleWords d.format, first := 0, format := d.format
        k0 := k0, h := h, buf := d.buf, head := none }
  | _ => none

/-! ## Output from one boundary to a later one -/

/-- The code of a fill granule (R89). -/
def Channel.fillCode (c : Channel) (hold : Bool) : BitVec 12 :=
  if hold then c.lastCode.getD c.vals.park else c.vals.park

/-- The fill in force: that of TT_UNDERRUN for a late page, else PB_FILL (R89). -/
def Channel.fillHolds (c : Channel) : Bool :=
  match c.act with
  | .late d _ _ => !d.latePark
  | _ => c.vals.fillHold

/-- The samples of the granule go out as codes (R88): the channel drives its played codes. -/
def ChState.plays : ChState → Bool
  | .playing => true
  | .substituted => true
  | _ => false

/-- The channel consumes its queue and keeps its clock (R88). -/
def ChState.consumes : ChState → Bool
  | .off => false
  | .fault => false
  | _ => true

/-- Granules and output samples of which the model keeps what left the digital path: more than the pipeline latency and
2 ns of any channel (R128). -/
def pathGranules : Nat := 24
def pathSamples : Nat := 16 * pathGranules

/-- Sixteen flags, bit `j` for sample `j`. -/
def flags16 (f : Nat → Bool) : BitVec 16 := BitVec.ofNat 16 (((List.range 16).map fun j => flag (f j) j).foldl (· + ·) 0)

/-- Granule `g` leaves the digital path with these codes and markers. -/
def Channel.note (c : Channel) (g : Nat) (codes : List (BitVec 12)) (a b : BitVec 16) : Channel :=
  { c with drawn := ({ k := g, codes := codes, a := a, b := b, span := c.span, muted := decide (c.state = .muted) }
      :: c.drawn).take pathGranules }

/-- The code that a channel drives which plays nothing: HELD its last code, PARKED its park code, else the fill
(R88, R89). -/
def Channel.restCode (c : Channel) : BitVec 12 :=
  if c.state = ChState.parked then c.vals.park
  else if c.state.plays then c.fillCode c.fillHolds else c.lastCode.getD c.vals.park

/-- One granule `g` of stored samples played on channel `n` (R118, R123, R41): the codes' saturations and the last code.
A stored granule is read once for the output granules that hold it. Its markers A and B go out where its samples are
discarded, too (DESIGN CHOICE: R127 does not say, assumption log 110). -/
def Channel.playGranule (c : Channel) (s : State) (n : Nat) (src : Source) (g : Nat) : Channel × Nat × Nat :=
  let o := g - src.k0
  let i := o / src.h
  let g0 := src.k0 + i * src.h
  let rs := src.granule s (s.eclk.cycleAt (s.boundaryFs n g0)) (playReader n g0) i
  let first := o % src.h = 0
  let ce := if first then countCorrected (src.fresh i rs) else 0
  let rest := c.lastCode.getD c.vals.park
  if anyBad rs then
    ({ c.note g (List.replicate 16 (if c.state.plays then c.vals.park else rest)) 0 0 with
        lastCode := if c.state.plays then some c.vals.park else c.lastCode
        ueGranules := c.ueGranules + (if first then 1 else 0) }, ce, if first then 1 else 0)
  else
    let bs := readBytes rs
    let smp (j : Nat) : Stored := storedSample src.format bs ((16 * (o % src.h) + j) / src.h)
    let codes := (List.range 16).map fun j =>
      sampleCode c.vals (accAfter c.acc c.vals.freq (g - c.accK)) j (smp j).code
    let out := if c.state.plays then codes.map (·.1) else List.replicate 16 rest
    let c := c.note g out (flags16 fun j => (smp j).a) (flags16 fun j => (smp j).b)
    if c.state.plays then
      let sat := (codes.filter (·.2)).length
      ({ c with
          lastCode := (codes.getLast?.map (·.1)).or c.lastCode
          satCount := c.satCount + sat
          flags := if sat = 0 then c.flags else c.flags ||| 2 }, ce, 0)
    else (c, ce, 0)

/-- The granules `g`, `g + 1`, ... played, `n` of them; corrected words and replaced granules counted. -/
def Channel.playGranules (s : State) (ch : Nat) (src : Source) : Nat → Nat → Channel → Channel × Nat × Nat
  | 0, _, c => (c, 0, 0)
  | n + 1, g, c =>
    let (c, ce, ue) := c.playGranule s ch src g
    let (c, ce', ue') := Channel.playGranules s ch src n (g + 1) c
    (c, ce + ce', ue + ue')

/-- The output of the granules before boundary `k` that has not been worked out yet, under the activity and the
settings in force: the accumulator moves on (R107), codes saturate and are counted (R121), uncorrectable granules
are replaced and counted (R41), SLIP fill is counted (R110). -/
def Channel.renderTo (c : Channel) (s : State) (ch k : Nat) : Channel × Nat × Nat :=
  if k ≤ c.accK then (c, 0, 0)
  else
    let n := k - c.accK
    let (c1, ce, ue) := match c.source s.mem with
      | some src => Channel.playGranules s ch src n c.accK c
      | none =>
        let slipped := match c.act with
          | .late d k0 _ => if d.lateKeep then 0 else k - max k0 c.accK
          | _ => 0
        let m := min n pathGranules
        let noted := (List.range m).foldl (fun (v : Channel) i => v.note (k - m + i) (List.replicate 16 c.restCode) 0 0) c
        ({ c with
            drawn := noted.drawn
            lastCode := if c.state = ChState.parked ∨ c.state.plays = true then some c.restCode else c.lastCode
            slip := c.slip + slipped }, 0, 0)
    ({ c1 with acc := accAfter c.acc c.vals.freq n, accK := k }, ce, ue)

/-- Channel `n` worked out to boundary `k`, its errors counted device-wide (R40, R41). -/
def State.render (s : State) (n k : Nat) : State :=
  let (c, ce, ue) := (s.chan n).renderTo s n k
  let s := (s.setChan n c).countCe ce
  if ue = 0 then s else
    ({ s with
        mem := { s.mem with ueGranules := s.mem.ueGranules + ue }
        card := { s.card with hbmUe := min (s.card.hbmUe + ue) (2 ^ 64 - 1) } }).alert alHbmUe

/-- The last granule boundary of channel `n` at or before now; where its clock has stopped, the boundary at which
it stopped. -/
def State.boundaryNow (s : State) (n : Nat) : Nat :=
  if s.clockRuns n then s.boundaryAfter n s.now - 1 else (s.chan n).stopK

/-- A written setting comes into force at boundary `k` (R124, R393); a committed frequency word stops a running ramp. -/
def Channel.take (c : Channel) (k : Nat) : SettingValue → Channel
  | .mode v => { c with vals := { c.vals with mode := v } }
  | .ftw v => { c with vals := { c.vals with freq := v }, ramp := none }
  | .phaseOfs v => { c with vals := { c.vals with phase := v } }
  | .ncoAmp v => { c with vals := { c.vals with amp := v } }
  | .gain v => { c with vals := { c.vals with gain := v } }
  | .offset v => { c with vals := { c.vals with offset := v } }
  | .hold v => { c with vals := { c.vals with hold := v }, planned := if v = c.vals.hold then c.planned else k }
  | .park v => { c with vals := { c.vals with park := v } }
  | .fill v => { c with vals := { c.vals with fillHold := v } }

/-- The opcode of the instruction that writes the same field (R305). -/
def SettingValue.opcode : SettingValue → Option Nat
  | .mode _ => some 0x24
  | .ftw _ => some 0x20
  | .phaseOfs _ => some 0x21
  | .gain _ => some 0x25
  | .offset _ => some 0x26
  | _ => none

/-- A host write of the field that opcode `opc` writes has applied at boundary `k`. -/
def Channel.noteHost (c : Channel) (opc k : Nat) : Channel :=
  { c with hostSet := (opc, k) :: c.hostSet.filter fun p => decide (p.2 = k) }

/-- The written settings whose boundary is `k` or earlier come into force, each at its own boundary. -/
def State.takeSettings (s : State) (n k : Nat) : List (Nat × SettingValue) → State
  | [] => s
  | (x, v) :: r =>
    if s.boundaryAfter n x ≤ k then
      ((s.render n (s.boundaryAfter n x)).modChan n fun c =>
        let c := { c.take (s.boundaryAfter n x) v with pend := c.pend.drop 1 }
        match v.opcode with
        | some opc => c.noteHost opc (s.boundaryAfter n x)
        | none => c).takeSettings n k r
    else s

/-! ## Marker events (R38, R105) -/

/-- The output sample at which event `e` of the play in progress fires. -/
def Channel.eventSample (c : Channel) (e : Nat) : Nat :=
  let at_ (d : Descriptor) (k0 h : Nat) : Nat := match d.mprog[e]? with
    | some v => 16 * k0 + (16 * v.goff.toNat + v.soff.toNat) * h
    | none => 16 * k0
  match c.act with
  | .play d k0 _ h => at_ d k0 h
  | .escape d k0 h _ => at_ d k0 h
  | _ => 0

/-- The marker levels become `m` from output sample `x` on. -/
def Channel.setMarks (c : Channel) (x : Nat) (m : BitVec 16) : Channel :=
  { c with
    marks := m
    marksWere := if m = c.marks then c.marksWere
      else (x, c.marks) :: c.marksWere.filter fun p => decide (x ≤ p.1 + pathSamples) }

/-- Event `e` of the play in progress fires: its ports take its level (R38, R105). -/
def Channel.fire (c : Channel) (e : Nat) : Channel :=
  let v : MEvent := ((match c.act with
    | .play d _ _ _ => d.mprog[e]?
    | .escape d _ _ _ => d.mprog[e]?
    | _ => none).getD {})
  { c.setMarks (c.eventSample e) (if v.level then c.marks ||| v.mask else c.marks &&& ~~~v.mask) with
    events := c.events.filter fun x => decide (x ≠ e) }

/-- The event that fires first: the earliest sample, and on one sample the lowest number, so that the higher number
sets the level (R38). -/
def Channel.firstEvent (c : Channel) : Option Nat :=
  c.events.foldl (fun m e => match m with
    | none => some e
    | some x => if c.eventSample e < c.eventSample x then some e else some x) none

/-- Events of the play in progress before output sample `x` fire in order; a program has four. -/
def Channel.fireBefore : Nat → Channel → Nat → Channel
  | 0, c, _ => c
  | fuel + 1, c, x => match c.firstEvent with
    | some e => if c.eventSample e < x then Channel.fireBefore fuel (c.fire e) x else c
    | none => c

/-! ## NCO ramps (R125, R126) -/

/-- Piece `p` of the ramp profile. -/
def Channel.piece (c : Channel) (p : Nat) : NcoPiece := sget (fun _ => {}) c.profile p

/-- The running ramp makes its step at the boundary it stands at (R126). -/
def Channel.rampStep (c : Channel) : Channel :=
  match c.ramp with
  | none => c
  | some (p, i, k) =>
    let v := c.piece p
    { c with
      vals := { c.vals with freq := c.vals.freq + v.step }
      ramp :=
        if i + 1 < v.lenG then some (p, i + 1, k + 1)
        else if p < 15 ∧ (c.piece (p + 1)).lenG ≠ 0 then some (p + 1, 0, k + 1) else none }

/-! ## Bringing a channel to a boundary -/

/-- Granules of output of a stream page of the ring at hold factor `h`. -/
def Ring.granules (r : Ring) (h : Nat) : Nat := r.lenG * h

/-- A late page that a re-check took begins to play at boundary `ks`: in full under SLIP (R110), in its own slot under
KEEPTIME, the granules before it dropped (R111). -/
def Channel.startLate (c : Channel) (ks : Nat) : Channel :=
  match c.act with
  | .late d k0 h =>
    let p := d.page.getD 0
    if d.lateKeep then { c with act := .stream d p k0 (ks - k0) h, dropped := c.dropped + (ks - k0) }
    else { c with act := .stream d p ks 0 c.vals.hold }
  | _ => c

/-- The boundary up to `k` at which a late page begins: that its re-check gave it, and no earlier than its slot, which
an escape in front of it may have moved (R102). -/
def Channel.lateDue (c : Channel) (k : Nat) : Option Nat :=
  match c.act with
  | .late d k0 _ => match d.startAt with
    | some ks => if max ks k0 ≤ k then some (max ks k0) else none
    | none => none
  | _ => none

/-- The boundary before `k` at which a running ramp stands. -/
def Channel.rampDue (c : Channel) (k : Nat) : Option Nat :=
  match c.ramp with
  | some (_, _, j) => if j < k then some j else none
  | none => none

/-- Settings due by boundary `k` taken, output worked out to it, markers fired before it (R393, R118, R38). While the
core clock is stopped there is no boundary, and written settings wait (R393). -/
def State.settle (s : State) (n k : Nat) : State :=
  let s := if (s.chan n).clkStopped then s else s.takeSettings n k (s.chan n).pend
  (s.render n k).modChan n fun c => c.fireBefore 4 (16 * k)

/-- Channel `n` brought to boundary `k`: what its output passes on the way comes about in order, each at its own
boundary, ramp steps before `k` and a late page's start up to `k` among it. -/
def State.syncGo : Nat → State → Nat → Nat → State
  | 0, s, n, k => s.settle n k
  | fuel + 1, s, n, k =>
    match (s.chan n).lateDue k, (s.chan n).rampDue k with
    | none, none => s.settle n k
    | some a, none => State.syncGo fuel ((s.settle n a).modChan n fun c => c.startLate a) n k
    | none, some b => State.syncGo fuel ((s.settle n b).modChan n Channel.rampStep) n k
    | some a, some b =>
      if b < a then State.syncGo fuel ((s.settle n b).modChan n Channel.rampStep) n k
      else State.syncGo fuel ((s.settle n a).modChan n fun c => c.startLate a) n k

/-- The truss time of a TIMEGATE. -/
def Descriptor.gateTime (d : Descriptor) : Ticks := BitVec.ofNat 64 (d.arg1.toNat * 2 ^ 32 + d.arg0.toNat)

/-- The boundary at which an activity ends, or its repetition does, when nothing cuts it. -/
def State.activityEnd (s : State) (n : Nat) : Activity → Option Nat
  | .idle => none
  | .play d k0 _ h => some (k0 + d.lenG.toNat * h)
  | .stream d _ k0 _ h => some (k0 + (s.mem.ring d.ringNo).granules h)
  | .late d k0 h =>
    if d.lateKeep then some (k0 + (s.mem.ring d.ringNo).granules h)
    else d.startAt.map (max k0 · + (s.mem.ring d.ringNo).granules (s.chan n).vals.hold)
  | .gap d k0 => some (k0 + d.reps.toNat)
  | .gate d k0 => some (max k0 (s.boundaryOfTicks n d.gateTime))
  | .escape d k0 h _ => some (k0 + d.lenG.toNat * h)

/-! ## What comes first at a channel (R90, R91, R99, R116) -/

/-- The 640 ns of R16. -/
def leadFs : Nat := 640 * nsFs

/-- The channel takes its queue now: its state consumes it and its clock runs (R88, R135). -/
def State.taking (s : State) (n : Nat) : Bool := (s.chan n).state.consumes && s.clockRuns n

/-- The boundary at which the head descriptor of an idle channel starts (R90, R16, R102); a page that a check has met, and
an underrun escape, not before its scheduled start (R52, R109, R112). -/
def State.idleStart (s : State) (n : Nat) (d : Descriptor) : Nat :=
  let c := s.chan n
  let play := max (max (max (s.boundaryFrom n (d.visibleAt + leadFs)) c.notBefore) c.idleFrom) (d.sched.getD 0)
  match d.kind with
  | .play => play
  | .stream => play
  | _ => max (s.boundaryAfter n d.visibleAt) c.idleFrom

/-- A descriptor whose start is known: visible, and a STREAM only once its check has been made (R52). -/
def Descriptor.startKnown (d : Descriptor) : Bool :=
  d.visible && (!decide (d.kind = .stream) || d.page.isSome || d.late)

/-- The firing boundary of a bell that has been passed to the channel (R99). -/
def State.firingOf (s : State) (n : Nat) (b : PassedBell) : Nat := s.boundaryOfTicks n b.actsFrom

/-- The first firing boundary that a passed bell gives the escape armed throughout the granule before it (R99). -/
def State.firing (s : State) (n : Nat) : Option (Nat × Escape) :=
  match (s.chan n).armed with
  | some e =>
    let ks := ((s.chan n).bells.filter fun b => decide (b.number = e.bell)).map (s.firingOf n)
    ((ks.filter fun k => decide (e.k < k)).foldl (fun m k => match m with
      | none => some k
      | some j => some (min j k)) none).map fun k => (k, e)
  | none => none

/-- The lesser of two boundaries that may be absent. -/
def firstOf (a b : Option Nat) : Option Nat :=
  match a, b with
  | some x, some y => some (min x y)
  | some x, none => some x
  | none, b => b

/-- The first boundary at which an event of its own changes what channel `n` produces: the end of what it produces, on an
idle channel the start of its queue's head, or a firing. -/
def State.nextEdge (s : State) (n : Nat) : Option Nat :=
  let c := s.chan n
  if !s.taking n then s.activityEnd n c.act
  else
    let own := match c.act with
      | .idle => (c.queue.head?.filter Descriptor.startKnown).map (s.idleStart n)
      | a => s.activityEnd n a
    firstOf own ((s.firing n).map (·.1))

/-- Channel `n` brought to boundary `k`, or to the first boundary at which an event of its own changes what it produces if
that comes first: what follows there is the business of that event. -/
def State.syncTo (s : State) (n k : Nat) : State :=
  let k := match s.nextEdge n with
    | some e => min k e
    | none => k
  s.syncGo (k - (s.chan n).accK + 2) n k

/-! ## Writes of segment memory (R15, R17, R35) -/

/-- Words of the sample fetch buffer: 24 KiB. -/
def fetchWords : Nat := 3072

/-- Words of the escape head buffer: 12 KiB. -/
def headWords : Nat := 1536

/-- The 480 ns within which a playback read is served (R15). -/
def readFs : Nat := 480 * nsFs

/-- The place of the free choice whether a buffer of channel `n` holds the 16-byte unit of byte address `a` for
repetition `rep` of the play at place `pos` (0 the one in progress, then the queue's). -/
def unitPlace (n pos rep a : Nat) : Nat := 2 ^ 100 + ((pos * 64 + n) * 2 ^ 32 + rep) * 2 ^ 40 + a / 16

/-- The buffer `buf` of a play of `words` words from byte address `base`, before a write of the word at `x`: of the
words `lo` to `hi - 1` of the play, those that were read from `x` and are `held` (by repetition and word) stay as they
were. -/
def leaveBehind (s : State) (reader base words lo hi x : Nat) (held : Nat → Nat → Bool)
    (buf : Sparse (Option WordRead)) : Sparse (Option WordRead) :=
  if x < base ∨ base + 8 * words ≤ x then buf
  else
    let o := (x - base) / 8
    let r := (lo - o + words - 1) / words
    (List.range ((hi - lo) / words + 1)).foldl (fun b i =>
      let w := (r + i) * words + o
      if w < hi ∧ held (r + i) w = true ∧ (sget (fun _ => none) b w).isNone = true then
        sput b w (some (s.playWord s.cycle (reader + 2 ^ 40 * (w + 1)) x)) else b) buf

/-- Whether a unit had been read ahead: the words of one 16-byte unit stay or go together; which, is free (R17,
R35). -/
def readAhead (draw n pos x rep : Nat) : Bool := (Config.freeValue draw (unitPlace n pos rep x)).getLsbD 0

/-- The last boundary of channel `n` of 480 ns ago: a read issued by then has been served (R15). -/
def State.servedK (s : State) (n : Nat) : Nat := min (s.boundaryAfter n (s.now - readFs) - 1) (s.chan n).accK

/-- A descriptor whose words have all been known to the fetch engine for 480 ns: visible, and a page or an underrun escape
checked (640 ns before its start, R52). -/
def State.knownLong (s : State) (n : Nat) (d : Descriptor) : Bool :=
  let start := match d.startAt with
    | some k => some k
    | none => d.sched
  d.visible && decide (d.visibleAt + readFs ≤ s.now) && match start with
    | some k => decide (s.boundaryFs n k + readFs ≤ s.now + leadFs)
    | none => true

/-- The fetch engine fills the buffer behind the play point: of the buffer's words how many may stand in it, and how many
certainly do (R15). -/
structure Room where
  may : Nat
  sure : Nat
  deriving DecidableEq, Repr

/-- What room a play of `len` words leaves behind it. -/
def Room.behind (r : Room) (len : Nat) : Room := { may := r.may - len, sure := r.sure - len }

/-- A queued descriptor at place `pos`, before the write of the words `xs`; with what room is left behind it. -/
def Descriptor.behind (d : Descriptor) (s : State) (n pos : Nat) (room : Room) (base words reps : Nat) (xs : List Nat) :
    Descriptor × Room :=
  let room : Room := if s.knownLong n d then room else { room with sure := 0 }
  let held (x rep w : Nat) : Bool := decide (w < room.sure) || readAhead s.draws n pos x rep
  ({ d with buf := xs.foldl (fun b x =>
      leaveBehind s (playReader n pos) base words 0 (min room.may (words * reps)) x (held x) b) d.buf },
    room.behind (words * reps))

/-- The queue behind what plays: descriptors that are visible are read ahead in queue order until the buffer is full
or a STREAM has no page yet (R15). -/
def queueBehind (s : State) (n : Nat) (xs : List Nat) : Nat → Room → List Descriptor → List Descriptor
  | _, _, [] => []
  | pos, room, d :: r =>
    if !d.visible || decide (room.may = 0) then d :: r
    else match d.kind with
      | .play =>
        let (d, room) := d.behind s n pos room (768 * d.base.toNat) d.segWords d.reps.toNat xs
        d :: queueBehind s n xs (pos + 1) room r
      | .stream => match d.page with
        | some p =>
          let (d, room) :=
            d.behind s n pos room (s.mem.payload p) ((s.mem.ring d.ringNo).lenG * granuleWords d.format) 1 xs
          d :: queueBehind s n xs (pos + 1) room r
        | none => d :: r
      | _ => d :: queueBehind s n xs (pos + 1) room r

/-- The head buffer before the write of the words `xs`: full once 480 ns have passed since its
fill began, and until then holding whichever units it may. -/
def Head.behind (v : Head) (s : State) (n : Nat) (xs : List Nat) : Head :=
  { v with buf := xs.foldl (fun b x => leaveBehind s (playReader n 128) (768 * v.base.toNat) v.words 0 v.words x
      (fun rep _ => decide (v.start + readFs ≤ s.now) || readAhead s.draws n 128 x rep) b) v.buf }

/-- The boundary at which the channel's activity began. -/
def Channel.actFrom (c : Channel) : Nat :=
  match c.act with
  | .idle => c.idleFrom
  | .play _ k0 _ _ => k0
  | .stream _ _ k0 _ _ => k0
  | .late _ k0 _ => k0
  | .gap _ k0 => k0
  | .gate _ k0 => k0
  | .escape _ k0 _ _ => k0

/-- What plays, before the write of the words `xs`, with what room is left in the buffer behind it. A granule takes at most
four words, so that what began in the last 480 ns was at most that far ahead of the play point then; behind an escape
that a bell has fired nothing was read before it fired. -/
def Channel.actBehind (c : Channel) (s : State) (n : Nat) (xs : List Nat) : Activity × Room :=
  let kx := s.servedK n
  let back := 4 * (c.actFrom - kx)
  match c.source s.mem with
  | none => (c.act, { may := fetchWords, sure := fetchWords - back })
  | some src =>
    let lo := src.first + (c.accK - src.k0) / src.h * granuleWords src.format
    let reps := match c.act with | .play d .. => d.reps.toNat | _ => 1
    let hi := min (lo + fetchWords) (reps * src.words)
    let watched : Bool := match c.act with | .escape _ _ _ w => w | _ => false
    let sure := if src.k0 ≤ kx then src.first + (kx - src.k0) / src.h * granuleWords src.format + fetchWords
      else if watched then 0 else src.first + fetchWords - back
    let held (x rep w : Nat) : Bool := decide (w < sure) || readAhead s.draws n 0 x rep
    let buf := xs.foldl (fun b x => leaveBehind s (playReader n 0) src.base src.words lo hi x (held x) b) src.buf
    (match c.act with
      | .play d k0 left h => .play { d with buf := buf } k0 left h
      | .escape d k0 h w => .escape { d with buf := buf, head := d.head.map fun v => v.behind s n xs } k0 h w
      | .stream d p k0 x h => .stream { d with buf := buf } p k0 x h
      | a => a, { may := lo + fetchWords - reps * src.words, sure := sure - reps * src.words })

/-- The channel's buffers before a write of the words `xs`. -/
def Channel.behind (c : Channel) (s : State) (n : Nat) (xs : List Nat) : Channel :=
  let (a, room) := c.actBehind s n xs
  { c with act := a, queue := queueBehind s n xs 1 room c.queue, head := c.head.map fun v => v.behind s n xs }

/-- Channel `n` is brought to the last boundary it has passed (R17: what has left it is past); where the clocks stand it is
there already (R354). -/
def State.catchUp (s : State) (n : Nat) : State :=
  if s.clockRuns n && !s.still then s.syncTo n (s.boundaryNow n) else s

/-- Every channel brought to now. -/
def State.catchUpAll (s : State) : State := s.forAll (s.chans.map (·.1)) State.catchUp

/-- Before the bytes from `a` on change, `len` of them: what has been played stays played, and what the fetch buffers
have read ahead stays in them (R15, R17, R35). -/
def State.holdFetched (s : State) (a len : Nat) : State :=
  let s := s.catchUpAll
  let xs := (List.range (ceilDiv (a % 8 + len) 8)).map fun i => a / 8 * 8 + 8 * i
  s.forAll (s.chans.map (·.1)) fun s n => s.modChan n fun c => c.behind s n xs

/-- Segment memory after a write of bytes from an address. -/
def State.writeMem (s : State) (a : Nat) (bs : Bytes) : State :=
  (s.holdFetched a bs.length).modMem fun m => m.write a bs

end Sys2Proof.Machine
end

