-- ==== Sys2Proof/Machine/Pages.lean ====
section
/-! DEFINITION. Hall passes, pins and stream rings (02_segment_memory.md, R44 to R53). -/

namespace Sys2Proof.Machine

/-- Bytes of a window page. -/
def pageBytes : Nat := 2097152

/-- The window pages that a byte range overlaps (R47). -/
def SegMem.pagesOf (m : SegMem) (a len : Nat) : List Nat :=
  let lo := m.bulkBase * pageBytes
  let hi := lo + m.bulkPages * pageBytes
  if len = 0 ∨ a + len ≤ lo ∨ hi ≤ a then []
  else
    let first := (max a lo - lo) / pageBytes
    let last := (min (a + len) hi - 1 - lo) / pageBytes
    (List.range (last + 1 - first)).map (· + first)

/-- Bytes that a segment occupies. -/
def segBytes (format : BitVec 2) (lenG : Nat) : Nat := lenG * (if format = 0 then 24 else 32)

/-- The window pages that a segment overlaps. -/
def SegMem.segPages (m : SegMem) (e : SegEntry) : List Nat :=
  m.pagesOf (768 * e.base.toNat) (segBytes e.format e.lenG.toNat)

/-- A pin may be taken on the page: its pass is DEVICE or READING (R46). -/
def Page.pinnable (p : Page) : Bool := decide (p.pass = .device ∨ p.pass = .reading)

/-- A pin taken (R46). -/
def Page.pin (p : Page) : Page := { p with pass := .reading, pins := p.pins + 1 }

/-- A pin released (R46): when none is left, the page is FREE after a completed stream play of it, else DEVICE. -/
def Page.unpin (completed : Bool) (p : Page) : Page :=
  if p.pins ≤ 1 then
    { p with pins := 0, pass := if completed || p.played then .free else .device, played := false }
  else { p with pins := p.pins - 1, played := completed || p.played }

/-- Pins taken on every page of a list. -/
def State.pinAll (s : State) (ps : List Nat) : State := s.forAll ps fun s p => s.modPage p Page.pin

/-- Pins released on every page of a list. -/
def State.unpinAll (s : State) (ps : List Nat) (completed : Bool) : State :=
  s.forAll ps fun s p => s.modPage p (Page.unpin completed)

/-- The page that a ring plays next. -/
def Ring.nextPage (r : Ring) : Nat := r.first + r.playPtr

/-- PLAY_PTR one on (R52). -/
def Ring.advanced (r : Ring) : Nat := if r.playPtr + 1 < r.count then r.playPtr + 1 else 0

/-- The page that the descriptors of STRM `serial` have met in ECLK cycle `cycle` (R53). -/
def Ring.met (r : Ring) (serial cycle : Nat) : Option Nat :=
  (r.checks.find? fun e => decide (e.1 = serial ∧ e.2.1 = cycle)).map fun e => e.2.2

/-- The advances of one cycle, with one more at the front; those of earlier cycles are forgotten. -/
def Ring.noted (r : Ring) (serial cycle p : Nat) : List (Nat × Nat × Nat) :=
  (serial, cycle, p) :: r.checks.filter fun e => decide (e.2.1 = cycle)

/-- The window page a check of a STREAM of ring `i` meets in ECLK cycle `c`: that at PLAY_PTR, or, for the descriptors
of one STRM whose checks fall in one cycle, the page the first of them met (R53). -/
def State.ringPage (s : State) (c i serial : Nat) : Nat :=
  let r := s.mem.ring i
  match r.met serial c with
  | some p => p
  | none => r.nextPage

/-- PLAY_PTR advances for a STREAM of ring `i` that has met page `p` in ECLK cycle `c`, once for all descriptors of one
STRM in one cycle (R53). -/
def State.ringAdvance (s : State) (c i serial p : Nat) : State :=
  let r := s.mem.ring i
  if (r.met serial c).isSome then s
  else s.setMem (s.mem.setRing i { r with playPtr := r.advanced, checks := r.noted serial c p })

/-- A check in ECLK cycle `c` takes page `p` of ring `i` for channel `n`: a pin, PLAY_PTR, and SPLITS where another
channel took the ring's previous page (R52, R53). -/
def State.ringTake (s : State) (c i serial p n : Nat) : State :=
  let r := s.mem.ring i
  let r' : Ring :=
    if (r.met serial c).isSome then
      -- a channel of the gang joins: it is one of those that took the ring's last page only where that is its page
      match r.checks with
      | e :: _ => if e.1 = serial then { r with takers := r.takers ++ [n] } else r
      | [] => r
    else
      { r with
        playPtr := r.advanced
        checks := r.noted serial c p
        splits := if r.takers = [] ∨ n ∈ r.takers then r.splits else min (r.splits + 1) 65535
        takers := [n] }
  (s.setMem (s.mem.setRing i r')).modPage p Page.pin

/-- A page is ready for a check (R52, R109): DEVICE or READING, and not CLOSING. -/
def Page.ready (p : Page) : Bool := p.pinnable && !p.closing

end Sys2Proof.Machine
end

