-- ==== Sys2Proof/Machine/Playback.lean ====
section
/-! DEFINITION. What a channel does with its play queue (04_timetable_playback.md) and the operations on channel
states that other families share (R135, R136, R114, R163). Every effect is dated at its own granule boundary. -/

namespace Sys2Proof.Machine

/-! ## PB_STATUS flags (R117), bits 31 to 26 -/

def pbBoundaryHit : Nat := 5
def pbEscFired : Nat := 4
def pbLateGate : Nat := 3
def pbEmptied : Nat := 2
def pbUnderrun : Nat := 1
def pbEscBad : Nat := 0

/-- A PB_STATUS flag set. -/
def Channel.pbSet (c : Channel) (i : Nat) : Channel := { c with pbFlags := c.pbFlags ||| BitVec.ofNat 6 (2 ^ i) }

/-- A late gate, or a late start behind one (R94, R95). -/
def Channel.lateGate (c : Channel) : Channel := { c.pbSet pbLateGate with lateGates := c.lateGates + 1 }

/-! ## Descriptors and pins -/

/-- Every page a descriptor holds a pin on. -/
def Descriptor.allPins (d : Descriptor) : List Nat := d.pins ++ d.page.toList

/-- A CONTROL descriptor that arms an escape. -/
def Descriptor.arms (d : Descriptor) : Bool :=
  decide (d.kind = .control) && decide (d.opc = 0x2A) && !bitOf d.arg0.toNat 8

/-- The descriptor of an activity. -/
def Activity.desc? : Activity → Option Descriptor
  | .idle => none
  | .play d _ _ _ => some d
  | .stream d _ _ _ _ => some d
  | .late d _ _ => some d
  | .gap d _ => some d
  | .gate d _ => some d
  | .escape d _ _ _ => some d

/-- Pins that an activity holds. -/
def Activity.pins (a : Activity) : List Nat := (a.desc?.map Descriptor.allPins).getD []

/-- The activity plays stored samples or a page's slot: its boundaries are segment boundaries (R131). -/
def Activity.isSegment : Activity → Bool
  | .play .. => true
  | .stream .. => true
  | .escape .. => true
  | _ => false

/-- A boundary at which a play or repetition begins or ends has come: a written span takes it (R131). -/
def State.segmentEdge (s : State) (n k : Nat) : State :=
  s.modChan n fun c => match c.spanPending with
    | some (v, x, none) =>
      if s.boundaryAfter n x ≤ k then { c with spanPending := some (v, x, some k) } else c
    | _ => c

/-- Slots that leave the queue at boundary `k` are seen free 2 ECLK later (R67). -/
def State.slotSeen (s : State) (n k : Nat) : Nat := s.eclk.cycleAt (s.boundaryFs n k) + 2

/-- The head descriptor leaves the queue at boundary `k` (R67). -/
def State.popHead (s : State) (n k : Nat) : State :=
  s.modChan n fun c => { c with queue := c.queue.drop 1, freed := c.freed ++ [s.slotSeen n k] }

/-! ## CONTROL descriptors (R91) -/

/-- An armed escape, or one being armed, is given up: its pins are released (R98), and the bells passed to it fire no
later escape (R187). -/
def State.disarm (s : State) (n : Nat) : State :=
  let c := s.chan n
  let ps := (c.armed.map (·.d.allPins)).getD [] ++ (c.arming.map (·.d.allPins)).getD []
  (s.modChan n fun c => { c with armed := none, arming := none, bells := [] }).unpinAll ps false

/-- The head of descriptor `d`'s segment, its fill begun at device time `x` (R15, R97). -/
def Descriptor.headFrom (d : Descriptor) (x : Nat) : Head :=
  { seg := d.segId, base := d.base, words := min headWords d.segWords, start := x }

/-- The head buffer holds the whole head of segment `seg` at device time `x` (R97). -/
def Channel.headIn (c : Channel) (seg : BitVec 16) (x : Nat) : Bool :=
  match c.head with
  | some v => decide (v.seg = seg ∧ v.start + leadFs ≤ x)
  | none => false

/-- The head buffer of channel `n` is filled, from device time `x` on, with the head of descriptor `d`'s segment: what the
controllers correct in its words counts (R15, R40, R97). -/
def State.fillHead (s : State) (n : Nat) (d : Descriptor) (x : Nat) : State :=
  let v := d.headFrom x
  let rs := (List.range v.words).map fun w =>
    s.playWord (s.eclk.cycleAt x) (playReader n 128 + 2 ^ 40 * (w + 1)) (768 * v.base.toNat + 8 * w)
  (s.modChan n fun c => { c with head := some v }).countCe (countCorrected rs)

/-- An ESC at its own boundary `k` (R97, R98): it disarms; an arming one is armed at the later of `k` and its head
fill's start plus 640 ns. Its fill began when it became visible (`fillAt`), or begins here, unless the head is
already in the buffer. -/
def State.applyEsc (s : State) (n k : Nat) (d : Descriptor) : State :=
  let s := s.disarm n
  if bitOf d.arg0.toNat 8 then s
  else
    let x := s.boundaryFs n k
    let there := (s.chan n).headIn d.segId x
    let due := match d.fillAt with
      | some f => max k (s.boundaryFrom n (f + leadFs))
      | none => if there then k else max k (s.boundaryFrom n (x + leadFs))
    let e : Escape := { d := d, bell := d.arg0.toNat % 256, k := due }
    (if d.fillAt.isSome || there then s else s.fillHead n d x).modChan n fun c =>
      if due ≤ k then { c with armed := some e } else { c with arming := some e }

/-- Granules of a mute at channel `n`: the least number that covers 200 ns (R132). -/
def State.muteGranules (s : State) (n : Nat) : Nat := s.granulesFor n (200 * nsFs)

/-- A span setting, the `host`'s or a descriptor's, applies at boundary `k` (R132, R133). -/
def State.applySpan (s : State) (n k : Nat) (v : BitVec 3) (host : Bool) : State :=
  let m := s.muteGranules n
  s.modChan n fun c =>
    if c.span = v then { c with spanDeferred := if c.state = ChState.held then none else c.spanDeferred }
    else match c.state with
      | .off => { c with span := v }
      | .fault => { c with span := v }
      | .held => { c with spanDeferred := some (v, host) }
      | .muted => { c with span := v, spanOld := c.span, muteEnd := k + m }
      | _ => { c with span := v, spanOld := c.span, under := c.state, state := .muted, muteEnd := k + m }

/-- A host write that a hardware update of the same cycle overtakes (R305). -/
def State.loseWrite (s : State) : State :=
  { s with sys := { s.sys with writeLost := true, writeLosts := s.sys.writeLosts + 1 } }

/-- A waiting host span is due at boundary `k`. -/
def State.hostSpanAt (s : State) (n k : Nat) : Bool :=
  match (s.chan n).spanPending with
  | some (_, _, some j) => decide (j = k)
  | some (_, x, none) => !((s.chan n).act.isSegment && (s.chan n).state.consumes) && decide (s.boundaryAfter n x = k)
  | none => false

/-- A descriptor and a host write of one field meet at boundary `k`: the descriptor's value stands, the host's is
discarded (R124, R305). -/
def State.meetHost (s : State) (n k : Nat) (d : Descriptor) : State :=
  let opc := d.opc.toNat
  let s := s.when ((s.chan n).hostSet.contains (opc, k)) State.loseWrite
  s.when (decide (opc = 0x27) && s.hostSpanAt n k) fun s =>
    (s.modChan n fun c => { c with spanPending := none }).loseWrite

/-- A CONTROL descriptor applied at boundary `k` (R91). -/
def State.applyControl (s : State) (n k : Nat) (d : Descriptor) : State :=
  let s := s.meetHost n k d
  let a := d.arg0.toNat
  match d.opc.toNat with
  | 0x20 => s.modChan n fun c =>
      { c with vals := { c.vals with freq := BitVec.ofNat 48 (d.arg1.toNat * 2 ^ 32 + a) }, ramp := none }
  | 0x21 => s.modChan n fun c => { c with vals := { c.vals with phase := BitVec.ofNat 16 a } }
  | 0x22 => s.modChan n fun c =>
      if a = 1 then
        (if (c.piece 0).lenG = 0 then c else { c with ramp := some (0, 0, k) })
      else { c with ramp := none }
  | 0x23 => s.modChan n fun c => { c with acc := 0 }
  | 0x24 => s.modChan n fun c => { c with vals := { c.vals with mode := BitVec.ofNat 2 a } }
  | 0x25 => s.modChan n fun c => { c with vals := { c.vals with gain := BitVec.ofNat 16 a } }
  | 0x26 => s.modChan n fun c => { c with vals := { c.vals with offset := BitVec.ofNat 16 a } }
  | 0x27 => s.applySpan n k (BitVec.ofNat 3 a) false
  | 0x28 => s.modChan n fun c =>
      let mask := BitVec.ofNat 16 (a / 65536)
      c.setMarks (16 * k) ((c.marks &&& ~~~mask) ||| (BitVec.ofNat 16 a &&& mask))
  | 0x29 => s.modChan n fun c => { c with trgo := decide (a = 1) }
  | 0x2A => s.applyEsc n k d
  | _ => s

/-- The CONTROL descriptors that stand at the head and are visible by boundary `k`, applied in queue order (R91). -/
def State.applyControls : Nat → State → Nat → Nat → State
  | 0, s, _, _ => s
  | fuel + 1, s, n, k =>
    match (s.chan n).queue with
    | d :: _ =>
      if d.kind = .control ∧ d.visible = true ∧ d.visibleAt ≤ s.boundaryFs n k then
        State.applyControls fuel ((s.popHead n k).applyControl n k d) n k
      else s
    | [] => s

/-- All of them: a queue holds 64 descriptors. -/
def State.controlsAt (s : State) (n k : Nat) : State := s.applyControls 64 n k

/-! ## Starting (R38, R39, R69, R88, R90) -/

/-- Active events of a copied marker program that fall inside its segment (R38). -/
def Descriptor.activeEvents (d : Descriptor) : List Nat :=
  if d.mken then (List.range 4).filter fun e => match d.mprog[e]? with
    | some v => v.valid && decide (16 * v.goff.toNat + v.soff.toNat < 16 * d.lenG.toNat)
    | none => false
  else []

/-- A play or repetition of a segment begins at boundary `k` with hold factor `h`: its trigger pulse while TRGO is
on (R39), its events to come (R38). -/
def Channel.beginPlay (c : Channel) (d : Descriptor) (k h : Nat) : Channel :=
  { c with
    events := d.activeEvents
    pulses :=
      if c.trgo ∧ d.trigMask ≠ 0 then c.pulses ++ [(d.trigMask, 16 * k, 16 * k + (d.trigLen.toNat + 1) * 16 * h)]
      else c.pulses }

/-- A channel that was PARKED plays (R135), under a mute too; it has begun. -/
def Channel.leavePark (c : Channel) : Channel :=
  { c with
    state := if c.state = ChState.parked then .playing else c.state
    under := if c.under = ChState.parked then .playing else c.under
    begun := true }

/-- The escape segment of descriptor `d` begins at boundary `k` (R99, R112): later plays not before 640 ns on. A watched
one plays its first 12 KiB from the head buffer (R15). -/
def State.beginEscape (s : State) (n k : Nat) (d : Descriptor) (watched : Bool) : State :=
  let nb := s.boundaryFrom n (s.boundaryFs n k + leadFs)
  let d := { d with head := if watched then (s.chan n).head.filter fun v => decide (v.seg = d.segId) else none }
  (s.modChan n fun c =>
    ({ c.leavePark with
        act := .escape d k c.vals.hold watched, notBefore := nb, planned := k, emptied := false, gateOpened := none
      }).beginPlay d k c.vals.hold).segmentEdge n k

/-- The descriptor at the head starts at boundary `k`; a gate is handled by its caller (R69, R90). -/
def State.beginHead (s : State) (n k : Nat) (d : Descriptor) : State :=
  let late := (s.chan n).gateOpened.isSome && decide (d.kind = .play ∨ d.kind = .stream)
  let s := (s.popHead n k).modChan n fun c =>
    let c := { c.leavePark with gateOpened := none, emptied := false }
    if late then c.lateGate else c
  match d.kind with
  | .play =>
    if d.underrunEsc then s.beginEscape n k d false
    else (s.modChan n fun c =>
      ({ c with act := .play d k (d.reps.toNat) c.vals.hold }).beginPlay d k c.vals.hold).segmentEdge n k
  | .stream =>
    if d.late then s.modChan n fun c => { c with act := .late d k c.vals.hold, events := [] }
    else (s.modChan n fun c => { c with
        act := .stream d (d.page.getD 0) k 0 c.vals.hold, events := [] }).segmentEdge n k
  | .gap => s.modChan n fun c => { c with act := .gap d k, events := [] }
  | .timegate => s.modChan n fun c => { c with act := .gate d k, events := [] }
  | .control => s

/-- A descriptor can follow at boundary `k` without a gap (R90, R102); a page that a check has met, and an underrun escape,
not before its scheduled start (R52, R109, R112). -/
def State.follows (s : State) (n k : Nat) (d : Descriptor) : Bool :=
  d.visible && match d.kind with
    | .gap => decide (d.visibleAt ≤ s.boundaryFs n k)
    | .timegate => decide (d.visibleAt ≤ s.boundaryFs n k)
    | .play => decide (d.visibleAt + leadFs ≤ s.boundaryFs n k)
        && decide ((s.chan n).notBefore ≤ k ∧ d.sched.getD 0 ≤ k)
    | .stream => decide (d.visibleAt + leadFs ≤ s.boundaryFs n k)
        && decide ((s.chan n).notBefore ≤ k ∧ d.sched.getD 0 ≤ k) && (d.page.isSome || d.late)
    | .control => false

/-- A PLAY or STREAM visible in time is only held back to its earliest boundary after an escape (R102), to its scheduled
start (R52), or a STREAM waits for its check: playback does not end. -/
def State.heldBack (s : State) (n k : Nat) (d : Descriptor) : Bool :=
  d.visible && decide (d.kind = .play ∨ d.kind = .stream)
    && decide (d.visibleAt + leadFs ≤ s.boundaryFs n k)

/-- Playback ends at boundary `k` on an empty queue (R90). -/
def Channel.endPlayback (c : Channel) : Channel :=
  { c.pbSet pbEmptied with empties := c.empties + 1, emptied := true }

/-- What follows at boundary `k`, where a descriptor has ended (or a gate has opened: `gate`): CONTROL descriptors,
then the next descriptor without a gap, or the end of playback (R90, R91, R94, R95). -/
def State.follow : Nat → State → Nat → Nat → Bool → State
  | 0, s, _, _, _ => s
  | fuel + 1, s, n, k, gate =>
    let s := (s.modChan n fun c => { c with act := .idle, idleFrom := k, events := [] }).controlsAt n k
    match (s.chan n).queue with
    | [] => s.modChan n fun c => { c.endPlayback with gateOpened := if gate then some k else none }
    | d :: _ =>
      if s.follows n k d then
        match d.kind with
        | .timegate =>
          let ko := s.boundaryOfTicks n d.gateTime
          if k < ko then s.beginHead n k d
          else
            let s := (s.popHead n k).modChan n fun c => if ko < k then c.leavePark.lateGate else c.leavePark
            State.follow fuel s n k (decide (ko = k))
        | _ => s.beginHead n k d
      else if s.heldBack n k d then s
      else if gate && d.visible && decide (d.kind = .play ∨ d.kind = .stream)
          && decide (d.visibleAt ≤ s.boundaryFs n k) then
        s.modChan n fun c => { c with gateOpened := some k }
      else s.modChan n fun c => { c.endPlayback with gateOpened := if gate then some k else none }

/-- At most 64 descriptors, and the boundary itself, follow at one boundary. -/
def State.followAt (s : State) (n k : Nat) (gate : Bool) : State := s.follow 65 n k gate

/-! ## Cutting (R114, R136, R163) -/

/-- What an activity that ends holds is released: its pins, a stream page's as after a completed play (R46, R47). -/
def State.release (s : State) (a : Activity) : State :=
  match a with
  | .stream d _ _ _ _ => (s.unpinAll d.pins false).unpinAll d.page.toList true
  | _ => s.unpinAll a.pins false

/-- The descriptor in progress ends at boundary `k` with the effects of R114: fill from there, its gate ended, its
events dropped, its pins released, a segment boundary where it played (R131); no status. One whose last granule has left
by `k` has ended there by itself, and a stream page's play is complete. The escape is disarmed where `esc`. -/
def State.cut (s : State) (n k : Nat) (esc : Bool) : State :=
  let s := s.syncTo n k
  let a := (s.chan n).act
  let ended : Bool := match s.activityEnd n a with
    | some e => decide (e ≤ k)
    | none => false
  let s := (if ended then s.release a else s.unpinAll a.pins false).when a.isSegment fun s => s.segmentEdge n k
  let s := s.modChan n fun c => { c with
    flushing := none, act := .idle, idleFrom := k, events := [], gateOpened := none, emptied := true }
  if esc then s.disarm n else s

/-- The play queue emptied: every pin that its descriptors hold is released (R47, R84), and the ECLK side sees the
slots free 2 ECLK later (R67). -/
def State.emptyQueue (s : State) (n : Nat) : State :=
  let ps := (s.chan n).queue.flatMap Descriptor.allPins
  let seen := s.cycle + 2
  (s.modChan n fun c => { c with
    queue := [], freed := c.freed ++ List.replicate c.queue.length seen }).unpinAll ps false

/-- The granule boundary at which a command given now acts on channel `n`: the next one. -/
def State.nextBoundary (s : State) (n : Nat) : Nat :=
  if s.clockRuns n then s.boundaryAfter n s.now else (s.chan n).stopK

/-- FLUSH of one channel (R84, R114): the queue empties, and at the next granule boundary what is in progress ends and
the escape is disarmed; at once where no clock runs. -/
def State.flushChannel (s : State) (n : Nat) : State :=
  let s := s.emptyQueue n
  if s.clockRuns n then
    let k := s.nextBoundary n
    s.modChan n fun c => { c with flushing := some k }
  else s.cut n (s.chan n).stopK true

/-- Plumb flags (PLUMB_STATUS [23:19]). -/
def plDisagree : Nat := 4
def plFailed : Nat := 3
def plRefused : Nat := 2
def plRange : Nat := 1
def plAborted : Nat := 0

/-- A PLUMB_STATUS flag set. -/
def State.plumbFlag (s : State) (i : Nat) : State :=
  { s with plumb := { s.plumb with flags := s.plumb.flags ||| BitVec.ofNat 5 (2 ^ i) } }

/-- The runs of core `n` are over: flags set meanwhile stand for its next turn (R260, R268). -/
def State.endRuns (s : State) (n : Nat) : State :=
  ({ s with plumb := { s.plumb with run := none } }).modCore n fun c => { c with
    amp := c.amp.or c.ampNext, time := c.time.or c.timeNext, ampNext := none, timeNext := none }

/-- The run in progress of core `n` is discarded with ABORTED; its flags stay (R268). -/
def State.discardRun (s : State) (n : Nat) : State :=
  match s.plumb.run with
  | some r =>
    if r.core = n then
      let s := ((s.endRuns n).modCore n fun c => { c with reason := 0x0C }).plumbFlag plAborted
      s.modBay (n - 64) fun b => if 64 ≤ n ∧ b.phase = .ownPlumb then { b with phase := .idle } else b
    else s
  | none => s

/-- The substitute of channel `n`'s bay serves it. -/
def State.serves (s : State) (n : Nat) : Bool :=
  let b := s.bay (n / 8)
  decide (b.channel = n) && decide (b.phase ≠ .idle ∧ b.phase ≠ .ownPlumb ∧ b.phase ≠ .unavailable)

/-- A handover of channel `n` waits for its boundary b0 (R141). -/
def State.connectsTo (s : State) (n : Nat) : Bool :=
  let b := s.bay (n / 8)
  decide (b.channel = n) && b.connecting.isSome

/-- The substitute that serves channel `n` opens its switch and becomes free; an abandoned handover counts
(R136, R142). -/
def State.freeSub (s : State) (n : Nat) (abandoned : Bool) : State :=
  if s.serves n || s.connectsTo n then
    s.modBay (n / 8) fun b => { b with
      phase := .idle, holdMode := false, channel := 0, connecting := none, leaving := none
      aborts := if abandoned && b.connecting.isNone then b.aborts + 1 else b.aborts }
  else s

/-- A channel enters OFF or FAULT at boundary `k` (R136): queue and escape are kept, and bells are ignored from here on
(R88). Its marker levels, whose contributions R136 ends, become 0 themselves (DESIGN CHOICE: R324 gives that only for
FAULT-SAFE, assumption log 111); what a break held is over (R200). -/
def State.silence (s : State) (n k : Nat) (st : ChState) : State :=
  let s := ((s.cut n k false).freeSub n false).discardRun n
  s.modChan n fun c => { c with
    state := st, under := .off, returning := none, stale := false, marks := 0, marksWere := [], pulses := [], drawn := []
    enabling := none, bells := [], broke := if c.broke = .pending then .pending else .none
    span := match c.spanDeferred with | some (v, _) => v | none => c.span
    spanDeferred := none }

/-- Every stored boundary of a channel moved on by `d` (a stop of its clock, or a new grid). -/
def Channel.shift (c : Channel) (d : Int) : Channel :=
  let f (k : Nat) : Nat := ((k : Int) + d).toNat
  { c with
    muteEnd := f c.muteEnd
    accK := f c.accK
    planned := f c.planned
    ramp := c.ramp.map fun (p, i, k) => (p, i, f k)
    pulses := c.pulses.map fun (m, x, y) => (m, ((x : Int) + 16 * d).toNat, ((y : Int) + 16 * d).toNat)
    marksWere := c.marksWere.map fun (x, m) => (((x : Int) + 16 * d).toNat, m)
    drawn := c.drawn.map fun v => { v with k := f v.k }
    resetK := c.resetK.map fun (k, b) => (f k, b)
    reloadK := c.reloadK.map f
    notBefore := f c.notBefore
    idleFrom := f c.idleFrom
    returning := c.returning.map f
    spanPending := c.spanPending.map fun (v, x, k) => (v, x, k.map f)
    armed := c.armed.map fun e => { e with k := f e.k }
    arming := c.arming.map fun e => { e with k := f e.k }
    queue := c.queue.map fun q => { q with sched := q.sched.map f, startAt := q.startAt.map f } }

/-- The core clock of channel `n` stops now: its output is worked out to the last boundary, where it stands. -/
def State.stopClock (s : State) (n : Nat) : State :=
  if s.clockRuns n then
    let k := s.boundaryNow n
    let s := s.syncTo n k
    let due := (s.chan n).arming.map fun e => { e with due := some (s.boundaryTicks n e.k) }
    s.modChan n fun c => { c with stopK := k, clkStopped := true, arming := due }
  else s.modChan n fun c => { c with clkStopped := true }

/-- Bells of a channel's delivery queue whose firing boundary passed while its clock was stopped are late: under
APPLY they act from the resume boundary on, else they fire nothing, and BREAK breaks the truss (R163, R190). -/
def State.lateAtResume (s : State) (n k : Nat) : State :=
  let late (b : PassedBell) : Bool := decide (s.boundaryOfTicks n b.actsFrom ≤ k)
  let keep (b : PassedBell) : Option PassedBell :=
    if late b then (if s.truss.latePolicy = 0 then some { b with actsFrom := s.boundaryTicks n k + 1 } else none)
    else some b
  let broken := (s.chan n).bells.any late
  (s.modChan n fun c => { c with bells := c.bells.filterMap keep }).when broken State.lateBreak

/-- The channel's clock runs again from boundary `k` of the grid now in force (R163): the descriptor that was in
progress ends with the effects of R114, a mute goes on, an armed escape stays armed, written settings apply. -/
def State.resumeClock (s : State) (n k : Nat) : State :=
  if (s.chan n).clkStopped then
    let was := (s.chan n).stopK
    let s := s.cut n was (s.chan n).flushing.isSome
    let s := s.modChan n fun c => { (c.shift ((k : Int) - was)) with
      clkStopped := false, runsFrom := s.boundaryFs n k, idleFrom := k, accK := k, planned := k
      armed := c.armed.map fun e => { e with k := k }
      enabling := c.enabling.map fun _ => s.boundaryFs n k }
    let s := s.modChan n fun c => match c.arming with
      | some e => { c with arming := some { e with k := max k ((e.due.map (s.boundaryOfTicks n)).getD e.k), due := none } }
      | none => c
    let s := (s.syncTo n k).lateAtResume n k
    match (s.chan n).disabling with
    | some (_, again) =>
      (s.silence n k .off).modChan n fun c => { c with
        disabling := none, enabling := if again then some (s.boundaryFs n k) else none }
    | none => s
  else s

end Sys2Proof.Machine
end

