-- ==== Sys2Proof/Machine/Current.lean ====
section
/-! DEFINITION. What leaves the balls (05_channels_and_dac.md): the leg currents of a code (R27, R129, R132), their
parts in a fade (R139), and what of a channel's samples and markers has come to the balls after the pipeline latency
(R127, R128). Currents are exact, in units of 1/8,192 mA. -/

namespace Sys2Proof.Machine

/-! ## Transfer functions (R27, R129) -/

/-- I_FS of a span setting, mA (R131). -/
def iFs (span : BitVec 3) : Nat :=
  match span.toNat / 2 with
  | 0 => 5
  | 1 => 10
  | 2 => 20
  | _ => 30

/-- The span setting is unipolar (R131). -/
def unipolar (span : BitVec 3) : Bool := span.getLsbD 0

/-- The currents of the two legs. -/
structure Legs where
  n : Nat
  p : Nat
  deriving DecidableEq, Repr

/-- u of a code: code + 2,048. -/
def offsetCode (code : BitVec 12) : Nat := (code.toInt + 2048).toNat

/-- The leg currents of a code under a span setting (R129). -/
def legs (span : BitVec 3) (code : BitVec 12) : Legs :=
  let u := offsetCode code
  if unipolar span then { n := (4096 + u) * iFs span, p := (4096 - u) * iFs span }
  else { n := 2 * u * iFs span, p := 2 * (4096 - u) * iFs span }

/-- The leg currents of a muted channel: half of I_FS each (R129, R132). -/
def mutedLegs (span : BitVec 3) : Legs := { n := 4096 * iFs span, p := 4096 * iFs span }

/-- I_DIFF = I_N - I_P (R129). -/
def Legs.diff (v : Legs) : Int := v.n - v.p

/-! ## Fades (R139) -/

/-- The fade weight w of a bay's substitute at boundary `k` of the channel it serves. -/
def Bay.weight (v : Bay) (k : Nat) : Nat :=
  match v.phase with
  | .fadeIn => 1024 * (k - v.phaseK + 1) / max 1 v.fadeK
  | .cover => 1024
  | .settleOut => 1024
  | .fadeOut => 1024 - 1024 * (k - v.phaseK + 1) / max 1 v.fadeK
  | _ => 0

/-- A core's part of the currents under weight `w`, in units of 1/1,024 of theirs: the substitute's reference current is
w / 1,024 of its setting, the primary's (1,024 - w) / 1,024. -/
def Legs.part (v : Legs) (w : Nat) (substitute : Bool) : Legs :=
  let x := if substitute then w else 1024 - w
  { n := x * v.n, p := x * v.p }

/-! ## At the balls (R127, R128) -/

/-- L of R128 but for its 380 ps, in output samples: 18 T_CCLK + 6 T_DCLK, 16 samples to a CCLK. -/
def pipeSamples : Nat := 294

/-- The output sample of channel `n` that is at its balls at device time `x`; while the clock stands, the one that was
there when it stopped. -/
def State.ballSample (s : State) (n x : Nat) : Nat :=
  let (a, b) := s.granuleFs (s.output n).div
  let x := if s.clockRuns n then x else s.boundaryFs n (s.chan n).stopK
  16 * (s.loopFs (x - 380000) - s.synM.releaseAt) * b / a - pipeSamples

/-- The marker levels at output sample `x`. -/
def Channel.marksAt (c : Channel) (x : Nat) : BitVec 16 :=
  c.marksWere.foldl (fun m p => if x < p.1 then p.2 else m) c.marks

/-- The channel contributes 1 to MK port `q` at output sample `x` (R104, R127, R136). -/
def Channel.contributes (c : Channel) (q x : Nat) : Bool :=
  let r := c.route.toNat
  let (a, b) := match c.drawn.find? fun v => decide (v.k = x / 16) with
    | some v => (v.a.getLsbD (x % 16), v.b.getLsbD (x % 16))
    | none => (false, false)
  c.state.consumes && ((c.marksAt x).getLsbD q
    || (c.pulses.any fun (m, y, z) => m.getLsbD q && decide (y ≤ x ∧ x < z))
    || (a && bitOf r 7 && decide (bits r 3 0 = q)) || (b && bitOf r 15 && decide (bits r 11 8 = q)))

/-- The leg currents of the channel at output sample `x`. During a mute the setting changes from the old one to the new;
at which sample of it, the spec leaves open: `changed` (assumption log 2). -/
def Channel.legsAt (c : Channel) (x : Nat) (changed : Bool) : Legs :=
  match c.drawn.find? fun v => decide (v.k = x / 16) with
  | some v =>
    if v.muted then mutedLegs (if changed then v.span else c.spanOld)
    else legs v.span (v.codes.getD (x % 16) (c.lastCode.getD c.vals.park))
  | none => legs c.span (c.lastCode.getD c.vals.park)

/-- Channel `n` brought to the present. -/
def State.present (s : State) (n : Nat) : State :=
  let s := s.catchUp n
  if s.clockRuns n then
    let (a, b) := s.granuleFs (s.output n).div
    s.modChan n fun c => c.fireBefore 4 (16 * (s.loopFs s.now - s.synM.releaseAt) * b / a + 1)
  else s

/-- The leg currents at the balls of channel `n` now; a channel that is OFF or FAULT is in high impedance (R135). -/
def State.pairLegs (s : State) (n : Nat) : Legs :=
  let c := (s.present n).chan n
  if c.state.consumes && s.clockRuns n then
    c.legsAt (s.ballSample n s.now) ((Config.freeValue s.draws 94).getLsbD 0)
  else { n := 0, p := 0 }

/-- The part of them that the primary or the substitute carries (R139). -/
def State.coreLegs (s : State) (n : Nat) (substitute : Bool) : Legs :=
  (s.pairLegs n).part (if s.serves n then (s.bay (n / 8)).weight (s.boundaryNow n) else 0) substitute

/-- A leg that carries less than I_FS / 16 shows no open load (R137): of the flags OPEN_P OPEN_N CLO_P CLO_N CHI_P CHI_N
of a trip, from bit 5 down, those that can stand now. -/
def State.tripFlags (s : State) (n : Nat) (flags : BitVec 6) : BitVec 6 :=
  let v := s.pairLegs n
  let least := 512 * iFs (s.chan n).span
  let flags := if v.p < least then flags &&& 0b011111 else flags
  if v.n < least then flags &&& 0b101111 else flags

end Sys2Proof.Machine
end

