-- ==== Sys2Proof/Machine/Channels.lean ====
section
/-! DEFINITION. Events of the channels: play queue, descriptors, escapes, streams, markers, settings, spans, enabling
and faults (02, 04, 05). An event that is not due changes nothing but the time; one that is due takes effect at the
boundary its rule gives. -/

namespace Sys2Proof.Machine

/-! ## Shared operations -/

/-- Boundary `k` of channel `n` has come. -/
def State.reached (s : State) (n k : Nat) : Bool := s.clockRuns n && decide (k ≤ s.boundaryNow n)

/-- The output sample of channel `n` that leaves now. -/
def State.sampleNow (s : State) (n : Nat) : Nat :=
  let (a, b) := s.granuleFs (s.output n).div
  16 * (s.loopFs s.now - s.synM.releaseAt) * b / a

/-- A gate that begins at boundary `k` at which it has to open at once leaves the queue, late where its opening
boundary has passed (R95). -/
def State.passGate (s : State) (n k : Nat) (d : Descriptor) : State :=
  (s.popHead n k).modChan n fun c =>
    if s.boundaryOfTicks n d.gateTime < k then c.leavePark.lateGate else c.leavePark

/-- The CONTROL descriptors at the head of an idle channel's queue whose boundary is `k` or earlier, each applied at
its own first boundary (R91). -/
def State.idleControls : Nat → State → Nat → Nat → State
  | 0, s, _, _ => s
  | fuel + 1, s, n, k =>
    match (s.chan n).queue with
    | d :: _ =>
      let j := s.idleStart n d
      if d.kind = .control ∧ d.visible = true ∧ j ≤ k then
        State.idleControls fuel ((((s.syncTo n j).popHead n j).applyControl n j d)) n k
      else s
    | [] => s

/-! ## DESCRIPTOR_VISIBLE (R67, R97) -/

/-- The device time at which a descriptor becomes visible: 2 CCLK after the later of its ECLK-side time and the
moment from which the channel's clock runs (R67). -/
def State.visibleFs (s : State) (n : Nat) (d : Descriptor) : Nat :=
  let (a, b) := s.granuleFs (s.output n).div
  max (d.crossFs.getD (s.eclk.cycleFs d.crossCycle)) (s.chan n).runsFrom + 2 * a / b

/-- The ECLK side of the crossing has been passed (R67). -/
def State.crossed (s : State) (d : Descriptor) : Bool :=
  d.crossFs.isSome || decide (d.crossCycle ≤ s.cycle)

/-- The escape head buffer is free for an ESC (R97): no escape is armed or being armed, and no earlier arming ESC
stands in the queue. -/
def Channel.headFree (c : Channel) (before : List Descriptor) : Bool :=
  c.armed.isNone && c.arming.isNone && before.all fun d => !d.arms

/-- The queue with its first descriptor that is not visible made visible at device time `x`; an arming ESC that
finds the head buffer free begins its fill then. -/
def Channel.showNext (c : Channel) (x : Nat) : List Descriptor → List Descriptor → List Descriptor
  | before, [] => before
  | before, d :: r =>
    if d.visible then Channel.showNext c x (before ++ [d]) r
    else
      before ++ { d with
        visible := true
        visibleAt := x
        fillAt := if d.arms && c.headFree before && !c.headIn d.segId x then some x else none } :: r

/-- An enqueued descriptor becomes visible (R67). -/
def opDescriptorVisible (s : State) (n : Nat) : State :=
  match (s.chan n).queue.find? fun d => !d.visible with
  | some d =>
    if s.clockRuns n ∧ s.crossed d = true ∧ s.visibleFs n d ≤ s.now then
      let x := s.visibleFs n d
      let q := (s.chan n).showNext x [] (s.chan n).queue
      let s := s.modChan n fun c => { c with queue := q }
      match q.find? fun e => decide (e.visibleAt = x ∧ e.fillAt = some x) with
      | some e => s.fillHead n e x
      | none => s
    else s
  | none => s

/-! ## DESCRIPTOR_START, DESCRIPTOR_END, REPETITION_END, TIMEGATE_OPEN (R69, R90 to R95) -/

/-- An idle channel: CONTROL descriptors that are due are applied, and a descriptor whose start has come starts
(R90, R91, R16). -/
def startDescriptor (s : State) (n : Nat) : State :=
  if s.taking n ∧ (s.chan n).act = .idle then
    let s := s.idleControls 64 n (s.boundaryNow n)
    match (s.chan n).queue with
    | d :: _ =>
      let k := s.idleStart n d
      if d.startKnown = true ∧ s.reached n k = true ∧ d.kind ≠ .control then
        let s := s.syncTo n k
        if d.kind = .timegate ∧ s.boundaryOfTicks n d.gateTime ≤ k then
          (s.passGate n k d).followAt n k (decide (s.boundaryOfTicks n d.gateTime = k))
        else s.beginHead n k d
      else s
    | [] => s
  else s

/-- KEEPTIME skips a late page whole in ECLK cycle `c`: all its granules are dropped, PLAY_PTR advances, the pass stays
(R111). -/
def State.skipPage (s : State) (c n : Nat) (d : Descriptor) (h : Nat) : State :=
  let g := (s.mem.ring d.ringNo).granules h
  (s.ringAdvance c d.ringNo d.serial (s.ringPage c d.ringNo d.serial)).modChan n fun v => { v with dropped := v.dropped + g }

/-- The descriptor in progress ends and the next follows, or playback ends (R90). -/
def endDescriptor (s : State) (n : Nat) : State :=
  let a := (s.chan n).act
  let whole : Bool := match a with
    | .play _ _ left _ => decide (left ≤ 1)
    | .gate _ _ => false
    | .escape _ _ _ _ => false
    | _ => true
  match s.activityEnd n a with
  | some k =>
    if whole && s.taking n && s.reached n k then
      let s := s.syncTo n k
      let a := (s.chan n).act
      let s := match a with
        | .late d _ h => if d.lateKeep && !d.skipped && d.startAt.isNone then s.skipPage s.cycle n d h else s
        | _ => s
      let s := (s.release a).when a.isSegment fun s => s.segmentEdge n k
      s.followAt n k false
    else s
  | none => s

/-- One repetition of a PLAY ends and the next begins (R69). -/
def endRepetition (s : State) (n : Nat) : State :=
  match (s.chan n).act with
  | .play d k0 left h =>
    let k := k0 + d.lenG.toNat * h
    if 1 < left ∧ s.taking n = true ∧ s.reached n k = true then
      ((s.syncTo n k).modChan n fun c =>
        ({ c with act := .play d k (left - 1) c.vals.hold }).beginPlay d k c.vals.hold).segmentEdge n k
    else s
  | _ => s

/-- A time gate reaches its opening boundary (R94). -/
def openGate (s : State) (n : Nat) : State :=
  match (s.chan n).act with
  | .gate d k0 =>
    let k := max k0 (s.boundaryOfTicks n d.gateTime)
    if s.taking n && s.reached n k then (s.syncTo n k).followAt n k true else s
  | _ => s

/-! ## Escapes (R97 to R103) -/

/-- An arming ends: the escape is armed (R97). -/
def opEscapeArmed (s : State) (n : Nat) : State :=
  match (s.chan n).arming with
  | some e =>
    if s.reached n e.k then (s.syncTo n e.k).modChan n fun c => { c with armed := some e, arming := none } else s
  | none => s

/-- The descriptor that would start at boundary `k`, where one has ended, is replaced by the escape that fires there: it
leaves the queue and its pins are released; gates that open there end (R99 to R101). -/
def State.replaceHead : Nat → State → Nat → Nat → State
  | 0, s, _, _ => s
  | fuel + 1, s, n, k =>
    let s := s.controlsAt n k
    match (s.chan n).queue with
    | d :: _ =>
      if !s.follows n k d then s
      else if d.kind = .timegate ∧ s.boundaryOfTicks n d.gateTime ≤ k then State.replaceHead fuel (s.passGate n k d) n k
      else (s.popHead n k).unpinAll d.allPins false
    | [] => s

/-- The armed escape fires at boundary `k` (R99, R100, R101). On an idle channel nothing is replaced. The end of an escape
that is playing counts as the end of a descriptor: the head that would start there is replaced, and BOUNDARY_HIT is set
(DESIGN CHOICE: R100 names descriptors and repetitions, assumption log 113). -/
def State.fireEscape (s : State) (n k : Nat) (e : Escape) : State :=
  let s := s.syncTo n k
  let a := (s.chan n).act
  let ends := decide (s.activityEnd n a = some k)
  let repeats : Bool := match a with
    | .play _ _ left _ => decide (1 < left)
    | _ => false
  let s := s.modChan n fun c => { (c.pbSet pbEscFired) with
    armed := none, escFires := c.escFires + 1, bells := [] }
  let s := s.when ends fun s => s.modChan n fun c => c.pbSet pbBoundaryHit
  let s :=
    if ends && !repeats then
      let skip := match a with
        | .late d _ h => if d.lateKeep && !d.skipped && d.startAt.isNone then s.skipPage s.cycle n d h else s
        | _ => s
      let s := (skip.release a).modChan n fun c => { c with act := .idle, events := [] }
      s.replaceHead 65 n k
    else if a = .idle then s.idleControls 64 n k
    else (s.unpinAll a.pins false).modChan n fun c => { c with act := .idle, events := [] }
  (s.modChan n fun c => { c with idleFrom := k }).beginEscape n k e.d true

/-- The break policies' codes (R199). -/
def breakHold : Nat := 0
def breakPark : Nat := 1
def breakHighz : Nat := 2

/-- The break policy of channel `n`. -/
def State.breakPolicy (s : State) (n : Nat) : Nat := sget (fun _ => 0) s.truss.policy n

/-- The break policy applies to channel `n` at boundary `k` (R135, R199, R268). -/
def State.applyBreak (s : State) (n k : Nat) : State :=
  let s := s.syncTo n k
  let c := s.chan n
  let pol := s.breakPolicy n
  if pol = breakHighz then
    if c.state = .fault then s.modChan n fun c => { c with broke := .none }
    else (s.silence n k .off).modChan n fun c => { c with broke := if c.enable then .highz else .none }
  else if pol ≠ breakHold ∧ pol ≠ breakPark then s.modChan n fun c => { c with broke := .none }
  else if s.serves n then s.modChan n fun c => { c with broke := .deferred }
  else match c.state with
    | .muted => s.modChan n fun c => { c with broke := .deferred }
    | .playing =>
      if pol = breakHold then s.modChan n fun c => { c with state := .held, stale := true, broke := .held }
      else ((s.emptyQueue n).cut n k true).modChan n fun c => { c with state := .parked, begun := false, broke := .parked }
    | .parked =>
      if pol = breakHold then s.modChan n fun c => { c with state := .held, stale := true, broke := .held }
      else ((s.emptyQueue n).cut n k true).modChan n fun c => { c with broke := .parked }
    | _ => s.modChan n fun c => { c with broke := .none }

/-- A break that the channel meets at boundary `k` or before is carried out before an escape of that boundary (R202). -/
def State.breakFirst (s : State) (n k : Nat) : State :=
  let j := s.boundaryOfTicks n s.truss.breakTime
  if s.truss.broken && decide ((s.chan n).broke = .pending) && decide (j ≤ k) && s.reached n j then
    s.applyBreak n (max j (s.chan n).accK)
  else s

/-- The firing that channel `n` has come to, at boundary `k` or before: a break policy of that boundary applies first
(R202), and the escape fires where one is still armed on a channel that takes its queue (R103). -/
def State.fireDue (s : State) (n k : Nat) : State :=
  match s.firing n with
  | some (j, _) =>
    if s.taking n && decide (j ≤ k) && s.reached n j then
      let s := s.breakFirst n j
      match s.firing n with
      | some (j, e) => if s.taking n && decide (j ≤ k) && s.reached n j then s.fireEscape n j e else s
      | none => s
    else s
  | none => s

/-- A watched bell's firing boundary comes (R99); bells whose firing boundary passes with nothing to fire are
done. -/
def opEscapeFire (s : State) (n : Nat) : State :=
  if s.taking n then
    match s.firing n with
    | some _ => s.fireDue n (s.boundaryNow n)
    | none => s.modChan n fun c => { c with bells := c.bells.filter fun b => !s.reached n (s.firingOf n b) }
  else s

/-- An escape segment ends and the next descriptor follows (R99, R102). -/
def endEscape (s : State) (n : Nat) : State :=
  match (s.chan n).act with
  | .escape d k0 h _ =>
    let k := k0 + d.lenG.toNat * h
    if s.taking n && s.reached n k then
      (((s.syncTo n k).unpinAll d.allPins false).segmentEdge n k).followAt n k false
    else s
  | _ => s

/-- A firing of channel `n` has come at boundary `k` or before. -/
def State.fires (s : State) (n k : Nat) : Bool :=
  match s.firing n with
  | some (j, _) => s.taking n && decide (j ≤ k) && s.reached n j
  | none => false

/-- A happening of channel `n` that is due at boundary `k`: a firing that falls there or earlier comes first (R116), and
what the escape has replaced does not come about. -/
def State.afterFiring (s : State) (n k : Nat) (f : State → State) : State :=
  if s.fires n k then s.fireDue n k else f s

/-- The same at the end of what the channel produces. -/
def State.atEnd (s : State) (n : Nat) (f : State → State) : State :=
  match s.activityEnd n (s.chan n).act with
  | some k => s.afterFiring n k f
  | none => s

/-- DESCRIPTOR_START (R90, R99): on an idle channel a firing up to now comes first and replaces nothing. -/
def opDescriptorStart (s : State) (n : Nat) : State :=
  if (s.chan n).act = .idle then s.afterFiring n (s.boundaryNow n) fun s => startDescriptor s n else s

/-- DESCRIPTOR_END (R90, R116). -/
def opDescriptorEnd (s : State) (n : Nat) : State := s.atEnd n fun s => endDescriptor s n
/-- REPETITION_END (R69, R116). -/
def opRepetitionEnd (s : State) (n : Nat) : State := s.atEnd n fun s => endRepetition s n
/-- TIMEGATE_OPEN (R94, R116). -/
def opTimegateOpen (s : State) (n : Nat) : State := s.atEnd n fun s => openGate s n
/-- ESCAPE_END (R99, R116). -/
def opEscapeEnd (s : State) (n : Nat) : State := s.atEnd n fun s => endEscape s n

/-! ## Streams (R52, R53, R109 to R112) -/

/-- The boundary at which descriptor `d` starts when what precedes it ends at `k`: at once where it follows without a
gap, else as on an idle channel (R90, R102). -/
def State.startAfter (s : State) (n k nb : Nat) (d : Descriptor) : Nat :=
  match d.kind with
  | .play => max (max (max k nb) (s.boundaryFrom n (d.visibleAt + leadFs))) (d.sched.getD 0)
  | .stream => max (max (max k nb) (s.boundaryFrom n (d.visibleAt + leadFs))) (d.sched.getD 0)
  | _ => if d.visibleAt ≤ s.boundaryFs n k then k else s.boundaryAfter n d.visibleAt

/-- A STREAM that no check has met. -/
def Descriptor.unchecked (d : Descriptor) : Bool := decide (d.kind = .stream) && d.page.isNone && !d.late

/-- A late page that is still to be found. -/
def Descriptor.missing (d : Descriptor) : Bool := d.late && d.startAt.isNone && !d.skipped

/-- The start of the first descriptor of the queue that `wanted` picks, where what precedes it ends at boundary `k` and
no play may start before `nb` (R52). -/
def State.startOf (s : State) (n : Nat) (wanted : Descriptor → Bool) : Nat → Nat → List Descriptor → Option Nat
  | _, _, [] => none
  | k, nb, d :: r =>
    if !d.visible then none
    else
      let j := s.startAfter n k nb d
      let h := (s.chan n).vals.hold
      if wanted d then some j
      else match d.kind with
        | .control => s.startOf n wanted k nb r
        | .gap => s.startOf n wanted (j + d.reps.toNat) nb r
        | .timegate => s.startOf n wanted (max j (s.boundaryOfTicks n d.gateTime)) nb r
        | .play =>
          if d.underrunEsc then s.startOf n wanted (j + d.lenG.toNat * h) (s.boundaryFrom n (s.boundaryFs n j + leadFs)) r
          else s.startOf n wanted (j + d.lenG.toNat * d.reps.toNat * h) nb r
        | .stream =>
          if d.unchecked then none
          else
            let g := (s.mem.ring d.ringNo).granules h
            if d.late && !d.lateKeep then
              match d.startAt with
              | some ks => s.startOf n wanted (max j ks + g) nb r
              | none => none
            else s.startOf n wanted (j + g) nb r

/-- The end of what the channel is producing, all repetitions of a PLAY included. -/
def State.wholeEnd (s : State) (n : Nat) : Option Nat :=
  match (s.chan n).act with
  | .idle => some (s.chan n).idleFrom
  | .play d k0 left h => some (k0 + d.lenG.toNat * h + (left - 1) * d.lenG.toNat * (s.chan n).vals.hold)
  | a => s.activityEnd n a

/-- The start of the first descriptor of the queue that `wanted` picks, as it now stands. -/
def State.startNow (s : State) (n : Nat) (wanted : Descriptor → Bool) : Option Nat :=
  match s.wholeEnd n with
  | none => none
  | some k => s.startOf n wanted k (s.chan n).notBefore (s.chan n).queue

/-- The scheduled start of the next STREAM to be checked and the device time of its check: 640 ns before, or, where
the start became fixed later than that, at the first granule boundary after, with the start moved to 640 ns behind it
(R52). -/
def State.streamDue (s : State) (n : Nat) : Option (Nat × Nat) :=
  match s.startNow n Descriptor.unchecked with
  | none => none
  | some j =>
    let fixed := (s.chan n).planned
    if s.boundaryFs n j < s.boundaryFs n fixed + leadFs then
      let x := s.boundaryFs n (fixed + 1)
      some (s.boundaryFrom n (x + leadFs), x)
    else some (j, s.boundaryFs n j - leadFs)

/-- The first STREAM of a queue that no check has met is changed. -/
def onStream (f : Descriptor → Descriptor) : List Descriptor → List Descriptor
  | [] => []
  | d :: r =>
    if d.unchecked then f d :: r else d :: onStream f r

/-- The channel's next STREAM is changed. -/
def State.onStream (s : State) (n : Nat) (f : Descriptor → Descriptor) : State :=
  s.modChan n fun c => { c with queue := Sys2Proof.Machine.onStream f c.queue }

/-- An underrun counts (R109). -/
def State.countUnderrun (s : State) (n : Nat) : State :=
  { s.modChan n fun c => { (c.pbSet pbUnderrun) with underruns := c.underruns + 1 } with
    card := { s.card with underruns := satInc 32 s.card.underruns } }

/-- The segment may serve as an underrun escape: its entry is valid and it lies outside the window (R112). -/
def State.escapeUsable (s : State) (i : Nat) : Bool :=
  (s.mem.seg i).valid && decide (s.mem.segPages (s.mem.seg i) = [])

/-- The marker program that a descriptor copies from a segment entry (R33). -/
def SegMem.program (m : SegMem) (e : SegEntry) : List MEvent :=
  if e.mken then (List.range 4).map (m.event e.mprog.toNat) else []

/-- A STREAM turned into the play of an underrun escape segment at its scheduled start (R112). -/
def Descriptor.toEscape (d : Descriptor) (m : SegMem) (i sched : Nat) : Descriptor :=
  let e := m.seg i
  { d with
    kind := .play, format := e.format, trigLen := e.trigLen, mken := e.mken, base := e.base, lenG := e.lenG
    reps := 1, segId := BitVec.ofNat 16 i, trigMask := e.trigMask, mprog := m.program e
    sched := some sched, underrunEsc := true }

/-- The check of a stream page in ECLK cycle `c` at device time `x`, its start scheduled at boundary `j` (R52, R109,
R112). -/
def State.checkStream (s : State) (c n j x : Nat) (d : Descriptor) : State :=
  let p := s.ringPage c d.ringNo d.serial
  if (s.mem.page p).ready then
    (s.ringTake c d.ringNo d.serial p n).onStream n fun d => { d with page := some p, sched := some j }
  else
    let u := (s.tt d.tt).underrun.toNat
    let s := s.countUnderrun n
    let seg := bits u 31 16
    if u % 4 = 2 ∧ s.escapeUsable seg = true then
      let s := s.ringAdvance c d.ringNo d.serial p
      let s := s.onStream n fun d => d.toEscape s.mem seg j
      s.raiseBell (bits u 15 8) (BitVec.ofNat 8 d.ringNo) (s.trussAt x) srcUnderrun n (s.trussAt x)
    else
      let s := s.when (decide (u % 4 = 2)) fun s => s.modChan n fun c => c.pbSet pbEscBad
      s.onStream n fun d => { d with
        late := true, sched := some j, lateKeep := decide (u % 4 ≠ 0), latePark := bitOf u 2 }

/-- A check that has come is settled at the end of its ECLK cycle, with those of the other channels (R49, R53); the
re-checks of one cycle are those of its boundaries. -/
def State.noteCheck (s : State) (n : Nat) (again : Bool) (k x : Nat) : State :=
  if s.mem.checks.any fun v => decide (v.channel = n) && (v.again == again) && (!again || decide (v.k = k)) then s
  else s.modMem fun m => { m with checks := m.checks ++ [{ cycle := s.cycle, channel := n, again := again, k := k, at_ := x }] }

/-- The check of the next stream page comes (R52). -/
def opStreamCheck (s : State) (n : Nat) : State :=
  if s.taking n then
    match s.streamDue n with
    | some (j, x) => if x ≤ s.now then s.noteCheck n false j x else s
    | none => s
  else s

/-- The late page of the channel that is still to be found: the one in progress, or the first of the queue. -/
def Channel.latePage (c : Channel) : Option Descriptor :=
  match c.act with
  | .late d _ _ => if d.missing then some d else c.queue.find? Descriptor.missing
  | _ => c.queue.find? Descriptor.missing

/-- The first missing page of a queue is changed. -/
def onMissing (f : Descriptor → Descriptor) : List Descriptor → List Descriptor
  | [] => []
  | d :: r => if d.missing then f d :: r else d :: onMissing f r

/-- That page's descriptor is changed. -/
def Channel.onLate (c : Channel) (f : Descriptor → Descriptor) : Channel :=
  match c.act with
  | .late d k0 h => if d.missing then { c with act := .late (f d) k0 h } else { c with queue := onMissing f c.queue }
  | _ => { c with queue := onMissing f c.queue }

/-- The slot of the late page that is still to be found, as it now stands: its start and its length, with the hold
factor it counts by (R110, R111). An escape in front of it may have moved it (R102). -/
def State.lateSlot (s : State) (n : Nat) (d : Descriptor) : Nat × Nat × Nat :=
  let g (h : Nat) := (s.mem.ring d.ringNo).granules h
  match (s.chan n).act with
  | .late e k0 h =>
    if e.missing then (k0, g h, h)
    else let h := (s.chan n).vals.hold; ((s.startNow n Descriptor.missing).getD (d.sched.getD 0), g h, h)
  | _ => let h := (s.chan n).vals.hold; ((s.startNow n Descriptor.missing).getD (d.sched.getD 0), g h, h)

/-- A late page is checked again at boundary `b` in ECLK cycle `c` (R110, R111). -/
def State.recheck (s : State) (c n b : Nat) : State :=
  match (s.chan n).latePage with
  | some d =>
    let (j, len, h) := s.lateSlot n d
    let ks := s.boundaryFrom n (s.boundaryFs n b + leadFs)
    let p := s.ringPage c d.ringNo d.serial
    if (s.mem.page p).ready then
      (s.ringTake c d.ringNo d.serial p n).modChan n fun v => v.onLate fun d => { d with page := some p, startAt := some ks }
    else if d.lateKeep && decide (j + len ≤ s.boundaryFrom n (s.boundaryFs n (b + 1) + leadFs)) then
      (s.skipPage c n d h).modChan n fun v => v.onLate fun d => { d with skipped := true }
    else s
  | none => s

/-- A re-check of a late page comes, at every granule boundary after the failed check (R110), under KEEPTIME up to the
last from which a granule of its slot could still play (R111). -/
def opUnderrunRecheck (s : State) (n : Nat) : State :=
  match (s.chan n).latePage with
  | some d =>
    let b := s.boundaryNow n
    let (j, len, _) := s.lateSlot n d
    let ks := s.boundaryFrom n (s.boundaryFs n b + leadFs)
    if s.taking n && decide (s.boundaryFs n (d.sched.getD 0) < s.boundaryFs n b + leadFs)
        && !(d.lateKeep && decide (j + len ≤ ks)) then
      (s.syncTo n b).noteCheck n true b (s.boundaryFs n b)
    else s
  | none => s

/-- One check settled in its cycle. -/
def State.settleCheck (s : State) (v : PageCheck) : State :=
  if v.again then s.recheck v.cycle v.channel v.k
  else match (s.chan v.channel).queue.find? Descriptor.unchecked with
    | some d => s.checkStream v.cycle v.channel v.k v.at_ d
    | none => s

/-- The checks of ended ECLK cycles, in ascending channel number (R53). -/
def State.settleChecks (s : State) : State :=
  let due := s.mem.checks
  let s := s.modMem fun m => { m with checks := [] }
  s.forAll (List.range 64) fun s n => s.forAll (due.filter fun v => decide (v.channel = n)) State.settleCheck

/-- The last granule of a stream page leaves: its pin is released and the page is FREE when no pin is left (R46,
R52). -/
def opStreamPageComplete (s : State) (n : Nat) : State :=
  match s.activityEnd n (s.chan n).act with
  | some k =>
    if s.taking n && s.reached n k then
      let s := s.syncTo n k
      match (s.chan n).act with
      | .stream d p k0 x h =>
        (s.unpinAll d.page.toList true).modChan n fun c => { c with act := .stream { d with page := none } p k0 x h }
      | _ => s
    else s
  | none => s

/-! ## Markers, triggers, ramp (R38, R39, R126) -/

/-- Nothing of its own changes what channel `n` produces at boundary `k` or before (`nextEdge`). -/
def State.clearTo (s : State) (n k : Nat) : Bool :=
  match s.nextEdge n with
  | some e => decide (k < e)
  | none => true

/-- A marker event fires at its sample (R38, R105); events of the play that come before it have fired, and an escape that
fires at its granule's boundary or before has cut it (R106). -/
def opMarkerEventFire (s : State) (n e : Nat) : State :=
  let c := s.chan n
  if c.events.contains e && s.taking n && decide (c.eventSample e ≤ s.sampleNow n)
      && s.clearTo n (c.eventSample e / 16) then
    let x := c.eventSample e
    ((s.syncTo n (x / 16)).modChan n fun c => c.fireBefore 4 x).modChan n fun c =>
      ((c.events.filter fun i => decide (i ≤ e ∧ c.eventSample i = x)).foldl Channel.fire c)
  else s

/-- A trigger pulse whose length is over at the balls ends (R39, R127). -/
def opTriggerPulseEnd (s : State) (n : Nat) : State :=
  if s.clockRuns n then
    s.modChan n fun c => { c with pulses := c.pulses.filter fun p => decide (s.ballSample n s.now < p.2.2) }
  else s

/-- A running ramp makes its step at its boundary (R126). On an idle channel the CONTROL descriptors of that boundary and
before are applied first; where a descriptor ends or starts there or an escape fires, the step is left until that has
been: the CONTROL descriptors that stand there come first (R101, R116). -/
def opNcoRampStep (s : State) (n : Nat) : State :=
  match (s.chan n).ramp with
  | some (_, _, k) =>
    if s.reached n k then
      let s := if s.taking n && decide ((s.chan n).act = .idle) && !s.fires n k then s.idleControls 64 n k else s
      if s.clearTo n k then
        (s.syncTo n k).modChan n fun c => match c.ramp with
          | some (_, _, j) => if j = k then c.rampStep else c
          | none => c
      else s
    else s
  | none => s

/-! ## Settings and spans (R124, R131 to R133, R393) -/

/-- Written settings whose boundary has come take effect (R124, R393). -/
def opChannelSettingApply (s : State) (n : Nat) : State :=
  if s.clockRuns n then s.syncTo n (s.boundaryNow n) else s

/-- The boundary at which a written span applies, once it can be known (R131). -/
def State.spanDue (s : State) (n : Nat) : Option (BitVec 3 × Nat) :=
  let c := s.chan n
  match c.spanPending with
  | some (v, _, some k) => some (v, k)
  | some (v, x, none) =>
    if c.act.isSegment && c.state.consumes then none else some (v, s.boundaryAfter n x)
  | none => none

/-- A written span applies at its boundary (R131, R132). -/
def opSpanApply (s : State) (n : Nat) : State :=
  match s.spanDue n with
  | some (v, k) =>
    if s.reached n k then
      ((s.syncTo n k).modChan n fun c => { c with spanPending := none }.noteHost 0x27 k).applySpan n k v true
    else s
  | none => s

/-- A mute ends: the state before it returns (R132); a break policy that met the mute applies then (R135). -/
def opMuteEnd (s : State) (n : Nat) : State :=
  let c := s.chan n
  if c.state = .muted ∧ s.reached n c.muteEnd = true then
    let k := c.muteEnd
    let s := (s.syncTo n k).modChan n fun c => { c with state := c.under, under := .off }
    if (s.chan n).broke = .deferred ∧ s.serves n = false then s.applyBreak n k else s
  else s

/-! ## Enabling and faults (R134, R137, R138) -/

/-- After 2 us of running clock the channel is PARKED (R134). -/
def opEnablingComplete (s : State) (n : Nat) : State :=
  match (s.chan n).enabling with
  | some x =>
    let k := s.boundaryFrom n (max x (s.chan n).runsFrom + 2 * usFs)
    if s.reached n k then
      (s.syncTo n k).modChan n fun c => { c with
        state := .parked, enabling := none, idleFrom := k, planned := k, lastCode := none, begun := false, emptied := true
        broke := if c.broke = .highz then .none else c.broke }
    else s
  | none => s

/-- The channel's output switch is closed and its detectors armed (R137). -/
def State.armedDetectors (s : State) (n : Nat) : Bool :=
  (s.chan n).state.consumes && (s.chan n).detectEn && s.clockRuns n

/-- The fault bell of a channel, where it is enabled (R138). -/
def State.faultBell (s : State) (n cause : Nat) : State :=
  let v := (s.chan n).faultBell.toNat
  if bitOf v 15 then s.raiseBell (v % 256) (BitVec.ofNat 8 (cause * 64 + n)) s.trussNow srcChFault n s.trussNow else s

/-- A detector trip (R137, R138): the flags of `legs` are OPEN_P OPEN_N CLO_P CLO_N CHI_P CHI_N, from bit 5 down; an
open load shows only on a leg that carries current. -/
def opDetectorTrip (s : State) (n : Nat) (legs : BitVec 6) : State :=
  let legs := s.tripFlags n legs
  if s.armedDetectors n && decide (legs ≠ 0) then
    let s := s.silence n (s.boundaryNow n) .fault
    let s := s.modChan n fun c => { c with
      flags := c.flags ||| (BitVec.ofNat 8 (4 * legs.toNat)), complFaults := c.complFaults + 1, disabling := none }
    let s := { s with card := { s.card with compl := sset (fun _ => 0) s.card.compl n (satInc 32 (sget (fun _ => 0) s.card.compl n)) } }
    let cause := if legs &&& 0b001100 ≠ 0 then 0 else if legs &&& 0b000011 ≠ 0 then 1 else 2
    (s.alert alChFault).faultBell n cause
  else s

end Sys2Proof.Machine
end

