-- ==== Sys2Proof/Machine/Bays.lean ====
section
/-! DEFINITION. Substitutes and handovers (05_channels_and_dac.md, R139 to R143): connecting, settling, fading, and
the return of the channel. Every step begins at a granule boundary of the channel served. -/

namespace Sys2Proof.Machine

/-- Granules of a settle: the least number that covers 1 us (R141). -/
def State.settleGranules (s : State) (n : Nat) : Nat := s.granulesFor n usFs

/-- SUBb is UNAVAILABLE: PLUMB_FAILED, without its clock output, or under a parity fault of the bay (05, R302). -/
def State.subUnavailable (s : State) (b : Nat) : Bool :=
  (s.core (64 + b)).failed || !(s.output (64 + b)).en || (s.bay b).parity

/-- The condition of R140 that the divider decides: SUBb can cover the channel, else it can hold it. -/
def State.sameDivider (s : State) (n : Nat) : Bool :=
  decide ((s.output (64 + n / 8)).div = (s.output n).div)

/-- Channel `n` can be handed over at all: R140 but for the divider. -/
def State.canHandOver (s : State) (n : Nat) : Bool :=
  let c := s.chan n
  decide ((s.bay (n / 8)).phase = .idle ∧ (s.bay (n / 8)).connecting = none) && !s.subUnavailable (n / 8)
    && decide (c.state = .playing ∨ c.state = .parked) && decide (c.flags &&& 0xFC = 0) && s.synM.locked && s.synM.tbLocked

/-- A handover of channel `n` is ordered: it begins at its next boundary, b0 (R141). -/
def State.connect (s : State) (n : Nat) : State :=
  s.modBay (n / 8) fun b => { b with connecting := some (s.nextBoundary n), channel := n }

/-- The handover of channel `n` begins at boundary `k` (R141, R143): cover, or hold with the last code. -/
def State.beginHandover (s : State) (n k : Nat) : State :=
  let cover := s.sameDivider n
  let s := s.syncTo n k
  let c := s.chan n
  (s.modBay (n / 8) fun b => { b with
    phase := .settleIn, holdMode := !cover, channel := n, phaseK := k, heldCode := c.lastCode.getD c.vals.park
    connecting := none }).modChan n
    fun c => if cover then { c with state := .substituted } else { c with state := .held, stale := true }

/-- Plumb hands channel `n` back: at its next boundary the primary's switch closes at weight 0 and the settle-out begins
(R141). A handover not yet at its cover reaches it first; one that has not begun does not begin. -/
def State.handBack (s : State) (n : Nat) : State :=
  if s.connectsTo n then s.modBay (n / 8) fun b => { b with connecting := none, channel := 0 }
  else if s.serves n ∧ (s.bay (n / 8)).phase = .cover then
    s.modBay (n / 8) fun b => { b with leaving := some (s.nextBoundary n) }
  else s

/-- Plumb still measures core `n`. -/
def State.measures (s : State) (n : Nat) : Bool :=
  match s.plumb.run with
  | some r => decide (r.core = n)
  | none => false

/-- A state that a handover or a break set is left at boundary `k`: PLAYING, or PARKED if no descriptor has reached
the head; a deferred span applies with its mute (R133, R135, R200). -/
def State.returnChannel (s : State) (n k : Nat) : State :=
  let s := s.syncTo n k
  let s := s.modChan n fun c =>
    let st : ChState := if c.begun then .playing else .parked
    if c.state = .muted then { c with under := st, stale := false } else { c with state := st, stale := false }
  match (s.chan n).spanDeferred with
  | some (v, host) => (s.modChan n fun c => { c with spanDeferred := none }).applySpan n k v host
  | none => s

/-- The loopback tap of core `i` is open for Plumb: it delivers no edges (R228). -/
def State.tapOpen (s : State) (i : Nat) : Bool :=
  decide (i < 64 ∧ (s.bay (i / 8)).phase = .cover ∧ (s.bay (i / 8)).channel = i)

/-- SRC of a TIU channel. -/
def TiuSlot.src (v : TiuSlot) : Nat := bits v.cfg.toNat 31 25

/-- KIND and STOP_CH of a slot. -/
def TiuSlot.kind (v : TiuSlot) : Nat := bits v.meas.toNat 31 28
def TiuSlot.stopCh (v : TiuSlot) : Nat := bits v.meas.toNat 27 24

/-- Slot `c` takes channel `x` as its stop channel. -/
def TiuSlot.stopsAt (v : TiuSlot) (x : Nat) : Bool := decide ((v.kind = 1 ∨ v.kind = 4) ∧ v.stopCh = x)

/-- GATE_MK and GATE_SRC, and ARM. -/
def TiuSlot.gateMk (v : TiuSlot) : Bool := bitOf v.meas.toNat 21
def TiuSlot.gateSrc (v : TiuSlot) : Nat := bits v.meas.toNat 20 17
def TiuSlot.armKind (v : TiuSlot) : Nat := bits v.meas.toNat 23 22

/-- The slot's measurement takes edges of channel `x` as slot `c`: as start or as stop channel. -/
def TiuSlot.takes (v : TiuSlot) (c x : Nat) : Bool := decide (c = x) || v.stopsAt x

/-- The slot uses channel `x`: as start, stop or gate (R237). -/
def TiuSlot.uses (v : TiuSlot) (c x : Nat) : Bool :=
  v.takes c x || decide (v.armKind = 1 ∧ v.gateMk = false ∧ v.gateSrc = x)

/-- Slot `c` measures: it is ARMED or RUNNING. -/
def TiuSlot.measuring (v : TiuSlot) : Bool := decide (v.state = .armed ∨ v.state = .running)

/-- MEAS_STATUS flags [28:21]. -/
def mfOrder : Nat := 7
def mfMissed : Nat := 6
def mfLateArm : Nat := 5
def mfTbXtal : Nat := 4
def mfTapGap : Nat := 3
def mfRangeOver : Nat := 2
def mfCmpHit : Nat := 1
def mfCmpRefused : Nat := 0

/-- A MEAS_STATUS flag set. -/
def TiuSlot.set (v : TiuSlot) (i : Nat) : TiuSlot := { v with flags := v.flags ||| BitVec.ofNat 8 (2 ^ i) }

/-- The running measurement of slot `c` loses an edge of channel `x`: an INTERVAL's pairing starts again, without what
is still queued (R239). -/
def State.resyncPairs (s : State) (c x : Nat) : State :=
  let v := s.slot c
  if v.state = .running ∧ v.kind = 1 ∧ v.takes c x = true then
    s.setSlot c { v with
      starts := [], stops := [], resyncs := v.resyncs + 1, skipA := v.queue.length
      skipB := (s.slot v.stopCh).queue.length }
  else s

/-- The tap of core `i` is withdrawn from the TIU's channels: every measurement that uses one sets TAP_GAP, and an
interval's pairing ends as a missed edge would end it (R228, R251). -/
def State.gapTap (s : State) (i : Nat) : State :=
  let xs := (List.range 16).filter fun x => decide ((s.slot x).src = i + 1)
  s.forAll xs fun s x => s.forAll (List.range 16) fun s c =>
    if (s.slot c).measuring && (s.slot c).uses c x then (s.modSlot c fun v => v.set mfTapGap).resyncPairs c x else s

/-- The settle-in ends and the fade-in begins. -/
def opSettleInEnd (s : State) (b : Nat) : State :=
  let v := s.bay b
  let k := v.phaseK + s.settleGranules v.channel
  if v.phase = .settleIn ∧ s.reached v.channel k = true then
    s.modBay b fun v => { v with phase := .fadeIn, phaseK := k, fadeK := v.fadeG }
  else s

/-- The fade-in ends: the primary's switch opens and cover begins (R141); where Plumb has given the run up meanwhile,
the settle-out begins there. -/
def opFadeInEnd (s : State) (b : Nat) : State :=
  let v := s.bay b
  let k := v.phaseK + v.fadeK
  if v.phase = .fadeIn ∧ s.reached v.channel k = true then
    let go := s.measures v.channel
    let s := s.modBay b fun v => { v with phase := if go then .cover else .settleOut, phaseK := k }
    s.when go fun s => s.gapTap v.channel
  else s

/-- The settle-out ends and the fade-out begins. -/
def opSettleOutEnd (s : State) (b : Nat) : State :=
  let v := s.bay b
  let k := v.phaseK + s.settleGranules v.channel
  if v.phase = .settleOut ∧ s.reached v.channel k = true then
    s.modBay b fun v => { v with phase := .fadeOut, phaseK := k, fadeK := v.fadeG }
  else s

/-- The channel's own codes drive its pair again from boundary `k` (R141, R143); a break policy that waited for the
handback applies (R268). -/
def State.resumeCodes (s : State) (n k : Nat) : State :=
  let s := (s.modChan n fun c => { c with returning := none }).returnChannel n k
  if (s.chan n).broke = .deferred ∧ (s.chan n).state ≠ .muted then s.applyBreak n k else s

/-- The fade-out ends: the substitute's switch opens and SUBb is free, and the channel returns: a covered one there, a
held one at the next granule boundary (R141, R143). -/
def opFadeOutEnd (s : State) (b : Nat) : State :=
  let v := s.bay b
  let n := v.channel
  let k := v.phaseK + v.fadeK
  if v.phase = .fadeOut ∧ s.reached n k = true then
    let s := s.modBay b fun v => { v with
      phase := .idle, channel := 0, holdMode := false
      handovers := if v.holdMode then v.handovers else v.handovers + 1 }
    if v.holdMode then s.modChan n fun c => { c with returning := some (k + 1) } else s.resumeCodes n k
  else s

/-! ## What comes about at a boundary of its own (R135, R141, R143) -/

/-- The channel part of a TRUSS or CHANNEL reset at boundary `k` (R323, R324): a handover is abandoned, and a deferred
span applies as the channel leaves HELD (R133). -/
def State.resetChannel (s : State) (n k : Nat) : State :=
  let s := (s.emptyQueue n).cut n k true
  let s := if s.serves n || s.connectsTo n then (s.freeSub n true).discardRun n else s
  let s := s.modChan n fun c =>
    let parks : Bool := c.state.consumes
    let v : Channel := { c with
      acc := 0, ramp := none, trgo := false, resetK := none, returning := none
      state := if parks then .parked else c.state
      under := if parks then .off else c.under
      stale := if parks then false else c.stale
      begun := if parks then false else c.begun
      broke := if parks ∧ c.broke ≠ .pending then .none else c.broke }
    v.setMarks (16 * k) 0
  match (s.chan n).spanDeferred with
  | some (v, host) => (s.modChan n fun c => { c with spanDeferred := none }).applySpan n k v host
  | none => s

/-- The channel is reset at its boundary `k` (R323), or at once where that has come or its clock stands. -/
def State.resetAtBoundary (s : State) (n k : Nat) (truss : Bool) : State :=
  if !s.clockRuns n then s.resetChannel n (s.chan n).stopK
  else if k ≤ s.boundaryNow n then s.resetChannel n (max k (s.chan n).accK)
  else s.modChan n fun c => { c with resetK := some (k, truss) }

/-- The core of channel `n` takes the trims of the factory record (R269, assumption log 7); its fine delay steps
(R157). -/
def State.reloadCore (s : State) (n : Nat) : State :=
  s.modCore n fun c => { c with trims := {}, ampFactory := true, timeFactory := true }

/-- A reset (R323), the factory trims (R269), a FLUSH (R116), a cleared ENABLE, a handover, a handback or the end of a
hold whose boundary has come takes effect there, in the order of R135. -/
def State.dueAt (s : State) (n : Nat) : State :=
  let s := match (s.chan n).resetK with
    | some (k, _) => if s.reached n k then s.resetChannel n k else s
    | none => s
  let s := match (s.chan n).reloadK with
    | some k =>
      if s.reached n k then ((s.syncTo n k).reloadCore n).modChan n fun c => { c with reloadK := none } else s
    | none => s
  let s := match (s.chan n).flushing with
    | some k => if s.reached n k then s.cut n k true else s
    | none => s
  let s := match (s.chan n).disabling with
    | some (k, again) =>
      if s.reached n k then
        (s.silence n k .off).modChan n fun c => { c with
          disabling := none, broke := .none, enabling := if again then some (s.boundaryFs n k) else none }
      else s
    | none => s
  let s := match (s.bay (n / 8)).connecting with
    | some k => if s.connectsTo n && s.reached n k then s.beginHandover n k else s
    | none => s
  let s := match (s.bay (n / 8)).leaving with
    | some k =>
      if s.serves n && s.reached n k then
        s.modBay (n / 8) fun b => { b with phase := .settleOut, phaseK := k, leaving := none } else s
    | none => s
  match (s.chan n).returning with
  | some k =>
    if s.reached n k then (s.modBay (n / 8) fun b => { b with holds := b.holds + 1 }).resumeCodes n k else s
  | none => s

/-- The channels for which something waits for a boundary. -/
def State.waitingChans (s : State) : List Nat :=
  ((s.chans.filter fun p => p.2.resetK.isSome || p.2.flushing.isSome || p.2.disabling.isSome || p.2.returning.isSome
    || p.2.reloadK.isSome).map (·.1))
    ++ ((s.bays.filter fun p => p.2.connecting.isSome || p.2.leaving.isSome).map (·.2.channel))

end Sys2Proof.Machine
end

