-- ==== Sys2Proof/Machine/Operands.lean ====
section
/-! DEFINITION. The operand forms of the Joiner's instructions (03_joiners.md, R76): fields, registers, B operands,
V values and C counts, loop and jump targets. A form answers none where the encoding is not the instruction's. -/

namespace Sys2Proof.Machine

/-- opcode [31:26]. -/
def Fetched.opcode (f : Fetched) : Nat := bits f.word.toNat 31 26
/-- rd [25:21]. -/
def Fetched.rd (f : Fetched) : Nat := bits f.word.toNat 25 21
/-- ra [20:16]. -/
def Fetched.ra (f : Fetched) : Nat := bits f.word.toNat 20 16
/-- imm16 [15:0]. -/
def Fetched.imm (f : Fetched) : Nat := bits f.word.toNat 15 0

/-- The word is the first of a two-word instruction: ESC, or LI with ra = 1 (R76). -/
def twoWords (w : Word) : Bool :=
  decide (bits w.toNat 31 26 = 0x2A ∨ (bits w.toNat 31 26 = 0x30 ∧ bits w.toNat 20 16 = 1))

/-- Words of the instruction. -/
def Fetched.size (f : Fetched) : Nat := if twoWords f.word then 2 else 1

/-- g[r]; g0 reads zero. -/
def Timetable.g (v : Timetable) (r : Nat) : Word := if r = 0 then 0 else v.regs[r]?.getD 0

/-- g[r] := x; a write to g0 is discarded. -/
def Timetable.setG (v : Timetable) (r : Nat) (x : Word) : Timetable :=
  if r = 0 then v else { v with regs := v.regs.setIfInBounds r x }

/-- A register field in use holds 0 to 15 (R76). -/
def isReg (r : Nat) : Bool := decide (r ≤ 15)

/-- B operand (R76). -/
def Timetable.operandB (v : Timetable) (f : Fetched) : Option Word :=
  if bitOf f.imm 15 then
    if bits f.imm 14 4 = 0 then some (v.g (bits f.imm 3 0)) else none
  else some (BitVec.ofInt 32 (signed 15 f.imm))

/-- C count (R76), and the word a V value is taken from. -/
def Timetable.operandC (v : Timetable) (f : Fetched) : Option Word :=
  if f.ra = 0 then some (BitVec.ofNat 32 f.imm)
  else if isReg f.ra ∧ f.imm = 0 then some (v.g f.ra) else none

/-- V value (R76). -/
def Timetable.operandV (v : Timetable) (f : Fetched) : Option (BitVec 16) :=
  (v.operandC f).map fun x => BitVec.ofNat 16 x.toNat

/-- SHF amount (R77). -/
def Timetable.operandShift (v : Timetable) (f : Fetched) : Option Nat :=
  if bits f.imm 14 7 ≠ 0 then none
  else if bitOf f.imm 15 then (if bitOf f.imm 4 then none else some ((v.g (bits f.imm 3 0)).toNat % 32))
  else some (bits f.imm 4 0)

/-- The channels that a gang names (R65). -/
def gangOf (base : Nat) (mask : BitVec 16) : List Nat :=
  ((List.range 16).filter fun i => mask.getLsbD i).map (base + ·)

/-- The channels of a timetable's gang. -/
def Timetable.gang (v : Timetable) : List Nat := gangOf v.gangBase v.gangMask

end Sys2Proof.Machine
end

