-- ==== Sys2Proof/Machine/Flags.lean ====
section
/-! DEFINITION. The flags Z, N and BELLHIT and the conditions of JCC (03_joiners.md, R76, R77). -/

namespace Sys2Proof.Machine

/-- Z and N after ADD, SUB, AND, OR, XOR and SHF (R76). -/
def Timetable.flagsOf (v : Timetable) (x : Word) : Timetable := { v with z := decide (x = 0), n := x.getMsbD 0 }

/-- Z and N after CMP (R76). -/
def Timetable.flagsCmp (v : Timetable) (a b : Word) : Timetable :=
  { v with z := decide (a = b), n := decide (a.toInt < b.toInt) }

/-- BELLHIT: any bell is latched. -/
def Timetable.bellHit (v : Timetable) : Bool := decide (v.latches ≠ 0)

/-- The conditions of JCC, by rd; none faults (R77). -/
def Timetable.cond (v : Timetable) (rd : Nat) : Option Bool :=
  match rd with
  | 0 => some true
  | 1 => some v.z
  | 2 => some (!v.z)
  | 3 => some v.n
  | 4 => some (!v.n)
  | 5 => some (!v.z && !v.n)
  | 6 => some (v.z || v.n)
  | 7 => some v.bellHit
  | 8 => some (!v.bellHit)
  | _ => none

/-- The kinds of SHF: LSL, LSR, ASR, ROR (R77). -/
def shift (kind amount : Nat) (x : Word) : Word :=
  match kind with
  | 0 => x <<< amount
  | 1 => x >>> amount
  | 2 => x.sshiftRight amount
  | _ => x.rotateRight amount

end Sys2Proof.Machine
end

