-- ==== Sys2Proof/Machine/Joiner.lean ====
section
/-! DEFINITION. How a Joiner runs a timetable (03_joiners.md): the scheduler, fetching, issuing, waiting and waking,
traps, the event ring, enqueuing, bells at a Joiner, and write-port jobs. -/

namespace Sys2Proof.Machine

/-- Codes of the trap causes. -/
def TrapCause.code : TrapCause → Nat
  | .rsvdOpcode => 0x01
  | .badOperand => 0x02
  | .pcRange => 0x03
  | .codeUe => 0x04
  | .loopOverflow => 0x05
  | .loopUnderflow => 0x06
  | .memRange => 0x07
  | .segInvalid => 0x08
  | .hallpass => 0x09
  | .ringInvalid => 0x0A
  | .notLeader => 0x0B
  | .noChannel => 0x0C
  | .noBellTime => 0x0D
  | .bellNotListened => 0x0E
  | .user => 0x0F

/-- What an instruction comes to in the cycle in which it is tried: it takes effect and goes on behind itself, or
jumps, or stays where it is (HALT), or waits, or traps. `lat` is its latency (R61). -/
inductive Effect where
  | done (s : State) (lat : Nat)
  | jump (s : State) (pc lat : Nat)
  | stay (s : State)
  | wait (k : WaitKind) (lat : Nat)
  | trap (c : TrapCause) (code : Nat)

/-- The effect is a trap. -/
def Effect.traps : Effect → Bool
  | .trap _ _ => true
  | _ => false

/-- An instruction's effect where its encoding is in order, else BAD_OPERAND (R76). -/
def need (b : Bool) (e : Effect) : Effect := if b then e else .trap .badOperand 0

/-- The same with an operand that a form may refuse. -/
def needSome {α : Type} (o : Option α) (e : α → Effect) : Effect :=
  match o with
  | some v => e v
  | none => .trap .badOperand 0

/-- A jump to `pc`, or PC_RANGE (R54). -/
def jumpTo (s : State) (pc lat : Nat) : Effect := if pc ≤ 32767 then .jump s pc lat else .trap .pcRange 0

/-! ## The event ring (R75) -/

/-- EVR_TAIL as the ring writer sees it in cycle `c`: a host write of that cycle comes after its test (R305). -/
def EventRing.tailIn (e : EventRing) (c : Nat) : Word :=
  match e.tailWas with
  | some (x, w) => if x = c then w else e.tail
  | none => e.tail

/-- The ring is full. -/
def State.evrFull (s : State) : Bool := decide (s.evr.head - s.evr.tailIn s.cycle = 2048)

/-- One record written at EVR_HEAD, which then advances (R75). -/
def State.writeRecord (s : State) (kind tt tag data0 data1 : Nat) : State :=
  let slot := s.evr.base * 65536 + 32 * (s.evr.head.toNat % 2048)
  let bs := leBytes 4 (kind * 2 ^ 28 + tt) ++ leBytes 4 tag ++ leBytes 8 s.trussNow.toNat
    ++ leBytes 4 data0 ++ leBytes 4 data1 ++ leBytes 8 0
  let s := (s.writeMem slot bs).addTraffic 32
  { s with evr := { s.evr with head := s.evr.head + 1 } }

/-- A record offered to the ring: nothing while the writer is stopped; dropped and counted on a full ring (R75). -/
def State.postRecord (s : State) (kind tt tag data0 data1 : Nat) : State :=
  if !s.evr.enable then s
  else if s.evrFull then { s with evr := { s.evr with dropped := s.evr.dropped + 1 } }
  else s.writeRecord kind tt tag data0 data1

/-! ## Traps (R82) -/

/-- FLUSH of a timetable's gang (R84, R114). -/
def State.flushGang (s : State) (i : Nat) : State := s.forAll (s.tt i).gang State.flushChannel

/-- A trap of timetable `i` (R82). -/
def State.trapTt (s : State) (i : Nat) (f : Fetched) (c : TrapCause) (code : Nat) : State :=
  let s := s.modTt i fun v => { v with
    state := .faulted, wait := .none, held := none
    fault := { cause := c.code, code := BitVec.ofNat 16 code, pc := f.pc, word := f.word, ext := f.ext } }
  let s := s.postRecord 1 i (c.code + code * 65536) f.pc f.word.toNat
  let cfg := (s.tt i).faultCfg.toNat
  let s := if bitOf cfg 0 then s.raiseBell (bits cfg 15 8) (BitVec.ofNat 8 c.code) s.trussNow srcTtFault i s.trussNow else s
  if bitOf cfg 16 then s.flushGang i else s

/-! ## Scheduler (R60) -/

/-- The timetable of slot `k` is eligible in cycle `c`. -/
def State.eligible (s : State) (j c k : Nat) : Bool :=
  let v := s.tt (64 * j + k)
  decide (v.state = .ready ∧ v.readyAt ≤ c)

/-- The slot that Joiner `j` issues for in cycle `c`: the highest priority first, and at one priority the next in slot
order after the one last issued (R60). -/
def State.pick (s : State) (j c : Nat) : Option Nat :=
  (List.range 8).reverse.findSome? fun p =>
    ((List.range 64).map fun k => ((s.joiner j).last[p]?.getD 63 + 1 + k) % 64).find? fun k =>
      s.eligible j c k && decide ((s.tt (64 * j + k)).prio = p)

/-! ## Words of one cycle (R33, R56, R83) -/

/-- The code word that a fetch in cycle `c` reads (R83). -/
def Joiner.codeWord (jn : Joiner) (c a : Nat) : Word := oldIn jn.codeOld c (sget (fun _ => 0) jn.code) a

/-- The code words that a fetch in cycle `c` finds uncorrectable: a write of its own cycle has not ended a mark (R55,
R83). -/
def Joiner.codeBad (jn : Joiner) (c a : Nat) : Bool :=
  jn.codeUe.contains a || (decide (jn.codeUeOld.1 = c) && jn.codeUeOld.2.contains a)

/-- The shared word that the write port reads in cycle `c` (R56). -/
def Joiner.portWord (jn : Joiner) (c a : Nat) : Word := oldIn jn.sharedOld c (sget (fun _ => 0) jn.shared) a

/-- The oldest job of a Joiner before a store in cycle `c` to word `a` of its source: a unit that the port has sent went as it
was (R74). One that has reached HBM was sent, and one that the port cannot have come to was not; of the others, which
were, is free. -/
def WpJob.keep (w : WpJob) (jn : Joiner) (draw c a : Nat) : WpJob :=
  let i := (a - w.src) / 4
  if a < w.src ∨ w.src + 4 * w.units ≤ a then w
  else if jn.canSend i c && (jn.landed w i c || (Config.freeValue draw (2 ^ 120 + a / 4)).getLsbD 0) then
    { w with kept := (List.range 4).foldl (fun m i =>
        let k := a / 4 * 4 + i
        if (sget (fun _ => none) m k).isSome then m else sput m k (some (sget (fun _ => 0) jn.shared k))) w.kept }
  else w

/-- Shared words stored from `a` on in cycle `c` (R56, R74, R83). -/
def Joiner.storeShared (jn : Joiner) (draw c a : Nat) (ws : List Word) : Joiner :=
  let ks := (List.range ws.length).map (a + ·)
  { jn with
    jobs := match jn.jobs with
      | w :: r => ks.foldl (fun w k => w.keep jn draw c k) w :: r
      | [] => []
    sharedOld := keepOld jn.sharedOld c (sget (fun _ => 0) jn.shared) ks
    shared := (List.range ws.length).foldl (fun m k => sset (fun _ => 0) m (a + k) (ws[k]?.getD 0)) jn.shared }

/-! ## Fetch (R54, R55, R76) -/

/-- What a fetch gives: an instruction, or a trap with what TT_FAULT records of it. A word that was not fetched, or
that reads uncorrectable, is a free value there. -/
def State.fetch (s : State) (j pc : Nat) : Fetched × Option TrapCause :=
  let jn := s.joiner j
  let free (k : Nat) : Word := (Config.freeValue s.draws k).setWidth 32
  let word (a : Nat) : Word := jn.codeWord s.cycle a
  if 32767 < pc then ({ pc := pc, word := free 0, ext := free 1 }, some .pcRange)
  else if jn.codeBad s.cycle pc then ({ pc := pc, word := free 0, ext := free 1 }, some .codeUe)
  else if !twoWords (word pc) then ({ pc := pc, word := word pc, ext := 0 }, none)
  else if 32767 < pc + 1 then ({ pc := pc, word := word pc, ext := free 1 }, some .pcRange)
  else if jn.codeBad s.cycle (pc + 1) then ({ pc := pc, word := word pc, ext := free 1 }, some .codeUe)
  else ({ pc := pc, word := word pc, ext := word (pc + 1) }, none)

/-! ## Enqueuing (R66, R67, R92) -/

/-- SYN-M has lost lock and the clocks have not returned: queues read full (R21, R85). -/
def State.lockLost (s : State) : Bool := s.synM.en && s.synM.lost

/-- QUEUE_DEPTH of a channel: its descriptors and the freed slots not yet seen (R67). -/
def State.depth (s : State) (n : Nat) : Nat :=
  let c := s.chan n
  c.queue.length + (c.freed.filter fun x => decide (s.cycle < x)).length

/-- The queue has room for an enqueue (R92, R21). -/
def State.room (s : State) (n : Nat) : Bool := decide (s.depth n < (s.chan n).limit) && !s.lockLost

/-- A descriptor of timetable `i` enters the queue of channel `n` in this cycle (R67). -/
def State.enqueue (s : State) (i : Nat) (d : Descriptor) (n : Nat) : State :=
  let c := s.cycle + (if i / 64 = n then 2 else 10)
  let s := s.modChan n fun v => { v with
    freed := v.freed.filter fun x => decide (s.cycle < x)
    queue := v.queue ++ [{ d with tt := i, crossCycle := c }] }
  s.pinAll d.pins

/-- Enqueues that find a queue full count in QUEUE_FULL_WAITS of each such queue. -/
def State.countWaits (s : State) (ns : List Nat) : State :=
  s.forAll (ns.filter fun n => !s.room n) fun s n => s.modChan n fun c => { c with fullWaits := c.fullWaits + 1 }

/-- A channel instruction of timetable `i` (R66): NO_CHANNEL on an empty gang; the wait for room; then the descriptor
`mk` makes for the gang, or the trap it finds (R58). Nothing is enqueued where `mk` is none. -/
def gangOp (s : State) (i lat : Nat) (mk : Option (State → Except TrapCause Descriptor)) : Effect :=
  let ns := (s.tt i).gang
  if ns = [] then .trap .noChannel 0
  else match mk with
    | none => .done s lat
    | some mk =>
      if ns.all s.room then
        match mk s with
        | .ok d =>
          let d := { d with order := s.serial }
          .done (({ s with serial := s.serial + 1 } : State).forAll ns fun s n => s.enqueue i d n) lat
        | .error c => .trap c 0
      else .wait .queue lat

/-- The segment of a PLAY or ESC copied at enqueue with its pins (R33, R34, R47); a table write of the same ECLK cycle
is not seen (R33). An invalid entry is SEG_INVALID whatever pages it overlaps (DESIGN CHOICE: R34 and R47 give no order,
assumption log 116). -/
def State.segDescriptor (s : State) (i : Nat) (d : Descriptor) : Except TrapCause Descriptor :=
  let e := oldIn s.mem.segsOld s.cycle s.mem.seg i
  let event (k : Nat) : MEvent := oldIn s.mem.eventsOld s.cycle (sget (fun _ => {}) s.mem.events) (4 * e.mprog.toNat + k)
  let ps := s.mem.segPages e
  if !e.valid then .error .segInvalid
  else if ps.any fun p => !(s.mem.page p).pinnable then .error .hallpass
  else .ok { d with
    format := e.format, trigLen := e.trigLen, mken := e.mken, base := e.base, lenG := e.lenG
    segId := BitVec.ofNat 16 i, trigMask := e.trigMask
    mprog := if e.mken then (List.range 4).map event else []
    pins := ps }

/-! ## Issue and wake (R58, R61) -/

/-- A timetable whose instruction has taken effect goes on at `pc`, ready from cycle `c` on. -/
def Timetable.goesOn (v : Timetable) (pc c : Nat) : Timetable :=
  { v with pc := pc, state := .ready, wait := .none, held := none, readyAt := c }

/-- A timetable that waits for `k` at instruction `f`, ready no earlier than cycle `c`. -/
def Timetable.waitsAt (v : Timetable) (k : WaitKind) (f : Fetched) (c : Nat) : Timetable :=
  { v with state := .waiting, wait := k, held := some f, readyAt := c }

/-- The cycle from which a timetable is ready again: its latency after the issue in cycle `c`, or, `woken` in cycle `c`,
one cycle on and no earlier than its latency allows (R58, R61). -/
def Timetable.readyFrom (v : Timetable) (woken : Bool) (c lat : Nat) : Nat :=
  if woken then max (c + 1) v.readyAt else c + lat

/-- The effect of an instruction carried out for timetable `i`: at its issue in cycle `c`, or, `woken`, when its wait
ends in cycle `c`. -/
def State.carryOut (s : State) (i c : Nat) (f : Fetched) (woken : Bool) : Effect → State
  | .done s' lat => s'.modTt i fun v => v.goesOn (f.pc + f.size) (v.readyFrom woken c lat)
  | .jump s' pc lat => s'.modTt i fun v => v.goesOn pc (v.readyFrom woken c lat)
  | .stay s' => s'
  | .wait k lat =>
    if woken then s
    else (s.when (decide (k = .queue)) fun s => s.countWaits (s.tt i).gang).modTt i fun v => v.waitsAt k f (c + lat)
  | .trap x code => s.trapTt i f x code

/-- Joiner `j` has a free issue slot now, and it is that of timetable `i` (R60). -/
def State.issues (s : State) (i : Nat) : Bool :=
  let j := i / 64
  !s.eclk.stopped && !(s.joiner j).resetting && decide ((s.joiner j).nextIssue ≤ s.cycle)
    && decide (s.pick j s.cycle = some (i % 64))

/-- Timetable `i` is the last issued at its priority, and the Joiner's cycle is taken (R60, R62). -/
def State.takeSlot (s : State) (i : Nat) : State :=
  s.modJoiner (i / 64) fun jn => { jn with
    nextIssue := s.cycle + 1, last := jn.last.setIfInBounds (s.tt i).prio (i % 64) }

/-- Timetable `i` issues an instruction whose opcode `row` accepts, with effect `eff`; nothing happens where it is not
its turn or the instruction at its PC is another one. A fetch that fails traps whatever was there. -/
def State.issue (s : State) (i : Nat) (row : Nat → Bool) (eff : State → Nat → Fetched → Effect) : State :=
  if s.issues i then
    match s.fetch (i / 64) (s.tt i).pc with
    | (f, some c) => (s.takeSlot i).trapTt i f c 0
    | (f, none) =>
      if row f.opcode then
        let s := s.takeSlot i
        s.carryOut i s.cycle f false (eff s i f)
      else s
  else s

/-- A host STOP of timetable `i` waits for the end of its ECLK cycle (R84). -/
def State.stopping (s : State) (i : Nat) : Bool := s.stops.any fun p => decide (p.1 = i)

/-- The waiting instruction of timetable `i` is tried again: it takes effect where its condition is met (R58), but not
in the cycle of a STOP, over which only a trap prevails (R85). What it did is remembered for its cycle, in which a STOP
may still abandon it. -/
def State.wake (s : State) (i : Nat) (k : WaitKind) (effOf : Nat → State → Nat → Fetched → Effect) : State :=
  let v := s.tt i
  match v.held with
  | some f =>
    let e := effOf f.opcode s i f
    if v.state = .waiting ∧ v.wait = k ∧ s.eclk.stopped = false ∧ (s.joiner (i / 64)).resetting = false
        ∧ (s.stopping i = false ∨ e.traps = true) then
      let s' := s.carryOut i s.cycle f true e
      if k = .bell ∨ k = .queue then
        { s' with woken := { cycle := s.cycle, tt := i, before := v, serial := s.serial } ::
            s'.woken.filter fun w => decide (w.cycle = s.cycle) }
      else s'
    else s
  | none => s

/-- The descriptors that STRM or another instruction of serial number `serial` enqueued leave the queues again, and
their pins are released. -/
def State.takeBack (s : State) (i serial : Nat) : State :=
  s.forAll (s.tt i).gang fun s n =>
    let ps := ((s.chan n).queue.filter fun d => decide (d.order = serial)).flatMap (·.pins)
    (s.modChan n fun c => { c with queue := c.queue.filter fun d => decide (d.order ≠ serial) }).unpinAll ps false

/-- TT_CMD STOP at timetable `i` (R84, R85): it acts at the end of the cycle; a wake of the same cycle is abandoned, and
the latch stays set. -/
def State.stopTt (s : State) (i : Nat) : State :=
  if s.stopping i || !decide ((s.tt i).state = .ready ∨ (s.tt i).state = .waiting) then s
  else
    let s := match s.woken.find? fun w => decide (w.tt = i ∧ w.cycle = s.cycle) with
      | some w =>
        let s := s.modTt i fun v => { w.before with
          latches := w.before.latches ||| v.latches, arrivals := v.arrivals, fresh := v.fresh }
        { s.takeBack i w.serial with woken := s.woken.filter fun x => decide (x.tt ≠ i) }
      | none => s
    { s with stops := s.stops ++ [(i, s.cycle)] }

/-- The STOP of timetable `i` acts (R84); a trap or a HALT of its cycle has prevailed (R85). -/
def State.haltTt (s : State) (i : Nat) : State :=
  s.modTt i fun v =>
    if v.state = .ready ∨ v.state = .waiting then
      { v with state := .halted, haltCause := 1, wait := .none, held := none } else v

/-! ## Bells at a Joiner (R70 to R72) -/

/-- A bell reaches the Joiners: bell tables, arrival sets, latches and BELL_OVERWRITES (R70, R71, R79). -/
def State.joinerBell (s : State) (number : Nat) (payload : Byte) (time : Ticks) : State :=
  let again (j : Nat) : Bool := (List.range 64).any fun k => (s.tt (64 * j + k)).latches.getLsbD number
  let bit : BitVec 256 := BitVec.ofNat 256 (2 ^ number)
  let s' := { s with joiners := smap (fun _ => {}) (fun j (v : Joiner) => { v with
    bells := sset (fun _ => {}) v.bells number { payload := payload, time := time }
    overwrites := if again j then v.overwrites + 1 else v.overwrites }) 96 s.joiners }
  let c := s.cycle
  s'.allTts fun _ v =>
    let v := { v with arrivals := v.arrivals ||| bit }
    if v.listen.getLsbD number then
      { v with
        latches := v.latches ||| bit
        fresh := (c, if v.fresh.1 = c then v.fresh.2 ||| bit else bit) }
    else v

/-! ## Write-port jobs (R74) -/

/-- Jobs of timetable `i` pending. -/
def Joiner.jobsOf (jn : Joiner) (i : Nat) : Nat := (jn.jobs.filter fun w => decide (w.tt = i)).length

/-- A job's data: each source unit as it stood when the port sent it (R74), the last of them in this cycle (R56). -/
def Joiner.jobWords (jn : Joiner) (c : Nat) (w : WpJob) : List Word :=
  (List.range (4 * w.units)).map fun k => (sget (fun _ => none) w.kept (w.src + k)).getD (jn.portWord c (w.src + k))

/-- What of the ECLK cycle in progress has passed, in units / 10^15: a port that turns to a job in this cycle sends its first
unit in it. -/
def State.portPhase (s : State) : Nat := s.eclk.hz * (s.now - s.eclk.cycleFs s.cycle)

/-- The last unit of the oldest job of Joiner `j` reaches HBM: the job's data stands, and it counts as completed. -/
def State.finishJob (s : State) (j : Nat) : State :=
  match (s.joiner j).jobs with
  | [] => s
  | w :: r =>
    let s := s.writeMem w.dst (wordsBytes ((s.joiner j).jobWords s.cycle w))
    (s.modJoiner j fun jn => { jn with
      portFrom := s.cycle
      jobs := match r with
        | w :: q => { w with served := s.portPhase } :: q
        | [] => [] }).modTt w.tt fun v => { v with wpDone := v.wpDone + 1 }

/-- The oldest job of Joiner `j` can have completed: its port has had a cycle for each unit, ECLK running, and the
aggregate admission limit has let its units through (R14, R22, R74). -/
def State.jobDue (s : State) (j : Nat) : Bool :=
  let jn := s.servePorts.joiner j
  match jn.jobs with
  | [] => false
  | w :: _ => !s.eclk.stopped && decide (jn.portFrom + w.units ≤ s.cycle) && decide (w.unserved = 0)

/-- WP_JOB_COMPLETE: a job whose time has come completes. -/
def opWpJobComplete (s : State) (j : Nat) : State := if s.jobDue j then s.servePorts.finishJob j else s

/-- A job starts in Joiner `j`'s queue: what channels have played so far met none of its units (R17). -/
def State.startJob (s : State) (j : Nat) (w : WpJob) : State :=
  let s := s.catchUpAll.servePorts
  s.modJoiner j fun jn =>
    let w := { w with draw := s.draws }
    if jn.jobs = [] then { jn with portFrom := s.cycle, jobs := [{ w with served := s.portPhase }] }
    else { jn with jobs := jn.jobs ++ [w] }

end Sys2Proof.Machine
end

