-- ==== Sys2Proof/Machine/Window.lean ====
section
/-! DEFINITION. Segment-table, marker-program and ring entries, the bulk window and bulk messages, and the patrol
scrubber (02_segment_memory.md, R31 to R53; 08_lanes_and_streaming.md, R215 to R220). -/

namespace Sys2Proof

open Sys2Proof.Machine

/-! ## Fields of bulk messages (R215) -/

/-- PAGE, and the flags of word 0. -/
def BulkMsg.page (m : BulkMsg) : Nat := bits m.w0.toNat 15 0
def BulkMsg.ack (m : BulkMsg) : Bool := bitOf m.w0.toNat 30
def BulkMsg.abs (m : BulkMsg) : Bool := bitOf m.w0.toNat 31
def BulkMsg.length (m : BulkMsg) : Nat := m.w3.toNat

/-- The byte address of a BULK_WRITE's data. -/
def BulkMsg.addr (m : BulkMsg) (base : Nat) : Nat :=
  if m.abs then m.w1.toNat + bits m.w2.toNat 4 0 * 2 ^ 32 else (base + m.page) * 2097152 + m.w1.toNat

/-- The message comes over a RONZAL lane. -/
def Port.isLane : Port → Bool
  | .lane _ => true
  | _ => false

end Sys2Proof

namespace Sys2Proof.Machine

/-! ## Entries as bytes (R31, R37, R50) -/

/-- A segment-table entry from its 32 bytes; reserved fields are not kept (R10, R31). -/
def segOf (bs : Bytes) : SegEntry :=
  let w2 := (wordAt bs 2).toNat
  { base := BitVec.ofNat 27 (wordAt bs 0).toNat, lenG := wordAt bs 1
    valid := bitOf w2 31, mken := bitOf w2 30, format := BitVec.ofNat 2 (bits w2 25 24)
    trigLen := BitVec.ofNat 4 (bits w2 23 20), mprog := BitVec.ofNat 10 w2
    trigMask := BitVec.ofNat 16 (wordAt bs 3).toNat, hostTag := wordAt bs 4 }

/-- Its 32 bytes. -/
def SegEntry.bytes (e : SegEntry) : Bytes :=
  leBytes 4 e.base.toNat ++ leBytes 4 e.lenG.toNat
    ++ leBytes 4 (flag e.valid 31 + flag e.mken 30 + e.format.toNat * 2 ^ 24 + e.trigLen.toNat * 2 ^ 20 + e.mprog.toNat)
    ++ leBytes 4 e.trigMask.toNat ++ leBytes 4 e.hostTag.toNat ++ leBytes 12 0

/-- The checks of R32 on an entry with VALID = 1. -/
def SegEntry.ok (e : SegEntry) : Bool :=
  !e.valid || (decide (16 ≤ e.lenG.toNat) && decide (e.format.toNat < 2)
    && decide (768 * e.base.toNat + segBytes e.format e.lenG.toNat ≤ hbmBytes))

/-- A marker-program event from its 8 bytes at event `e` (R37). -/
def eventOf (bs : Bytes) (e : Nat) : MEvent :=
  let w := (wordAt bs (2 * e + 1)).toNat
  { goff := wordAt bs (2 * e), valid := bitOf w 31, level := bitOf w 30
    soff := BitVec.ofNat 4 (bits w 19 16), mask := BitVec.ofNat 16 w }

/-- Its 8 bytes. -/
def MEvent.bytes (v : MEvent) : Bytes :=
  leBytes 4 v.goff.toNat
    ++ leBytes 4 (flag v.valid 31 + flag v.level 30 + v.soff.toNat * 65536 + v.mask.toNat)

/-- A ring entry from its 16 bytes: SPLITS and PLAY_PTR are the hardware's (R50, R51, R53). -/
def ringOf (bs : Bytes) : Ring :=
  let w0 := (wordAt bs 0).toNat
  { valid := bitOf w0 31, format := BitVec.ofNat 2 (bits w0 25 24), first := bits w0 13 0
    count := bits (wordAt bs 1).toNat 14 0, lenG := bits (wordAt bs 2).toNat 16 0 }

/-- Its 16 bytes. -/
def Ring.bytes (r : Ring) : Bytes :=
  leBytes 4 (flag r.valid 31 + r.format.toNat * 2 ^ 24 + r.first) ++ leBytes 4 r.count ++ leBytes 4 r.lenG
    ++ leBytes 4 (r.splits * 65536 + r.playPtr)

/-! ## Host writes of entries -/

/-- A write of SEG_ENTRY for segment `i` (R32, R36). -/
def State.writeSeg (s : State) (i : Nat) (data : Bytes) : Act :=
  s.act [(decide (data.length ≠ 32), .length), rangeIf (!(segOf data).ok)]
    (s.modMem fun m => { m with
      segsOld := keepOld m.segsOld s.cycle m.seg [i], segs := sset (fun _ => {}) m.segs i (segOf data) })

/-- A write of MPROG_ENTRY for program `i` (R36, R37). -/
def State.writeMprog (s : State) (i : Nat) (data : Bytes) : Act :=
  s.act [(decide (data.length ≠ 32), .length)]
    (s.modMem fun m => { m with
      eventsOld := keepOld m.eventsOld s.cycle (sget (fun _ => {}) m.events) ((List.range 4).map (4 * i + ·))
      events := [0, 1, 2, 3].foldl (fun es e => sset (fun _ => {}) es (4 * i + e) (eventOf data e)) m.events })

/-- A STREAM of ring `i` is queued or playing (R51). -/
def Channel.streams (c : Channel) (i : Option Nat) : Bool :=
  let of (d : Descriptor) : Bool := decide (d.kind = .stream) && (match i with
    | some i => decide (d.ringNo = i)
    | none => true)
  c.queue.any of || (match c.act with
    | .stream d _ _ _ _ => of d
    | .late d _ _ => of d
    | _ => false)

/-- A STREAM of ring `i`, or of any ring, is queued or playing. -/
def State.streams (s : State) (i : Option Nat) : Bool := s.chans.any fun p => p.2.streams i

/-- The window pages of a ring. -/
def Ring.pages (r : Ring) : List Nat := if r.valid then (List.range r.count).map (r.first + ·) else []

/-- Two rings share a page. -/
def Ring.meets (r q : Ring) : Bool :=
  r.valid && q.valid && decide (r.first < q.first + q.count ∧ q.first < r.first + r.count)

/-- The checks of R51. -/
def SegMem.ringOk (m : SegMem) (i : Nat) (r : Ring) : Bool :=
  !r.valid || (decide (1 ≤ r.count ∧ r.count ≤ 16384 ∧ r.first + r.count ≤ m.bulkPages) && decide (r.format.toNat < 2)
    && decide (16 ≤ r.lenG ∧ r.lenG ≤ (if r.format = 0 then 87360 else 65520))
    && !(m.rings.any fun p => decide (p.1 ≠ i) && r.meets p.2))

/-- A write of RING_ENTRY for ring `i` (R36, R51, R53). -/
def State.writeRing (s : State) (i : Nat) (data : Bytes) : Act :=
  let r := ringOf data
  s.act [(decide (data.length ≠ 16), .length), (s.streams (some i), .blockRunning), rangeIf (!s.mem.ringOk i r)]
    (let old := (s.mem.ring i).pages
     let s := s.forAll old fun s p => s.modPage p fun v => { v with ring := false }
     let s := s.setMem (s.mem.setRing i r)
     s.forAll r.pages fun s p => s.modPage p fun v => { v with ring := true })

/-- A write of BULK_BASE or BULK_PAGES (R44). A RELEASE that still waits for an incomplete write (R218) is dropped with its
page, without a reply (DESIGN CHOICE, assumption log 114). -/
def State.writeBulk (s : State) (pages : Bool) (v : Nat) : Act :=
  let base := if pages then s.mem.bulkBase else v
  let n := if pages then v else s.mem.bulkPages
  s.act
    [rangeIf (decide (49151 < base ∨ 16384 < n ∨ 49152 < base + n)),
     (s.mem.pages.any (fun p => decide (p.2.pass = .device ∨ p.2.pass = .reading) || p.2.closing) || s.streams none,
       .blockRunning)]
    (s.modMem fun m => { m with
      bulkBase := base, bulkPages := n
      pages := smap (fun _ => {}) (fun _ p => { p with
        pass := .free, pins := 0, closing := false, ring := false, handover := none, waiting := none }) 16384 m.pages
      rings := smap (fun _ => {}) (fun _ r => { r with valid := false, playPtr := 0 }) 256 m.rings })

/-- PAGE_STATUS of page `i` (02_segment_memory.md). -/
def SegMem.pageStatus (m : SegMem) (i : Nat) : Nat :=
  if i < m.bulkPages then
    let p := m.page i
    let code := match p.pass with | .free => 0 | .host => 1 | .device => 2 | .reading => 3
    code * 2 ^ 30 + flag p.closing 29 + flag p.ring 28 + p.pins % 65536
  else 0

/-! ## Lanes and ports as sources of bulk messages -/

/-- The record that counts for a port: an ETH port is its lane (R224). -/
def State.portLane (s : State) : Port → Lane
  | .mgmt => s.mgmt
  | .eth p => s.lane p
  | .lane l => s.lane l

/-- That record changed. -/
def State.modPort (s : State) (p : Port) (f : Lane → Lane) : State :=
  match p with
  | .mgmt => { s with mgmt := f s.mgmt }
  | .eth p => s.modLane p f
  | .lane l => s.modLane l f

/-- LANE_STATUS flags. -/
def lfOverRate : Nat := 3
def lfCreditViol : Nat := 2
def lfSeqGap : Nat := 1
def lfLinkDown : Nat := 0

/-- A LANE_STATUS flag set. -/
def Lane.set (l : Lane) (i : Nat) : Lane := { l with flags := l.flags ||| BitVec.ofNat 4 (2 ^ i) }

/-- A bulk message's sequence number is met (R220). -/
def Lane.meetSeq (l : Lane) (seq : Word) : Lane :=
  let gap := match l.bulkSeq with
    | some x => decide (seq ≠ x + 1)
    | none => false
  let l := { l with bulkSeq := some seq }
  if gap then { (l.set lfSeqGap) with seqGaps := l.seqGaps + 1 } else l

/-! ## Bulk messages (R215 to R220) -/

/-- A port takes bulk messages: an ETH port only while it has its link and an address (R213, R224). What has come over a
lane is taken whether or not the lane is still UP (R209). -/
def State.bulkOpen (s : State) : Port → Bool
  | .eth p => s.ethPort p && decide ((s.lane p).link = .up ∧ (s.lane p).ipv4 ≠ 0)
  | _ => true

/-- PASS as PAGE_STATUS codes it. -/
def Pass.code : Pass → Nat
  | .free => 0
  | .host => 1
  | .device => 2
  | .reading => 3

/-- BULK_REPLY, for a message with ACK = 1 (R220). -/
def State.bulkAnswer (s : State) (type : Nat) (m : BulkMsg) (abort : Nat) : State :=
  if m.ack && s.bulkOpen m.port then
    let pass := if type = 0x40 ∧ m.abs = true then 0
      else if m.page < s.mem.bulkPages then (s.mem.page m.page).pass.code else 0
    s.sendPort m.port 0 (.bulkReply m.port m.peer m.seq (BitVec.ofNat 32 (type * 2 ^ 24 + pass * 65536 + m.page)) (BitVec.ofNat 32 abort)
      (BitVec.ofNat 32 (s.mem.page m.page).accepted))
  else s

/-- An abort counts in the device that raises it (R288, R343). -/
def State.countAbort (s : State) (a : Option Abort) : State :=
  match a with
  | none => s
  | some a =>
    { s with
      oda := { s.oda with aborts := s.oda.aborts + 1 }
      sec := { s.sec with refusals := s.sec.refusals + (if 0x09000000 ≤ a.code then 1 else 0) } }

/-- A message refused (R45, R216, R220). -/
def State.bulkRefuse (s : State) (type : Nat) (m : BulkMsg) (a : Abort) : State :=
  let s := (s.countAbort (some a)).modPort m.port fun l => { l with refused := l.refused + 1 }
  let s := if type = 0x40 ∧ a = .pageNotHeld then { s with mem := { s.mem with refused := s.mem.refused + 1 } } else s
  s.bulkAnswer type m a.code

/-- What refuses a BULK_WRITE (R216); over a lane its data may still be on the way (R218). -/
def State.bulkWriteChecks (s : State) (m : BulkMsg) (data : Bytes) : Checks :=
  let n := m.length
  let lo := s.mem.bulkBase * pageBytes
  let hi := lo + s.mem.bulkPages * pageBytes
  let a := m.addr s.mem.bulkBase
  let p := s.mem.page m.page
  let short := if m.port.isLane then decide (n < data.length) || decide (2097152 < n)
    else decide (data.length ≠ n) || decide (8960 < n)
  let out := if m.abs
    then decide (a % 16 ≠ 0) || decide (hbmBytes < a + n) || decide (s.mem.bulkPages ≠ 0 ∧ a < hi ∧ lo < a + n)
    else decide (s.mem.bulkPages ≤ m.page) || decide (m.w1.toNat % 16 ≠ 0) || decide (pageBytes < m.w1.toNat + n)
  [(decide (n = 0 ∨ n % 16 ≠ 0) || short, .length), rangeIf out,
   (!m.abs && decide (p.pass ≠ .host ∨ p.closing = true), .pageNotHeld)]

/-- Data of an accepted write: stored, and counted in ACCEPTED_BYTES (R42, R217). -/
def State.bulkStore (s : State) (page : Option Nat) (a : Nat) (data : Bytes) : State :=
  let s := s.writeMem a data
  match page with
  | some p => s.modPage p fun v => { v with accepted := v.accepted + data.length }
  | none => s

/-- Some lane still brings data of an accepted write to page `p` (R218). -/
def State.filling (s : State) (p : Nat) : Bool :=
  s.lanes.any fun l => match l.2.msg with
    | some w => decide (w.page = some p ∧ w.due ≠ 0 ∧ w.skip = false)
    | none => false

/-- CHECK_LEN holds at the acceptance of a HANDOVER (R219). -/
def State.countOk (s : State) (m : BulkMsg) : Bool :=
  decide (m.w2 = 0) || decide (m.w2 = BitVec.ofNat 32 (s.mem.page m.page).accepted)

/-- A pass change that no write holds up any more takes its effect (R46, R218, R219): 0x42 RELEASE, 0x43 HANDOVER,
0x44 RECLAIM. -/
def State.passNow (s : State) (type : Nat) (m : BulkMsg) : State :=
  if type = 0x42 then
    (s.modPage m.page fun v => { v with pass := .free, waiting := none }).bulkAnswer type m 0
  else if type = 0x43 then
    if s.countOk m then s.modPage m.page fun v => { v with closing := true, handover := some m, waiting := none }
    else (s.modPage m.page fun v => { v with closing := false, waiting := none }).bulkRefuse type m .byteCount
  else (s.modPage m.page fun v => { v with pass := .host, accepted := 0, waiting := none }).bulkAnswer type m 0

/-- A pass change accepted: at once, or after an incomplete write to the page (R218). -/
def State.passSoon (s : State) (type : Nat) (m : BulkMsg) : State :=
  if s.filling m.page then
    s.modPage m.page fun v => { v with waiting := some (type, m), closing := v.closing || decide (type = 0x43) }
  else s.passNow type m

/-- What the waiting of page `p` ends with when its last write is complete or truncated (R218). -/
def State.pageFilled (s : State) (p : Nat) : State :=
  if s.filling p then s
  else match (s.mem.page p).waiting with
    | some (type, m) => s.passNow type m
    | none => s

/-- What refuses a pass request (R46). -/
def State.passChecks (s : State) (type : Nat) (m : BulkMsg) : Checks :=
  let p := s.mem.page m.page
  let held := decide (p.pass = .host ∧ p.closing = false) && p.waiting.isNone
  [rangeIf (decide (s.mem.bulkPages ≤ m.page)),
   if type = 0x41 then (decide (p.pass = .device ∨ p.pass = .reading), .pageBusy)
   else if type = 0x44 then (decide (p.pass ≠ .device), .pageBusy)
   else (!held, .pageNotHeld)]

/-- A bulk message taken from a lane or port: one from the port of a version 1 session is refused (R284); BOOT and a
held reset answer nothing, and STANDBY and recess, whose segment memory is in self-refresh, refuse it (R356). `left` bytes
of its data are still on the way; a refused message's are passed over. -/
def State.bulkIn (s : State) (m : BulkMsg) (type left : Nat) (checks : Checks) (f : State → State) : State :=
  if s.sys.state = .boot ∨ s.bulkOpen m.port = false then s
  else
    let s := s.modPort m.port fun l => l.meetSeq m.seq
    let old := s.oda.sessions.any fun x => decide (x.port = m.port ∧ x.version = 1) && !x.proxy
    match Checks.verdict ((old, .version) :: (decide (s.sys.state = .standby ∨ s.sys.state = .recess), .wrongState) :: checks) with
    | some a => (s.bulkRefuse type m a).modPort m.port fun l =>
      if left = 0 then l else { l with msg := some { page := none, addr := 0, due := left, skip := true } }
    | none => f s

/-- BULK_WRITE (R216, R217, R218). -/
def opBulkWrite (s : State) (m : BulkMsg) (data : Bytes) : State :=
  s.bulkIn m 0x40 (if m.port.isLane then m.length - data.length else 0) (s.bulkWriteChecks m data) fun s =>
    let page := if m.abs then none else some m.page
    let a := m.addr s.mem.bulkBase
    let s := (s.bulkStore page a data).when (decide (m.port = .mgmt)) fun s => s.addTraffic (32 + data.length)
    let s := if data.length < m.length then
        s.modPort m.port fun l => { l with msg := some { page := page, addr := a + data.length, due := m.length - data.length, skip := false } }
      else s
    s.bulkAnswer 0x40 m 0

/-- A pass request settled (R46, R49): refused, or taken. -/
def State.settlePass (s : State) (v : PassRequest) : State :=
  match Checks.verdict (s.passChecks v.type v.msg) with
  | some a => s.bulkRefuse v.type v.msg a
  | none =>
    if v.type = 0x41 then
      (s.modPage v.msg.page fun p => if p.pass = .free then { p with pass := .host, accepted := 0 } else p).bulkAnswer
        0x41 v.msg 0
    else s.passSoon v.type v.msg

/-- The pass requests of ended ECLK cycles, in order (R49). -/
def State.settlePasses (s : State) : State :=
  let due := s.mem.passes
  (s.modMem fun m => { m with passes := [] }).forAll due State.settlePass

/-- A pass request comes: it is settled at the end of its ECLK cycle, after the pins and the writes of that cycle
(R49). -/
def State.passRequest (s : State) (type : Nat) (m : BulkMsg) : State :=
  s.bulkIn m type 0 [] fun s => s.modMem fun v => { v with
    passes := v.passes ++ [{ cycle := s.cycle, type := type, msg := m }] }

/-- CLAIM (R46, R217). -/
def opClaim (s : State) (m : BulkMsg) : State := s.passRequest 0x41 m

/-- RELEASE (R46). -/
def opRelease (s : State) (m : BulkMsg) : State := s.passRequest 0x42 m

/-- HANDOVER (R46, R48, R219). -/
def opHandover (s : State) (m : BulkMsg) : State := s.passRequest 0x43 m

/-- RECLAIM (R46). -/
def opReclaim (s : State) (m : BulkMsg) : State := s.passRequest 0x44 m

/-- Earlier writes have reached HBM: the page is DEVICE, the bell rings, the reply goes (R48, R220). -/
def opHandoverComplete (s : State) (p : Nat) : State :=
  match (s.mem.page p).handover with
  | some m =>
    let s := s.modPage p fun v => { v with pass := .device, closing := false, handover := none, played := false }
    let s := if bitOf m.w0.toNat 29 then
        s.raiseBell (bits m.w1.toNat 7 0) (BitVec.ofNat 8 (bits m.w1.toNat 15 8)) s.trussNow srcHandover p s.trussNow
      else s
    s.bulkAnswer 0x43 m 0
  | none => s

/-! ## Patrol scrub (R43) -/

/-- The patrol scrubber reads the aligned word `w` and writes corrected data back, unless a write raced it. -/
def opPatrolScrub (s : State) (w : Nat) (raced : Bool) : State :=
  if s.sys.state = .boot ∨ s.sys.state = .standby then s
  else
    match s.mem.readWord s.draws 0 (8 * w) with
    | .data _ => s
    | .corrected v =>
      let s := s.countCe 1
      -- a word that has not been written whole since POR stays undefined (R26)
      if raced || (s.mem.word? (8 * w)).isNone then s else s.writeMem (8 * w) (leBytes 8 v.toNat)
    | .bad =>
      ({ s with
          mem := { s.mem with ueScrub := s.mem.ueScrub + 1 }
          card := { s.card with hbmUe := satInc 64 s.card.hbmUe } } : State).alert alHbmUe

end Sys2Proof.Machine
end

