-- ==== Sys2Proof/Machine/Ingress.lean ====
section
/-! DEFINITION. What the lanes bring in on its way to HBM and to the ODA side (08_lanes_and_streaming.md, R207 to R211,
R214, R217, R218): blocks that leave a landing buffer, frames that leave an ingress buffer, and the path they share with
network traffic and Joiner writes (R23, R210). -/

namespace Sys2Proof.Machine

/-! ## Messages in data blocks (R207, R215, R281, R282) -/

/-- The bytes of a data block, first byte in its lowest bits. -/
def blockBytes (b : BitVec 256) : Bytes := leBytes 32 b.toNat

/-- The bulk message that a header block spells on lane `l` (R207, R215). -/
def headerOf (l : Nat) (bs : Bytes) : BulkMsg :=
  { port := .lane (Fin.ofNat 48 l), seq := wordAt bs 1
    w0 := wordAt bs 4, w1 := wordAt bs 5, w2 := wordAt bs 6, w3 := wordAt bs 7 }

/-- TYPE, REPLY and DEVICE of a header (R281). -/
def typeOf (bs : Bytes) : Nat := bits (wordAt bs 0).toNat 23 16
def isReply (bs : Bytes) : Bool := bitOf (wordAt bs 0).toNat 27
def deviceOf (bs : Bytes) : Nat := bits (wordAt bs 0).toNat 13 8

/-- MAGIC is right (R281). -/
def magicOk (bs : Bytes) : Bool := decide ((wordAt bs 0).toNat % 256 = 0xD5)

/-- Bytes of data that a header block announces: on a stream lane those of a BULK_WRITE (R215), on a truss link those
of a reply or of a WRITE (R282). -/
def announced (stream : Bool) (bs : Bytes) : Nat :=
  if stream then (if typeOf bs = 0x40 then (wordAt bs 7).toNat else 0)
  else if isReply bs then (wordAt bs 6).toNat
  else if typeOf bs = 0x11 then (wordAt bs 5).toNat else 0

/-- Body blocks that a header block announces (R207). -/
def bodyBlocks (stream : Bool) (bs : Bytes) : Nat := ceilDiv (announced stream bs) 32

/-- Word 0 of a reply (R281). -/
def replyWord (ver : BitVec 4) (dup : Bool) (type : BitVec 8) (device : Nat) : Word :=
  BitVec.ofNat 32 (ver.toNat * 2 ^ 28 + 2 ^ 27 + flag dup 26 + type.toNat * 65536 + device * 256 + 0xD5)

/-! ## Truss links (R207, R287) -/

/-- The DOWN lanes that lead towards device `d`: those over which it has reported (R192, R197, R287). -/
def State.laneTo (s : State) (d : Nat) : List Nat := allLanes.filter fun l => s.downLane l && (s.lane l).below.contains d

/-- The mailbox between ECLK and PCLK holds 64 messages each way (R19). -/
def mailboxMax : Nat := 64

/-- A message with the header block `bs`, taken from lane `l`, is turned away with an abort code (R282, R285). -/
def State.turnHeader (s : State) (l : Nat) (bs : Bytes) (a : Abort) : State :=
  let port : Port := .lane (Fin.ofNat 48 l)
  (s.countAbort (some a)).sendPort port 0
    (.reply port {} (replyWord (BitVec.ofNat 4 ((wordAt bs 0).toNat / 2 ^ 28)) false (BitVec.ofNat 8 (typeOf bs)) s.deviceNum)
      (wordAt bs 1) (wordAt bs 2) (wordAt bs 4) (BitVec.ofNat 32 a.code) 0 0 [])

/-- TYPE is defined (R282): an ODA message, or a bulk message. -/
def typeKnown (t : Nat) : Bool := [0x01, 0x02, 0x10, 0x11, 0x12, 0x20, 0x40, 0x41, 0x42, 0x43, 0x44, 0x45].contains t

/-- A whole ODA message has come out of the landing buffer of truss link `l` (R207, R287). One for another device, and
a reply that is not for the king post, goes on along the tree; one for this device waits in the mailbox, and a request
that finds that full is refused with BUSY (R285). -/
def State.takeMessage (s : State) (l : Nat) (bs : Bytes) : State :=
  let pass (s : State) (ls : List Nat) : State :=
    match ls with
    | i :: _ => s.sendBlocks i (blocksOf (bs.length - 32)) (.passed (Fin.ofNat 48 i) bs)
    | [] => s
  if !magicOk bs then { s with oda := { s.oda with bad := s.oda.bad + 1 } }
  else if isReply bs && !s.king then pass s (allLanes.filter s.upLane)
  else if !isReply bs && decide (deviceOf bs ≠ s.deviceNum) then pass s (s.laneTo (deviceOf bs))
  else if !isReply bs && decide (mailboxMax ≤ s.oda.mailbox.length) then s.turnHeader l bs .busy
  else { s with oda := { s.oda with
    mailbox := s.oda.mailbox ++ [{ lane := l, seq := wordAt bs 1, session := wordAt bs 2, bytes := bs }] } }

/-- A block of a message leaves the landing buffer of truss link `l` (R207). -/
def State.takeTruss (s : State) (l : Nat) (bs : Bytes) : State :=
  let v := s.lane l
  let due := if v.inDue = 0 then bodyBlocks false bs else v.inDue - 1
  let all := if v.inDue = 0 then bs else v.inMsg ++ bs
  if due = 0 then
    (s.modLane l fun v => { v with inMsg := [], inDue := 0 }).takeMessage l (all.take (32 + announced false all))
  else s.modLane l fun v => { v with inMsg := all, inDue := due }

/-! ## Stream lanes (R209, R217, R218) -/

/-- The message in progress on a lane ends early: MSG_TRUNCATED counts, and a pass change that waited proceeds (R209,
R218). -/
def State.truncate (s : State) (l : Nat) : State :=
  let page := ((s.lane l).msg.bind fun w => if w.due = 0 then none else w.page)
  let s := s.modLane l fun v => { v with msg := none, inMsg := [], inDue := 0, truncated := v.truncated + 1 }
  match page with
  | some p => s.pageFilled p
  | none => s

/-- A header block leaves the landing buffer of a stream lane: its message is accepted (R217). One of no defined TYPE is
answered with BAD_MESSAGE (R282); an ODA message, which no stream lane carries (R207), and a BULK_REPLY are refused
without an answer (DESIGN CHOICE, assumption log 124). -/
def State.takeHeader (s : State) (l : Nat) (bs : Bytes) : State :=
  let m := headerOf l bs
  if !magicOk bs then { s with oda := { s.oda with bad := s.oda.bad + 1 } }
  else match typeOf bs with
    | 0x40 => opBulkWrite s m []
    | 0x41 => opClaim s m
    | 0x42 => opRelease s m
    | 0x43 => opHandover s m
    | 0x44 => opReclaim s m
    | t => (s.when (!typeKnown t) fun s => s.turnHeader l bs .badMessage).modLane l fun v => { v with refused := v.refused + 1 }

/-- One block of the body of the message in progress (R217, R218). -/
def State.takeBody (s : State) (l : Nat) (w : LaneMsg) (bs : Bytes) : State :=
  let data := bs.take w.due
  let left := w.due - data.length
  let s := if w.skip then s else s.bulkStore w.page w.addr data
  let s := s.modLane l fun v => { v with
    msg := if left = 0 then none else some { w with addr := w.addr + data.length, due := left } }
  if left = 0 ∧ w.skip = false then match w.page with
    | some p => s.pageFilled p
    | none => s
  else s

/-! ## Landing and ingress buffers (R208, R209, R211, R214) -/

/-- Data blocks in a landing buffer. -/
def Lane.held (v : Lane) : Nat := (v.landing.filter Option.isSome).length

/-- A landing buffer is no longer full: the time it was so counts (R211). -/
def Lane.notFull (v : Lane) (now : Nat) : Lane :=
  { v with
    fullSince := none
    zeroFs := v.zeroFs + (match v.fullSince with | some y => now - y | none => 0) }

/-- The oldest block leaves the landing buffer (R208): FREED counts it, unless it came before the lane last entered
UP, and credit goes out with every 64th. A mark where the rest of a message was discarded truncates it (R209). -/
def State.takeBlock (s : State) (l : Nat) : State :=
  match (s.lane l).landing with
  | [] => s
  | none :: r => (s.modLane l fun v => { v with landing := r }).truncate l
  | some b :: r =>
    let old := decide ((s.lane l).stale ≠ 0)
    let s := s.modLane l fun v => { (v.notFull s.now) with
      landing := r, stale := v.stale - 1, freed := if old then v.freed else v.freed + 1 }
    let n := (s.lane l).freed
    let s := if n % 64 = 0 ∧ old = false then s.sendLink l (.credit landingMax (BitVec.ofNat 32 n)) else s
    if (s.lane l).role ≠ 0 then s.takeTruss l (blockBytes b)
    else match (s.lane l).msg with
      | some w => if w.due = 0 then s.takeHeader l (blockBytes b) else s.takeBody l w (blockBytes b)
      | none => s.takeHeader l (blockBytes b)

/-- Bytes in an ingress buffer. -/
def Lane.occupancy (v : Lane) : Nat := v.ingress.foldl (· + ·) 0

/-- 32 bytes leave the ingress buffer of an ETH port, of its oldest frame (R214). -/
def Lane.takeFrame (v : Lane) : Lane :=
  match v.ingress with
  | [] => v
  | n :: r => { v with ingress := if n ≤ 32 then r else (n - 32) :: r }

/-- A message on the lane stops early if nothing more arrives: what it still needs does not all stand in the landing
buffer (R209, R218). -/
def Lane.incomplete (v : Lane) : Bool :=
  let short := (v.msg.map fun w => decide (32 * v.held < w.due)).getD false
  !v.discarding && (decide (v.rxDue ≠ 0 ∨ v.held < v.inDue) || short)

/-- Data waits in a lane's landing buffer or ingress buffer (R210). -/
def Lane.waits (v : Lane) : Bool := !v.landing.isEmpty || !v.ingress.isEmpty

/-- A lane has its turn on the path into HBM. -/
def State.takeUnit (s : State) (l : Nat) : State :=
  let s : State := { s with net := { s.net with turn := l + 1 } }
  if (s.lane l).landing.isEmpty then s.modLane l Lane.takeFrame else s.takeBlock l

/-! ## The path into HBM (R22, R23, R210) -/

/-- What a rate of `r` GB/s comes to in a time, in bytes / 10^6. -/
def microIn (r fs : Nat) : Nat := r * fs

/-- The length of an ECLK cycle, fs. -/
def Eclk.period (e : Eclk) : Nat := secFs / e.hz

/-- Write ports that have units to send. -/
def State.busyPorts (s : State) : Nat := (s.servePorts.joiners.filter fun p => decide (p.2.unserved ≠ 0)).length

/-- What an ECLK cycle leaves the lanes of its 1,024 bytes, in bytes / 10^6: network traffic comes first, up to 16.0 GB/s,
then the write ports, of which each sends 16 bytes a cycle, up to 256.0 GB/s (R22, R74, R210). -/
def State.laneMicro (s : State) : Nat :=
  let p := s.eclk.period
  1024000000 - min s.net.traffic (microIn 16 p) - min (16000000 * s.busyPorts) (microIn 256 p)

/-- 32-byte units that the lanes take of an ECLK cycle, with what the cycle before left over for them. -/
def State.laneUnits (s : State) : Nat := (s.net.carry + s.laneMicro) / 32000000

/-- The lane whose turn is next among those with data waiting: they take turns (R210). -/
def State.nextLane (s : State) : Option Nat :=
  ((List.range 48).map fun i => (s.net.turn + i) % 48).find? fun l => (s.lane l).waits

/-- Some lane has data waiting. -/
def State.laneWaits (s : State) : Bool := s.lanes.any fun p => p.2.waits

/-- The lanes' share of an ECLK cycle has been served: what it left below a unit stands for the next one while lanes wait. -/
def State.keepCarry (s : State) (left : Nat) : State :=
  { s with net := { s.net with carry := if s.laneWaits then left else 0 } }

/-- The lanes that wait take `n` units between them, in turn: a lane that needs less than its share leaves the rest to
the others (R210). -/
def State.serveLanes : Nat → State → State
  | 0, s => s
  | n + 1, s => match s.nextLane with
    | some l => State.serveLanes n (s.takeUnit l)
    | none => s

end Sys2Proof.Machine
end

