-- ==== Sys2Proof/Machine/Due.lean ====
section
/-! DEFINITION. What time itself brings about before a command acts: the end of an ECLK cycle settles the checks, the
pass requests and the STOPs of that cycle (R49, R53, R84), and a granule boundary brings the steps that wait for it
(R135, R141, R143). Every meaning is one of `always` and `event`. -/

namespace Sys2Proof.Machine

/-- Something was met in an ECLK cycle that has not been settled. -/
def State.unsettled (s : State) : Bool :=
  decide (s.mem.checks ≠ []) || decide (s.mem.passes ≠ []) || decide (s.stops ≠ [])

/-- What was met in one ECLK cycle is settled at its end: playback-side pins first, then, all host writes having been
made, host pass requests (R49), and the STOPs, after the traps and the HALTs (R84, R85). -/
def State.settleCycle (s : State) : State :=
  let s := s.settleChecks.settlePasses
  (({ s with stops := [] } : State).forAll s.stops fun s p => s.haltTt p.1)

/-- The path into HBM serves network traffic for a time, at up to 16.0 GB/s (R210). -/
def State.serveTraffic (s : State) (fs : Nat) : State :=
  if s.eclk.stopped then s
  else { s with net := { s.net with traffic := s.net.traffic - microIn 16 fs } }

/-- Device time moves on to `t`: the ECLK cycle in which checks, requests or STOPs were met has ended by then, what
waits for a granule boundary that comes by then takes effect, and the lanes come to their superframes. Nothing does
while the clocks stand. -/
def State.moveTo (s : State) (t : Nat) : State :=
  let c := s.cycle
  let fs := t - s.now
  let s := s.tick t
  if s.still then s
  else
    let s := if s.unsettled && decide (c < s.cycle) then s.settleCycle else s
    let s := s.forAll s.waitingChans State.dueAt
    (s.serveTraffic fs).forAll s.upLanes State.runLane

/-- The ECLK cycles that begin by `t`, at most `n` of them, in which a lane's data leaves its buffer towards HBM
(R210). -/
def State.drain : Nat → Nat → State → State
  | 0, _, s => s
  | n + 1, t, s =>
    let x := s.eclk.cycleFs (s.cycle + 1)
    if s.laneWaits && !s.still && !s.eclk.stopped && decide (x ≤ t) then
      let s := s.moveTo x
      let left := (s.net.carry + s.laneMicro) % 32000000
      State.drain n t ((State.serveLanes s.laneUnits s).keepCarry left)
    else s

/-- Device time moves on to `t`. -/
def State.advance (s : State) (t : Nat) : State := (State.drain (s.eclk.cycleAt t - s.cycle) t s).moveTo t

/-- A command whose effect goes on in every device state. -/
def always (s : State) (t : Nat) (f : State → State) : Result := .next ((f (s.advance t)).close s.pending)

/-- An event of the clocked part of the device: none comes about while the clocks stand (R308, R321, R354). -/
def event (s : State) (t : Nat) (f : State → State) : Result := always s t fun s => if s.still then s else f s

/-- A message at a port: in recess only the management port works (R355, R356). -/
def portEvent (s : State) (t : Nat) (p : Port) (f : State → State) : Result :=
  always s t fun s => if s.sys.por || s.sys.pin || (decide (s.sys.state = .recess ∧ p ≠ .mgmt)) then s else f s

end Sys2Proof.Machine
end

