-- ==== Sys2Proof/Machine/Clock.lean ====
section
/-! DEFINITION. References, the two synthesizers, their outputs and SYN-A's ramp (06_clock_synthesis.md), with what a
change of the clocks does to channels (R163), truss time (R180, R183), the TIU's time base (R236) and Plumb
(R259). -/

namespace Sys2Proof.Machine

/-! ## Outputs -/

/-- The synthesizer of an output index: CLKOUT0 to 3 stand at 76 to 79. -/
def synOf (i : Nat) : Syn := if i < 76 then .M else .A

/-- The outputs of a synthesizer. -/
def outsOf : Syn → List Nat
  | .M => List.range 76
  | .A => [76, 77, 78, 79]

/-- The channel that output `i` serves, for the output of a substitute that serves one (R141). -/
def State.servedBy (s : State) (i : Nat) : Option Nat :=
  let b := s.bay (i - 64)
  if 64 ≤ i ∧ i < 72 ∧ b.phase ≠ .idle ∧ b.phase ≠ .ownPlumb ∧ b.phase ≠ .unavailable then some b.channel else none

/-- The fine delay an output moves to: FINE_TRIM + FINE_USER (R156), and for a substitute the factory route difference
for the channel it serves (R141). -/
def State.fineTarget (s : State) (i : Nat) : Int :=
  (if i < 72 then (s.core i).trims.fine else 0) + (s.output i).fine
    + (match s.servedBy i with
      | some n => Config.routeDiff (i - 64) n
      | none => 0)

/-- The core dividers (R149). -/
def coreDivs : List Nat := [2, 3, 4, 5, 6, 8, 10, 12, 16]

/-- An output's delay keeps the bounds of R156. -/
def State.delayOk (s : State) (i div : Nat) (coarse fine : Int) : Bool :=
  let (a, b) := s.fVco (s.syn (synOf i))
  let f := (if i < 72 then (s.core i).trims.fine else 0) + fine
  (decide (76 ≤ i) || decide (-(2048 * div : Int) ≤ f ∧ f ≤ 2048 * div - 1))
    && decide ((4096 * div * coarse + f).natAbs * b * 1000000000 ≤ 2 * 4096 * a)

/-- The output exists for R160: the enabled ones, and SYN-M's four fixed ones. -/
def State.guarded (s : State) (i : Nat) : Bool := (s.output i).en || decide (72 ≤ i ∧ i < 76)

/-! ## Truss time and TCLK (R180, R183) -/

/-- TCLK stops at its last edge. -/
def State.freezeTime (s : State) : State :=
  if s.time.running then { s with time := s.stopTime, truss := { s.truss with timeValid := false } } else s

/-- The link over which truss time is recovered (R183): a member's to its parent, a king post's to the member on its
lowest DOWN link that is UP. -/
def State.timeLink (s : State) : Option Nat :=
  if s.ownKing then s.memberLink else allLanes.find? fun l => s.upLane l && decide ((s.lane l).link = .up)

/-- How far the present is past the last TCLK edge, in 2^-16 tick. -/
def State.subTicks (s : State) : Nat := s.tclkPhase * 65536 / tickFs

/-- The truss time, in 2^-16 tick, at which the first bit of a block sent now leaves the balls; the way to them is as
long as it is (R192, assumption log 2). -/
def State.departure (s : State) (draw : Nat) : Nat :=
  s.trussNow.toNat * 65536 + s.subTicks + (Config.freeValue s.draws draw).toNat % 2 ^ 32

/-- A TIME REQUEST leaves on a lane (R192); its T_A is kept for the RESPONSE. -/
def State.timeRequest (s : State) (l e : Nat) : State :=
  let ta := BitVec.ofNat 64 (s.departure e)
  (s.sendLink l (.time { kind := 0, exchange := BitVec.ofNat 10 e, ta := ta, tb := 0 })).modLane l
    fun v => { v with requestTa := ta }

/-- The bells held whose effective time passed while TCLK stood at `from_` are late (R183, R189). -/
def State.lateWhileGated (s : State) (from_ : Ticks) : State :=
  let now := s.trussNow
  let late (b : PendingBell) : Bool := decide (0 < ticksDiff now b.effective ∧ 0 ≤ ticksDiff b.effective from_)
  let bs := s.truss.bells.filter late
  let s : State := { s with truss := { s.truss with
    bells := s.truss.bells.map fun b => if late b then b.turnLate s.truss.latePolicy now else b } }
  (s.forAll bs fun s _ => s.countLate).when (bs.any fun b => decide (b.word.kind ≠ 1)) State.lateBreak

/-- TCLK runs again from its edge at device time `x` (R180, R183): from 0 the first time; else on from the count kept
while it was gated, until a transfer gives the true time. The spec does not say how the partner comes to send it: the
device asks with a TIME REQUEST (DESIGN CHOICE, assumption log 95). -/
def State.startTime (s : State) (x : Nat) : State :=
  if s.time.at_ = 0 then
    { s with time := { count := 0, at_ := s.tclkAt x, running := true }, truss := { s.truss with timeValid := true } }
  else
    let was := s.time.count
    let transfer := !s.ownKing || s.memberLink.isSome
    let s : State := { s with
      time := { count := was + BitVec.ofNat 64 (8 * ((x - s.time.at_) / tclkFs)), at_ := s.tclkAt x, running := true }
      truss := { s.truss with
        recover := transfer, timeValid := !transfer, timeApprox := s.truss.timeApprox || !transfer } }
    let s := s.lateWhileGated was
    match s.timeLink with
    | some l => s.when transfer fun s => s.timeRequest l 0
    | none => s

/-! ## Channels under a stop of their clock (R142, R163, R268) -/

/-- The handover that serves channel `n` is abandoned (R142): the run is discarded and the channel returns to the
state it had. One that has not come to its b0 is not made, and SUBb is free; FADE_ABORTS does not count it (DESIGN CHOICE:
R142 counts a handover that is interrupted, assumption log 112). -/
def State.abandonHandover (s : State) (n : Nat) : State :=
  if s.connectsTo n then (s.freeSub n true).discardRun n
  else if s.serves n then
    let s := (s.freeSub n true).discardRun n
    let s := s.modChan n fun c =>
      let st : ChState := if c.begun then .playing else .parked
      if c.state = .muted then { c with under := st, stale := false } else { c with state := st, stale := false }
    let k := (s.chan n).stopK
    let s := match (s.chan n).spanDeferred with
      | some (v, host) => (s.modChan n fun c => { c with spanDeferred := none }).applySpan n k v host
      | none => s
    if (s.chan n).broke = .deferred ∧ (s.chan n).state ≠ .muted then s.applyBreak n k else s
  else s

/-- The core clock of channel `n` stops. -/
def State.haltClock (s : State) (n : Nat) : State := s.stopClock n

/-- Every core clock stops, handovers are abandoned and the Plumb run in progress is discarded (R142, R163, R268). -/
def State.haltClocks (s : State) : State :=
  let s := s.forAll (List.range 64) fun s n => s.haltClock n
  let s := s.forAll (List.range 64) State.abandonHandover
  match s.plumb.run with
  | some r => s.discardRun r.core
  | none => s

/-- The core clock of channel `n` runs from boundary `k` on (R134, R163). -/
def State.startClock (s : State) (n k : Nat) : State :=
  (s.modChan n fun c => { c with clkStopped := true }).resumeClock n k

/-! ## Plumb flags (R259) -/

/-- A flag may be set for core `i` (R259). -/
def State.flagAllowed (s : State) (i : Nat) : Bool :=
  !(s.core i).failed && (s.output i).en && decide (s.plumb.mode ≠ 2) && !s.plumb.parity

/-- Plumb flags of core `i` set at a rank; a flag already set stays (R259). While the core's runs are in progress they
are kept for its next turn (R268). -/
def State.flagCore (s : State) (i : Nat) (amp time : Bool) (rank : PlumbRank) : State :=
  if !s.flagAllowed i then s
  else if s.measures i then
    s.modCore i fun c => { c with
      ampNext := if amp then c.ampNext.or (some rank) else c.ampNext
      timeNext := if time then c.timeNext.or (some rank) else c.timeNext }
  else
    s.modCore i fun c => { c with
      amp := if amp then c.amp.or (some rank) else c.amp
      time := if time then c.time.or (some rank) else c.time }

/-! ## The crystal and loop arithmetic (R148, R149, R154) -/

/-- The mean of the completed crystal gates, an exact half to even (R148). -/
def Ref.gateMean (r : Ref) : Int :=
  if r.gates = [] then 0 else roundHalfEven (r.gates.foldl (· + ·) 0) r.gates.length

/-- XTAL_OFFSET, saturated (R148). -/
def Ref.xtalOffset (r : Ref) : Int := max (-2000000) (min 2000000 r.gateMean)

/-- y of R148. -/
def Ref.y (r : Ref) : Int := if r.gates = [] then r.xtalAdj else r.xtalOffset

/-- VCO range in kHz (R149). -/
def vcoRange : Syn → Nat × Nat
  | .M => (12000000, 16000000)
  | .A => (10000000, 14000000)

/-- The loop limits of R149 hold. -/
def State.loopOk (s : State) (y : Syn) (v : Synth) : Bool :=
  let (r, q) := s.fRef v
  let (f, g) := s.fVco v
  decide (1 ≤ v.refDiv) && decide (5000000 * q * v.refDiv ≤ r ∧ r ≤ 250000000 * q * v.refDiv)
    && decide (32 ≤ v.nInt ∧ v.nInt ≤ (if v.frac = 0 then 4095 else 4091))
    && decide ((vcoRange y).1 * 1000 * g ≤ f ∧ f ≤ (vcoRange y).2 * 1000 * g)

/-- Twice the distance of a band's centre from f_VCO = `f / g` Hz, in units of 1 / g kHz. -/
def Band.off (b : Band) (f g : Nat) : Nat := (((b.lo + b.hi) * 1000 * g : Int) - 2 * f).natAbs

/-- A band covers f_VCO = `f / g` Hz. -/
def Band.covers (b : Band) (f g : Nat) : Bool := b.valid && decide (b.lo * 1000 * g ≤ f ∧ f ≤ b.hi * 1000 * g)

/-- Entry `i` of a band table. -/
def Synth.band (v : Synth) (i : Nat) : Band := sget (fun _ => {}) v.bands i

/-- Band selection (R154): of the valid entries that cover the target, the one with the nearest centre, and of equal
distances the lower index. -/
def State.selectBand (s : State) (v : Synth) : Option Nat :=
  let (f, g) := s.fVco v
  ((List.range 64).filter fun i => (v.band i).covers f g).foldl (fun m i => match m with
    | none => some i
    | some j => if (v.band i).off f g < (v.band j).off f g then some i else some j) none

/-! ## References (R145 to R148, R164 to R167) -/

/-- The words of the time-base loop for a REF_FREQ (R145). -/
def tbWords (f : Nat) : Option (Nat × Nat) :=
  ((List.range 255).map (· + 1)).findSome? fun d =>
    let n := 2000000000 * d / f
    if 5000000 * d ≤ f ∧ 2000000000 * d % f = 0 ∧ 8 ≤ n ∧ n ≤ 400 then some (d, n) else none

/-- A write of REF_FREQ (R145). -/
def State.writeRefFreq (s : State) (f : Nat) : Act :=
  s.act [rangeIf (decide (f < 10000000 ∨ 500000000 < f) || (tbWords f).isNone),
      (s.synM.en || s.synA.en, .blockRunning)]
    (match tbWords f with
      | some (d, n) => { s with ref := { s.ref with freq := f, tbDiv := d, tbN := n } }
      | none => s)

/-- What runs with the warps `ws` runs off nominal by `scale` / 10^9 from device time `x` on, for `span`. -/
def slewed (ws : List Warp) (x span scale : Nat) : List Warp :=
  { dev := x + span, syn := warped ws x + span * scale / 1000000000, scale := 1000000000 }
    :: { dev := x, syn := warped ws x, scale := scale } :: ws

/-- What runs with the warps `ws` runs at nominal from device time `x` on. -/
def steady (ws : List Warp) (x : Nat) : List Warp :=
  { dev := x, syn := warped ws x, scale := 1000000000 } :: ws.filter fun w => decide (w.dev ≤ x)

/-- A slew that removes the phase step `d` begins (R165, R166): both loops run SLEW_RATE below nominal for a positive
step and above it for a negative one, until |d| has gone; TCLK slews with them, unless the time-base loop has rejoined
REFIN on its own (R236). -/
def State.startSlew (s : State) (d : Int) : State :=
  let rate := s.ref.slewRate
  let scale := if 0 < d then 1000000000 - rate else 1000000000 + rate
  let span := d.natAbs * 1000000000 / rate
  { s with
    ref := { s.ref with mode := .slewing, slewEnd := some (s.now + span), warps := slewed s.ref.warps s.now span scale }
    tiu := { s.tiu with warps := if s.tiu.own then s.tiu.warps else slewed s.tiu.warps s.now span scale } }

/-- TCLK runs at nominal from now on. -/
def State.steadyTclk (s : State) : State := { s with tiu := { s.tiu with warps := steady s.tiu.warps s.now } }

/-- A slew in progress stops where it is: the loops run at nominal from now on (R167). -/
def State.endSlew (s : State) : State :=
  match s.ref.slewEnd with
  | some x =>
    if s.now < x then
      ({ s with ref := { s.ref with warps := steady s.ref.warps s.now } } : State).when (!s.tiu.own) State.steadyTclk
    else s
  | none => s

/-! ## The sigma-delta modulators (R151, R161) -/

/-- `n` cycles of the modulator with fraction `f`: each accumulator takes in the one before it, the first the fraction.
The divider passes the modulator by while the fraction is 0, and it stands still. The order of the three additions in a
cycle is not stated: each takes the sum just made (PRESUMED, assumption log 118). -/
def Mash.cycles (m : Mash) (n : Nat) (f : Word) : Mash :=
  if f = 0 then m
  else
    let t1 := BitVec.ofNat 32 n
    let t2 := BitVec.ofNat 32 (n * (n + 1) / 2)
    let t3 := BitVec.ofNat 32 (n * (n + 1) * (n + 2) / 6)
    { m with
      acc1 := m.acc1 + t1 * f, acc2 := m.acc2 + t1 * m.acc1 + t2 * f
      acc3 := m.acc3 + t1 * m.acc2 + t2 * m.acc1 + t3 * f }

/-- Phase-detector cycles of a synthesizer in fs, as a fraction. -/
def State.pfdFs (s : State) (v : Synth) : Nat × Nat := ((s.fRef v).2 * v.refDiv * secFs, (s.fRef v).1)

/-- The fraction that a synthesizer's divider runs with: SYN-A's with what its ramp has added (R170). -/
def State.fraction (s : State) (y : Syn) : Word :=
  match y with
  | .M => BitVec.ofNat 32 s.synM.frac
  | .A => BitVec.ofInt 32 ((s.synA.frac : Int) + s.ramp.shift)

/-- The modulator of a synthesizer at loop time `v`: the phase-detector cycles since the time it is counted up to have
been made. -/
def State.mashAt (s : State) (y : Syn) (v : Nat) : Mash :=
  let x := s.syn y
  if x.en then
    let (a, b) := s.pfdFs x
    let n := (v - x.mash.at_) * b / a
    { x.mash.cycles n (s.fraction y) with at_ := x.mash.at_ + n * a / b }
  else x.mash

/-- The modulator of a synthesizer is brought up to loop time `v`, before its fraction changes. -/
def State.syncMash (s : State) (y : Syn) (v : Nat) : State := s.modSyn y fun x => { x with mash := s.mashAt y v }

/-- Both loops are held on the crystal, or follow REFIN. A loop that changes its reference runs on with words that the
device recomputes and the spec does not state (R164). -/
def State.onCrystal (s : State) (b : Bool) : State :=
  let turn (v : Synth) : Synth := { v with onXtal := b, mash := { v.mash with known := v.mash.known && decide (v.onXtal = b) } }
  { s with synM := turn s.synM, synA := turn s.synA }

/-- What a loss of REFIN does to the TIU (R236). -/
def State.tiuRefLost (s : State) : State :=
  let s : State := { s with tiu := { s.tiu with own := false } }
  if s.tiu.xtal ∨ s.ref.xtalSrc then s
  else if s.tiu.tb = 3 then { s with tiu := { s.tiu with lost := true } }
  else if s.tiu.stop then
    let s := s.freezeTime
    let dead (v : TiuSlot) : TiuSlot :=
      if v.state = .armed ∨ v.state = .running then
        { v with state := .aborted, armAt := none, starts := [], stops := [], gateN := 0 }
      else v
    { s with tiu := { s.tiu with slots := smap (fun _ => {}) (fun _ v => dead v) 16 s.tiu.slots, tb := 3, lost := true, onXtal := true } }
  else { s with tiu := { s.tiu with tb := 2, lost := true, onXtal := true } }

/-- A message that answers request `r` says WRONG_STATE after all. -/
def OutMsg.wrongState (r : Req) : OutMsg → OutMsg
  | .reply port peer header seq session f0 abort len f3 data =>
    if port = r.port ∧ seq = r.seq ∧ session = r.session then
      .reply port peer header seq session f0 (BitVec.ofNat 32 Abort.wrongState.code) len f3 data
    else .reply port peer header seq session f0 abort len f3 data
  | m => m

/-- An accepted request `r` is refused WRONG_STATE after all, in its reply and in the replay cache. -/
def State.unaccept (s : State) (r : Req) : State :=
  let code := BitVec.ofNat 32 Abort.wrongState.code
  { s with
    out := s.out.map (OutMsg.wrongState r)
    oda := { s.oda with
      aborts := s.oda.aborts + 1
      sessions := s.oda.sessions.map fun x =>
        if x.id = r.session then { x with cache := x.cache.map fun c => if c.seq = r.seq then { c with abort := code } else c }
        else x } }

/-- A REF_CMD of the cycle of a loss is refused with WRONG_STATE: the loss wins (R167). -/
def State.loseCmds (s : State) : State :=
  let s := if s.ref.cmds.1 = s.moment then s.forAll s.ref.cmds.2 State.unaccept else s
  { s with ref := { s.ref with cmds := (0, []) } }

/-- REFIN is lost (R146, R164): the flags; under AUTO the loops go on from the crystal, in one holdover until REFIN is
rejoined. -/
def State.loseRef (s : State) : State :=
  let auto := !s.ref.xtalSrc
  let begun := s.ref.holdSince.isSome
  let s := s.loseCmds.endSlew
  let s := { s with ref := { s.ref with
    present := false, lost := true, gateSince := none, presentSince := none, measuring := none, qualAt := none
    slewEnd := none
    mode := if auto then .holdover else s.ref.mode
    holdovers := if auto && !begun then s.ref.holdovers + 1 else s.ref.holdovers
    holdSince := if auto && !begun then some s.now else s.ref.holdSince } }
  let s := s.alert alRefLost
  if auto then (s.onCrystal true).tiuRefLost else s

/-- REFIN_LOSS (R146): an edge is missing or weak. -/
def opRefinLoss (s : State) : State :=
  let s := { s with ref := { s.ref with ampOk := false } }
  if s.ref.present then s.loseRef else s

/-- REFIN comes to be present (R146, R165): it has to qualify after a loss, or where a loop was locked to the crystal
for want of it. -/
def State.gainRef (s : State) : State :=
  let wait := decide (s.ref.mode = .holdover) || (s.synM.en && s.synM.onXtal) || (s.synA.en && s.synA.onXtal)
  { s with ref := { s.ref with
    present := true, gateSince := some s.now
    mode := if s.ref.xtalSrc then .xtal else if wait then .qualifying else .refin
    presentSince := if !s.ref.xtalSrc && wait then some s.now else none } }

/-- A 1 ms frequency gate ends (R146). The count is taken in hertz and compared with REF_FREQ ± REF_WINDOW (DESIGN
CHOICE, assumption log 93). -/
def opRefinGateEnd (s : State) (ampOk : Bool) (count : Nat) : State :=
  let inside := decide (((count : Int) - s.ref.freq).natAbs * 1000000 ≤ s.ref.window * s.ref.freq)
  let s := { s with ref := { s.ref with ampOk := ampOk, freqOk := inside } }
  if ampOk && inside then (if s.ref.present then s else s.gainRef)
  else if s.ref.present then s.loseRef else s

/-- SRC of REFIN (R226). -/
def srcRefin : Nat := 93

/-- The calibration channel takes a source: a loopback tap for timing Plumb, REFIN for the phase step (R165, R249). -/
def State.calFrom (s : State) (src : Nat) : State :=
  s.modSlot 16 fun v => { v with cfg := BitVec.ofNat 32 (src * 2 ^ 25) ||| (v.cfg &&& 0x01FFFFFF) }

/-- REFIN has been present for REF_QUAL ms; the phase step is measured (R165). -/
def opRefinQualified (s : State) : State :=
  match s.ref.presentSince with
  | some x =>
    if s.ref.mode = .qualifying ∧ s.ref.measuring = none ∧ x + s.ref.qual * msFs ≤ s.now then
      { s.calFrom srcRefin with ref := { s.ref with
        measuring := some (0, x + s.ref.qual * msFs), qualAt := some (x + s.ref.qual * msFs)
        presentSince := none } }
    else s
  | none => s

/-- The loops rejoin REFIN, and the holdover is over (R165, R236). The words that hold f_VCO stay those of the enable,
on whichever reference that was (R164; assumption log 96). -/
def State.rejoin (s : State) : State :=
  let s := s.endSlew
  let s := { s with ref := { s.ref with mode := .refin, holdSince := none, slewEnd := none, measuring := none } }
  let s := s.onCrystal false
  { s with tiu := { s.tiu with
    tb := if s.tiu.tb = 2 then 0 else s.tiu.tb, onXtal := decide (s.tiu.tb = 3) && s.tiu.onXtal, own := false } }

/-- The fine delay of an output that is gated or disabled stands at its target (R157). -/
def State.settleFine (s : State) (i : Nat) : State := s.modOutput i fun o => { o with pos := s.fineTarget i }

/-- A synthesizer's outputs are gated and it acquires again from now (R159, R165): SYN-M's channels stop, and TCLK. -/
def State.gateSyn (s : State) (y : Syn) : State :=
  let s := match y with
    | .M => s.haltClocks.freezeTime
    | .A => s
  let s := s.forAll (outsOf y) State.settleFine
  s.modSyn y fun v => { v with
    phase := .acquiring, gated := true, since := s.now, alignEdge := none, lost := decide (y = .M) }

/-- Neither loop of a synthesizer is locked. -/
def State.unlock (s : State) (y : Syn) : State := s.modSyn y fun v => { v with locked := false, tbLocked := false }

/-- The synthesizer is locked: SYN-M with both its loops (R150). -/
def State.synLocked (s : State) (y : Syn) : Bool :=
  (s.syn y).locked && (match y with | .M => s.synM.tbLocked | .A => true)

/-- A synthesizer that is enabled relocks on REFIN, with its own words (R149, R165). -/
def State.relock (s : State) (y : Syn) : State :=
  s.when (s.syn y).en fun s => ((s.gateSyn y).unlock y).modSyn y fun v => { v with xtalY := none }

/-- HOP: every output is gated and the loops relock on REFIN (R165). -/
def State.hop (s : State) : State := (s.rejoin.relock .M).relock .A

/-- `d` wrapped into -T_REF / 2 to T_REF / 2, in fs rounded half to even (R165). -/
def Ref.wrapStep (r : Ref) (d : Int) : Int :=
  let tr : Int := secFs
  -- d * freq modulo 10^15, in (-5 * 10^14, 5 * 10^14]
  let x := (d * r.freq) % tr
  let x := if 2 * x > tr then x - tr else x
  roundHalfEven x r.freq

/-- The phase step has been measured over 2^16 edge pairs (R165, R166); REF_RETURN governs as it stands then (R291). -/
def opRefStepMeasured (s : State) (mean : Int) : State :=
  match s.ref.measuring with
  | some (pol, x) =>
    if x + 65536 * secFs / s.ref.freq ≤ s.now then
      let d := s.ref.wrapStep mean
      let s := { s with ref := { s.ref with step := d, returned := true, measuring := none } }
      if d.natAbs ≤ 1000 then s.rejoin
      else if pol = 3 ∨ (pol = 0 ∧ s.ref.ret = 0) then s.startSlew d
      else if pol = 4 ∨ (pol = 0 ∧ s.ref.ret = 1) then s.hop
      else { s with ref := { s.ref with mode := .waitHost } }
    else s
  | none => s

/-- The slew has removed the phase step (R165). -/
def opSlewComplete (s : State) : State :=
  match s.ref.slewEnd with
  | some x => if s.ref.mode = .slewing ∧ x ≤ s.now then s.rejoin else s
  | none => s

/-- REF_CMD: 3 SLEW, 4 HOP (R166). MODE goes on reading WAIT_HOST during the fresh measurement, so that a second
REF_CMD is accepted and starts the measurement again (DESIGN CHOICE, assumption log 119). -/
def State.refCmd (s : State) (pol : Nat) : Act :=
  s.act [(decide (s.ref.mode ≠ .waitHost), .wrongState)]
    { s.calFrom srcRefin with ref := { s.ref with measuring := some (pol, s.now) } }

/-- A 1 s crystal gate completes (R148). -/
def opXtalGateEnd (s : State) (offset : Int) : State :=
  match s.ref.gateSince with
  | some x =>
    if s.ref.present ∧ x + secFs ≤ s.now then
      let r := { s.ref with gates := (offset :: s.ref.gates).take 16, gateSince := some (x + secFs) }
      { s with ref := { r with xtalRange := r.xtalRange || decide (2000000 < r.gateMean.natAbs) } }
    else s
  | none => s

/-- A sequence that waits in step 3 goes on (R161). -/
def State.alignGo (s : State) (y : Syn) : State :=
  s.modSyn y fun v => if v.phase = .alignWait then { v with phase := .aligning, since := s.now } else v

/-- PPS_IN was seen within the last 1.1 s (R147). -/
def State.ppsPresent (s : State) : Bool :=
  match s.ref.ppsAt with
  | some x => decide (s.now < x + 1100 * msFs)
  | none => false

/-- An active PPS_IN edge (R147, R161, R182). -/
def opPpsEdge (s : State) (disagree : Bool) : State :=
  let s := { s with ref := { s.ref with ppsAt := some s.now, ppsMargin := s.ref.ppsMargin || disagree } }
  let s := (s.alignGo .M).alignGo .A
  match s.truss.ppsDue with
  | some x =>
    if x < s.now + 500 * msFs then
      let miss := decide (secFs < ((s.now : Int) - x).natAbs * s.ref.freq)
      let s := { s with truss := { s.truss with ppsDue := none } }
      s.when miss fun s => s.trussFlag tfPpsMiss
    else s
  | none => s

/-- No PPS_IN edge within 1.1 s in step 3 (R161). -/
def opAlignTimeout (s : State) : State :=
  let late (v : Synth) : Bool := decide (v.phase = .alignWait ∧ v.since + 1100 * msFs ≤ s.now)
  if late s.synM || late s.synA then { s with ref := { s.ref with alignTimeout := true } } else s

/-- A write of ALIGN_SRC (R161). -/
def State.writeAlignSrc (s : State) (v : Nat) : Act :=
  s.act [rangeIf (decide (1 < v))]
    (let s := { s with ref := { s.ref with alignPps := decide (v = 1) } }
     if v = 0 then (s.alignGo .M).alignGo .A else s)

/-! ## Enabling, lock and alignment (R149, R154, R159 to R162) -/

/-- The reference in use is REFIN: not the crystal, chosen or held to (R164, R167). -/
def State.onRefin (s : State) : Bool := !s.ref.xtalSrc && decide (s.ref.mode = .refin) && s.ref.present

/-- The synthesizer as an enable takes it: where it runs from the crystal, with y of R148 (R149). -/
def State.enabled (s : State) (y : Syn) : Synth :=
  { s.syn y with xtalY := if s.onRefin then none else some s.ref.y }

/-- The enable of a synthesizer (R149, R154); one that is enabled already goes on. Under AUTO it runs from the crystal
where REFIN is not present: with REFIN never seen, MODE still reads REFIN and no holdover is counted, since none was
entered (DESIGN CHOICE, assumption log 120). A refusal moves PHASE only to NO_BAND (R154). -/
def State.synEnable (s : State) (y : Syn) : Act :=
  if (s.syn y).en then s.act [] s
  else
    let v := s.enabled y
    let band := s.selectBand v
    { checks := [rangeIf (!s.loopOk y v), (band.isNone, .noBand)]
      refused := fun a => s.when (decide (a = .noBand)) fun s => s.setSyn y { s.syn y with phase := .noBand }
      after :=
        let s := match y with
          | .M => { s.allChans fun _ c => { c with clkStopped := true } with tiu := { s.tiu with onXtal := !s.onRefin } }
          | .A => { s with ramp := { s.ramp with shift := 0, running := false, waiting := false, startAt := none } }
        s.setSyn y { v with
          en := true, phase := .acquiring, gated := true, locked := false, tbLocked := false, lost := false, parity := false
          mash := { v.mash with at_ := s.loopFs s.now, known := false }
          entry := band, since := s.now, retried := false, alignEdge := none
          onXtal := !s.onRefin } }

/-- The disable of a synthesizer: its outputs are gated at once; MODE is kept (R167). One that is disabled already is
left as it is, and PHASE keeps NO_BAND (R154). GATED of a disabled synthesizer reads 0 (DESIGN CHOICE, assumption log
90). -/
def State.synDisable (s : State) (y : Syn) : Act :=
  s.act []
    (if !(s.syn y).en then s
     else
      let s := (s.gateSyn y).unlock y
      let s := s.modSyn y fun v => { v with en := false, phase := .disabled, gated := false, lost := false, entry := none }
      match y with
      | .M => s
      | .A => { s with ramp := { s.ramp with running := false, waiting := false, startAt := none } })

/-- 1,024 phase-detector cycles of a loop, in fs. The time-base loop runs integer-N on REFIN, with TB_DIV; the words
that the device recomputes for it on the crystal are not stated, so there the event alone tells (R145, R150). -/
def State.lockFs (s : State) (y : Syn) : Loop → Nat
  | .main => let (a, b) := s.pfdFs (s.syn y); 1024 * a / b
  | .timeBase => if s.tiu.xtal || s.tiu.onXtal then 0 else 1024 * s.ref.tbDiv * secFs / s.ref.freq

/-- A loop of a synthesizer is locked, or has lost its lock. -/
def State.setLock (s : State) (y : Syn) (l : Loop) (b : Bool) : State :=
  s.modSyn y fun v => match l with
    | .main => { v with locked := b }
    | .timeBase => { v with tbLocked := b }

/-- The synthesizer has the loop: SYN-A has no time-base loop (R150). -/
def hasLoop (y : Syn) (l : Loop) : Bool := !(decide (y = .A) && decide (l = .timeBase))

/-- A loop of a synthesizer is locked. -/
def Synth.loopLocked (v : Synth) : Loop → Bool
  | .main => v.locked
  | .timeBase => v.tbLocked

/-- A loop locks after 1,024 cycles in the window; with its last loop the synthesizer is locked (R150, R159). SYN-M
after a loss of lock on the crystal then relocks on REFIN where that has qualified, and SYN-A's reference follows the
same mux (R167, R168). -/
def opLockDeclared (s : State) (y : Syn) (l : Loop) : State :=
  let v := s.syn y
  if hasLoop y l && v.en && decide (v.phase = .acquiring ∧ v.since + s.lockFs y l ≤ s.now) && !v.parity then
    let s := s.setLock y l true
    if s.synLocked y then
      let back := decide (y = .M) && v.lost && v.onXtal && !s.ref.xtalSrc && s.ref.qualAt.isSome
      let s := if back then s.rejoin.modSyn y fun v => { v with xtalY := none } else s
      s.modSyn y fun v => { v with phase := .settling, since := s.now }
    else s
  else s

/-- A loop of a synthesizer loses lock: every output of the synthesizer is gated (R150, R159, R163). -/
def opLossOfLock (s : State) (y : Syn) (l : Loop) : State :=
  if hasLoop y l && (s.syn y).en && (s.syn y).loopLocked l then
    (((s.gateSyn y).setLock y l false).alert alSynLol).modSyn y fun v => { v with
      lol := true, lols := v.lols + 1, attempts := v.attempts + 1, retried := false }
  else s

/-- Band selection again, and a retry (R159). Where no entry covers the target any more, the old one stays in use
(DESIGN CHOICE, assumption log 91). -/
def opLockRetry (s : State) (y : Syn) : State :=
  let v := s.syn y
  if v.en ∧ v.phase = .acquiring ∧ v.since + (if v.retried then 10 * msFs else msFs) ≤ s.now then
    s.setSyn y { v with
      entry := (s.selectBand v).or v.entry, attempts := v.attempts + 1, retried := true, since := s.now }
  else s

/-- Lock has held for 20 us and the alignment edge is chosen (R161). -/
def opSettleComplete (s : State) (y : Syn) : State :=
  let v := s.syn y
  if v.phase = .settling ∧ v.since + 20 * usFs ≤ s.now then
    s.setSyn y { v with phase := if s.ref.alignPps then .alignWait else .aligning, since := s.now }
  else s

/-- The alignment edge (R161, R162): the modulator's state is reset, and fine delays are loaded. -/
def opAlignmentEdge (s : State) (y : Syn) : State :=
  let v := s.syn y
  if v.phase = .aligning ∧ v.alignEdge = none then
    let s := s.setSyn y { v with
      alignEdge := some s.now, alignedXtal := v.onXtal
      mash := { at_ := s.loopFs s.now, known := decide (v.onXtal = v.xtalY.isSome) } }
    s.forAll (outsOf y) State.settleFine
  else s

/-- From alignment edge to release edge: 4,096 TCLK periods (R161). -/
def releaseFs : Nat := 4096 * tclkFs

/-- Step 6 and 7 for SYN-M at release edge `x` (R161, R163, R180, R259). -/
def State.releaseM (s : State) (x : Nat) : State :=
  let gated := decide (s.tiu.tb = 3) && s.tiu.onXtal && !s.tiu.xtal && !s.ref.xtalSrc
  let tiu := s.tiu
  let s : State := { s with tiu := { tiu with tb := if tiu.tb = 3 ∧ gated = false then 0 else tiu.tb } }
  let s := if gated then s else s.startTime x
  let s := s.modSyn .M fun v => { v with anchor := s.trussAt x }
  let s := s.forAll (List.range 64) fun s n => if (s.output n).en then s.startClock n 0 else s
  if s.plumb.mode = 0 then s.forAll (List.range 72) fun s i => s.flagCore i false true .postLock else s

/-- Every output is ungated together (R161). -/
def opOutputRelease (s : State) (y : Syn) : State :=
  let v := s.syn y
  match v.alignEdge with
  | some e =>
    if v.phase = .aligning ∧ e + releaseFs ≤ s.now then
      let x := e + releaseFs
      let s := s.setSyn y { v with
        phase := .running, gated := false, lost := false, releaseAt := s.loopFs x, alignEdge := none }
      let s := s.forAll (outsOf y) fun s i => s.modOutput i fun o => { o with ceilGated := false }
      match y with
      | .M => s.releaseM x
      | .A => s
    else s
  | none => s

/-- The ceiling guard swallows an edge and gates the output (R160). -/
def opCeilingTrip (s : State) (i : Nat) : State :=
  let y := synOf i
  if s.guarded i ∧ s.synRuns y = true ∧ (s.output i).ceilGated = false then
    let s := if i < 64 then s.haltClock i else if i = 72 then s.freezeTime else s
    ((s.modOutput i fun o => { o with ceilGated := true }).settleFine i).modSyn y fun v => { v with ceilTrip := true }
  else s

/-! ## Host writes of outputs and band tables (R153, R155 to R158) -/

/-- A band entry from its 16 bytes (R152); reserved fields are not kept (R10). -/
def bandOf (bs : Bytes) (i : Nat) : Band :=
  let w := (wordAt bs (4 * i + 2)).toNat
  { lo := (wordAt bs (4 * i)).toNat, hi := (wordAt bs (4 * i + 1)).toNat, valid := bitOf w 31
    gain := BitVec.ofNat 2 (bits w 9 8), code := BitVec.ofNat 8 w }

/-- The 16 bytes of a band entry. -/
def Band.bytes (b : Band) : Bytes :=
  leBytes 4 b.lo ++ leBytes 4 b.hi ++ leBytes 4 (flag b.valid 31 + b.gain.toNat * 256 + b.code.toNat) ++ leBytes 4 0

/-- A band entry keeps R153. -/
def Band.ok (b : Band) (y : Syn) : Bool :=
  let lo := (vcoRange y).1 - 500000
  let hi := (vcoRange y).2 + 500000
  !b.valid || decide (b.lo < b.hi ∧ lo ≤ b.lo ∧ b.hi ≤ hi)

/-- Bands as a table. -/
def bandTable (bs : List Band) : Sparse Band :=
  (bs.zipIdx).foldl (fun m p => sset (fun _ => {}) m p.2 p.1) []

/-- A write of a band table (R153). -/
def State.writeBands (s : State) (y : Syn) (data : Bytes) : Act :=
  let bs := (List.range 64).map (bandOf data)
  s.act [(decide (data.length ≠ 1024), .length), ((s.syn y).en, .blockRunning), rangeIf (bs.any fun b => !b.ok y)]
    (s.modSyn y fun v => { v with bands := bandTable bs })

/-- A write of OUT_CFG or CLKOUT_CFG for output `i` (R155, R158, R160). -/
def State.writeOutCfg (s : State) (i w : Nat) : Act :=
  let o := s.output i
  let en := bitOf w 31
  let div := bits w 11 0
  let badDiv := if i < 72 then !coreDivs.contains div else decide (div < 2)
  let inUse := if i < 64 then decide ((s.chan i).state ≠ .off)
    else if i < 72 then decide ((s.bay (i - 64)).phase ≠ .idle) && !s.subUnavailable (i - 64) else false
  s.act
    [rangeIf (decide (72 ≤ i ∧ i < 76) || badDiv || decide (bits w 27 24 = 0) || !s.delayOk i div o.coarse o.fine),
     (o.en && decide (div ≠ o.div), .blockRunning),
     (!en && inUse, .blockRunning)]
    (let s := if o.en && !en && decide (i < 64) then s.haltClock i else s
     let s := s.modOutput i fun o => { o with en := en, ceil := bits w 27 24, div := div, ceilGated := o.ceilGated && en }
     if en && !o.en then
       let s := (s.modOutput i fun o => { o with ceilGated := false }).settleFine i
       if i < 64 ∧ s.synRuns .M = true then s.startClock i (s.boundaryFrom i s.now) else s
     else if !en then s.settleFine i else s)

/-- An output's fine delay changes at once: it is gated or disabled (R157). -/
def State.fineAtOnce (s : State) (i : Nat) : Bool :=
  !(s.output i).en || (s.output i).ceilGated || !s.synRuns (synOf i)

/-- A timing run of core `i` is in progress. -/
def State.timingRun (s : State) (i : Nat) : Bool :=
  match s.plumb.run with
  | some r => decide (r.core = i ∧ r.kind = .time)
  | none => false

/-- The Plumb run of core `i` is given up with ABORTED, and a channel handed over for it is handed back (R268). -/
def State.abortRun (s : State) (i : Nat) : State :=
  let s := s.discardRun i
  s.when (decide (i < 64)) fun s => s.handBack i

/-- A write of OUT_DELAY or CLKOUT_DELAY for output `i` (R156, R157, R268). -/
def State.writeOutDelay (s : State) (i w : Nat) : Act :=
  let o := s.output i
  let coarse := signed 6 (bits w 31 26)
  let fine := signed 17 (bits w 16 0)
  s.act
    [rangeIf (decide (72 ≤ i ∧ i < 76) || !s.delayOk i o.div coarse fine),
     (o.en && decide (coarse ≠ o.coarse), .blockRunning)]
    (let s := s.modOutput i fun o => { o with coarse := coarse, fine := fine }
     let s := s.when (s.fineAtOnce i) fun s => s.settleFine i
     if i < 72 ∧ s.timingRun i = true then s.abortRun i else s)

/-- One step of a fine delay towards its target (R157). -/
def opFineDelayStep (s : State) (i : Nat) : State :=
  if s.fineAtOnce i then s
  else
    let d := s.fineTarget i - (s.output i).pos
    s.modOutput i fun o => { o with pos := o.pos + max (-64) (min 64 d) }

/-! ## SYN-A's ramp (R169 to R171) -/

/-- Piece `p` of the ramp profile. -/
def SynRamp.at_ (r : SynRamp) (p : Nat) : SynPiece := sget (fun _ => {}) r.profile p

/-- The pieces of the profile up to its end. -/
def SynRamp.live (r : SynRamp) : List SynPiece :=
  ((List.range 32).map r.at_).takeWhile fun p => decide (p.count ≠ 0)

/-- The divisions at which a run of pieces begins and ends, from `x` on. -/
def turnsFrom (x : Int) : List SynPiece → List Int
  | [] => [x]
  | p :: r => x :: turnsFrom (x + p.step.toInt * p.count) r

/-- The highest and lowest of some divisions. -/
def topOf (xs : List Int) : Int := xs.foldl max (xs.headD 0)
def lowOf (xs : List Int) : Int := xs.foldl min (xs.headD 0)

/-- RAMP_CMD START (R170, R171). -/
def State.rampCmdStart (s : State) : Act :=
  let v := s.synA
  let r := s.ramp
  let xs := turnsFrom ((v.words : Int) + r.shift) r.live
  let (a, b) := s.fRef v
  -- |STEP| * f_PFD^2 / (2^32 * DWELL) at most 10^13 Hz per second
  let steep (p : SynPiece) : Bool :=
    decide (10000000000000 * (2 ^ 32 * p.dwell * (b * v.refDiv) ^ 2) < p.step.toInt.natAbs * a ^ 2)
  let outside := decide (lowOf xs < 32 * 2 ^ 32 ∨ 4092 * 2 ^ 32 ≤ topOf xs)
  let total : Int := (r.live.map fun p => p.step.toInt * (p.count : Int)).foldl (· + ·) 0
  let unbalanced := r.repeats && decide (total ≠ 0)
  let inBand := match v.entry with
    | some i =>
      let e := v.band i
      let g : Int := 1000 * (b * v.refDiv * 2 ^ 32 : Nat)
      decide ((e.lo : Int) * g ≤ lowOf xs * (a : Int) ∧ topOf xs * (a : Int) ≤ (e.hi : Int) * g)
    | none => false
  s.act
    [rangeIf (outside || unbalanced || r.live.any fun p => steep p || decide (p.dwell = 0)), (!inBand, .noBand)]
    (if r.bellEn then { s with ramp := { r with waiting := true, startAt := none, top := topOf xs } }
     else { s with ramp := { r with
       running := decide (r.live ≠ []), waiting := false, startAt := none, piece := 0, made := 0, passes := 0
       from_ := s.loopFs s.now, cycles := (r.at_ 0).dwell, top := topOf xs } })

/-- RAMP_CMD STOP (R170). -/
def State.rampCmdStop (s : State) : Act :=
  s.act [] { s with ramp := { s.ramp with running := false, waiting := false, startAt := none } }

/-- A ramp that waits on its bell starts at loop time `x` (R170). -/
def State.rampGo (s : State) (x : Nat) : State :=
  { s with ramp := { s.ramp with
    running := decide (s.ramp.live ≠ []), waiting := false, startAt := none, piece := 0, made := 0, passes := 0
    from_ := x, cycles := (s.ramp.at_ 0).dwell } }

/-- A bell-started ramp starts at the first phase-detector edge at or after the bell's effective time (R170): now, or,
where the command comes more than a cycle later, at an edge whose place in that cycle is not stated (assumption log
2). -/
def opSynaRampBellStart (s : State) : State :=
  match s.ramp.startAt with
  | some e =>
    if s.ramp.waiting && s.time.running && ticksGe s.trussNow e then
      let (a, b) := s.pfdFs s.synA
      let x := s.loopFs (s.fsOfTicks e)
      let now := s.loopFs s.now
      s.rampGo (if now ≤ x + a / b then now else x + (Config.freeValue s.draws 90).toNat % (a / b + 1))
    else s
  | none => s

/-- The ramp's next step after each DWELL cycles (R170). -/
def opSynaRampStep (s : State) : State :=
  let (a, b) := s.pfdFs s.synA
  let x := s.ramp.from_ + s.ramp.cycles * a / b
  if s.ramp.running ∧ s.synA.en ∧ x ≤ s.loopFs s.now then
    let s := s.syncMash .A x
    let r := s.ramp
    let p := r.at_ r.piece
    let r := { r with shift := r.shift + p.step.toInt, made := r.made + 1 }
    let r := if r.made < p.count then r
      else if r.piece < 31 ∧ (r.at_ (r.piece + 1)).count ≠ 0 then { r with piece := r.piece + 1, made := 0 }
      else { r with passes := (r.passes + 1) % 65536, piece := if r.repeats then 0 else r.piece, made := 0, running := r.repeats }
    { s with ramp := { r with cycles := r.cycles + (r.at_ r.piece).dwell } }
  else s

/-! ## TCLK under policy STOP (R236) -/

/-- TCLK is ungated: REFIN is qualified again and the time-base loop has held lock on it for 20 us. The main loop
rejoins under REF_RETURN, and TCLK follows no slew that it makes before it has. -/
def opTclkUngate (s : State) : State :=
  match s.ref.qualAt with
  | some x =>
    if s.tiu.tb = 3 ∧ s.synRuns .M = true ∧ x + 20 * usFs ≤ s.now then
      (({ s with tiu := { s.tiu with tb := 0, onXtal := false, own := decide (s.ref.mode ≠ .refin) } } : State).steadyTclk
        ).startTime s.now
    else s
  | none => s

/-! ## Meanings -/

def execRefinLoss (t : Nat) (s : State) : Result := event s t opRefinLoss
def execRefinGateEnd (t : Nat) (ampOk : Bool) (count : Nat) (s : State) : Result := event s t fun s => opRefinGateEnd s ampOk count
def execRefinQualified (t : Nat) (s : State) : Result := event s t opRefinQualified
def execRefStepMeasured (t : Nat) (mean : Int) (s : State) : Result := event s t fun s => opRefStepMeasured s mean
def execSlewComplete (t : Nat) (s : State) : Result := event s t opSlewComplete
def execXtalGateEnd (t : Nat) (offset : Int) (s : State) : Result := event s t fun s => opXtalGateEnd s offset
def execPpsEdge (t : Nat) (disagree : Bool) (s : State) : Result := event s t fun s => opPpsEdge s disagree
def execAlignTimeout (t : Nat) (s : State) : Result := event s t opAlignTimeout
def execLockDeclared (t : Nat) (y : Syn) (l : Loop) (s : State) : Result := event s t fun s => opLockDeclared s y l
def execLossOfLock (t : Nat) (y : Syn) (l : Loop) (s : State) : Result := event s t fun s => opLossOfLock s y l
def execLockRetry (t : Nat) (y : Syn) (s : State) : Result := event s t fun s => opLockRetry s y
def execSettleComplete (t : Nat) (y : Syn) (s : State) : Result := event s t fun s => opSettleComplete s y
def execAlignmentEdge (t : Nat) (y : Syn) (s : State) : Result := event s t fun s => opAlignmentEdge s y
def execOutputRelease (t : Nat) (y : Syn) (s : State) : Result := event s t fun s => opOutputRelease s y
def execCeilingTrip (t : Nat) (out : Fin 80) (s : State) : Result := event s t fun s => opCeilingTrip s out
def execFineDelayStep (t : Nat) (out : Fin 80) (s : State) : Result := event s t fun s => opFineDelayStep s out
def execSynaRampBellStart (t : Nat) (s : State) : Result := event s t opSynaRampBellStart
def execSynaRampStep (t : Nat) (s : State) : Result := event s t opSynaRampStep
def execTclkUngate (t : Nat) (s : State) : Result := event s t opTclkUngate

end Sys2Proof.Machine
end

