-- ==== Sys2Proof/Machine/Instructions.lean ====
section
/-! DEFINITION. The Joiner's instructions (03_joiners.md, R77 to R81): one effect for each, in the order of the tables
of R77, and the wakes of waiting instructions (R58). -/

namespace Sys2Proof.Machine

/-! ## Control, loops and jumps -/

/-- NOP. -/
def effNop (s : State) (_ : Nat) (f : Fetched) : Effect :=
  need (decide (f.rd = 0 ∧ f.ra = 0 ∧ f.imm = 0)) (.done s 1)

/-- HALT: the timetable stops where it is, HALT_CAUSE 0. -/
def effHalt (s : State) (i : Nat) (f : Fetched) : Effect :=
  need (decide (f.rd = 0 ∧ f.ra = 0 ∧ f.imm = 0)) (.stay (s.modTt i fun v => { v with state := .halted, haltCause := 0 }))

/-- YIELD (R62): as every issue, it makes the timetable the last issued at its priority. -/
def effYield (s : State) (_ : Nat) (f : Fetched) : Effect :=
  need (decide (f.rd = 0 ∧ f.ra = 0 ∧ f.imm = 0)) (.done s 1)

/-- LOOP: pushes the count and the address behind it (R80). At address 32,767 that is 32,768, which the stack entry's 15 bits
cannot hold and TT_LOOPS reads (DESIGN CHOICE, assumption log 115). -/
def effLoop (s : State) (i : Nat) (f : Fetched) : Effect :=
  need (decide (f.rd = 0)) <| needSome ((s.tt i).operandC f) fun c =>
    need (decide (c ≠ 0)) <|
      if (s.tt i).loops.length ≥ 8 then .trap .loopOverflow 0
      else .done (s.modTt i fun v => { v with loops := (c, f.pc + 1) :: v.loops }) 1

/-- ENDL: counts the innermost loop down and jumps back, or pops it (R80). -/
def effEndl (s : State) (i : Nat) (f : Fetched) : Effect :=
  need (decide (f.rd = 0 ∧ f.ra = 0 ∧ f.imm = 0)) <|
    match (s.tt i).loops with
    | [] => .trap .loopUnderflow 0
    | (c, a) :: r =>
      if c - 1 ≠ 0 then .jump (s.modTt i fun v => { v with loops := (c - 1, a) :: r }) a 2
      else .done (s.modTt i fun v => { v with loops := r }) 1

/-- BRK: pops the innermost loop and jumps (R80). On an empty stack the cause is LOOP_UNDERFLOW whatever the target
(DESIGN CHOICE: R76 gives no order of the causes, log 87). -/
def effBrk (s : State) (i : Nat) (f : Fetched) : Effect :=
  need (decide (f.rd = 0 ∧ f.ra = 0)) <|
    match (s.tt i).loops with
    | [] => .trap .loopUnderflow 0
    | _ :: r => jumpTo (s.modTt i fun v => { v with loops := r }) f.imm 2

/-- JMP: to g[ra] + imm16. -/
def effJmp (s : State) (i : Nat) (f : Fetched) : Effect :=
  need (decide (f.rd = 0) && isReg f.ra) (jumpTo s ((s.tt i).g f.ra + BitVec.ofNat 32 f.imm).toNat 2)

/-- JCC. -/
def effJcc (s : State) (i : Nat) (f : Fetched) : Effect :=
  need (decide (f.ra = 0)) <| needSome ((s.tt i).cond f.rd) fun b => if b then jumpTo s f.imm 2 else .done s 1

/-- Bell number `k` where it is in the timetable's listen set, else BELL_NOT_LISTENED (R73). -/
def listened (s : State) (i k : Nat) (e : Effect) : Effect :=
  if (s.tt i).listen.getLsbD k then e else .trap .bellNotListened 0

/-- JBEL: the latch is kept. -/
def effJbel (s : State) (i : Nat) (f : Fetched) : Effect :=
  need (decide (f.rd = 0) && isReg f.ra) <|
    let k := ((s.tt i).g f.ra).toNat % 256
    listened s i k (if (s.tt i).latches.getLsbD k then jumpTo s f.imm 2 else .done s 1)

/-! ## Bells -/

/-- The bell-table entry of number `k` at timetable `i`'s Joiner. -/
def State.bellEntry (s : State) (i k : Nat) : BellEntry := sget (fun _ => {}) (s.joiner (i / 64)).bells k

/-- WBEL takes bell `k`: its latch is cleared, g[rd] := number * 256 + payload (R78). -/
def takeBell (s : State) (i rd k : Nat) : Effect :=
  .done (s.modTt i fun v =>
    { v with latches := v.latches &&& ~~~(BitVec.ofNat 256 (2 ^ k)) }.setG rd
      (BitVec.ofNat 32 (k * 256 + (s.bellEntry i k).payload.toNat))) 1

/-- The latched bell with the earliest effective time, and of equal times the lowest number (R78). -/
def State.earliestLatched (s : State) (i : Nat) : Option Nat :=
  ((List.range 256).filter fun k => (s.tt i).latches.getLsbD k).foldl (fun m k => match m with
    | none => some k
    | some j => if ticksDiff (s.bellEntry i k).time (s.bellEntry i j).time < 0 then some k else some j) none

/-- WBEL (R78). -/
def effWbel (s : State) (i : Nat) (f : Fetched) : Effect :=
  need (decide (f.ra = 0) && isReg f.rd) <|
    if bitOf f.imm 15 then
      need (decide (f.imm = 0x8000)) <| match s.earliestLatched i with
        | some k => takeBell s i f.rd k
        | none => .wait .bell 1
    else
      need (decide (bits f.imm 14 8 = 0)) <| listened s i f.imm <|
        if (s.tt i).latches.getLsbD f.imm then takeBell s i f.rd f.imm else .wait .bell 1

/-- The latches of `mask` cleared in cycle `c`, but for those set in the same cycle, which survive (R72). -/
def Timetable.clearLatches (v : Timetable) (c : Nat) (mask : BitVec 256) : Timetable :=
  let held := if v.fresh.1 = c then v.fresh.2 else 0
  { v with latches := v.latches &&& (~~~mask ||| held) }

/-- CLRB: one latch, or all of them. -/
def effClrb (s : State) (i : Nat) (f : Fetched) : Effect :=
  need (decide (f.rd = 0)) <|
    if f.imm = 0x8000 then
      need (decide (f.ra = 0)) (.done (s.modTt i fun v => v.clearLatches s.cycle (BitVec.allOnes 256)) 1)
    else
      need (decide (f.imm = 0) && isReg f.ra) <|
        let k := ((s.tt i).g f.ra).toNat % 256
        listened s i k (.done (s.modTt i fun v => v.clearLatches s.cycle (BitVec.ofNat 256 (2 ^ k))) 1)

/-- RING (R81): a number that is not owned is not raised; one that comes too soon waits (R176, R177). -/
def effRing (s : State) (i : Nat) (f : Fetched) : Effect :=
  need (decide (f.rd = 0) && isReg f.ra) <|
    let number := f.imm % 256
    let payload : Byte := BitVec.ofNat 8 (f.imm / 256) ^^^ ((s.tt i).g f.ra).setWidth 8
    if !s.owns number then .done s.refuseBell 1
    else if s.admissible number s.trussNow then .done (s.admitBell number payload s.trussNow srcRing i s.trussNow) 1
    else .wait .bellOut 1

/-- POST (R75). One that waits while EVR_POLICY is rewritten to DROP drops its record when it is tried again (DESIGN
CHOICE: R75 does not say what a rewrite does to a wait, log 88). -/
def effPost (s : State) (i : Nat) (f : Fetched) : Effect :=
  need (isReg f.rd && isReg f.ra) <|
    if s.evr.enable && s.evrFull && s.evr.waitPolicy then .wait .evr 1
    else .done (s.postRecord 0 i f.imm ((s.tt i).g f.rd).toNat ((s.tt i).g f.ra).toNat) 1

/-- TRAP: cause USER with its code (R82). -/
def effTrap (_ : State) (_ : Nat) (f : Fetched) : Effect :=
  need (decide (f.rd = 0 ∧ f.ra = 0)) (.trap .user f.imm)

/-- An opcode that the tables do not hold (R77). -/
def effRsvd (_ : State) (_ : Nat) (_ : Fetched) : Effect := .trap .rsvdOpcode 0

/-! ## Plays, gaps, gates -/

/-- SLEEP: a GAP of C granules; none for C = 0 (R93). -/
def effSleep (s : State) (i : Nat) (f : Fetched) : Effect :=
  need (decide (f.rd = 0)) <| needSome ((s.tt i).operandC f) fun c =>
    gangOp s i 2 (if c = 0 then none else some fun _ => .ok { kind := .gap, reps := c })

/-- A PLAY of segment `seg`, `reps` times; none for 0 times. -/
def playOp (s : State) (i seg : Nat) (reps : Word) : Effect :=
  gangOp s i 2 (if reps = 0 then none else some fun s => s.segDescriptor seg { kind := .play, reps := reps })

/-- PLAY. -/
def effPlay (s : State) (i : Nat) (f : Fetched) : Effect :=
  need (decide (f.rd = 0 ∧ f.ra = 0)) (playOp s i f.imm 1)

/-- PLAYN: REPEAT := g[ra]. -/
def effPlayn (s : State) (i : Nat) (f : Fetched) : Effect :=
  need (decide (f.rd = 0) && isReg f.ra) (playOp s i f.imm ((s.tt i).g f.ra))

/-- PLAYG: the segment named in g[ra]. A register value that does not fit is BAD_OPERAND before an empty gang is NO_CHANNEL,
as in STRM and SETF (DESIGN CHOICE: R76 gives no order of the causes, log 87). -/
def effPlayg (s : State) (i : Nat) (f : Fetched) : Effect :=
  need (decide (f.rd = 0 ∧ f.imm = 0) && isReg f.ra) <|
    let v := ((s.tt i).g f.ra).toNat
    need (decide (v < 65536)) (playOp s i v 1)

/-- STRM: a STREAM of ring g[ra]; the ring's pages are pinned at check time (R52). -/
def effStrm (s : State) (i : Nat) (f : Fetched) : Effect :=
  need (decide (f.rd = 0 ∧ f.imm = 0) && isReg f.ra) <|
    let v := ((s.tt i).g f.ra).toNat
    need (decide (v < 256)) <| gangOp s i 2 <| some fun s =>
      if (s.mem.ring v).valid then
        .ok { kind := .stream, base := BitVec.ofNat 27 v, format := (s.mem.ring v).format, serial := s.serial }
      else .error .ringInvalid

/-- A TIMEGATE at truss time `t`. -/
def gateDescriptor (t : Ticks) : Descriptor :=
  { kind := .timegate, arg0 := t.setWidth 32, arg1 := (t >>> 32).setWidth 32 }

/-- WTIME (R79). A bell that is not listened to is found before an empty gang (DESIGN CHOICE: R76 gives no order of the
causes, log 87). -/
def effWtime (s : State) (i : Nat) (f : Fetched) : Effect :=
  let v := s.tt i
  if f.imm = 0 then
    need (decide (f.rd = 0 ∧ f.ra ≤ 14)) <| gangOp s i 2 <| some fun _ =>
      .ok (gateDescriptor (BitVec.ofNat 64 ((v.g (f.ra + 1)).toNat * 2 ^ 32 + (v.g f.ra).toNat)))
  else
    need (decide (f.imm = 1) && isReg f.rd && isReg f.ra) <|
      let k := (v.g f.rd).toNat % 256
      listened s i k <| gangOp s i 2 <| some fun s =>
        if (s.tt i).arrivals.getLsbD k then
          .ok (gateDescriptor ((s.bellEntry i k).time + (v.g f.ra).setWidth 64))
        else .error .noBellTime

/-! ## Channel CONTROL -/

/-- A CONTROL descriptor of opcode `opc` with its operands. -/
def controlOp (s : State) (i opc : Nat) (arg0 arg1 : Word) : Effect :=
  gangOp s i 2 (some fun _ => .ok { kind := .control, opc := BitVec.ofNat 6 opc, arg0 := arg0, arg1 := arg1 })

/-- SETF: the frequency word of g[ra] and g[ra + 1]. -/
def effSetf (s : State) (i : Nat) (f : Fetched) : Effect :=
  need (decide (f.rd = 0 ∧ f.imm = 0 ∧ f.ra ≤ 14)) <|
    let hi := (s.tt i).g (f.ra + 1)
    need (decide (hi.toNat < 65536)) (controlOp s i 0x20 ((s.tt i).g f.ra) hi)

/-- A CONTROL with a V value. -/
def valueOp (s : State) (i opc : Nat) (f : Fetched) : Effect :=
  need (decide (f.rd = 0)) <| needSome ((s.tt i).operandV f) fun v => controlOp s i opc (v.setWidth 32) 0

/-- SETP. -/
def effSetp (s : State) (i : Nat) (f : Fetched) : Effect := valueOp s i 0x21 f
/-- GAIN. -/
def effGain (s : State) (i : Nat) (f : Fetched) : Effect := valueOp s i 0x25 f
/-- OFFS. -/
def effOffs (s : State) (i : Nat) (f : Fetched) : Effect := valueOp s i 0x26 f

/-- A CONTROL whose operand is imm16, in a range. -/
def immOp (s : State) (i opc : Nat) (f : Fetched) (ok : Nat → Bool) : Effect :=
  need (decide (f.rd = 0 ∧ f.ra = 0) && ok f.imm) (controlOp s i opc (BitVec.ofNat 32 f.imm) 0)

/-- RAMP: 1 starts, 2 stops. -/
def effRamp (s : State) (i : Nat) (f : Fetched) : Effect := immOp s i 0x22 f fun v => decide (v = 1 ∨ v = 2)
/-- PRST. -/
def effPrst (s : State) (i : Nat) (f : Fetched) : Effect := immOp s i 0x23 f fun v => decide (v = 0)
/-- MODE. -/
def effMode (s : State) (i : Nat) (f : Fetched) : Effect := immOp s i 0x24 f fun v => decide (v ≤ 3)
/-- SPAN. -/
def effSpan (s : State) (i : Nat) (f : Fetched) : Effect := immOp s i 0x27 f fun v => decide (v ≤ 7)
/-- TRGO. -/
def effTrgo (s : State) (i : Nat) (f : Fetched) : Effect := immOp s i 0x29 f fun v => decide (v ≤ 1)

/-- MARK: mask and levels of g[ra]. -/
def effMark (s : State) (i : Nat) (f : Fetched) : Effect :=
  need (decide (f.rd = 0 ∧ f.imm = 0) && isReg f.ra) (controlOp s i 0x28 ((s.tt i).g f.ra) 0)

/-- ESC: arms an escape to segment imm16 on bell ext[7:0], or disarms; its pins are taken here (R47, R97). -/
def effEsc (s : State) (i : Nat) (f : Fetched) : Effect :=
  let e := f.ext.toNat
  need (decide (f.rd = 0 ∧ f.ra = 0 ∧ e < 512)) <|
    if bitOf e 8 then
      need (decide (f.imm = 0 ∧ e = 256)) <|
        gangOp s i 3 (some fun _ => .ok { kind := .control, opc := 0x2A, arg0 := f.ext })
    else
      gangOp s i 3 (some fun s => s.segDescriptor f.imm { kind := .control, opc := 0x2A, arg0 := f.ext })

/-- A gang value as GANG and TT_GANG code it (R65): base and mask, or the trap; BAD_OPERAND before NOT_LEADER (DESIGN
CHOICE: R76 gives no order of the causes, log 87). -/
def gangValue (s : State) (i : Nat) (v : Word) : Except TrapCause (Nat × BitVec 16) :=
  let base := bits v.toNat 5 0
  let mask : BitVec 16 := BitVec.ofNat 16 (v.toNat / 65536)
  if bits v.toNat 15 6 ≠ 0 ∨ (gangOf base mask).any (fun n => decide (63 < n)) = true then .error .badOperand
  else if (gangOf base mask).any fun n => decide ((s.chan n).leader ≠ i) then .error .notLeader
  else .ok (base, mask)

/-- GANG (R65). -/
def effGang (s : State) (i : Nat) (f : Fetched) : Effect :=
  need (decide (f.rd = 0 ∧ f.imm = 0) && isReg f.ra) <|
    match gangValue s i ((s.tt i).g f.ra) with
    | .ok (base, mask) => .done (s.modTt i fun v => { v with gangBase := base, gangMask := mask }) 1
    | .error c => .trap c 0

/-! ## Registers -/

/-- LI: short form sign-extends imm16; the long form takes the extension word. -/
def effLi (s : State) (i : Nat) (f : Fetched) : Effect :=
  need (isReg f.rd) <|
    if f.ra = 0 then .done (s.modTt i fun v => v.setG f.rd (BitVec.ofInt 32 (signed 16 f.imm))) 1
    else need (decide (f.ra = 1 ∧ f.imm = 0)) (.done (s.modTt i fun v => v.setG f.rd f.ext) 2)

/-- g[rd] := `op` of g[ra] and B, with Z and N (R76). -/
def aluOp (s : State) (i : Nat) (f : Fetched) (op : Word → Word → Word) : Effect :=
  need (isReg f.rd && isReg f.ra) <| needSome ((s.tt i).operandB f) fun b =>
    let x := op ((s.tt i).g f.ra) b
    .done (s.modTt i fun v => (v.setG f.rd x).flagsOf x) 1

/-- ADD. -/
def effAdd (s : State) (i : Nat) (f : Fetched) : Effect := aluOp s i f fun a b => a + b
/-- SUB. -/
def effSub (s : State) (i : Nat) (f : Fetched) : Effect := aluOp s i f fun a b => a - b
/-- AND. -/
def effAnd (s : State) (i : Nat) (f : Fetched) : Effect := aluOp s i f fun a b => a &&& b
/-- OR. -/
def effOr (s : State) (i : Nat) (f : Fetched) : Effect := aluOp s i f fun a b => a ||| b
/-- XOR. -/
def effXor (s : State) (i : Nat) (f : Fetched) : Effect := aluOp s i f fun a b => a ^^^ b

/-- SHF. -/
def effShf (s : State) (i : Nat) (f : Fetched) : Effect :=
  need (isReg f.rd && isReg f.ra) <| needSome ((s.tt i).operandShift f) fun n =>
    let x := shift (bits f.imm 6 5) n ((s.tt i).g f.ra)
    .done (s.modTt i fun v => (v.setG f.rd x).flagsOf x) 1

/-- CMP: flags only. -/
def effCmp (s : State) (i : Nat) (f : Fetched) : Effect :=
  need (decide (f.rd = 0) && isReg f.ra) <| needSome ((s.tt i).operandB f) fun b =>
    .done (s.modTt i fun v => v.flagsCmp (v.g f.ra) b) 1

/-! ## Memory and write port (R56, R74) -/

/-- Words of each space. -/
def spaceWords (space : Nat) : Nat :=
  match space with
  | 0 => 64
  | 1 => 4096
  | _ => 7

/-- The space and word address of an LD or ST, or its trap (R56). -/
def memAddr (s : State) (i : Nat) (f : Fetched) : Except TrapCause (Nat × Nat) :=
  let space := bits f.imm 15 14
  let a := ((s.tt i).g f.ra).toNat + bits f.imm 13 0
  if !(isReg f.rd && isReg f.ra) || decide (space = 2) then .error .badOperand
  else if spaceWords space ≤ a then .error .memRange
  else .ok (space, a)

/-- A write-port register as LD reads it; WP_SYNC waits apart. -/
def State.wpReg (s : State) (i a : Nat) : Word :=
  let v := s.tt i
  match a with
  | 0 => v.wpSrc
  | 1 => v.wpDstLo
  | 2 => v.wpDstHi
  | 3 => v.wpLen
  | 5 => BitVec.ofNat 32 (v.wpDone.toNat * 65536 + (s.joiner (i / 64)).jobsOf i)
  | _ => 0

/-- LD. -/
def effLd (s : State) (i : Nat) (f : Fetched) : Effect :=
  match memAddr s i f with
  | .error c => .trap c 0
  | .ok (space, a) =>
    if space = 3 ∧ a = 6 ∧ (s.joiner (i / 64)).jobsOf i ≠ 0 then .wait .wpSync 2
    else
      let x := match space with
        | 0 => sget (fun _ => 0) (s.tt i).scratch a
        | 1 => sget (fun _ => 0) (s.joiner (i / 64)).shared a
        | _ => s.wpReg i a
      .done (s.modTt i fun v => v.setG f.rd x) 2

/-- A store to WP_GO: the staging registers are checked, and a job starts or the store waits (R74). -/
def wpGo (s : State) (i : Nat) : Effect :=
  let v := s.tt i
  let src := v.wpSrc.toNat
  let n := v.wpLen.toNat
  let dst := v.wpDstHi.toNat * 2 ^ 32 + v.wpDstLo.toNat
  if src % 4 ≠ 0 ∨ n < 1 ∨ 1024 < n ∨ 4096 < src + 4 * n ∨ dst % 16 ≠ 0 ∨ hbmBytes < dst + 16 * n then .trap .memRange 0
  else if (s.joiner (i / 64)).jobs.length ≥ 4 then .wait .wpJob 2
  else .done (s.startJob (i / 64) { tt := i, src := src, dst := dst, units := n }) 2

/-- ST. -/
def effSt (s : State) (i : Nat) (f : Fetched) : Effect :=
  let x := (s.tt i).g f.rd
  match memAddr s i f with
  | .error c => .trap c 0
  | .ok (0, a) => .done (s.modTt i fun v => { v with scratch := sset (fun _ => 0) v.scratch a x }) 2
  | .ok (1, a) => .done (s.modJoiner (i / 64) fun jn => jn.storeShared s.draws s.cycle a [x]) 2
  | .ok (_, 0) => .done (s.modTt i fun v => { v with wpSrc := x }) 2
  | .ok (_, 1) => .done (s.modTt i fun v => { v with wpDstLo := x }) 2
  | .ok (_, 2) => .done (s.modTt i fun v => { v with wpDstHi := x }) 2
  | .ok (_, 3) => .done (s.modTt i fun v => { v with wpLen := x }) 2
  | .ok (_, 4) => wpGo s i
  | .ok (_, _) => .trap .badOperand 0

/-! ## Opcodes -/

/-- The effect of an opcode (R77). -/
def effOf (opcode : Nat) : State → Nat → Fetched → Effect :=
  match opcode with
  | 0x00 => effNop
  | 0x01 => effHalt
  | 0x02 => effYield
  | 0x03 => effSleep
  | 0x08 => effPlay
  | 0x09 => effPlayn
  | 0x0A => effPlayg
  | 0x0B => effStrm
  | 0x10 => effLoop
  | 0x11 => effEndl
  | 0x12 => effBrk
  | 0x14 => effJmp
  | 0x15 => effJcc
  | 0x16 => effJbel
  | 0x18 => effWbel
  | 0x19 => effWtime
  | 0x1A => effRing
  | 0x1B => effClrb
  | 0x3E => effPost
  | 0x3F => effTrap
  | 0x20 => effSetf
  | 0x21 => effSetp
  | 0x22 => effRamp
  | 0x23 => effPrst
  | 0x24 => effMode
  | 0x25 => effGain
  | 0x26 => effOffs
  | 0x27 => effSpan
  | 0x28 => effMark
  | 0x29 => effTrgo
  | 0x2A => effEsc
  | 0x2C => effGang
  | 0x30 => effLi
  | 0x31 => effAdd
  | 0x32 => effSub
  | 0x33 => effAnd
  | 0x34 => effOr
  | 0x35 => effXor
  | 0x36 => effShf
  | 0x37 => effCmp
  | 0x38 => effLd
  | 0x39 => effSt
  | _ => effRsvd

/-- The opcode stands in no table of R77. -/
def undefinedOpcode (opcode : Nat) : Bool :=
  !([0x00, 0x01, 0x02, 0x03, 0x08, 0x09, 0x0A, 0x0B, 0x10, 0x11, 0x12, 0x14, 0x15, 0x16, 0x18, 0x19, 0x1A, 0x1B, 0x3E, 0x3F, 0x20, 0x21, 0x22, 0x23, 0x24, 0x25, 0x26, 0x27, 0x28, 0x29, 0x2A, 0x2C, 0x30, 0x31, 0x32, 0x33, 0x34, 0x35, 0x36, 0x37, 0x38, 0x39].contains opcode)

/-! ## Meanings -/

/-- NOP is issued. -/
def execNop (t : Nat) (tt : Fin 6144) (s : State) : Result := event s t fun s => s.issue tt (· == 0x00) effNop
/-- HALT is issued. -/
def execHalt (t : Nat) (tt : Fin 6144) (s : State) : Result := event s t fun s => s.issue tt (· == 0x01) effHalt
/-- YIELD is issued. -/
def execYield (t : Nat) (tt : Fin 6144) (s : State) : Result := event s t fun s => s.issue tt (· == 0x02) effYield
/-- SLEEP is issued. -/
def execSleep (t : Nat) (tt : Fin 6144) (s : State) : Result := event s t fun s => s.issue tt (· == 0x03) effSleep
/-- PLAY is issued. -/
def execPlay (t : Nat) (tt : Fin 6144) (s : State) : Result := event s t fun s => s.issue tt (· == 0x08) effPlay
/-- PLAYN is issued. -/
def execPlayn (t : Nat) (tt : Fin 6144) (s : State) : Result := event s t fun s => s.issue tt (· == 0x09) effPlayn
/-- PLAYG is issued. -/
def execPlayg (t : Nat) (tt : Fin 6144) (s : State) : Result := event s t fun s => s.issue tt (· == 0x0A) effPlayg
/-- STRM is issued. -/
def execStrm (t : Nat) (tt : Fin 6144) (s : State) : Result := event s t fun s => s.issue tt (· == 0x0B) effStrm
/-- LOOP is issued. -/
def execLoop (t : Nat) (tt : Fin 6144) (s : State) : Result := event s t fun s => s.issue tt (· == 0x10) effLoop
/-- ENDL is issued. -/
def execEndl (t : Nat) (tt : Fin 6144) (s : State) : Result := event s t fun s => s.issue tt (· == 0x11) effEndl
/-- BRK is issued. -/
def execBrk (t : Nat) (tt : Fin 6144) (s : State) : Result := event s t fun s => s.issue tt (· == 0x12) effBrk
/-- JMP is issued. -/
def execJmp (t : Nat) (tt : Fin 6144) (s : State) : Result := event s t fun s => s.issue tt (· == 0x14) effJmp
/-- JCC is issued. -/
def execJcc (t : Nat) (tt : Fin 6144) (s : State) : Result := event s t fun s => s.issue tt (· == 0x15) effJcc
/-- JBEL is issued. -/
def execJbel (t : Nat) (tt : Fin 6144) (s : State) : Result := event s t fun s => s.issue tt (· == 0x16) effJbel
/-- WBEL is issued. -/
def execWbel (t : Nat) (tt : Fin 6144) (s : State) : Result := event s t fun s => s.issue tt (· == 0x18) effWbel
/-- WTIME is issued. -/
def execWtime (t : Nat) (tt : Fin 6144) (s : State) : Result := event s t fun s => s.issue tt (· == 0x19) effWtime
/-- RING is issued. -/
def execRing (t : Nat) (tt : Fin 6144) (s : State) : Result := event s t fun s => s.issue tt (· == 0x1A) effRing
/-- CLRB is issued. -/
def execClrb (t : Nat) (tt : Fin 6144) (s : State) : Result := event s t fun s => s.issue tt (· == 0x1B) effClrb
/-- POST is issued. -/
def execPost (t : Nat) (tt : Fin 6144) (s : State) : Result := event s t fun s => s.issue tt (· == 0x3E) effPost
/-- TRAP is issued. -/
def execTrap (t : Nat) (tt : Fin 6144) (s : State) : Result := event s t fun s => s.issue tt (· == 0x3F) effTrap
/-- SETF is issued. -/
def execSetf (t : Nat) (tt : Fin 6144) (s : State) : Result := event s t fun s => s.issue tt (· == 0x20) effSetf
/-- SETP is issued. -/
def execSetp (t : Nat) (tt : Fin 6144) (s : State) : Result := event s t fun s => s.issue tt (· == 0x21) effSetp
/-- RAMP is issued. -/
def execRamp (t : Nat) (tt : Fin 6144) (s : State) : Result := event s t fun s => s.issue tt (· == 0x22) effRamp
/-- PRST is issued. -/
def execPrst (t : Nat) (tt : Fin 6144) (s : State) : Result := event s t fun s => s.issue tt (· == 0x23) effPrst
/-- MODE is issued. -/
def execMode (t : Nat) (tt : Fin 6144) (s : State) : Result := event s t fun s => s.issue tt (· == 0x24) effMode
/-- GAIN is issued. -/
def execGain (t : Nat) (tt : Fin 6144) (s : State) : Result := event s t fun s => s.issue tt (· == 0x25) effGain
/-- OFFS is issued. -/
def execOffs (t : Nat) (tt : Fin 6144) (s : State) : Result := event s t fun s => s.issue tt (· == 0x26) effOffs
/-- SPAN is issued. -/
def execSpan (t : Nat) (tt : Fin 6144) (s : State) : Result := event s t fun s => s.issue tt (· == 0x27) effSpan
/-- MARK is issued. -/
def execMark (t : Nat) (tt : Fin 6144) (s : State) : Result := event s t fun s => s.issue tt (· == 0x28) effMark
/-- TRGO is issued. -/
def execTrgo (t : Nat) (tt : Fin 6144) (s : State) : Result := event s t fun s => s.issue tt (· == 0x29) effTrgo
/-- ESC is issued. -/
def execEsc (t : Nat) (tt : Fin 6144) (s : State) : Result := event s t fun s => s.issue tt (· == 0x2A) effEsc
/-- GANG is issued. -/
def execGang (t : Nat) (tt : Fin 6144) (s : State) : Result := event s t fun s => s.issue tt (· == 0x2C) effGang
/-- LI is issued. -/
def execLi (t : Nat) (tt : Fin 6144) (s : State) : Result := event s t fun s => s.issue tt (· == 0x30) effLi
/-- ADD is issued. -/
def execAdd (t : Nat) (tt : Fin 6144) (s : State) : Result := event s t fun s => s.issue tt (· == 0x31) effAdd
/-- SUB is issued. -/
def execSub (t : Nat) (tt : Fin 6144) (s : State) : Result := event s t fun s => s.issue tt (· == 0x32) effSub
/-- AND is issued. -/
def execAnd (t : Nat) (tt : Fin 6144) (s : State) : Result := event s t fun s => s.issue tt (· == 0x33) effAnd
/-- OR is issued. -/
def execOr (t : Nat) (tt : Fin 6144) (s : State) : Result := event s t fun s => s.issue tt (· == 0x34) effOr
/-- XOR is issued. -/
def execXor (t : Nat) (tt : Fin 6144) (s : State) : Result := event s t fun s => s.issue tt (· == 0x35) effXor
/-- SHF is issued. -/
def execShf (t : Nat) (tt : Fin 6144) (s : State) : Result := event s t fun s => s.issue tt (· == 0x36) effShf
/-- CMP is issued. -/
def execCmp (t : Nat) (tt : Fin 6144) (s : State) : Result := event s t fun s => s.issue tt (· == 0x37) effCmp
/-- LD is issued. -/
def execLd (t : Nat) (tt : Fin 6144) (s : State) : Result := event s t fun s => s.issue tt (· == 0x38) effLd
/-- ST is issued. -/
def execSt (t : Nat) (tt : Fin 6144) (s : State) : Result := event s t fun s => s.issue tt (· == 0x39) effSt

/-- An instruction with an opcode outside the tables is issued (R77). -/
def execRsvdOpcode (t : Nat) (tt : Fin 6144) (s : State) : Result :=
  event s t fun s => s.issue tt undefinedOpcode effRsvd

/-- A channel instruction that waits for room is tried again (R66). -/
def execQueueRoomWake (t : Nat) (tt : Fin 6144) (s : State) : Result := event s t fun s => s.wake tt .queue effOf
/-- A store to WP_GO that waits for a job slot is tried again (R74). -/
def execWpJobSlotWake (t : Nat) (tt : Fin 6144) (s : State) : Result := event s t fun s => s.wake tt .wpJob effOf
/-- A load of WP_SYNC that waits for its timetable's jobs is tried again (R74). -/
def execWpSyncWake (t : Nat) (tt : Fin 6144) (s : State) : Result := event s t fun s => s.wake tt .wpSync effOf
/-- A POST that waits for a record slot is tried again (R75). -/
def execEvrSlotWake (t : Nat) (tt : Fin 6144) (s : State) : Result := event s t fun s => s.wake tt .evr effOf
/-- A RING that waits for the bell admission limit is tried again (R177). -/
def execBellAdmit (t : Nat) (tt : Fin 6144) (s : State) : Result := event s t fun s => s.wake tt .bellOut effOf
/-- The oldest write-port job of a Joiner completes (R22, R74). -/
def execWpJobComplete (t : Nat) (j : Fin 96) (s : State) : Result := event s t fun s => opWpJobComplete s j

/-- Timetables of every Joiner that wait at WBEL take the bell that has latched (R58, R72). -/
def State.wakeBells (s : State) : State :=
  s.forAll (s.tts.filter fun p => decide (p.2.state = .waiting ∧ p.2.wait = .bell)) fun s p => s.wake p.1 .bell effOf

end Sys2Proof.Machine
end

