-- ==== Sys2Proof/Machine/Truss.lean ====
section
/-! DEFINITION. Bells from arrival to delivery, truss settings, the epoch, breaks and resets
(07_bells_and_truss.md, R173 to R202; 12_power_reset_states.md, R323). -/

namespace Sys2Proof.Machine

/-! ## Steps of the count (R181, R234) -/

/-- Fraction units of a stamp in one tick: 2^20 / 8. -/
def tickFu : Nat := 131072

/-- The signed difference of two stamps, by which they are compared: truss time counts modulo 2^64 ticks (R180). -/
def fuDiff (a b : Int) : Int := (a - b).bmod (2 ^ 81)

def Stamp.step (d : Int) (v : Stamp) : Stamp := { v with fu := v.fu + d * tickFu }

def TiuSlot.step (d : Int) (v : TiuSlot) : TiuSlot :=
  { v with
    armAt := v.armAt.map (· + d * tickFu)
    starts := v.starts.map (Stamp.step d), stops := v.stops.map (Stamp.step d), queue := v.queue.map (Stamp.step d) }

/-- A TIMEGATE's time stepped. -/
def Descriptor.step (d : Ticks) (v : Descriptor) : Descriptor :=
  if v.kind = .timegate then
    let x := (v.gateTime + d).toNat
    { v with arg0 := BitVec.ofNat 32 x, arg1 := BitVec.ofNat 32 (x / 2 ^ 32) }
  else v

def Channel.step (d : Ticks) (c : Channel) : Channel :=
  { c with
    queue := c.queue.map (Descriptor.step d)
    act := match c.act with
      | .gate g k0 => .gate (g.step d) k0
      | a => a
    arming := c.arming.map fun e => { e with due := e.due.map (· + d) }
    bells := c.bells.map fun b => { b with effective := b.effective + d, actsFrom := b.actsFrom + d } }

def PendingBell.step (d : Ticks) (b : PendingBell) : PendingBell :=
  { b with
    word := { b.word with origin := b.word.origin + d }, effective := b.effective + d
    releaseAt := b.releaseAt + d, arrived := b.arrived + d }

/-- A history of a setting stepped. -/
def stepHistory (d : Ticks) (h : List (Ticks × Nat)) : List (Ticks × Nat) := h.map fun p => (p.1 + d, p.2)

/-- A time that reads 0 until it is first recorded, stepped once it is. -/
def stepKept (d x : Ticks) : Ticks := if x = 0 then 0 else x + d

/-- The count is stepped by `d` ticks, and with it every truss time the device holds (R181, R234). -/
def State.stepTime (s : State) (d : Int) : State :=
  let x : Ticks := BitVec.ofInt 64 d
  let s := s.allChans fun _ c => c.step x
  { s with
    time := { s.time with count := s.time.count + x }
    synM := { s.synM with anchor := s.synM.anchor + x }
    joiners := smap (fun _ => {}) (fun _ (j : Joiner) => { j with
      bells := j.bells.map fun p => (p.1, { p.2 with time := p.2.time + x }) }) 96 s.joiners
    tiu := { s.tiu with
      slots := smap (fun _ => {}) (fun _ v => v.step d) 17 s.tiu.slots
      ring := s.tiu.ring.map fun p => (p.1, p.2.map (Stamp.step d)) }
    ramp := { s.ramp with startAt := s.ramp.startAt.map (· + x) }
    recess := { s.recess with dues := s.recess.dues.map fun p => (p.1, p.2.1 + x, p.2.2) }
    cores := s.cores.map fun p => (p.1, { p.2 with last := stepKept x p.2.last })
    card := { s.card with saving := s.card.saving.map (· + x), lastSave := stepKept x s.card.lastSave }
    truss := { s.truss with
      horizons := stepHistory x s.truss.horizons
      tmaxes := stepHistory x s.truss.tmaxes
      mixes := stepHistory x s.truss.mixes
      owners := s.truss.owners.map fun p => (p.1, stepHistory x p.2)
      breakTime := stepKept x s.truss.breakTime
      lastOrigin := s.truss.lastOrigin.map fun p => (p.1, p.2.map (· + x))
      bells := s.truss.bells.map (PendingBell.step x)
      inbound := s.truss.inbound.map fun w => { w with origin := w.origin + x }
      settings := s.truss.settings.map fun c => { c with at_ := c.at_ + x }
      resets := s.truss.resets.map (· + x)
      rejoinStep := d } }

/-! ## Delivery of a released bell (R70, R186, R237, R170, R354) -/

/-- A bell released to the TIU fixes the arming time of the slots that wait on it (R237). -/
def TiuSlot.bell (v : TiuSlot) (number : Nat) (e now : Ticks) (late : Bool) : TiuSlot :=
  if v.state = .armed ∧ v.armAt = none ∧ bits v.meas.toNat 23 22 = 2 ∧ bits v.meas.toNat 7 0 = number then
    let v := { v with armAt := some (((if late then now else e).toNat : Int) * tickFu) }
    if late then v.set mfLateArm else v
  else v

/-- The recess logic waits for the bell: it is the one RECESS_CFG names. -/
def Recess.hears (r : Recess) (number : Nat) : Bool := r.bellEn && decide (r.bell = number)

/-- A bell released to the recess logic (R354): RECESS_CFG is judged when its effective time comes, or as it arrives when
late. -/
def State.recessHears (s : State) (number : Nat) (e : Ticks) (late : Bool) : State :=
  let now := s.trussNow
  let kept := s.recess.dues.filter fun p => s.recess.hears p.1 || !(p.2.2 || ticksGe now p.2.1)
  if late && !s.recess.hears number then { s with recess := { s.recess with dues := kept } }
  else { s with recess := { s.recess with dues := kept ++ [(number, if late then now else e, late)] } }

/-- A bell released to the device's TIU, SYN-A and recess logic (R186). One that comes after its effective time starts a
ramp at once, counted in RAMP_LATE (R170). -/
def State.deliver (s : State) (b : BellWord) (e : Ticks) (late : Bool) : State :=
  if b.kind = 1 then s
  else
    let number := b.number.toNat
    let now := s.trussNow
    let s := { s with tiu := { s.tiu with
      slots := smap (fun _ => {}) (fun _ v => v.bell number e now late) 16 s.tiu.slots } }
    let s : State :=
      if s.ramp.waiting ∧ s.ramp.bellEn ∧ s.ramp.bell = number ∧ s.ramp.startAt = none then
        if 0 < ticksDiff now e then
          (fun s : State => { s with ramp := { s.ramp with late := s.ramp.late + 1 } }) (s.rampGo (s.loopFs s.now))
        else { s with ramp := { s.ramp with startAt := some e } }
      else s
    s.recessHears number e late

/-- The channel's escape, armed or being armed, watches the number (R187). -/
def Channel.watches (c : Channel) (number : Nat) : Bool :=
  let is (e : Option Escape) : Bool := match e with
    | some e => decide (e.bell = number)
    | none => false
  is c.armed || is c.arming

/-- A bell is passed to the channels whose escape watches it; it acts from a truss time on (R187, R190). An OFF or FAULT
channel ignores it (R88, R136). -/
def State.passTo (s : State) (b : BellWord) (e from_ : Ticks) : State :=
  if b.kind = 1 then s
  else s.allChans fun _ c =>
    if c.state.consumes && c.watches b.number.toNat then
      { c with bells := c.bells ++ [{ number := b.number.toNat, payload := b.payload, effective := e, actsFrom := from_ }] }
    else c

/-- The bell unit is done with a bell that is released, passed and heard, once its effective time has come. -/
def State.sweepBells (s : State) : State :=
  let now := s.trussNow
  { s with truss := { s.truss with
    bells := s.truss.bells.filter fun b => !(b.released && b.passed && b.heard && ticksGe now b.effective) } }

/-- Every held bell changed. -/
def State.mapBells (s : State) (f : PendingBell → PendingBell) : State :=
  { s with truss := { s.truss with bells := s.truss.bells.map f } }

/-- Order of release: effective time, then number (R186). -/
def bellBefore (a b : PendingBell) : Bool :=
  let d := ticksDiff a.effective b.effective
  decide (d < 0) || (decide (d = 0) && decide (a.word.number.toNat ≤ b.word.number.toNat))

/-- A list of bells in order of release. -/
def insertBell (b : PendingBell) : List PendingBell → List PendingBell
  | [] => [b]
  | c :: r => if bellBefore c b then c :: insertBell b r else b :: c :: r

/-- Some held bells in order of release. -/
def State.bellsInOrder (s : State) (p : PendingBell → Bool) : List PendingBell :=
  (s.truss.bells.filter p).foldl (fun l b => insertBell b l) []

/-- The first of the released bells that the Joiners do not have reaches them, at most one in an ECLK cycle (R70). -/
def State.hearBell (s : State) : State :=
  if s.cycle < s.truss.heardCycle then s
  else match s.bellsInOrder fun b => b.released && !b.heard with
    | [] => s
    | b :: _ =>
      let s := s.mapBells fun x => if x = b then { x with heard := true } else x
      let s : State := { s with truss := { s.truss with heardCycle := s.cycle + 1 } }
      (s.joinerBell b.word.number.toNat b.word.payload b.effective).wakeBells

/-- BELL_RELEASE (R186): every bell whose release time has come, in order, and to the Joiners one in a cycle; the bell
path stands with ECLK (R14). A TRUSS_RESET bell is no unit's. -/
def opBellRelease (s : State) : State :=
  if s.eclk.stopped then s
  else
    let now := s.trussNow
    let due (b : PendingBell) : Bool := !b.released && ticksGe now b.releaseAt
    let bs := s.bellsInOrder due
    let s := s.mapBells fun b => if due b then { b with released := true, heard := decide (b.word.kind = 1) } else b
    (s.forAll bs fun s b => s.deliver b.word b.effective b.late).hearBell.sweepBells

/-- BELL_PASS (R187): every bell whose moment of passing has come, 160 ns before its effective time; a late one acts
from its arrival on (R190). The delivery queues read full until the clocks return after a loss of lock (R21). -/
def opBellPass (s : State) : State :=
  if s.eclk.stopped || s.synM.lost then s
  else
    let now := s.trussNow
    let due (b : PendingBell) : Bool := !b.passed && ticksGe now (b.effective - nsTicks 160)
    let bs := s.truss.bells.filter due
    let s := s.mapBells fun b => if due b then { b with passed := true } else b
    (s.forAll bs fun s b => s.passTo b.word b.effective (if b.late then b.arrived else b.effective)).sweepBells

/-- A bell that came to the unit slow or late is released, and a late one passed, at once (R186, R189, R190). -/
def State.serveLate (s : State) : State :=
  if s.truss.bells.any fun b => (b.late && !(b.released && b.passed)) || (b.isSlow && !b.released) then
    opBellPass (opBellRelease s)
  else s

/-! ## Breaks (R198 to R200) -/

/-- BREAK_POLICY_APPLY (R199): at the channel's first boundary after the entry. -/
def opBreakPolicyApply (s : State) (n : Nat) : State :=
  s.breakFirst n (s.boundaryNow n)

/-- What RESUME does to channel `n` at truss time `x` (R200): a channel that has left the state its break policy gave it
stays as it is. -/
def State.resumeChannel (s : State) (x : Ticks) (n : Nat) : State :=
  let s' := s.modChan n fun c => { c with broke := .none }
  match (s.chan n).broke with
  | .held =>
    let k := if s.clockRuns n then max (s.boundaryOfTicks n x) (s.chan n).accK else (s.chan n).stopK
    s'.when (decide ((s.chan n).state = .held)) fun s => s.returnChannel n k
  | .highz => if (s.chan n).state = .off ∧ (s.chan n).enable = true then
      s'.modChan n fun c => { c with enabling := some (max (s.fsOfTicks x) c.runsFrom) } else s'
  | _ => s'

/-- RESUME at its switch time (R200). -/
def State.resumeTruss (s : State) (x : Ticks) : State :=
  if s.truss.broken then
    ({ s with truss := { s.truss with broken := false } }).forAll (List.range 64) fun s n => s.resumeChannel x n
  else s

/-! ## Resets of playback (R201, R323, R324) -/

/-- A timetable's run state cleared (R323, R324): registers, scratch, gang and the host's entries stay. -/
def Timetable.clearRun (v : Timetable) : Timetable :=
  { v with
    pc := 0, loops := [], z := false, n := false, latches := 0, arrivals := 0, state := .idle, wait := .none
    held := none, readyAt := 0, haltCause := 0, wpSrc := 0, wpDstLo := 0, wpDstHi := 0, wpLen := 0, wpDone := 0
    fault := {} }

/-- A TIU slot IDLE, its results gone (R323, R324). -/
def TiuSlot.clear (v : TiuSlot) : TiuSlot :=
  { v with
    state := .idle, before := .idle, armAt := none, made := 0, count := 0, s1 := 0, s2 := 0, xmin := 0, xmax := 0
    last := 0, starts := [], stops := [], gateN := 0, queue := [] }

/-- A TRUSS reset with effective time `e` (R201, R323, R324). -/
def State.trussReset (s : State) (e : Ticks) : State :=
  let s := s.allTts fun _ v => v.clearRun
  let s := { s with
    joiners := smap (fun _ => {}) (fun _ (j : Joiner) => { j with bells := [], last := Vector.replicate 8 63 }) 96 s.joiners
    tiu := { s.tiu with
      slots := smap (fun _ => {}) (fun _ (v : TiuSlot) => v.clear) 16 s.tiu.slots
      ring := [], head := 0, tail := 0 }
    sys := { s.sys with cause := 5 }
    truss := { s.truss with epochSet := false, timeApprox := false } }
  s.forAll (List.range 64) fun s n => s.resetAtBoundary n (s.boundaryOfTicks n e) true

/-- Some channel has still to pass its reset boundary: TT_CMD START is refused (R323). -/
def State.resetting (s : State) : Bool :=
  s.chans.any fun p => match p.2.resetK with
    | some (_, truss) => truss
    | none => false

/-- The TRUSS resets whose effective time is not past `e` are carried out (R201, R323). -/
def State.resetsBy (s : State) (e : Ticks) : State :=
  let due := s.truss.resets.filter fun x => ticksGe e x
  let s := { s with truss := { s.truss with resets := s.truss.resets.filter fun x => !ticksGe e x } }
  s.forAll due fun s x => s.trussReset x

/-! ## Settings (R179, R182, R185) -/

/-- H_MIN of a T_MAX (R185). -/
def hMinOf (tmax : Nat) (mixed : Bool) : Nat := if mixed then 1200 else max 160 (tmax + 50)

/-- A setting takes effect at truss time `x` (R179, R182, R185, R196, R200). -/
def State.applySetting (s : State) (c : SettingChange) : State :=
  let x := c.at_
  let v := c.value.toNat
  match c.setting.toNat with
  | 1 => { s with truss := { s.truss with horizons := (x, v) :: s.truss.horizons } }
  | 2 =>
    let b := c.item.toNat
    { s with truss := { s.truss with
      owners := sset (fun _ => []) s.truss.owners b ((x, v % 64) :: sget (fun _ => []) s.truss.owners b) } }
  | 3 =>
    let s := s.stepTime (ticksDiff (BitVec.ofNat 64 v) x)
    { s with truss := { s.truss with epochSet := true, timeApprox := false } }
  | 4 => s.resumeTruss x
  | 5 =>
    { s with truss := { s.truss with mixes := (x, v % 2) :: s.truss.mixes, hMin := hMinOf (s.tmaxAt x) (decide (v = 1)) } }
  | 6 => { s with truss := { s.truss with tmaxes := (x, v) :: s.truss.tmaxes, hMin := hMinOf v (s.mixedAt x) } }
  | _ => s

/-- A change waits for its switch time, behind those that switch no later. -/
def insertSetting (c : SettingChange) : List SettingChange → List SettingChange
  | [] => [c]
  | d :: r => if ticksGe c.at_ d.at_ then d :: insertSetting c r else c :: d :: r

/-- S: the first whole microsecond of truss time at least 20 us on (R179). -/
def switchTime (now : Ticks) : Ticks := BitVec.ofNat 64 ((now.toNat + 320000 + 15999) / 16000 * 16000)

/-- The device is alone: it has joined no truss, and none of its DOWN links is up. -/
def State.alone (s : State) : Bool := s.ownKing && decide (s.members = 1)

/-- A change that the king post accepts (R179): at once on a device that is its own king post with no members, else at
S on every device. -/
def State.changeAt (s : State) (setting item : Nat) (x : Ticks) (v : Nat) : State :=
  let c : SettingChange :=
    { setting := BitVec.ofNat 8 setting, item := BitVec.ofNat 8 item, at_ := x, value := BitVec.ofNat 64 v }
  let s := { s with truss := { s.truss with settings := insertSetting c s.truss.settings } }
  s.sendLinks (s.upLinks none) (.settings c)

/-- The same with the switch time of R179. -/
def State.change (s : State) (setting item v : Nat) : State :=
  let now := s.trussNow
  if s.alone then
    s.applySetting { setting := BitVec.ofNat 8 setting, item := BitVec.ofNat 8 item, at_ := now, value := BitVec.ofNat 64 v }
  else s.changeAt setting item (switchTime now) v

/-- SETTING_SWITCH (R179): the settings whose switch time has come, in order; each step of the count is made before the
next is judged, and a TRUSS reset before a RESUME of the same time (R202). -/
def State.switchDue : Nat → State → State
  | 0, s => s
  | fuel + 1, s => match s.truss.settings with
    | [] => s
    | c :: _ =>
      if ticksGe s.trussNow c.at_ then
        let s := if c.setting.toNat = setResume then s.resetsBy c.at_ else s
        let s : State := { s with truss := { s.truss with settings := s.truss.settings.drop 1 } }
        State.switchDue fuel (s.applySetting c)
      else s

def opSettingSwitch (s : State) : State := s.switchDue s.truss.settings.length

/-- SETTINGS_BLOCK_RX (R179, R192): from the parent, and on to the children. One that comes after its switch time is
applied on arrival, and is in force from then on. -/
def opSettingsBlockRx (s : State) (l : Nat) (c : SettingChange) : State :=
  let v := s.lane l
  if s.upLane l && decide (v.link = .up ∨ v.link = .join) then
    let s := s.sendLinks (s.upLinks (some l)) (.settings c)
    let now := s.trussNow
    if ticksGe now c.at_ then s.applySetting { c with at_ := if c.setting.toNat = setEpoch then c.at_ else now }
    else { s with truss := { s.truss with settings := insertSetting c s.truss.settings } }
  else s

/-- A king-post entry at a member (R179, R203). -/
def State.kingOnly (s : State) : Bool × Abort := (!s.ownKing, .wrongState)

/-- HORIZON (R185). -/
def State.writeHorizon (s : State) (v : Nat) : Act :=
  s.act [s.kingOnly, rangeIf (decide (v < s.truss.hMin ∨ 16384 < v))] (s.change setHorizon 0 v)

/-- BELL_OWNER (R176, R179): one change for each number whose owner, once the changes on their way have switched, is
another. -/
def State.writeOwners (s : State) (data : Bytes) : Act :=
  s.act [s.kingOnly, (decide (data.length ≠ 256), .length), rangeIf (data.any fun b => decide (63 < b.toNat))]
    (s.forAll data.zipIdx fun s p =>
      if lastOf 0 (s.histories setOwner p.2 (sget (fun _ => []) s.truss.owners p.2)) = p.1.toNat then s
      else s.change setOwner p.2 p.1.toNat)

/-- EPOCH_VALUE (R182). -/
def State.writeEpochValue (s : State) (v : Nat) : Act :=
  s.act [s.kingOnly, rangeIf (decide (v % 8 ≠ 0))] { s with truss := { s.truss with epochValue := BitVec.ofNat 64 v } }

/-- An epoch is set or is on its way (R182): a second EPOCH_CMD is refused while the first waits for its S, though
EPOCH_SET reads 0 still (DESIGN CHOICE, assumption log 94). -/
def State.epochTaken (s : State) : Bool :=
  s.truss.epochSet || s.truss.settings.any fun c => decide (c.setting = 3)

/-- EPOCH_CMD NOW (R182). -/
def State.epochNow (s : State) : Act :=
  s.act [s.kingOnly, (s.epochTaken, .wrongState)] (s.change setEpoch 0 s.truss.epochValue.toNat)

/-- The first predicted PPS_IN edge at least 20 us after now, from the last one (R182). -/
def State.ppsPredicted (s : State) : Nat :=
  let x := s.ref.ppsAt.getD 0
  x + ceilDiv (s.now + 20 * usFs - x) secFs * secFs

/-- EPOCH_CMD PPS (R182). -/
def State.epochPps (s : State) : Act :=
  let x := s.ppsPredicted
  let s' : State := { s with truss := { s.truss with ppsDue := some x } }
  s.act [s.kingOnly, (s.epochTaken || !s.ppsPresent, .wrongState)]
    (s'.changeAt setEpoch 0 (s.trussAt x) s.truss.epochValue.toNat)

/-- Every truss link of the device is UP. -/
def State.linksUp (s : State) : Bool := allLanes.all fun l => !s.trussLane l || decide ((s.lane l).link = .up)

/-- Every link of the truss is UP, as the king post knows it (R200). How it knows of a link between two members is not
stated: while the truss is BROKEN and there is such a link, the answer is free (assumption log 2). -/
def State.trussUp (s : State) : Bool :=
  s.linksUp && (!s.truss.broken || s.truss.map.all (fun p => !p.2.present || decide (p.2.parent = 0))
    || (Config.freeValue s.draws 102).getLsbD 0)

/-- TRUSS_CMD RESUME (R200). -/
def State.cmdResume (s : State) : Act :=
  s.act [s.kingOnly, (!s.trussUp, .wrongState)] (s.change setResume 0 0)

/-! ## TRUSS resets (R201) -/

/-- A TRUSS_RESET bell reaches the device (R201): carried out on arrival where it is late, else at its E. -/
def State.takeResetBell (s : State) (e : Ticks) (late : Bool) : State :=
  if late then s.trussReset e else { s with truss := { s.truss with resets := s.truss.resets ++ [e] } }

/-- A bell comes to the bell unit now; a TRUSS_RESET bell is carried out at its E, or at once where it is late (R201). -/
def State.reachUnit (s : State) (w : BellWord) : State :=
  let now := s.trussNow
  let s := s.holdBell w now
  if w.kind = 1 ∧ s.eclk.stopped = false then s.takeResetBell (s.effective w.origin) (s.punctual w now).isLate else s

/-- TRUSS_CMD TRUSS_RESET (R201). -/
def State.cmdTrussReset (s : State) : Act :=
  let now := s.trussNow
  let w := s.bellWord 1 0 0 now srcTrussCmd 0
  s.act [s.kingOnly] ((s.forwardBell w none).reachUnit w)

/-- TRUSS_RESET (R323): the resets whose E has come. -/
def opTrussReset (s : State) : State := s.resetsBy s.trussNow

/-! ## Bells that arrive (R189, R190, R193) -/

/-- A BELL block arrives on lane `l` (R186, R189, R193): it goes on to the other links and to the bell unit. A version
1 link carries no PAYLOAD, and a bell whose origin lies in a mixed truss has none (R6, R196). -/
def opBellArrival (s : State) (l : Nat) (b : BellWord) : State :=
  if s.linkIsUp l && decide (b.kind.toNat < 2) then
    let b := if s.mixedAt b.origin || decide ((s.lane l).version = 1) then { b with payload := 0 } else b
    ((s.forwardBell b (some l)).reachUnit b).serveLate
  else s

/-- ECLK runs again: the bells that were on their way reach the bell unit (R14). -/
def State.bellsGoOn (s : State) : State :=
  (({ s with truss := { s.truss with inbound := [] } } : State).forAll s.truss.inbound State.reachUnit).serveLate

/-- BREAK_BLOCK_RX (R198). -/
def opBreakBlockRx (s : State) (l : Nat) (b : BreakBlock) : State :=
  if s.linkIsUp l then s.enterBroken (some l) b.lane.toNat 0xFF else s

/-! ## BELL_RING (R176, R177) -/

/-- A write of BELL_RING that is held for the admission test (R177). -/
def State.ringHeld (s : State) (number : Nat) : Bool := s.owns number && !s.admissible number s.trussNow

/-- A write of BELL_RING that need not be held (R174, R176). -/
def State.writeRingBell (s : State) (number : Nat) (payload : Byte) : Act :=
  { checks := [(!s.owns number, .notOwner)]
    after := s.admitBell number payload s.trussNow srcOda 0 s.trussNow
    refused := fun a => if a = .notOwner then s.refuseBell else s }

/-! ## Recovery of truss time (R181, R183) -/

/-- The count is set so that the last TCLK edge stands on a multiple of 8 ticks nearest the truss time `p` (units of
2^-16 tick) that holds now (R181). -/
def State.setTime (s : State) (p : Int) : State :=
  let exact := p - s.subTicks
  -- nearest multiple of 8 ticks = 524,288 units
  let q := roundHalfEven exact 524288
  let count : Ticks := BitVec.ofInt 64 (q * 8)
  let left := exact - q * 524288
  let s := s.stepTime (ticksDiff count s.trussNow)
  { s with truss := { s.truss with
    residue := roundHalfEven (left * tickFs) 65536, timeValid := true, recover := false } }

/-- TRUSS_TIME_RECOVERY (R183): the transfer over the recovery link gives the partner's truss time now, in units of
2^-16 tick. -/
def opTrussTimeRecovery (s : State) (p : BitVec 80) : State :=
  if s.truss.recover && s.time.running && s.timeLink.isSome then s.setTime p.toNat else s

/-- TIME_SNAPSHOT (R19): each channel's copy of truss time is the count at its granule boundaries, which the model
works out from the anchor (R188); a snapshot leaves them where they are. -/
def opTimeSnapshot (s : State) (_core : Nat) : State := s

/-! ## Meanings -/

def execBellRelease (t : Nat) (s : State) : Result := event s t opBellRelease
def execBellPass (t : Nat) (s : State) : Result := event s t opBellPass
def execBreakPolicyApply (t : Nat) (ch : Fin 64) (s : State) : Result := event s t fun s => opBreakPolicyApply s ch
def execSettingSwitch (t : Nat) (s : State) : Result := event s t opSettingSwitch
def execSettingsBlockRx (t : Nat) (lane : Fin 48) (c : SettingChange) (s : State) : Result :=
  event s t fun s => opSettingsBlockRx s lane c
def execTrussReset (t : Nat) (s : State) : Result := event s t opTrussReset
def execBellArrival (t : Nat) (lane : Fin 48) (b : BellWord) (s : State) : Result := event s t fun s => opBellArrival s lane b
def execBreakBlockRx (t : Nat) (lane : Fin 48) (b : BreakBlock) (s : State) : Result :=
  event s t fun s => opBreakBlockRx s lane b
def execTrussTimeRecovery (t : Nat) (p : BitVec 80) (s : State) : Result := event s t fun s => opTrussTimeRecovery s p
def execTimeSnapshot (t : Nat) (core : Fin 72) (s : State) : Result := event s t fun s => opTimeSnapshot s core

end Sys2Proof.Machine
end

