-- ==== Sys2Proof/Machine/Links.lean ====
section
/-! DEFINITION. Lanes: quads, link training, heartbeats, joining, credit flow, ETH ports and lane tests
(07_bells_and_truss.md, R191 to R197; 08_lanes_and_streaming.md, R204 to R224). -/

namespace Sys2Proof.Machine

/-! ## Entering and leaving UP (R194, R205, R208, R218, R224) -/

/-- A lane enters a training state. -/
def State.toLink (s : State) (l : Nat) (x : LinkState) : State :=
  s.modLane l fun v => { v with link := x, since := s.now }

/-- A lane enters UP: its counts start afresh (R192, R208, R220). Blocks still in its landing buffer go on to HBM
(R209). -/
def State.linkUp (s : State) (l : Nat) : State :=
  s.modLane l fun v => { v with
    link := .up, since := s.now, heardAt := s.now, saidAt := s.now, seq := 0, offBeats := 0
    sent := 0, outbox := [], freed := 0, stale := v.held, partnerFreed := 0, rxDue := 0, discarding := false
    bulkSeq := none, superframe := (0, 0), dataSlots := 0 }

/-- A lane leaves UP for the state `x`: what has arrived goes on to HBM, and after it a message that is not complete is
truncated (R209, R218); the loss counts, and the loss of a truss link breaks the truss (R194, R198, R205). -/
def State.leaveUp (s : State) (l : Nat) (x : LinkState) : State :=
  let v := s.lane l
  if v.link = .up then
    let link := s.trussLane l
    let s := s.modLane l fun v => { (v.set lfLinkDown) with
      link := x, since := s.now, outbox := [], rxDue := 0, discarding := false
      landing := if v.incomplete then v.landing ++ [none] else v.landing
      lost := v.lost || link, downs := if link then v.downs else v.downs + 1 }
    let s := ({ s with card := { s.card with
      laneDowns := sset (fun _ => 0) s.card.laneDowns l (satInc 32 (sget (fun _ => 0) s.card.laneDowns l)) } }).alert alLaneDown
    if link then
      ({ s with truss := { s.truss with linkLosses := s.truss.linkLosses + 1 } }).enterBroken (some l) l (BitVec.ofNat 8 l)
    else s
  else s.toLink l x

/-! ## Quads and lane configuration (R197, R204, R222) -/

/-- A lane that is not under test and whose quad is enabled begins to train. During BOOT it waits for step 8 (R308,
R312). -/
def State.trainLane (s : State) (l : Nat) : State :=
  if (s.lane l).test = 0 ∧ (s.laneQuad l).en = true ∧ (s.laneQuad l).mode ≠ modeOff ∧ s.sys.state ≠ .boot then
    s.toLink l .signal
  else s

/-- A write of QUAD_CFG of quad `q` (R204). -/
def State.writeQuad (s : State) (q w : Nat) : Act :=
  let old := s.quad q
  let en := bitOf w 31
  let mode := bits w 1 0
  let lanes := [4 * q, 4 * q + 1, 4 * q + 2, 4 * q + 3]
  s.act
    [rangeIf (decide (mode = 3 ∨ (mode = modeEth ∧ 3 < q))),
     (old.en && decide (mode ≠ old.mode), .blockRunning)]
    (let s := if old.en && !en then s.forAll lanes fun s l => s.leaveUp l .disabled else s
     let s := s.setQuad q { en := en, mode := mode }
     if en && !old.en && decide (mode ≠ modeOff) then
       s.forAll lanes State.trainLane
     else s)

/-- A write of LINK_CFG of lane `l` (R197, R203). -/
def State.writeLinkCfg (s : State) (l w : Nat) : Act :=
  let role := bits w 1 0
  let second := decide (role = roleUp) && allLanes.any fun i => decide (i ≠ l ∧ (s.lane i).role = roleUp)
  s.act [((s.laneQuad l).en, .blockRunning), rangeIf (decide (role = 3) || second)]
    (s.modLane l fun v => { v with role := role })

/-- A write of DEVICE_NUM (R195, R197, R203): while the truss links are DISABLED, or REFUSED and so train again
(assumption log 47). -/
def State.writeDeviceNum (s : State) (v : Nat) : Act :=
  let runs (l : Nat) : Bool := s.trussLane l && decide ((s.lane l).link ≠ .disabled ∧ (s.lane l).link ≠ .refused)
  s.act [rangeIf (decide (v = 0 ∨ 63 < v)), (allLanes.any runs, .blockRunning)]
    (let s : State := { s with truss := { s.truss with num := v } }
     s.forAll allLanes fun s l => if s.trussLane l && decide ((s.lane l).link = .refused) then s.toLink l .signal else s)

/-- Bits that pass a lane in a time, at the line rate of its quad's mode: 112.0 or 106.25 Gbit/s (R206, R212). -/
def State.lineBits (s : State) (l fs : Nat) : Nat :=
  ceilDiv ((if (s.laneQuad l).mode = modeEth then 10625 else 11200) * fs) 100000000

/-- The checker of a pattern test is looked at: whether it is locked, how many of the bits since the last look it has
compared, and how many of those were in error, only the line tells (R222; free values, assumption log 2). It compares
none where it is locked at neither look. -/
def State.countPrbs (s : State) (l : Nat) : State :=
  let v := s.lane l
  if v.test % 4 = 0 then s
  else
    let lock := (Config.freeValue s.draws 98).getLsbD 0
    let most := if v.prbsLock || lock then s.lineBits l (s.now - v.prbsAt) else 0
    let bits := (Config.freeValue s.draws 0).toNat % (most + 1)
    s.modLane l fun x => { x with
      prbsLock := lock, prbsAt := s.now, prbsBits := x.prbsBits + bits
      prbsErrors := x.prbsErrors + (Config.freeValue s.draws 1).toNat % (bits + 1) }

/-- A write of LANE_TEST of lane `l` (R222). -/
def State.writeLaneTest (s : State) (l w : Nat) : Act :=
  let v := w % 16
  let loop := bits v 3 2
  let pattern := bits v 1 0
  let old := s.lane l
  s.act
    [rangeIf (decide (loop = 3 ∨ pattern = 3 ∨ (loop = 2 ∧ pattern ≠ 0))),
     (decide (v ≠ 0) && decide (old.link = .up), .blockRunning)]
    (if v ≠ 0 then
       s.modLane l fun x => { x with 
         test := v, testSince := s.now, prbsBits := 0, prbsErrors := 0, prbsLock := false, prbsAt := s.now
         link := .disabled }
     else if old.test ≠ 0 then
       ((s.countPrbs l).modLane l fun x => { x with test := 0 }).trainLane l
     else s)

/-! ## Training (R195, R196, R205) -/

/-- The TRAIN block of lane `l` (R192). -/
def State.trainBlock (s : State) (l : Nat) : TrainBlock :=
  { version := 2, role := BitVec.ofNat 4 (s.lane l).role, deviceNum := BitVec.ofNat 6 s.deviceNum, king := s.king
    part := 0x6448, refFreq := BitVec.ofNat 32 s.ref.freq
    tbWords := BitVec.ofNat 32 (s.ref.tbN * 65536 + s.ref.tbDiv * 256) }

/-- CLOCK_RECOVERY_LOCK. -/
def opClockRecoveryLock (s : State) (l : Nat) : State :=
  if (s.lane l).link = .signal ∧ s.ronzal l = true then s.toLink l .blockLock else s

/-- A training failure counts (R195). -/
def State.trainFail (s : State) (l : Nat) : State :=
  if s.trussLane l then { s with truss := { s.truss with trainFails := s.truss.trainFails + 1 } } else s

/-- SIGNAL_TIMEOUT. -/
def opSignalTimeout (s : State) (l : Nat) : State :=
  if (s.lane l).link = .signal ∧ s.ronzal l = true ∧ (s.lane l).since + 100 * msFs ≤ s.now then
    (s.trainFail l).toLink l .signal
  else s

/-- CODEWORD_ALIGNED: TRAIN blocks are exchanged. -/
def opCodewordAligned (s : State) (l : Nat) : State :=
  if (s.lane l).link = .blockLock then (s.toLink l .capability).sendLink l (.train (s.trainBlock l)) else s

/-- BLOCK_LOCK_TIMEOUT. -/
def opBlockLockTimeout (s : State) (l : Nat) : State :=
  let v := s.lane l
  if (v.link = .blockLock ∨ v.link = .rate) ∧ v.since + 10 * msFs ≤ s.now then s.toLink l .signal else s

/-- DELAY begins: 1,024 exchanges. -/
def State.startDelay (s : State) (l : Nat) : State :=
  let s := s.modLane l fun v => { v with link := .delay, since := s.now, trips := 0, exchanges := 0 }
  s.timeRequest l 0

/-- The roles of the two ends fit (R192, R197, R205). -/
def rolesFit (mine theirs : Nat) : Bool :=
  decide ((mine = 1 ∧ theirs = 2) ∨ (mine = 2 ∧ theirs = 1) ∨ (mine = 0 ∧ theirs = 3))

/-- TRAIN_BLOCK_RX (R184, R195 to R197, R205). -/
def opTrainBlockRx (s : State) (l : Nat) (b : TrainBlock) : State :=
  let v := s.lane l
  if v.link = .capability then
    if !rolesFit v.role b.role.toNat then s.modLane l fun v => { v with roleBad := true, roleBadLane := true }
    else
      let s := s.modLane l fun v => { v with
        partner := b.deviceNum.toNat, partnerOld := decide (v.role ≠ 0) && decide (b.part = 0x2412) }
      let mine := s.trainBlock l
      if v.role ≠ 0 ∧ (b.refFreq ≠ mine.refFreq ∨ b.tbWords ≠ mine.tbWords) then
        (s.modLane l fun v => { v with refBad := true }).trussFlag tfRefMismatch
      else if b.version = 2 then (s.modLane l fun v => { v with version := 2 }).toLink l .rate
      else if b.version = 1 ∧ v.role ≠ 0 then (s.modLane l fun v => { v with version := 1 }).startDelay l
      else s
  else s

/-- CAPABILITY_RETRY. -/
def opCapabilityRetry (s : State) (l : Nat) : State :=
  if (s.lane l).link = .capability ∧ (s.lane l).since + 100 * msFs ≤ s.now then
    (s.toLink l .capability).sendLink l (.train (s.trainBlock l))
  else s

/-- RATE_LOCKED: DELAY, or UP for a stream lane (R195, R205). -/
def opRateLocked (s : State) (l : Nat) : State :=
  if (s.lane l).link = .rate then (if (s.lane l).role = 0 then s.linkUp l else s.startDelay l) else s

/-- A TRANSFER of the device's truss time leaves on a lane: its departure in whole ticks and the part of a tick
(R181, R183, R192). -/
def State.timeTransfer (s : State) (l draw : Nat) : State :=
  let x := s.departure draw
  s.sendLink l (.time { kind := 2, exchange := 0, ta := BitVec.ofNat 64 (x / 65536), tb := BitVec.ofNat 64 (x % 65536) })

/-- TIME_BLOCK_RX (R192, R195): a REQUEST is answered with a RESPONSE that leaves at `own`; a RESPONSE adds a round
trip, from T_A of the REQUEST it answers. `arrival` is when the block's first bit came. On a link that is UP a REQUEST
asks for a TRANSFER (R183, assumption log 95). -/
def opTimeBlockRx (s : State) (l : Nat) (b : TimeBlock) (arrival own : BitVec 64) : State :=
  let v := s.lane l
  if !s.trussLane l then s
  else if b.kind = 0 ∧ v.link = .up then s.when (s.truss.timeValid && s.time.running) fun s => s.timeTransfer l 90
  else if b.kind = 0 ∧ (v.link = .delay ∨ v.link = .join) then
    s.sendLink l (.time { kind := 1, exchange := b.exchange, ta := arrival, tb := own })
  else if b.kind = 1 ∧ v.link = .delay ∧ v.exchanges < 1024 ∧ b.exchange.toNat = v.exchanges then
    let trip : BitVec 64 := (arrival - v.requestTa) - (b.tb - b.ta)
    let s := s.modLane l fun v => { v with trips := v.trips + trip.toNat, exchanges := v.exchanges + 1 }
    if v.exchanges + 1 < 1024 then s.timeRequest l (v.exchanges + 1) else s
  else s

/-- The settings in force go to the child (R179, R192). A change that waits for its S is not sent to it: it goes to the
links that were UP at its acceptance (DESIGN CHOICE, assumption log 122). -/
def State.sendInForce (s : State) (l : Nat) : State :=
  let now := s.trussNow
  let block (setting item v : Nat) : LinkBlock :=
    .settings { setting := BitVec.ofNat 8 setting, item := BitVec.ofNat 8 item, at_ := now, value := BitVec.ofNat 64 v }
  let s := ((s.sendLink l (block setHorizon 0 (s.horizonAt now))).sendLink l (block setTmax 0 (s.tmaxAt now))).sendLink l
    (block setMixed 0 (if s.mixed then 1 else 0))
  s.forAll (List.range 256) fun s b => s.sendLink l (block setOwner b (s.owner b))

/-- DELAY_COMPLETE: half the round trip, averaged (R192, R195). A parent sends its time and the settings in force. -/
def opDelayComplete (s : State) (l : Nat) : State :=
  let v := s.lane l
  if v.link = .delay ∧ v.exchanges = 1024 then
    let s := s.modLane l fun v => { v with
      link := .join, since := s.now, delay := (roundHalfEven v.trips 2048).toNat }
    if v.role = roleDown then
      (s.timeTransfer l 90).sendInForce l
    else s
  else s

/-- LINK_DELAY: the one-way delay in ps, an exact half to even (R192). -/
def Lane.delayPs (v : Lane) : Nat := (roundHalfEven (v.delay * 125) 131072).toNat

/-- A TRANSFER on lane `l` sets the count: from the parent at JOIN, or over the recovery link (R181, R183). -/
def State.takesTime (s : State) (l : Nat) : Bool :=
  s.time.running && ((s.upLane l && decide ((s.lane l).link = .join)) || (s.truss.recover && decide (s.timeLink = some l)))

/-- TIME_TRANSFER_RX (R181, R183, R192): the count is set; a child that joins reports to the king post (R197). -/
def opTimeTransferRx (s : State) (l : Nat) (b : TimeBlock) : State :=
  let v := s.lane l
  if b.kind = 2 ∧ s.takesTime l = true then
    let s := s.setTime ((b.ta.toNat * 65536 + b.tb.toNat % 65536 + v.delay : Nat) : Int)
    if v.link = .join then
      s.sendLink l (.join { kind := 0, device := BitVec.ofNat 6 s.truss.num, parent := BitVec.ofNat 6 v.partner
                            old := false, reason := 0, delay := BitVec.ofNat 64 v.delayPs })
    else s
  else s

/-! ## Joining (R185, R197) -/

/-- The devices from `d` up to, but without, the king post, by TRUSS_MAP. -/
def Truss.path (t : Truss) : Nat → Nat → List Nat
  | 0, _ => []
  | fuel + 1, d => if d = 0 then [] else d :: Truss.path t fuel (sget (fun _ => {}) t.map d).parent

/-- A device of the truss is an XM2412. -/
def Truss.isOld (t : Truss) (d : Nat) : Bool := (sget (fun _ => {}) t.map d).old

/-- Transport time of the link above device `d`, ns: 95 on version 2, 190 on version 1 (R185). -/
def Truss.linkNs (t : Truss) (d : Nat) : Nat :=
  if t.isOld d || t.isOld (sget (fun _ => {}) t.map d).parent then 190 else 95

/-- The links between two devices, each named by its lower device. -/
def Truss.between (t : Truss) (a b : Nat) : List Nat :=
  let p := Truss.path t 64 a
  let q := Truss.path t 64 b
  (p.filter fun x => !q.contains x) ++ (q.filter fun x => !p.contains x)

/-- The devices of the truss. -/
def Truss.devices (t : Truss) : List Nat := 0 :: (t.map.filter fun p => p.2.present).map (·.1)

/-- The largest of a measure over pairs of devices. -/
def Truss.longest (t : Truss) (f : List Nat → Nat) : Nat :=
  let ds := t.devices
  (ds.flatMap fun a => ds.map fun b => f (t.between a b)).foldl max 0

/-- T_MAX and DIAMETER of the truss (R185, R197). -/
def Truss.tMax (t : Truss) : Nat := t.longest fun ls => (ls.map t.linkNs).foldl (· + ·) 0
def Truss.hops (t : Truss) : Nat := t.longest List.length

/-- A number in use is the reporting member's own: it joins again, under the parent it had, after its link was lost.
The king post takes it so while the truss is BROKEN and no link of its own that is UP has that partner (DESIGN CHOICE,
assumption log 48). -/
def State.rejoins (s : State) (b : JoinBlock) : Bool :=
  let had := sget (fun _ => {}) s.truss.map b.device.toNat
  had.present && decide (had.parent = b.parent.toNat) && s.truss.broken
    && allLanes.all fun i => !(s.downLane i && decide ((s.lane i).link = .up ∧ (s.lane i).partner = b.device.toNat))

/-- The reason for refusing a member, 0 for none (R192, R197). -/
def State.joinReason (s : State) (b : JoinBlock) : Nat :=
  let d := b.device.toNat
  let had := sget (fun _ => {}) s.truss.map d
  let t : Truss := { s.truss with map := sset (fun _ => {}) s.truss.map d { present := true, old := b.old, parent := b.parent.toNat } }
  if d = 0 ∨ (had.present && !s.rejoins b) = true then 1
  else if 64 < t.devices.length then 2
  else if 16334 < t.tMax then 3 else 0

/-- A member admitted: TRUSS_MAP, T_MAX, DIAMETER, H_MIN, MIXED and HORIZON follow (R185, R196, R197). Each is compared
with the value that stands once the changes on their way have switched: a HORIZON that waits for its S is raised where
it lies below the new H_MIN, and kept where it does not (DESIGN CHOICE, assumption log 123). -/
def State.takeIn (s : State) (b : JoinBlock) : State :=
  let t : Truss := { s.truss with
    map := sset (fun _ => {}) s.truss.map b.device.toNat { present := true, old := b.old, parent := b.parent.toNat } }
  let mixed := t.map.any fun p => p.2.present && p.2.old
  let s : State := { s with truss := { t with diameter := t.hops, hMin := hMinOf t.tMax mixed } }
  let s := if lastOf 0 (s.histories setTmax 0 s.truss.tmaxes) = t.tMax then s else s.change setTmax 0 t.tMax
  let was := decide (lastOf 0 (s.histories setMixed 0 s.truss.mixes) = 1)
  let s := if mixed = was then s else s.change setMixed 0 (if mixed then 1 else 0)
  if lastOf 640 (s.histories setHorizon 0 s.truss.horizons) < hMinOf t.tMax mixed then
    (s.change setHorizon 0 (hMinOf t.tMax mixed)).trussFlag tfHorizonRaised
  else s

/-- The DOWN lane at which device `d` is joining. -/
def State.joining (s : State) (d : Nat) : Option Nat :=
  allLanes.find? fun l => s.downLane l && decide ((s.lane l).link = .join ∧ (s.lane l).partner = d)

/-- A member has reported through lane `l`. -/
def State.reported (s : State) (l d : Nat) : State :=
  s.forAll allLanes fun s i => s.modLane i fun v => { v with
    below := if i = l then d :: v.below.filter (· ≠ d) else v.below.filter (· ≠ d) }

/-- JOIN_REPORT_RX (R197): the king post admits or refuses the member; another device passes the report up. -/
def opJoinReportRx (s : State) (l : Nat) (b : JoinBlock) : State :=
  let v := s.lane l
  if s.downLane l && decide (b.kind = 0 ∧ (v.link = .join ∨ v.link = .up)) then
    if !s.king then
      (s.reported l b.device.toNat).sendLinks
        (allLanes.filter fun i => s.upLane i && decide ((s.lane i).link = .up)) (.join b)
    else
      let why := s.joinReason b
      let s := s.reported l b.device.toNat
      let answer : JoinBlock := { b with kind := if why = 0 then 1 else 2, reason := BitVec.ofNat 8 why, delay := 0 }
      let s := s.sendLink l (.join answer)
      if why = 0 then
        let s := if v.link = .join then s.linkUp l else s
        s.takeIn b
      else
        let s := s.trussFlag tfIdConflict
        if v.link = .join then s.toLink l .refused else s
  else s

/-- JOIN_ADMIT_RX (R197): the member is UP; another device passes the block down, and its link to the member is UP. -/
def opJoinAdmitRx (s : State) (l : Nat) (b : JoinBlock) : State :=
  let v := s.lane l
  if s.upLane l && decide (b.kind = 1) then
    if v.link = .join ∧ b.device.toNat = s.truss.num then
      let s := s.linkUp l
      { s with truss := { s.truss with joined := true } }
    else if v.link = .up then
      let s := s.sendLinks (s.laneTo b.device.toNat) (.join b)
      match s.joining b.device.toNat with
      | some i => s.linkUp i
      | none => s
    else s
  else s

/-- JOIN_REFUSE_RX (R197). -/
def opJoinRefuseRx (s : State) (l : Nat) (b : JoinBlock) : State :=
  let v := s.lane l
  if s.upLane l && decide (b.kind = 2) then
    if v.link = .join ∧ b.device.toNat = s.truss.num then
      ((s.toLink l .refused).modLane l fun v => { v with idBad := true }).trussFlag tfIdConflict
    else if v.link = .up then
      let s := s.sendLinks (s.laneTo b.device.toNat) (.join b)
      match s.joining b.device.toNat with
      | some i => s.toLink i .refused
      | none => s
    else s
  else s

/-! ## Heartbeats and loss (R184, R194) -/

/-- LSTATE codes. -/
def LinkState.code : LinkState → Nat
  | .disabled => 0
  | .signal => 1
  | .blockLock => 2
  | .capability => 3
  | .rate => 4
  | .delay => 5
  | .join => 6
  | .up => 7
  | .refused => 8

/-- HEARTBEAT_SEND (R194). LINK_SEQ does not count the heartbeat that carries it (DESIGN CHOICE, assumption log 97). -/
def opHeartbeatSend (s : State) (l : Nat) : State :=
  let v := s.lane l
  if s.ronzal l ∧ (v.link = .up ∨ v.link = .refused) ∧ v.saidAt + usFs ≤ s.now then
    (s.sendLink l (.heartbeat { seq := BitVec.ofNat 32 v.seq, lstate := BitVec.ofNat 4 v.link.code, time := s.trussNow })).modLane l
      fun v => { v with saidAt := s.now, seq := v.seq + 1 }
  else s

/-- HEARTBEAT_RX (R184, R194): four in a row more than 16 ticks off, and a truss link is lost. A device whose TCLK
stands, or whose truss time is still to be recovered, has no time to compare, and the link stays up (R183). -/
def opHeartbeatRx (s : State) (l : Nat) (b : HeartbeatBlock) : State :=
  let v := s.lane l
  if s.ronzal l ∧ (v.link = .up ∨ v.link = .refused) then
    let s := s.modLane l fun v => { v with heardAt := s.now }
    if s.linkIsUp l && s.time.running && !s.truss.recover then
      let off := ticksDiff s.trussNow b.time * 65536 + s.subTicks - v.delay
      if 16 * 65536 < off.natAbs then
        let s := s.modLane l fun v => { v with offBeats := v.offBeats + 1 }
        if v.offBeats + 1 < 4 then s
        else ((s.modLane l fun v => { v with refBad := true }).trussFlag tfRefMismatch).leaveUp l .signal
      else s.modLane l fun v => { v with offBeats := 0 }
    else s
  else s

/-- LINK_LOST (R194, R205). The end of a REFUSED link that hears no more heartbeats goes back to SIGNAL with its
child, whose DEVICE_NUM has been rewritten: the two ends advance together (R195, assumption log 98). -/
def opLinkLost (s : State) (l : Nat) : State :=
  let v := s.lane l
  if s.ronzal l ∧ v.link = .up ∧ v.heardAt + 4 * usFs ≤ s.now then s.leaveUp l .signal
  else if s.downLane l && decide (v.link = .refused ∧ max v.heardAt v.since + 4 * usFs ≤ s.now) then s.toLink l .signal
  else s

/-- BAD_BLOCK_RX (R191). -/
def opBadBlockRx (s : State) (l : Nat) (kind : Nat) : State :=
  if s.ronzal l ∧ (kind = 0 ∨ 8 < kind) then { s with truss := { s.truss with badBlocks := s.truss.badBlocks + 1 } } else s

/-- CREDIT_BLOCK_RX (R208): what waited for credit goes. -/
def opCreditBlockRx (s : State) (l : Nat) (freed : Word) : State :=
  if s.ronzal l ∧ (s.lane l).link = .up then (s.modLane l fun v => { v with partnerFreed := freed }).runLane l else s

/-! ## Data blocks (R207 to R211, R217, R218) -/

/-- Blocks of the arriving message still due after this one. -/
def Lane.dueAfter (v : Lane) (b : BitVec 256) : Nat :=
  if v.rxDue = 0 then bodyBlocks (decide (v.role = 0)) (blockBytes b) else v.rxDue - 1

/-- A data block that arrives within the credit window is stored (R209). -/
def Lane.storeBlock (v : Lane) (now : Nat) (b : BitVec 256) : Lane :=
  { v with
    landing := v.landing ++ [some b], rxDue := v.dueAfter b, discarding := false
    fullSince := if v.held + 1 = landingMax then some now else none }

/-- One that finds the landing buffer full breaks the credit rule (R209): it is discarded, and so is the rest of its
message, whose place in the buffer is marked. -/
def Lane.breakCredit (v : Lane) (b : BitVec 256) : Lane :=
  let due := v.dueAfter b
  { (v.set lfCreditViol) with
    violations := v.violations + 1, rxDue := due, discarding := decide (due ≠ 0)
    landing := if v.discarding && decide (v.rxDue ≠ 0) then v.landing else v.landing ++ [none] }

/-- DATA_BLOCK_RX (R208, R209, R211). -/
def opDataBlockRx (s : State) (l : Nat) (b : BitVec 256) : State :=
  if s.ronzal l ∧ (s.lane l).link = .up then
    s.modLane l fun v =>
      if landingMax ≤ v.held then v.breakCredit b
      else if v.discarding && decide (v.rxDue ≠ 0) then
        { v with rxDue := v.dueAfter b, discarding := decide (v.dueAfter b ≠ 0) }
      else v.storeBlock s.now b
  else s

/-! ## ETH ports and the management port (R212 to R214, R284, R392) -/

/-- ETH_MAC of a port: as rewritten, or the factory value (R224, R392). -/
def State.macOf (s : State) (p : Nat) : BitVec 48 :=
  (s.lane p).mac.getD (Config.macBase + BitVec.ofNat 48 (p + 1))

/-- The MAC address of a port: MGMT_MAC, or ETH_MAC (R284, R392). -/
def State.portMac (s : State) : Port → BitVec 48
  | .mgmt => Config.macBase
  | .eth p => s.macOf p
  | .lane _ => 0

/-- The IPv4 address of a port, 0 for none: while MGMT_IPV4 is 0 the management port's is 169.254.M4.M5, with M4 and
M5 the last two bytes of MGMT_MAC (R212, R284). -/
def State.portAddr (s : State) : Port → Word
  | .mgmt => if s.oda.ipv4 ≠ 0 then s.oda.ipv4 else 0xA9FE0000#32 ||| (Config.macBase.setWidth 16).setWidth 32
  | .eth p => (s.lane p).ipv4
  | .lane _ => 0

/-- The tags of a frame fit ETH_VLAN (R212). -/
def Lane.vlanOk (v : Lane) (tags : List (BitVec 12)) : Bool :=
  match tags with
  | [] => true
  | [x] => v.vlanEn && decide (x = v.vid)
  | _ => false

/-- The broadcast address. -/
def broadcast : BitVec 48 := BitVec.allOnes 48

/-- The UDP port of the device (R212). -/
def udpPort : Nat := 48620

/-- Ingress buffer: 4 MiB (R214). -/
def ingressMax : Nat := 4194304

/-- A port takes what a frame carries (R212, R213): an ARP request, and a whole datagram to its own address, which is
not 0: an echo request, or UDP to its port. -/
def State.carriedWanted (s : State) (p : Port) : Carried → Bool
  | .arp _ => true
  | .echo a => decide (a ≠ 0 ∧ a = s.portAddr p)
  | .udp a n => decide (a ≠ 0 ∧ a = s.portAddr p ∧ n = udpPort)
  | _ => false

/-- A frame carries an ARP request. -/
def isArp : Carried → Bool
  | .arp _ => true
  | _ => false

/-- What becomes of a frame whose FCS is right (R212, R213). -/
def State.frameWanted (s : State) (p : Port) (f : EthFrame) : Bool :=
  decide (64 ≤ f.length ∧ f.length ≤ 9216) && (s.portLane p).vlanOk f.vlans
    && (decide (f.dst = s.portMac p) || (decide (f.dst = broadcast) && isArp f.carries)) && s.carriedWanted p f.carries

/-- A whole frame of `n` bytes that fits the ingress buffer is admitted; another is dropped (R214). -/
def Lane.admitFrame (v : Lane) (n : Nat) : Lane :=
  if v.occupancy + n ≤ ingressMax then
    { v with ingress := v.ingress ++ [n], rxFrames := v.rxFrames + 1, peak := max v.peak (v.occupancy + n) }
  else { (v.set lfOverRate) with ethDropped := v.ethDropped + 1, dropBytes := v.dropBytes + n }

/-- A frame reaches ETH port `p` (R212 to R214). -/
def State.takeFrame (s : State) (p : Fin 16) (f : EthFrame) : State :=
  s.modLane p fun v =>
    if !f.fcsOk then { v with fcsErrors := v.fcsErrors + 1 }
    else if f.carries = .pause then { v with pauseRx := v.pauseRx + 1 }
    else if !s.frameWanted (.eth p) f then { v with other := v.other + 1 }
    else v.admitFrame f.length

/-- A frame is admitted at a port, which has its link: the management port has no ingress buffer (R214, R284). -/
def State.frameTaken (s : State) (p : Port) (f : EthFrame) : Bool :=
  f.fcsOk && s.frameWanted p f && (match p with
    | .eth q => decide ((s.lane q).occupancy + f.length ≤ ingressMax)
    | _ => true)

/-- The port has its link: an ETH port's lane is UP; the management port's is not modelled (assumption log 101). -/
def State.portUp (s : State) : Port → Bool
  | .mgmt => true
  | .eth p => s.ethPort p && decide ((s.lane p).link = .up)
  | .lane _ => false

/-- A frame that brings a request to a port: it is counted like every other, and answered where it is taken (R212,
R213). -/
def State.answerFrame (s : State) (p : Port) (f : EthFrame) (answer : Option OutMsg) : State :=
  if s.portUp p then
    let s' := match p with
      | .eth q => s.takeFrame q f
      | _ => s
    match answer with
    | some m => s'.when (s.frameTaken p f) fun s => s.send m
    | none => s'
  else s

/-- ETH_FRAME_RX (R212 to R214). -/
def opEthFrameRx (s : State) (p : Fin 16) (f : EthFrame) : State := s.answerFrame (.eth p) f none

/-- The answer to an ARP request for the port's address, which is not 0 (R212, R224). -/
def State.arpAnswer (s : State) (p : Port) (f : EthFrame) : Option OutMsg :=
  match f.carries with
  | .arp a => if a ≠ 0 ∧ a = s.portAddr p then some (.arpReply p f.src a (s.portMac p)) else none
  | _ => none

/-- ARP_REQUEST (R212, R284). -/
def opArpRequest (s : State) (p : Port) (f : EthFrame) : State := s.answerFrame p f (s.arpAnswer p f)

/-- The answer to an ICMP echo request (R212). -/
def State.echoAnswer (p : Port) (f : EthFrame) : Option OutMsg :=
  match f.carries with
  | .echo a => some (.echoReply p f.src a)
  | _ => none

/-- ICMP_ECHO_REQUEST (R212, R284). -/
def opIcmpEchoRequest (s : State) (p : Port) (f : EthFrame) : State := s.answerFrame p f (State.echoAnswer p f)

/-- ETH_LINK_UP (R212). -/
def opEthLinkUp (s : State) (p : Nat) : State :=
  if s.ethPort p ∧ (s.lane p).test = 0 ∧ (s.lane p).link = .signal then s.linkUp p else s

/-- ETH_LINK_DOWN (R224). -/
def opEthLinkDown (s : State) (p : Nat) : State :=
  if s.ethPort p ∧ (s.lane p).link = .up then s.leaveUp p .signal else s

/-! ## Meanings -/

def execClockRecoveryLock (t : Nat) (lane : Fin 48) (s : State) : Result := event s t fun s => opClockRecoveryLock s lane
def execSignalTimeout (t : Nat) (lane : Fin 48) (s : State) : Result := event s t fun s => opSignalTimeout s lane
def execCodewordAligned (t : Nat) (lane : Fin 48) (s : State) : Result := event s t fun s => opCodewordAligned s lane
def execBlockLockTimeout (t : Nat) (lane : Fin 48) (s : State) : Result := event s t fun s => opBlockLockTimeout s lane
def execTrainBlockRx (t : Nat) (lane : Fin 48) (b : TrainBlock) (s : State) : Result := event s t fun s => opTrainBlockRx s lane b
def execCapabilityRetry (t : Nat) (lane : Fin 48) (s : State) : Result := event s t fun s => opCapabilityRetry s lane
def execRateLocked (t : Nat) (lane : Fin 48) (s : State) : Result := event s t fun s => opRateLocked s lane
def execTimeBlockRx (t : Nat) (lane : Fin 48) (b : TimeBlock) (arrival own : BitVec 64) (s : State) : Result :=
  event s t fun s => opTimeBlockRx s lane b arrival own
def execDelayComplete (t : Nat) (lane : Fin 48) (s : State) : Result := event s t fun s => opDelayComplete s lane
def execTimeTransferRx (t : Nat) (lane : Fin 48) (b : TimeBlock) (s : State) : Result :=
  event s t fun s => opTimeTransferRx s lane b
def execJoinReportRx (t : Nat) (lane : Fin 48) (b : JoinBlock) (s : State) : Result := event s t fun s => opJoinReportRx s lane b
def execJoinAdmitRx (t : Nat) (lane : Fin 48) (b : JoinBlock) (s : State) : Result := event s t fun s => opJoinAdmitRx s lane b
def execJoinRefuseRx (t : Nat) (lane : Fin 48) (b : JoinBlock) (s : State) : Result := event s t fun s => opJoinRefuseRx s lane b
def execHeartbeatSend (t : Nat) (lane : Fin 48) (s : State) : Result := event s t fun s => opHeartbeatSend s lane
def execHeartbeatRx (t : Nat) (lane : Fin 48) (b : HeartbeatBlock) (s : State) : Result :=
  event s t fun s => opHeartbeatRx s lane b
def execLinkLost (t : Nat) (lane : Fin 48) (s : State) : Result := event s t fun s => opLinkLost s lane
def execBadBlockRx (t : Nat) (lane : Fin 48) (kind : BitVec 8) (s : State) : Result :=
  event s t fun s => opBadBlockRx s lane kind.toNat
def execCreditBlockRx (t : Nat) (lane : Fin 48) (freed : Word) (s : State) : Result :=
  event s t fun s => opCreditBlockRx s lane freed
def execDataBlockRx (t : Nat) (lane : Fin 48) (block : BitVec 256) (s : State) : Result :=
  event s t fun s => opDataBlockRx s lane block
def execEthFrameRx (t : Nat) (port : Fin 16) (f : EthFrame) (s : State) : Result :=
  event s t fun s => opEthFrameRx s port f
def execArpRequest (t : Nat) (port : Port) (f : EthFrame) (s : State) : Result :=
  event s t fun s => opArpRequest s port f
def execIcmpEchoRequest (t : Nat) (port : Port) (f : EthFrame) (s : State) : Result :=
  event s t fun s => opIcmpEchoRequest s port f
def execEthLinkUp (t : Nat) (port : Fin 16) (s : State) : Result := event s t fun s => opEthLinkUp s port
def execEthLinkDown (t : Nat) (port : Fin 16) (s : State) : Result := event s t fun s => opEthLinkDown s port

end Sys2Proof.Machine
end

