-- ==== Sys2Proof/Machine/Tiu.lean ====
section
/-! DEFINITION. The time-interval unit (09_time_interval_unit.md): stamps, the drain, measurement slots and their
statistics, the stream ring, bin tables, and the MK stamper with the bells it raises (07_bells_and_truss.md, R175). -/

namespace Sys2Proof.Machine

/-! ## Bin tables (R230, R247, R274) -/

/-- The table that no load has replaced: no deviation (assumption log 7). -/
def BinTable.init (_ : Nat) : BinTable := .rebuilt (List.replicate 7 0) 64

/-- The bin table of interpolator `i`. -/
def State.table (s : State) (i : Nat) : BinTable := sget BinTable.init s.tiu.tables i

/-- Hits of all codes below `j`. -/
def hitsBelow (hits : Sparse Nat) (j : Nat) : Nat :=
  ((hits.takeWhile fun p => decide (p.1 < j)).map (·.2)).foldl (· + ·) 0

/-- Hits of a run, H. -/
def hitsAll (hits : Sparse Nat) : Nat := hitsBelow hits 4096

/-- C at knot `k` of a rebuilt table: 0, the seven deviations, 2^20. -/
def knot (dev : List Int) (k : Nat) : Int :=
  if k = 0 then 0 else if 8 ≤ k then 1048576 else 131072 * k + dev.getD (k - 1) 0

/-- C[j] of a table. -/
def BinTable.cum (b : BinTable) (j : Nat) : Int :=
  match b with
  | .rebuilt dev _ =>
    let k := j / 512
    knot dev k + (knot dev (k + 1) - knot dev k) * (j % 512) / 512
  | .counted hits => roundHalfEven (1048576 * hitsBelow hits j) (hitsAll hits)

/-- The width of bin `j`. -/
def BinTable.width (b : BinTable) (j : Nat) : Int := b.cum (j + 1) - b.cum j

/-- CAL_HITS. -/
def BinTable.hits : BinTable → Nat
  | .rebuilt _ h => h * 65536
  | .counted hits => hitsAll hits

/-- FRAC of a converter code (R230). -/
def BinTable.frac (b : BinTable) (code : Nat) : Int := 1048575 - (b.cum code + b.cum (code + 1)) / 2

/-! ## Stamps (R227, R229, R231 to R233) -/

/-- Fraction units of one TCLK period. -/
def tclkFu : Nat := 1048576

/-- The stamp of an edge now, from its interpolator's code: COARSE is the last TCLK edge's count (R229, R230). -/
def State.stampNow (s : State) (interp : Nat) (code : BitVec 12) : Int :=
  (s.trussNow.toNat / 8 : Nat) * tclkFu + (s.table interp).frac code.toNat

/-- A stamp's whole tick, rounded up (R174, R229). -/
def ticksUp (fu : Int) : Ticks := BitVec.ofInt 64 (-((-fu) / tickFu))

/-- Device time as FU of truss time, from the epoch. -/
def State.nowFu (s : State) : Int :=
  (s.trussNow.toNat * tickFu : Nat) + (s.tclkPhase * 65536 / 31250 : Nat)

/-- The core whose pad-to-ball delay BALL_REF takes for loopback source `i` (R227). -/
def State.ballCore (s : State) (i : Nat) : Option Nat :=
  if i < 64 then some i
  else
    let b := s.bay (i - 64)
    if b.phase = .idle ∨ b.phase = .ownPlumb ∨ b.phase = .unavailable then none else some b.channel

/-- `d` fs in FU; where it is no whole number of them the spec does not say which neighbour is taken
(assumption log 2). -/
def State.fuOf (s : State) (d : Int) : Int :=
  let q := d * 65536 / 31250
  if d * 65536 % 31250 = 0 then q else q + (Config.freeValue s.draws 91).toNat % 2

/-- The delay subtracted from a stamp of a channel, in FU (R227). -/
def State.ballFu (s : State) (v : TiuSlot) : Int :=
  if bitOf v.cfg.toNat 20 && decide (1 ≤ v.src ∧ v.src ≤ 72) then
    match s.ballCore (v.src - 1) with
    | some n => s.fuOf (Config.route n)
    | none => 0
  else 0

/-- TCLK runs from the crystal (R235). -/
def State.tclkXtal (s : State) : Bool := s.tiu.xtal || s.ref.xtalSrc || s.tiu.onXtal

/-- The stamp record (R233). -/
def Stamp.bytes (v : Stamp) : Bytes :=
  leBytes 8 ((v.fu / tclkFu) % (2 ^ 61)).toNat
    ++ leBytes 4 ((v.fu % tclkFu).toNat * 4096 + flag v.rising 11 + flag v.tbXtal 7 + v.src % 128)
    ++ leBytes 4 (v.seq.toNat * 65536 + v.channel % 16)

/-- SLOPE lets the edge qualify (R225). -/
def TiuSlot.qualifies (v : TiuSlot) (rising : Bool) : Bool :=
  match bits v.cfg.toNat 22 21 with
  | 0 => rising
  | 1 => !rising
  | _ => true

/-- Whether an edge now is stamped (R231, R386): between the limits of dead time and busy time either outcome may
occur. -/
def TiuSlot.stamps (v : TiuSlot) (now draw : Nat) : Bool :=
  let last := (v.stampedAt[0]?.map (now - ·)).getD (32 * nsFs)
  let fourth := (v.stampedAt[3]?.map (now - ·)).getD (32 * nsFs)
  if last * 10 < 19 * nsFs ∨ fourth < 30 * nsFs then false
  else if 21 * nsFs ≤ last * 10 ∧ 32 * nsFs ≤ fourth then true
  else (Config.freeValue draw 92).toNat % 2 == 1

/-! ## Slots (R237, R238) -/

/-- A slot that is ARMED, RUNNING or CALIBRATING. -/
def TiuSlot.active (v : TiuSlot) : Bool := decide (v.state = .armed ∨ v.state = .running ∨ v.state = .calibrating)

/-- Slot `c` becomes RUNNING once its arming time has come (R237). -/
def State.arm (s : State) (c : Nat) : State :=
  let v := s.slot c
  match v.armAt with
  | some x =>
    if v.state = .armed ∧ 0 ≤ fuDiff s.nowFu x then s.setSlot c { v with state := .running } else s
  | none => s

/-- Every slot whose arming time has come. -/
def State.armDue (s : State) : State := s.forAll (List.range 16) State.arm

/-- A gating edge fixes the arming time of the slots that wait on its source; the edge itself takes no part
(R237). -/
def State.gateEdge (s : State) (mk : Bool) (x : Nat) (fu : Int) : State :=
  s.forAll (List.range 16) fun s c =>
    let v := s.slot c
    if v.state = .armed ∧ v.armAt = none ∧ v.armKind = 1 ∧ v.gateMk = mk ∧ v.gateSrc = x then
      s.modSlot c fun v => { v with
        armAt := some fu
        skipA := if mk = false ∧ x = c then v.queue.length else v.skipA
        skipB := if mk = false ∧ v.stopsAt x = true then (s.slot x).queue.length else v.skipB }
    else s

/-- An edge of channel `x` is missed (R231, R232): every measurement that uses the channel is marked, and an
interval's pairing starts again (R239). -/
def State.missEdge (s : State) (x : Nat) (full : Bool) : State :=
  let s := s.modSlot x fun v => { v with
    missed := v.missed + 1, missedFull := if full then v.missedFull + 1 else v.missedFull, gap := true }
  s.forAll (List.range 16) fun s c =>
    if (s.slot c).measuring && (s.slot c).uses c x then (s.modSlot c fun v => v.set mfMissed).resyncPairs c x else s

/-- The source of a channel delivers no edges: a tap whose core's switch is open for Plumb, but to the calibration
channel that Plumb uses; a REFIN that is lost (R146, R228). -/
def State.sourceMute (s : State) (c : Nat) : Bool :=
  let n := (s.slot c).src
  (decide (c < 16 ∧ 1 ≤ n ∧ n ≤ 72) && s.tapOpen (n - 1)) || (decide (n = srcRefin) && !s.ref.present)

/-- An edge on TIU channel `c` (R226 to R233). Channel 16 is the calibration channel. An edge that comes while TCLK
stands cannot be stamped, and is a missed one (assumption log 99). -/
def opTiuEdge (s : State) (c : Nat) (rising : Bool) (code : BitVec 12) : State :=
  let s := s.armDue
  let v := s.slot c
  if decide (s.tiu.cal = some c) || !v.qualifies rising || s.sourceMute c then s
  else
    let s := s.modSlot c fun v => { v with seq := v.seq + 1 }
    if s.time.running && v.stamps s.now s.draws then
      let interp := if c < 16 then 4 * c + v.rot else 96 + v.rot
      let fu := s.stampNow interp code - s.ballFu v
      let stamp : Stamp :=
        { fu := fu, rising := rising, tbXtal := s.tclkXtal, src := v.src, seq := v.seq + 1, channel := c, gap := v.gap }
      let s := s.modSlot c fun v => { v with
        rot := (v.rot + 1) % 4, stampedAt := (s.now :: v.stampedAt).take 4 }
      if v.queue.length < 256 then
        (s.modSlot c fun v => { v with queue := v.queue ++ [stamp], gap := false }).gateEdge false c fu
      else s.missEdge c true
    else s.missEdge c false

/-! ## Results (R238 to R246) -/

/-- N of a slot. -/
def TiuSlot.total (v : TiuSlot) : Nat := if v.n = 0 then 2 ^ 32 else v.n

/-- One result more; the N-th ends the measurement (R238). -/
def TiuSlot.count1 (v : TiuSlot) : TiuSlot :=
  let v := { v with made := v.made + 1 }
  if v.total ≤ v.made then { v with state := .done, starts := [], stops := [], gateN := 0 } else v

/-- A result enters the statistics (R244). -/
def TiuSlot.tally (v : TiuSlot) (x : Int) : TiuSlot :=
  if v.kind ≠ 3 ∧ 2 ^ 48 ≤ x.natAbs then v.set mfRangeOver
  else { v with
    s1 := v.s1 + x, s2 := v.s2 + x.natAbs ^ 2, count := v.count + 1
    xmin := if v.count = 0 ∨ x < v.xmin then x else v.xmin
    xmax := if v.count = 0 ∨ v.xmax < x then x else v.xmax
    last := x }

/-- The cause with which a result raises the compare bell: 0 below, 1 above, 2 inside (R243). -/
def TiuSlot.compare (v : TiuSlot) (x : Int) : Option Nat :=
  let y := if v.kind = 3 then x else 31250 * x
  if !bitOf v.meas.toNat 16 then none
  else if bitOf v.meas.toNat 15 then (if v.cmpLo ≤ y ∧ y ≤ v.cmpHi then some 2 else none)
  else if y < v.cmpLo then some 0 else if v.cmpHi < y then some 1 else none

/-- A result of slot `c`, with the stamp of its deciding edge (R238, R243, R244). -/
def State.result (s : State) (c : Nat) (x fu : Int) : State :=
  let v := s.slot c
  if v.state ≠ .running then s
  else
    let s := s.setSlot c (v.tally x).count1
    match v.compare x with
    | none => s
    | some cause =>
      let origin := ticksUp fu
      let ok := s.ownsAt v.cmpBell origin && s.admissible v.cmpBell origin
      let s := s.modSlot c fun v => if ok then v.set mfCmpHit else (v.set mfCmpHit).set mfCmpRefused
      s.raiseBell v.cmpBell (BitVec.ofNat 8 (16 * c + cause)) origin srcTiu c s.trussNow

/-- INTERVAL: the first start and the first stop pair (R239). -/
def State.pair (s : State) (c : Nat) : State :=
  let v := s.slot c
  match v.starts, v.stops with
  | a :: r, b :: q =>
    let v := { v with starts := r, stops := q }
    let x := fuDiff b.fu a.fu
    (s.setSlot c (if x < 0 then v.set mfOrder else v)).result c x (if x < 0 then a.fu else b.fu)
  | _, _ => s

/-- The start nearest a stop; of two equally near, the later (R241). -/
def nearest (starts : List Stamp) (fu : Int) : Option Stamp :=
  starts.foldl (fun m a => match m with
    | none => some a
    | some b =>
      let x := (fuDiff a.fu fu).natAbs
      let y := (fuDiff b.fu fu).natAbs
      if x < y ∨ (x = y ∧ 0 < fuDiff a.fu b.fu) then some a else some b) none

/-- SKEW: every stop that has a later start is paired; `ended` pairs the rest with the latest start (R241). -/
def State.skew (s : State) (c : Nat) (ended : Bool) : State :=
  let v := s.slot c
  let go := v.stops.takeWhile fun b => ended || v.starts.any fun a => decide (0 < fuDiff a.fu b.fu)
  let s := s.forAll go fun s b => match nearest v.starts b.fu with
    | some a =>
      let x := fuDiff b.fu a.fu
      s.result c x (if x < 0 then a.fu else b.fu)
    | none => s
  s.modSlot c fun v =>
    let stops := v.stops.drop go.length
    -- starts that no later stop can be nearest to: those with a later start at or before the last stop seen
    let low := (go.getLast?.map (·.fu))
    let starts := match low with
      | some x => v.starts.filter fun a => !(v.starts.any fun b => decide (0 < fuDiff b.fu a.fu ∧ 0 ≤ fuDiff x b.fu))
      | none => v.starts
    if v.state = .running then { v with stops := stops, starts := starts } else v

/-- One stamp of the start channel reaches a running slot (R238 to R242). -/
def State.startStamp (s : State) (c : Nat) (a : Stamp) : State :=
  let v := s.slot c
  match v.kind with
  | 1 => (s.setSlot c { v with starts := v.starts ++ [a] }).pair c
  | 2 =>
    let s := s.setSlot c { v with starts := [a] }
    match v.starts with
    | b :: _ => if a.gap then s else s.result c (fuDiff a.fu b.fu) a.fu
    | [] => s
  | 3 =>
    -- starts: the gate's first edge; stops: its latest edge
    let begin_ := s.setSlot c { v with starts := [a], stops := [a], gateN := 0 }
    match v.starts with
    | e :: _ =>
      let n := v.gateN + 1
      let span := fuDiff a.fu e.fu
      if a.gap then begin_
      else if (v.gate * 2097152000 : Nat) ≤ span then begin_.result c (roundHalfEven (n * 2 ^ 21 * 10 ^ 15) span.toNat) a.fu
      else s.setSlot c { v with stops := [a], gateN := n }
    | [] => begin_
  | 4 => (s.setSlot c { v with starts := v.starts ++ [a] }).skew c false
  | 5 =>
    let t := s.tiu
    let s : State :=
      if (t.head - t.tail).toNat < 65536 then
        { s with tiu := { t with
          ring := sset (fun _ => none) t.ring (t.head.toNat % 65536) (some a), head := t.head + 1 } }
      else { s with tiu := { t with dropped := t.dropped + 1 } }
    s.modSlot c TiuSlot.count1
  | _ => s

/-- One stamp of the stop channel reaches a running slot. -/
def State.stopStamp (s : State) (c : Nat) (b : Stamp) : State :=
  let v := s.slot c
  let s := s.setSlot c { v with stops := v.stops ++ [b] }
  if v.kind = 1 then s.pair c else s.skew c false

/-- A stamp of channel `x` reaches slot `c`, if the slot runs, takes the channel, and the stamp is not earlier than
T_A (R237). -/
def State.slotStamp (s : State) (x c : Nat) (a : Stamp) : State :=
  let v := s.slot c
  let inTime := match v.armAt with
    | some y => decide (0 ≤ fuDiff a.fu y)
    | none => false
  if !v.takes c x then s
  else if x = c ∧ 0 < v.skipA then s.modSlot c fun v => { v with skipA := v.skipA - 1 }
  else if x ≠ c ∧ 0 < v.skipB then s.modSlot c fun v => { v with skipB := v.skipB - 1 }
  else if v.state = .running && inTime then
    let s := if a.tbXtal then s.modSlot c fun v => v.set mfTbXtal else s
    if x = c then s.startStamp c a else s.stopStamp c a
  else s

/-- A stamp that reaches slot `c` in the cycle of the slot's STOP: where it makes the N-th result, the result counts and
the slot is DONE (R251). -/
def State.slotLast (s : State) (x c : Nat) (a : Stamp) : State :=
  let v := s.slot c
  match v.stopped with
  | some u =>
    let s' := (s.setSlot c { v with
      state := .running, armAt := u.armAt, starts := u.starts, stops := u.stops, gateN := u.gateN }).slotStamp x c a
    if v.state = .stopped ∧ u.cycle = s.cycle ∧ (s'.slot c).state = .done then s' else s.slotStamp x c a
  | none => s.slotStamp x c a

/-- STAMP_DRAIN (R232): the next stamp in rotation, at most one in an ECLK cycle and in a nanosecond. -/
def opStampDrain (s : State) : State :=
  let s := s.armDue
  if s.eclk.stopped ∨ s.now < s.tiu.drainNext then s
  else match ((List.range 17).map fun i => (s.tiu.drainAt + i) % 17).find? fun x => decide ((s.slot x).queue ≠ []) with
    | none => s
    | some x => match (s.slot x).queue with
      | [] => s
      | a :: r =>
        let s := s.modSlot x fun v => { v with queue := r }
        let s : State := { s with tiu := { s.tiu with
          drainAt := (x + 1) % 17, drainNext := s.now + max (ceilDiv secFs s.eclk.hz) nsFs } }
        (s.forAll (List.range 16) fun s c => s.slotLast x c a).serveLate

/-- TIU_ARM (R237). -/
def opTiuArm (s : State) (c : Nat) : State := s.arm c

/-! ## Commands and host writes (R237, R238, R242, R252) -/

/-- The results and statistics of a slot zeroed (R237, R238). -/
def TiuSlot.zero (v : TiuSlot) : TiuSlot :=
  { v with made := 0, count := 0, s1 := 0, s2 := 0, xmin := 0, xmax := 0, last := 0, starts := [], stops := [], gateN := 0 }

/-- A channel that the slot uses is under a code-density run. -/
def State.calBlocks (s : State) (c : Nat) : Bool :=
  match s.tiu.cal with
  | some x => (s.slot c).uses c x
  | none => false

/-- TB of TIU_STATUS (R235, R236). -/
def State.tbCode (s : State) : Nat := if s.tiu.xtal || s.ref.xtalSrc then 1 else s.tiu.tb

/-- The slot uses a channel whose tap is open for Plumb now (R228). -/
def State.tapGap (s : State) (c : Nat) : Bool :=
  (List.range 16).any fun x =>
    (s.slot c).uses c x && decide (1 ≤ (s.slot x).src ∧ (s.slot x).src ≤ 72) && s.tapOpen ((s.slot x).src - 1)

/-- A START for slot `c` comes in the cycle in which a code-density run of a channel that it uses began: the START is
taken, and the run waits for the slot to end (R251). -/
def State.yieldCal (s : State) (c : Nat) : State :=
  match s.tiu.cal with
  | some x =>
    s.when (decide (s.tiu.calCycle = s.cycle) && (s.slot c).uses c x) fun s =>
      ({ s with tiu := { s.tiu with cal := none } } : State).modSlot x fun v => { v with state := v.before }
  | none => s

/-- TIU_CMD START (R237). -/
def State.tiuStart (s : State) (c : Nat) : Act :=
  let kept := s
  let s := s.yieldCal c
  let v := s.slot c
  let v := if s.tapGap c then v.set mfTapGap else v
  let now : Int := (s.trussNow.toNat * tickFu : Nat)
  kept.act
    [rangeIf (decide (v.kind = 0)), (v.active || s.calBlocks c, .blockRunning), (decide (s.tbCode = 3), .wrongState)]
    ((s.setSlot c { v.zero with
      state := .armed, armAt := if v.armKind = 0 then some now else none, skipA := 0, skipB := 0 }).arm c)

/-- TIU_CMD STOP (R238, R241): the results taken stand. -/
def State.tiuStop (s : State) (c : Nat) : Act :=
  let s := s.armDue
  let v := s.slot c
  s.act []
    (if v.state = .armed ∨ v.state = .running then
      let s := if v.state = .running ∧ v.kind = 4 then s.skew c true else s
      s.modSlot c fun w => { w with
        state := if w.state = .done then .done else .stopped, armAt := none, starts := [], stops := [], gateN := 0
        stopped := if v.state = .running then
            some { cycle := s.cycle, armAt := v.armAt, starts := v.starts, stops := w.stops, gateN := v.gateN }
          else none }
    else s)

/-- TIU_CMD CLEAR (R238). -/
def State.tiuClear (s : State) (c : Nat) : Act :=
  let v := s.slot c
  s.act [(decide (v.state = .armed ∨ v.state = .running), .blockRunning)] (s.setSlot c v.zero)

/-- The slots that use channel `c`, or a code-density run on it, are at work (R252). -/
def State.channelTaken (s : State) (c : Nat) : Bool :=
  decide (s.tiu.cal = some c) || (List.range 16).any fun i => (s.slot i).active && (s.slot i).uses i c

/-- TIU_CH_CFG (R225, R226). -/
def State.writeTiuCh (s : State) (c w : Nat) : Act :=
  s.act [rangeIf (decide (94 ≤ bits w 31 25) || decide (bits w 22 21 = 3) || decide (10 < bits w 19 16)),
      (s.channelTaken c, .blockRunning)]
    (s.modSlot c fun v => { v with cfg := BitVec.ofNat 32 w &&& 0xFFFF0FFF })

/-- TIU_MEAS (R237, R252). -/
def State.writeTiuMeas (s : State) (c w : Nat) : Act :=
  let k := bits w 31 28
  s.act [rangeIf (decide (6 ≤ k) || decide (bits w 23 22 = 3) || decide ((k = 1 ∨ k = 4) ∧ bits w 27 24 = c)),
      ((s.slot c).active, .blockRunning)]
    (s.modSlot c fun v => { v with meas := BitVec.ofNat 32 w &&& 0xFFFF80FF })

/-- A write of another entry of slot `c` (R252). -/
def State.writeSlot (s : State) (c : Nat) (bad : Bool) (f : TiuSlot → TiuSlot) : Act :=
  s.act [rangeIf bad, ((s.slot c).active, .blockRunning)] (s.modSlot c f)

/-- TB_SEL (R235). -/
def State.writeTbSel (s : State) (v : Nat) : Act :=
  s.act [rangeIf (decide (1 < v)), (s.synM.en, .blockRunning)] { s with tiu := { s.tiu with xtal := decide (v = 1) } }

/-- STREAM_TAIL (R242). -/
def State.writeTail (s : State) (v : Word) : Act :=
  s.act [rangeIf (decide (65536 < (s.tiu.head - v).toNat))] { s with tiu := { s.tiu with tail := v } }

/-- STREAM_DATA (R242). -/
def State.streamData (s : State) : Bytes :=
  let n := min 560 (s.tiu.head - s.tiu.tail).toNat
  (List.range n).flatMap fun i =>
    match sget (fun _ => none) s.tiu.ring ((s.tiu.tail.toNat + i) % 65536) with
    | some v => v.bytes
    | none => List.replicate 16 0

/-- The largest whole number whose square is at most `n`. -/
def isqrt (n : Nat) : Nat :=
  (List.range 128).foldr (fun i r => if (r + 2 ^ i) * (r + 2 ^ i) ≤ n then r + 2 ^ i else r) 0

/-- The square root of `a / b`, times `k`, rounded half to even (R245): the least or the next whole number `r` by
comparing 4 k^2 a with (2 r + 1)^2 b. -/
def roundRoot (k a b : Nat) : Nat :=
  let r := isqrt (k * k * a / b)
  let x := 4 * k * k * a
  let y := (2 * r + 1) * (2 * r + 1) * b
  if y < x ∨ (y = x ∧ r % 2 = 1) then r + 1 else r

/-- Unit of a slot's reported statistics (R245). -/
def TiuSlot.unit (v : TiuSlot) : Nat := if v.kind = 3 then 1 else 31250

/-- RES_MEAN and RES_SD (R245). -/
def TiuSlot.mean (v : TiuSlot) : Int := if v.count = 0 then 0 else roundHalfEven (v.unit * v.s1) v.count
def TiuSlot.sd (v : TiuSlot) : Int :=
  if v.count ≤ 1 then 0
  else roundRoot v.unit (v.count * v.s2 - v.s1.natAbs ^ 2) (v.count * (v.count - 1))

/-- SlotState codes. -/
def SlotState.code : SlotState → Nat
  | .idle => 0
  | .armed => 1
  | .running => 2
  | .done => 3
  | .stopped => 4
  | .calibrating => 5
  | .aborted => 6

/-! ## The MK stamper (R175, R177, R250) -/

/-- MK_CFG of a port. -/
def State.mkCfgOf (s : State) (p : Nat) : Nat := (sget (fun _ => 0) s.truss.mkCfg p).toNat

/-- Whether channel `n` contributes 1 to MK port `q` at its balls throughout the 2.0 ns before and after device time
`x`, and whether it does at some time of them (R104, R127, R175). -/
def State.contributes (s : State) (n q x : Nat) : Bool × Bool :=
  let c := (s.present n).chan n
  let lo := s.ballSample n (x - 2 * nsFs)
  let hi := s.ballSample n (x + 2 * nsFs)
  let ys := (List.range (hi - lo + 1)).map fun i => c.contributes q (lo + i)
  (ys.all id, ys.any id)

/-- The level that output port `q` drives at device time `x` (R104, R175): where a contribution changes within 2.0 ns
of it, either may be read, so it is free. -/
def State.mkDriven (s : State) (q x : Nat) : Bool :=
  let vs := (List.range 64).map fun n => s.contributes n q x
  if vs.any (·.1) then true
  else if vs.any (·.2) then (Config.freeValue s.draws (120 + q)).getLsbD 0 else false

/-- The level of MK port `q` when port `p` has had its edge (R104, R175): that port's is the one after its edge, an
output's the one it drives, any other's the one on its pair. -/
def State.mkLevel (s : State) (p q : Nat) (rising : Bool) (levels : BitVec 16) : Bool :=
  if q = p then rising
  else if bitOf (s.mkCfgOf q) 16 then s.mkDriven q s.now
  else levels.getLsbD q

/-- The payload of an MK bell (R175): PAY, or the sampled levels. -/
def State.mkPayload (s : State) (p : Nat) (rising : Bool) (levels : BitVec 16) : Byte :=
  let cfg := s.mkCfgOf p
  if bitOf cfg 28 then
    let base := bits cfg 27 24
    BitVec.ofNat 8 (((List.range 8).map fun i => flag (s.mkLevel p ((base + i) % 16) rising levels) i).foldl (· + ·) 0)
  else BitVec.ofNat 8 (bits cfg 15 8)

/-- The edge is of the kind that the port's bells are raised by (R175). -/
def mkSelected (cfg : Nat) (rising : Bool) : Bool :=
  bitOf cfg 31 && !bitOf cfg 16 && (match bits cfg 30 29 with
    | 0 => rising
    | 1 => !rising
    | _ => true)

/-- MK_EDGE (R175 to R177, R250): while the port's interpolators are calibrated one after the other, the other one
serves alone; which one that is the spec leaves open (assumption log 2). -/
def opMkEdge (s : State) (p : Nat) (rising : Bool) (code : BitVec 12) (levels : BitVec 16) : State :=
  let cfg := s.mkCfgOf p
  if !s.time.running || !mkSelected cfg rising then s
  else
    let v := s.slot p
    let cal := decide (s.tiu.cal = some p)
    let dead := if cal then 8 * nsFs else 4 * nsFs
    let busy := match v.mkAt with
      | x :: _ => decide (s.now < x + dead)
      | [] => false
    if busy then s.modSlot p fun v => { v with mkMissed := v.mkMissed + 1 }
    else
      let i := if cal then (Config.freeValue s.draws 93).toNat % 2 else v.mkRot
      let fu := s.stampNow (64 + 2 * p + i) code
      let s := s.modSlot p fun v => { v with mkAt := (s.now :: v.mkAt).take 2, mkRot := (v.mkRot + 1) % 2 }
      let s := s.gateEdge true p fu
      let number := cfg % 256
      let origin := ticksUp fu
      let s := if s.ownsAt number origin && !s.admissible number origin then
          { s with truss := { s.truss with mkLost := s.truss.mkLost + 1 } } else s
      s.raiseBell number (s.mkPayload p rising levels) origin srcMk p s.trussNow

/-- MK_CFG (R175). -/
def State.writeMkCfg (s : State) (p w : Nat) : Act :=
  s.act [rangeIf (decide (bits w 30 29 = 3))]
    { s with truss := { s.truss with mkCfg := sset (fun _ => 0) s.truss.mkCfg p (BitVec.ofNat 32 w &&& 0xFF01FFFF) } }

/-! ## Meanings -/

def execTiuEdge (t : Nat) (c : Fin 17) (rising : Bool) (code : BitVec 12) (s : State) : Result :=
  event s t fun s => opTiuEdge s c rising code
def execStampDrain (t : Nat) (s : State) : Result := event s t opStampDrain
def execTiuArm (t : Nat) (slot : Fin 16) (s : State) : Result := event s t fun s => opTiuArm s slot
def execMkEdge (t : Nat) (port : Fin 16) (rising : Bool) (code : BitVec 12) (levels : BitVec 16) (s : State) : Result :=
  event s t fun s => opMkEdge s port rising code levels

end Sys2Proof.Machine
end

