-- ==== Sys2Proof/Machine/Plumb.lean ====
section
/-! DEFINITION. Plumb and the Yearbook (10_plumb_and_yearbook.md, R253 to R280): triggers, the sequencer, the channel
under a run, agreement and retries, code-density runs of the TIU, and commits. -/

namespace Sys2Proof.Machine

/-! ## Triggers (R259, R269) -/

/-- LAST_REASON codes (R264). -/
def prOk : Nat := 0x00
def prVrefUndeclared : Nat := 0x01
def prVrefWindow : Nat := 0x02
def prRefAbsent : Nat := 0x03
def prSynUnlocked : Nat := 0x04
def prTempSlope : Nat := 0x05
def prDetectNotClear : Nat := 0x06
def prNoCover : Nat := 0x07
def prFactoryOnly : Nat := 0x08
def prCoreFailed : Nat := 0x09
def prTrimRange : Nat := 0x0A
def prDisagree : Nat := 0x0B
def prAborted : Nat := 0x0C
def prClockDisabled : Nat := 0x0D

/-- PLUMB_DT_EFF: PLUMB_DT, or the tighter threshold of the ageing monitor (R259, R352). -/
def State.dtEff (s : State) : Nat := max 4 (s.plumb.dt / 2 ^ s.card.dtSteps)

/-- The TIU flag is set at a rank; one that is set stays (R259). -/
def State.flagTiu (s : State) (rank : PlumbRank) : State :=
  if s.plumb.mode = 2 ∨ s.plumb.parity = true then s
  else { s with plumb := { s.plumb with tiuFlag := s.plumb.tiuFlag.or (some rank) } }

/-- PLUMB_TEMP_TRIGGER (R259): a core's temperature, or with none the clock die's, is measured. -/
def opPlumbTempTrigger (s : State) (core : Option (Fin 72)) (temp : BitVec 16) : State :=
  let far (x : BitVec 16) : Bool := decide (s.dtEff < (temp.toInt - x.toInt).natAbs)
  match core with
  | some i =>
    let s := s.modCore i fun c => { c with temp := temp }
    if s.plumb.mode = 0 ∧ far (s.core i).tempAtAmp = true then s.flagCore i true true .temperature else s
  | none =>
    if s.plumb.mode = 0 ∧ (s.plumb.tiuTemp.map far).getD false = true then s.flagTiu .temperature else s

/-- PLUMB_PERIODIC_TRIGGER (R259). -/
def opPlumbPeriodicTrigger (s : State) : State :=
  let p := s.plumb
  if p.mode = 0 ∧ p.period ≠ 0 ∧ p.periodAt + p.period * secFs ≤ s.now then
    let s : State := { s with plumb := { p with periodAt := s.now } }
    (s.forAll (List.range 72) fun s i => s.flagCore i true true .periodic).flagTiu .periodic
  else s

/-- PLUMB_CMD RUN (R259, R269, R280). -/
def State.plumbRun (s : State) (kinds : Nat) (target : Nat) : Act :=
  let amp := bitOf kinds 0
  let time := bitOf kinds 1
  let cores := amp || time
  let s' := s.forAll ((List.range 72).filter fun i => decide (target = 0xFF ∨ target = i)) fun s i =>
    if cores then s.flagCore i amp time .commanded else s
  s.act
    [rangeIf (decide (kinds % 8 = 0) || (cores && decide (72 ≤ target ∧ target ≠ 0xFF))),
     (decide (s.plumb.mode = 2) || (cores && decide (target < 72) && (s.core target).failed), .wrongState)]
    (if bitOf kinds 2 then s'.flagTiu .commanded else s')

/-- PLUMB_CMD CLEAR_FAILED (R266). -/
def State.plumbClearFailed (s : State) (target : Nat) : Act :=
  s.act [rangeIf (decide (72 ≤ target ∧ target ≠ 0xFF))]
    (let s := s.forAll ((List.range 72).filter fun i => decide (target = 0xFF ∨ target = i)) fun s i =>
      s.modCore i fun c => { c with failed := false }
    if target = 0xFF then { s with plumb := { s.plumb with tiuFailed := 0 } } else s)

/-- Every pending flag cleared. -/
def State.clearFlags (s : State) : State :=
  let s := s.forAll (List.range 72) fun s i =>
    s.modCore i fun c => { c with
      amp := none, time := none, ampNext := none, timeNext := none, ampHeld := false, timeHeld := false }
  { s with plumb := { s.plumb with tiuFlag := none, tiuHeld := false } }

/-- A code-density run ends: the slot returns to the state it had (R247). -/
def State.endCal (s : State) : State :=
  match s.tiu.cal with
  | some c =>
    let s := s.modSlot c fun v => if v.state = .calibrating then { v with state := v.before } else v
    { s with tiu := { s.tiu with cal := none }, plumb := { s.plumb with tiuFirst := none, tiuRetries := 0 } }
  | none => s

/-- The TIU run is given up. -/
def State.dropTiuRun (s : State) : State :=
  let s := s.endCal
  { s with plumb := { s.plumb with tiuRun := none } }

/-- PLUMB_CMD CANCEL (R268). -/
def State.plumbCancel (s : State) : Act :=
  s.act []
    (let s := match s.plumb.run with
      | some r => s.abortRun r.core
      | none => s
    let s := if s.plumb.tiuRun.isSome then s.dropTiuRun.plumbFlag plAborted else s
    s.clearFlags)

/-! ## The sequencer (R260 to R263) -/

def PlumbRank.code : PlumbRank → Nat
  | .commanded => 0
  | .postLock => 1
  | .temperature => 2
  | .periodic => 3

/-- The rank of a core's work: the highest of its flags. -/
def Core.rank (c : Core) : Option Nat :=
  match c.amp, c.time with
  | none, none => none
  | some a, none => some a.code
  | none, some b => some b.code
  | some a, some b => some (min a.code b.code)

/-- The calibration-channel step of the TIU run is in progress (R261). -/
def State.calStep (s : State) : Bool := decide (s.tiu.cal = some 16)

/-- The core chosen next (R260), of those not passed over: the highest rank, then the lowest number. -/
def State.nextCore (s : State) (pass : Nat → Bool) : Option Nat :=
  (((List.range 72).filter fun i => !pass i).foldl (fun m i => match (s.core i).rank, m with
    | none, _ => m
    | some r, none => some (i, r)
    | some r, some (_, q) => if r < q then some (i, r) else m) none).map (·.1)

/-- A core's runs or handover are in progress (CORE_BUSY). -/
def State.coreBusy (s : State) : Bool :=
  s.plumb.run.isSome || (List.range 8).any fun b =>
    decide ((s.bay b).phase ≠ .idle ∧ (s.bay b).phase ≠ .unavailable) || (s.bay b).connecting.isSome

/-- The preconditions of R263 that a run's kind needs, in the table's order: the reason of the first that fails. -/
def State.precondition (s : State) (i : Nat) (k : RunKind) (e : PlumbConditions) : Option Nat :=
  let amp := decide (k = .amp)
  let nom := s.plumb.vrefNom
  let c := s.chan i
  if amp && decide (nom = 0) then some prVrefUndeclared
  else if amp && decide (nom < 200 * ((e.vref : Int) - nom).natAbs) then some prVrefWindow
  else if !amp && !(s.ref.present && decide (s.ref.mode = .refin)) then some prRefAbsent
  else if !(s.synLocked .M && !s.synM.gated) then some prSynUnlocked
  else if 8 < e.moved then some prTempSlope
  else if decide (i < 64) && !(c.detectEn && decide (c.flags &&& 0xFC = 0)) then some prDetectNotClear
  else if !(s.output i).en then some prClockDisabled
  else none

/-- A flag of core `i` cleared. -/
def State.clearFlag (s : State) (i : Nat) (k : RunKind) : State :=
  s.modCore i fun c => match k with
    | .amp => { c with amp := none, ampHeld := false }
    | .time => { c with time := none, timeHeld := false }

/-- A run of core `i` is refused before it (R263). -/
def State.refuseRun (s : State) (i : Nat) (k : RunKind) (reason : Nat) : State :=
  (((s.clearFlag i k).modCore i fun c => { c with reason := reason, refused := c.refused + 1 })).plumbFlag plRefused

/-- A core's first run begins, with its channel treated by the first fitting rule of R262. -/
def State.beginRuns (s : State) (i : Nat) (k : RunKind) : State :=
  let go (s : State) (handed : Bool) : State :=
    let s := (s.modCore i fun c => { c with retries := 0 }).when (decide (k = .time)) fun s => s.calFrom (i + 1)
    { s with plumb := { s.plumb with run := some { core := i, kind := k, first := none, handed := handed, retries := 0 } } }
  if 64 ≤ i then go (s.modBay (i - 64) fun b => { b with phase := .ownPlumb, channel := 0 }) false
  else if (s.chan i).state = .off ∧ (s.chan i).enable = false then go s false
  else if s.canHandOver i then go (s.connect i) true
  else
    let s := if (s.core i).amp.isSome then s.refuseRun i .amp prNoCover else s
    if (s.core i).time.isSome then s.refuseRun i .time prNoCover else s

/-- The kind of a core's next run: amplitude first (R260), and whether its flag stays from a run whose check failed
(R264). -/
def Core.nextRun (c : Core) : RunKind := if c.amp.isSome then .amp else .time
def Core.heldFlag (c : Core) : Bool := if c.amp.isSome then c.ampHeld else c.timeHeld

/-- The bandgap measures VREF_EXT for the check of an amplitude run (R257, R263). -/
def State.measureVref (s : State) (k : RunKind) (e : PlumbConditions) : State :=
  s.when (decide (k = .amp)) fun s => { s with plumb := { s.plumb with vrefMeas := e.vref } }

/-- The sequencer passes over a core for now: a run whose check failed is tried again only once its preconditions hold
(R264), and a substitute is measured only while it reads IDLE (R262). -/
def State.passesOver (s : State) (e : PlumbConditions) (i : Nat) : Bool :=
  ((s.core i).heldFlag && (s.precondition i (s.core i).nextRun e).isSome)
    || (decide (64 ≤ i) && (s.bay (i - 64)).parity)

/-- PLUMB_START (R260, R262 to R264). -/
def opPlumbStart (s : State) (e : PlumbConditions) : State :=
  if s.coreBusy || decide (s.plumb.mode = 2) || s.plumb.parity then s
  else match s.nextCore (s.passesOver e) with
    | none => s
    | some i =>
      let k := (s.core i).nextRun
      if decide (k = .time) && s.calStep then s
      else if (s.core i).failed then s.refuseRun i k prCoreFailed
      else
        let s := s.measureVref k e
        match s.precondition i k e with
        | some r => s.refuseRun i k r
        | none => s.beginRuns i k

/-! ## Ends of runs (R254, R255, R264 to R267) -/

/-- The core's runs are over: the channel is handed back, a substitute is free (R141, R262). -/
def State.finishCore (s : State) (i : Nat) : State :=
  let s := s.endRuns i
  if i < 64 then s.handBack i
  else s.modBay (i - 64) fun b => if b.phase = .ownPlumb then { b with phase := .idle } else b

/-- The two results of a pair agree (R265). -/
def resultsAgree : PlumbResult → PlumbResult → Bool
  | .amp a g o, .amp b h p =>
    decide (a.length = b.length) && (a.zip b).all (fun x => decide ((x.1 - x.2).natAbs ≤ 1))
      && decide ((g - h).natAbs ≤ 5) && decide ((o - p).natAbs ≤ 12)
  | .time a, .time b => decide ((a - b).natAbs ≤ 30)
  | _, _ => false

/-- A result of a run's kind, of the right shape: 63 cells. -/
def resultFits (m : PlumbResult) (k : RunKind) : Bool :=
  match m, k with
  | .amp a _ _, .amp => decide (a.length = 63)
  | .time _, .time => true
  | _, _ => false

/-- The error e of a timing run of core `i`: the mean difference at the pad less the route from the pad to the balls; a
substitute's is its own, for it serves no channel (R18, R227, R255). -/
def State.runError (s : State) (i : Nat) (pad : Int) : Int :=
  match s.ballCore i with
  | some n => pad - Config.route n
  | none => pad

/-- FINE_TRIM that a timing error gives (R255). -/
def State.fineFrom (s : State) (i : Nat) (e : Int) : Int :=
  let (a, b) := s.fVco s.synM
  (s.core i).trims.fine - roundHalfEven (e * 4096 * a) (secFs * b)

/-- A core is marked PLUMB_FAILED (R266, R267). -/
def State.markFailed (s : State) (i : Nat) (reason : Nat) : State :=
  ((s.modCore i fun c => { c with failed := true, reason := reason }).plumbFlag plFailed).alert alPlumbFailed

/-- The factory band table: one entry over the whole VCO range (assumption log 8). -/
def factoryBands : Syn → Sparse Band
  | .M => [(0, { lo := 12000000, hi := 16000000, valid := true })]
  | .A => [(0, { lo := 10000000, hi := 14000000, valid := true })]

/-- The factory record (assumption log 7). -/
def factoryRecord : YbRecord :=
  { sealed := true, type := 0, seq := 0, utc := BitVec.allOnes 64, failedCores := 0, tempMean := 0, vrefNom := 0
    refFreq := 10000000, trims := [], bandsM := factoryBands .M, bandsA := factoryBands .A, tiu := [], intact := true
    words := 1021 }

/-- What Yearbook slot `k` holds before any commit. -/
def ybInit (k : Nat) : Option YbRecord := if k = 0 then some factoryRecord else none

/-- The record in slot `k`. -/
def State.ybSlot (s : State) (k : Nat) : Option YbRecord := sget ybInit s.plumb.slots k

/-- Trims and FLAGS of core `i` in a record; a table's unlisted entries are those of slot 0. -/
def YbRecord.core (r : YbRecord) (i : Nat) : Trims × BitVec 8 := sget (fun _ => ({}, 6)) r.trims i

/-- The summary of interpolator `i` in a record. -/
def YbRecord.summary (r : YbRecord) (i : Nat) : List Int × Nat := sget (fun _ => (List.replicate 7 0, 64)) r.tiu i

/-- The excursion of a core's trims as whole percent with its kind (R352): 1 cell trim, 2 gain, 3 fine; the largest
fraction's, the first of equal ones. -/
def State.excursion (s : State) (i : Nat) : Nat × Nat :=
  let t := (s.core i).trims
  -- the three fractions, over 2,048 times D
  let div := max 1 (s.output i).div
  let cell := (t.cells.map fun b => ((b.toNat : Int) - 128).natAbs).foldl max 0 * 16 * div
  let gain := t.gain.toInt.natAbs * div
  let fine0 := match s.ybSlot 0 with
    | some r => (r.core i).1.fine
    | none => 0
  let fine := (t.fine - fine0).natAbs
  let percent (x : Nat) : Nat := x * 100 / (2048 * div)
  if gain ≤ cell ∧ fine ≤ cell then (percent cell, 1)
  else if fine ≤ gain then (percent gain, 2) else (percent fine, 3)

/-- The trim level that recorded excursions reach (R352). -/
def trimLevel (trend : Sparse (Nat × Nat)) : Nat :=
  let top := (trend.map (·.2.1)).foldl max 0
  if 90 ≤ top then 3 else if 75 ≤ top then 2 else if 50 ≤ top then 1 else 0

/-- TRIM_TREND and DT_STEPS after an installed result (R352, R353). -/
def State.noteTrend (s : State) (i : Nat) : State :=
  let e := s.excursion i
  let old := sget (fun _ => (0, 0)) s.card.trend i
  let trend := if old.1 < e.1 then sset (fun _ => (0, 0)) s.card.trend i e else s.card.trend
  let s : State := { s with card := { s.card with trend := trend } }
  let level := trimLevel trend
  if s.card.dtSteps < level then
    ({ s with card := { s.card with dtSteps := level, flags := s.card.flags ||| 0b01000#5 } } : State).alert alAgeing
  else s

/-- FLAGS of a core entry (R272). -/
def Core.flags (c : Core) : BitVec 8 := BitVec.ofNat 8 (flag c.failed 0 + flag c.ampFactory 1 + flag c.timeFactory 2)

/-- A result is installed (R265): trims change, PLUMB_COUNT counts, PLUMB_LAST and PLUMB_AGE restart. -/
def State.install (s : State) (i : Nat) (f : Core → Core) : State :=
  let now := s.trussNow
  let s : State := { s with plumb := { s.plumb with
    trimsOld := keepOld s.plumb.trimsOld s.moment (fun i => ((s.core i).trims, (s.core i).flags)) [i] } }
  let s := s.modCore i fun c => { f c with
    reason := prOk, count := c.count + 1, last := now, lastAt := some s.now }
  let s : State := { s with card := { s.card with
    plumbs := sset (fun _ => 0) s.card.plumbs i (satInc 32 (sget (fun _ => 0) s.card.plumbs i)) } }
  let s := s.noteTrend i
  s.when (s.fineAtOnce i) fun s => s.settleFine i

/-- The second result of an agreeing pair: installed, or turned away by its range (R265, R267). -/
def State.settleResult (s : State) (i : Nat) (m : PlumbResult) : State :=
  match m with
  | .amp cells g o =>
    if cells.any (fun x => decide (x < 0 ∨ 255 < x)) || decide (g < -2048 ∨ 2047 < g) || decide (o < -2048 ∨ 2047 < o) then
      s.markFailed i prTrimRange
    else s.install i fun c => { c with
      trims := { c.trims with
        cells := cells.map fun x => BitVec.ofInt 8 x, gain := BitVec.ofInt 12 g, offset := BitVec.ofInt 12 o }
      ampFactory := false }
  | .time pad =>
    let fine := s.fineFrom i (s.runError i pad)
    let with_ (c : Core) : Core := { c with trims := { c.trims with fine := fine } }
    let o := s.output i
    if decide (-(2 ^ 23 : Int) ≤ fine ∧ fine < 2 ^ 23) && (s.modCore i with_).delayOk i o.div o.coarse o.fine then
      s.install i fun c => { with_ c with timeFactory := false }
    else (s.modCore i fun c => { c with reason := prTrimRange }).plumbFlag plRange

/-- The next kind of the core begins within the same handover, or the core's runs are over (R260). Where its
precondition fails it is refused (R263), but for one whose flag stays from a run whose check failed (R264). -/
def State.nextKind (s : State) (i : Nat) (k : RunKind) (e : PlumbConditions) : State :=
  let s := s.clearFlag i k
  if k = .amp ∧ (s.core i).time.isSome ∧ (s.core i).failed = false then
    match s.precondition i .time e with
    | some r => (s.when (!(s.core i).timeHeld) fun s => s.refuseRun i .time r).finishCore i
    | none => match s.plumb.run with
      | some r => ({ s with plumb := { s.plumb with run := some { r with kind := .time, first := none, retries := 0 } } } : State).calFrom
          (i + 1)
      | none => s
  else s.finishCore i

/-- The rank of the run in progress. -/
def State.runRank (s : State) (i : Nat) (k : RunKind) : Option PlumbRank :=
  match k with
  | .amp => (s.core i).amp
  | .time => (s.core i).time

/-- TEMP_AT_AMP: the core's temperature at the end of an agreeing amplitude run, whatever becomes of its result
(R259). -/
def State.noteTemp (s : State) (i : Nat) (k : RunKind) (temp : BitVec 16) : State :=
  s.when (decide (k = .amp)) fun s => s.modCore i fun c => { c with temp := temp, tempAtAmp := temp, ampDone := true }

/-- The flag of a run whose check failed: a commanded one is cleared, another stays for a later turn (R264). -/
def State.keepFlag (s : State) (i : Nat) (k : RunKind) : State :=
  if s.runRank i k = some .commanded then s.clearFlag i k
  else s.modCore i fun c => match k with
    | .amp => { c with ampHeld := true }
    | .time => { c with timeHeld := true }

/-- A disagreement of core `i` is counted (R266). -/
def State.countDisagree (s : State) (i : Nat) : State :=
  let s := (s.modCore i fun c => { c with disagrees := c.disagrees + 1 }).plumbFlag plDisagree
  { s with card := { s.card with
    disagrees := sset (fun _ => 0) s.card.disagrees i (satInc 32 (sget (fun _ => 0) s.card.disagrees i)) } }

/-- PLUMB_RUN_COMPLETE (R264 to R267): a run of the core being worked on ends. -/
def opPlumbRunComplete (s : State) (e : PlumbConditions) (m : PlumbResult) : State :=
  match s.plumb.run with
  | none => s
  | some r =>
    let i := r.core
    let ready := !r.handed || decide ((s.bay (i / 8)).phase = .cover ∧ (s.bay (i / 8)).channel = i)
    if !ready || !resultFits m r.kind || (decide (r.kind = .time) && s.calStep) then s
    else
      let s := s.measureVref r.kind e
      match s.precondition i r.kind e with
      | some reason => ((s.keepFlag i r.kind).modCore i fun c => { c with reason := reason }).finishCore i
      | none => match r.first with
        | none => { s with plumb := { s.plumb with run := some { r with first := some m } } }
        | some m1 =>
          if resultsAgree m1 m then ((s.noteTemp i r.kind e.temp).settleResult i m).nextKind i r.kind e
          else
            let s := s.countDisagree i
            if r.retries < 3 then
              let s := s.modCore i fun c => { c with retries := r.retries + 1 }
              { s with plumb := { s.plumb with run := some { r with first := none, retries := r.retries + 1 } } }
            else ((s.markFailed i prDisagree).clearFlag i r.kind).finishCore i

/-! ## Code-density runs (R247, R248, R256, R261) -/

/-- The interpolators calibrated with channel `c` (R247, R249, R250). -/
def calInterps (c : Nat) : List Nat :=
  if c < 16 then [4 * c, 4 * c + 1, 4 * c + 2, 4 * c + 3, 64 + 2 * c, 65 + 2 * c] else [96, 97, 98, 99]

/-- The hits that a run gives for an interpolator. -/
def hitsOf (hits : List (Fin 100 × Sparse Nat)) (i : Nat) : Sparse Nat :=
  match hits.find? fun p => decide (p.1.val = i) with
  | some p => p.2
  | none => []

/-- The checks of R248 on one interpolator's hits. -/
def hitsPass (hits : Sparse Nat) : Bool :=
  let b := BinTable.counted hits
  decide (4194304 ≤ hitsAll hits)
    && (List.range 4096).all (fun j => decide (b.width j ≤ 4095))
    && decide (2048 ≤ ((List.range 4096).filter fun j => decide (b.width j ≠ 0)).length)

/-- Two tables agree (R265). -/
def tablesAgree (a b : Sparse Nat) : Bool :=
  (List.range 4097).all fun j => decide (((BinTable.counted a).cum j - (BinTable.counted b).cum j).natAbs ≤ 2048)

/-- The preconditions of a TIU run (R263). -/
def State.tiuPrecondition (s : State) (e : PlumbConditions) : Bool :=
  s.ref.present && decide (s.ref.mode = .refin) && s.synLocked .M && !s.synM.gated && decide (e.moved ≤ 8)

/-- The slots that use channel `c` are at rest (R247). -/
def State.calFree (s : State) (c : Nat) : Bool :=
  (List.range 16).all fun i => !((s.slot i).active && (s.slot i).uses i c)

/-- A timing run is in progress (R261). -/
def State.timing (s : State) : Bool :=
  match s.plumb.run with
  | some r => decide (r.kind = .time)
  | none => false

/-- CODE_DENSITY_START (R247, R256, R263): the TIU run begins with channel 0 and goes on channel by channel. -/
def opCodeDensityStart (s : State) (c : Nat) (e : PlumbConditions) : State :=
  let p := s.plumb
  let turn := match p.tiuRun with
    | some x => decide (x = c)
    | none => p.tiuFlag.isSome && decide (c = 0 ∧ p.mode ≠ 2) && !p.parity
  if !turn || s.tiu.cal.isSome || !s.calFree c || (decide (c = 16) && s.timing) then s
  else if !s.tiuPrecondition e then
    if p.tiuHeld && p.tiuRun.isNone then s
    else ({ s with plumb := { p with tiuRun := none, tiuFlag := none, tiuHeld := false } } : State).plumbFlag plRefused
  else
    let s := s.modSlot c fun v => { v with state := .calibrating, before := v.state }
    { s with
      tiu := { s.tiu with cal := some c, calCycle := s.cycle }
      plumb := { p with
        tiuRun := some c, tiuFirst := none, tiuRetries := 0, tiuInstalled := p.tiuRun.isSome && p.tiuInstalled } }

/-- The TIU run goes on to the next channel, or is over: its flag is cleared (R256, R260), and the clock die's
temperature is the reference of R259 if the run has installed a table. -/
def State.nextTiu (s : State) (c : Nat) (temp : BitVec 16) : State :=
  let s := s.endCal
  if c < 16 then { s with plumb := { s.plumb with tiuRun := some (c + 1) } }
  else { s with plumb := { s.plumb with
    tiuRun := none, tiuFlag := none, tiuHeld := false
    tiuTemp := if s.plumb.tiuInstalled then some temp else s.plumb.tiuTemp } }

/-- CODE_DENSITY_COMPLETE (R247, R248, R256, R265, R266): one of the two runs of channel `c` ends. A pair of which a
table fails R248 is treated as one that disagrees. -/
def opCodeDensityComplete (s : State) (c : Nat) (hits : List (Fin 100 × Sparse Nat)) (e : PlumbConditions) : State :=
  if s.tiu.cal ≠ some c then s
  else if !s.tiuPrecondition e then
    let s := s.dropTiuRun
    let commanded := decide (s.plumb.tiuFlag = some .commanded)
    { s with plumb := { s.plumb with tiuFlag := if commanded then none else s.plumb.tiuFlag, tiuHeld := !commanded } }
  else match s.plumb.tiuFirst with
  | none => { s with plumb := { s.plumb with tiuFirst := some hits } }
  | some one =>
    let is := calInterps c
    if is.all fun i => hitsPass (hitsOf one i) && hitsPass (hitsOf hits i) && tablesAgree (hitsOf one i) (hitsOf hits i) then
      let s : State := { s with
        plumb := { s.plumb with tiuInstalled := true, tablesOld := keepOld s.plumb.tablesOld s.moment s.table is }
        tiu := { s.tiu with
          tables := is.foldl (fun m i => sset BinTable.init m i (.counted (hitsOf hits i))) s.tiu.tables } }
      s.nextTiu c e.temp
    else
      let s := s.plumbFlag plDisagree
      if s.plumb.tiuRetries < 3 then
        { s with plumb := { s.plumb with tiuFirst := none, tiuRetries := s.plumb.tiuRetries + 1 } }
      else
        let s := (s.plumbFlag plFailed).alert alPlumbFailed
        let s : State := { s with plumb := { s.plumb with
          tiuFailed := s.plumb.tiuFailed ||| BitVec.ofNat 17 (2 ^ c) } }
        s.nextTiu c e.temp

/-! ## The Yearbook (R270 to R279) -/

/-- A packed band entry (R273). -/
def Band.packed (b : Band) : Nat :=
  b.lo % 2 ^ 24 + b.hi % 2 ^ 24 * 2 ^ 24 + b.code.toNat * 2 ^ 48 + b.gain.toNat * 2 ^ 56 + flag b.valid 63

/-- The number of the highest-numbered written slot. -/
def State.ybTop (s : State) : Nat := (s.plumb.slots.map (·.1)).foldl max 0

/-- YB_FREE (R270). -/
def State.ybFree (s : State) : Nat := 132 - s.ybTop

/-- The 24-bit value of a core entry (R272). -/
def Trims.packed (t : Trims) : Nat := t.gain.toNat + t.offset.toNat * 4096

/-- The 70 bytes of a core entry (R272). -/
def coreEntry (t : Trims) (flags : BitVec 8) : Bytes :=
  t.cells ++ leBytes 3 t.packed ++ leBytes 3 (lowBits 24 t.fine) ++ [flags]

/-- Trims and FLAGS of core `i` without what a result installed in this ECLK cycle has changed (R268, R344). -/
def State.coreBefore (s : State) (i : Nat) : Trims × BitVec 8 :=
  oldIn s.plumb.trimsOld s.moment (fun i => ((s.core i).trims, (s.core i).flags)) i

/-- The TRIMS section of a snapshot (R268, R344). -/
def State.trimsBefore (s : State) : Bytes := (List.range 72).flatMap fun i => coreEntry (s.coreBefore i).1 (s.coreBefore i).2

/-- The TRIMS section of the live trims (R276). -/
def State.liveTrims (s : State) : Bytes :=
  (List.range 72).flatMap fun i => coreEntry (s.core i).trims (s.core i).flags

/-- LIVE_TRIM_DIGEST (R276): the digest, most significant byte first. -/
def State.trimDigest (s : State) : Bytes := (leBytes 48 (Config.sha384 s.liveTrims).toNat).reverse

/-- The summary of a bin table in force (R274). -/
def BinTable.summary (b : BinTable) : List Int × Nat :=
  ((List.range 7).map fun k => max (-32767) (min 32767 (b.cum (512 * (k + 1)) - 131072 * (k + 1 : Nat)))
   , min 65535 (b.hits / 65536))

/-- The image of a record up to the end of its payload (R271). -/
def YbRecord.body (r : YbRecord) : Bytes :=
  let factory := decide (r.type = 0)
  leBytes 4 (0x01004259 + r.type * 65536) ++ leBytes 4 r.seq ++ leBytes 8 r.utc.toNat
    ++ leBytes 4 (if factory then 8168 else 7848)
    ++ leBytes 4 (r.failedCores * 65536 + lowBits 16 r.tempMean) ++ leBytes 4 r.vrefNom ++ leBytes 4 r.refFreq
    ++ ((List.range 72).flatMap fun i => coreEntry (r.core i).1 (r.core i).2)
    ++ ((List.range 64).flatMap fun i => leBytes 8 (sget (fun _ => ({} : Band)) r.bandsM i).packed)
    ++ ((List.range 64).flatMap fun i => leBytes 8 (sget (fun _ => ({} : Band)) r.bandsA i).packed)
    ++ ((List.range 100).flatMap fun i =>
      let (dev, h) := r.summary i
      (dev.flatMap fun d => leBytes 2 (lowBits 16 d)) ++ leBytes 2 h)
    ++ (if factory then ((List.range 72).flatMap fun i => leBytes 4 (lowBits 32 (Config.route i)))
        ++ ((List.range 8).flatMap fun i => leBytes 4 (Config.baySense i)) else [])

/-- A record whole: header, payload, digest, signature and seal word (R271). -/
def YbRecord.whole (r : YbRecord) : Bytes :=
  let b := r.body
  b ++ (leBytes 48 (Config.sha384 b).toNat).reverse ++ (leBytes 96 (Config.ecdsaSign b).toNat).reverse
    ++ leBytes 8 (if r.sealed then 1 else 0)

/-- Words of a user record that step 3 of a commit programs, and how long a word takes (R278). -/
def ybWordsMax : Nat := 980
def ybWordFs : Nat := 8 * usFs

/-- When programming of the commit in progress begins, and when the seal word is reached: how long signing and reading
back take is not stated (free values, within the 40 ms of R278; assumption log 2). -/
def State.ybProgramAt (s : State) : Nat :=
  s.plumb.commitAt.1 + (Config.freeValue s.plumb.commitAt.2 95).toNat % (32 * msFs)
def State.ybSealAt (s : State) : Nat :=
  s.ybProgramAt + ybWordsMax * ybWordFs + (Config.freeValue s.plumb.commitAt.2 96).toNat % (160 * usFs)

/-- Words that the commit in progress has programmed (R278). -/
def State.ybWords (s : State) : Nat := min ybWordsMax ((s.now - s.ybProgramAt) / ybWordFs)

/-- The bytes that `w` programmed words of a record leave in its slot of `n` bytes: the rest is not programmed and reads
zero (R270). The last word of one whose read-back went wrong is a free value (assumption log 2). -/
def YbRecord.programmed (r : YbRecord) (k w n : Nat) : Bytes :=
  let good := if r.intact then w else w - 1
  let wrong := if r.intact then [] else (List.range 8).map fun i =>
    BitVec.ofNat 8 (Config.freeValue 0 (1000000 + 8192 * k + i)).toNat
  ((r.whole.take (8 * good) ++ wrong) ++ List.replicate n 0).take n

/-- The image of slot `k` (R271, YB_RECORD): a commit in progress has programmed its slot as far as it has come. -/
def State.ybImage (s : State) (k : Nat) : Bytes :=
  let n := if k = 0 then 8192 else 7872
  match s.ybSlot k, s.plumb.commit with
  | some r, _ => r.programmed k r.words n
  | none, some (j, r) => if j = k then r.programmed k s.ybWords n else List.replicate n 0
  | none, none => List.replicate n 0

/-- Mean CORE_TEMP of the 72 cores; the rounding of the mean is not stated (assumption log 2). -/
def State.tempMean (s : State) : Int :=
  let sum := ((List.range 72).map fun i => (s.core i).temp.toInt).foldl (· + ·) 0
  if sum % 72 = 0 then sum / 72 else sum / 72 + (Config.freeValue s.draws 94).toNat % 2

/-- The snapshot of a commit (R278 step 1): a result installed in its ECLK cycle is not in it (R268). -/
def State.snapshot (s : State) : YbRecord :=
  let table (i : Nat) := oldIn s.plumb.tablesOld s.moment s.table i
  { sealed := false, type := 1
    seq := (match s.ybSlot s.plumb.inForce with
      | some r => r.seq + 1
      | none => 1) % 2 ^ 32
    utc := s.plumb.utc
    failedCores := ((List.range 72).filter fun i => (s.core i).failed).length
    tempMean := s.tempMean, vrefNom := s.plumb.vrefNom, refFreq := s.ref.freq
    trims := (List.range 72).foldl (fun m i => sset (fun _ => ({}, 6)) m i (s.coreBefore i)) []
    bandsM := s.synM.bands, bandsA := s.synA.bands
    tiu := (List.range 100).foldl (fun m i => sset (fun _ => (List.replicate 7 0, 64)) m i (table i).summary) []
    intact := true, words := 0 }

/-- YB_CMD COMMIT (R277, R278). -/
def State.ybCommit (s : State) : Act :=
  s.act
    [(decide (s.plumb.mode = 2), .wrongState), (s.plumb.commit.isSome, .blockRunning),
     (decide (s.ybFree = 0), .yearbookFull), (!s.plumb.holdupOk, .fuseHoldup)]
    { s with plumb := { s.plumb with commit := some (s.ybTop + 1, s.snapshot), commitAt := (s.now, s.draws) } }

/-- A hold-up test: HOLDUP_OK takes its outcome (R382). -/
def State.holdupTest (s : State) (held : Bool) : State :=
  { s with plumb := { s.plumb with holdupOk := held, holdupAt := some s.now, holdupDue := none } }

/-- As programming ends, the test that fell due meanwhile is made (R382). -/
def State.holdupNow (s : State) : State :=
  match s.plumb.holdupDue with
  | some held => s.holdupTest held
  | none => s

/-- A commit's slot as it ends: the slot is written (R278, R279). -/
def State.ybPut (s : State) (k : Nat) (r : YbRecord) : State :=
  ({ s with plumb := { s.plumb with slots := sset ybInit s.plumb.slots k (some r), commit := none } } : State).holdupNow

/-- A commit ends early (R279): its slot is written, as far as it was programmed, and unsealed; at least its first word
stands (DESIGN CHOICE, assumption log 102). -/
def State.ybEndEarly (s : State) (k : Nat) (r : YbRecord) (right : Bool) : State :=
  s.ybPut k { r with intact := right, words := max 1 s.ybWords }

/-- COMMIT_COMPLETE (R278, R279): not before the seal word is reached, or, where a word reads back wrong, before one is
programmed. -/
def opCommitComplete (s : State) (readBackOk : Bool) : State :=
  match s.plumb.commit with
  | none => s
  | some (k, r) =>
    if s.now < (if readBackOk then s.ybSealAt else s.ybProgramAt + ybWordFs) then s
    else if readBackOk then
      let s := (s.ybPut k { r with sealed := true, words := ybWordsMax + 1 }).when
        (decide (s.plumb.utcAt = some s.moment)) State.loseWrite
      { s with plumb := { s.plumb with
        inForce := k, commits := s.plumb.commits + 1, lastUtc := r.utc, utc := BitVec.allOnes 64, done := true
        sealedAt := some s.moment } }
    else
      let s := s.ybEndEarly k r false
      { s with plumb := { s.plumb with programFail := true } }

/-- FUSE_HOLDUP_LOST (R279): programming stops, its slot written and unsealed. -/
def opFuseHoldupLost (s : State) : State :=
  match s.plumb.commit with
  | none => s
  | some (k, r) =>
    let s := s.ybEndEarly k r true
    { s with plumb := { s.plumb with holdupLost := true } }

/-! ## What a Yearbook record gives (R152, R274, R275) -/

/-- Trims of a record come into force; the fine delays follow (R156, R157). -/
def State.loadTrims (s : State) (r : YbRecord) : State :=
  s.forAll (List.range 72) fun s i =>
    let (t, f) := r.core i
    let s := s.modCore i fun c => { c with
      trims := t, failed := f.getLsbD 0, ampFactory := f.getLsbD 1, timeFactory := f.getLsbD 2 }
    s.when (s.fineAtOnce i) fun s => s.settleFine i

/-- Band tables and bin tables of a record come into force; TIU_PLUMB_FAILED marks go (R324). -/
def State.loadTables (s : State) (r : YbRecord) : State :=
  { s with
    synM := { s.synM with bands := r.bandsM }
    synA := { s.synA with bands := r.bandsA }
    tiu := { s.tiu with tables := (List.range 100).foldl (fun m i =>
      let (dev, h) := r.summary i
      sset BinTable.init m i (.rebuilt dev h)) [] } }

/-- A slot is valid but for its SEQ (R275): sealed, its header as R271 gives it, its digest and signature right. -/
def State.ybGood (s : State) (k : Nat) : Bool :=
  match s.ybSlot k with
  | some r => r.sealed && r.intact && decide ((r.type = 0) = (k = 0))
  | none => false

/-- The slots valid at boot, lowest first: each with a SEQ above every valid one below it (R275). -/
def State.ybValid (s : State) : List Nat :=
  (((List.range 133).foldl (fun (m : List Nat × Nat) k =>
    match s.ybSlot k with
    | some r => if s.ybGood k && (decide (m.1 = []) || decide (m.2 < r.seq)) then (m.1 ++ [k], r.seq) else m
    | none => m) ([], 0))).1

/-- The Yearbook as boot reads it (R275): YB_SKIPPED, YB_COMMITS, YB_LAST_UTC, YB_IN_FORCE, FACTORY_BAD. -/
def State.readYearbook (s : State) : State :=
  let good := s.ybValid
  let written := ((List.range 133).filter fun k => (s.ybSlot k).isSome).length
  let top := good.foldl max 0
  { s with plumb := { s.plumb with
    skipped := written - good.length
    commits := (good.filter fun k => decide (k ≠ 0)).length
    lastUtc := if top = 0 then BitVec.allOnes 64 else ((s.ybSlot top).map (·.utc)).getD 0
    inForce := if s.plumb.mode = 2 then 0 else top
    factoryBad := !good.contains 0 } }

/-! ## Modes (R269) and other entries -/

/-- On entry to FACTORY_ONLY each core takes the factory trims, at the next granule boundary of its channel; a
substitute, and a core whose clock stands, at once (R269). PLUMB_FAILED marks stay. -/
def State.factoryTrims (s : State) : State :=
  s.forAll (List.range 72) fun s i =>
    if i < 64 ∧ s.clockRuns i = true then s.modChan i fun c => { c with reloadK := some (s.nextBoundary i) }
    else (s.reloadCore i).when (s.fineAtOnce i) fun s => s.settleFine i

/-- PLUMB_MODE (R269). Out of FACTORY_ONLY the highest valid user record is in force again (R275), though its values are
not loaded. -/
def State.writePlumbMode (s : State) (v : Nat) : Act :=
  let busy := s.coreBusy || s.plumb.tiuRun.isSome || s.plumb.commit.isSome
  let s' : State := { s with plumb := { s.plumb with
    mode := v, inForce := if s.plumb.mode = 2 then s.ybValid.foldl max 0 else s.plumb.inForce } }
  let after :=
    if v = s.plumb.mode then s
    else if v = 1 then
      let auto (r : Option PlumbRank) : Option PlumbRank := if r = some .commanded then r else none
      let s := s'.forAll (List.range 72) fun s i => s.modCore i fun c => { c with
        amp := auto c.amp, time := auto c.time, ampNext := auto c.ampNext, timeNext := auto c.timeNext
        ampHeld := false, timeHeld := false }
      { s with plumb := { s.plumb with tiuFlag := auto s.plumb.tiuFlag, tiuHeld := false } }
    else if v = 2 then
      let s := s'.forAll (List.range 72) fun s i => s.modCore i fun c =>
        if c.amp.isSome || c.time.isSome then { c with reason := prFactoryOnly } else c
      let s := (s.clearFlags.factoryTrims).loadTables factoryRecord
      { s with plumb := { s.plumb with inForce := 0 } }
    else s'
  s.act [rangeIf (decide (2 < v)), (busy, .blockRunning)] after

/-- PLUMB_PERIOD: turned on, it counts from now. -/
def State.writePlumbPeriod (s : State) (v : Nat) : Act :=
  s.act [rangeIf (decide (v ≠ 0 ∧ (v < 60 ∨ 2592000 < v)))]
    { s with plumb := { s.plumb with period := v, periodAt := if s.plumb.period = 0 then s.now else s.plumb.periodAt } }

/-- STATE of YB_STATUS: SIGNING, PROGRAMMING and SEALING in order while a commit is in progress (R278). -/
def State.ybState (s : State) : Nat :=
  if s.plumb.commit.isNone then 0
  else if s.now < s.ybProgramAt then 1
  else if s.now < s.ybSealAt then 2 else 3

/-! ## Meanings -/

def execPlumbTempTrigger (t : Nat) (core : Option (Fin 72)) (temp : BitVec 16) (s : State) : Result :=
  event s t fun s => opPlumbTempTrigger s core temp
def execPlumbPeriodicTrigger (t : Nat) (s : State) : Result := event s t opPlumbPeriodicTrigger
def execPlumbStart (t : Nat) (e : PlumbConditions) (s : State) : Result := event s t fun s => opPlumbStart s e
def execPlumbRunComplete (t : Nat) (e : PlumbConditions) (m : PlumbResult) (s : State) : Result :=
  event s t fun s => opPlumbRunComplete s e m
def execCodeDensityStart (t : Nat) (c : Fin 17) (e : PlumbConditions) (s : State) : Result :=
  event s t fun s => opCodeDensityStart s c e
def execCodeDensityComplete (t : Nat) (c : Fin 17) (hits : List (Fin 100 × Sparse Nat)) (e : PlumbConditions) (s : State) :
    Result := event s t fun s => opCodeDensityComplete s c hits e
def execCommitComplete (t : Nat) (readBackOk : Bool) (s : State) : Result :=
  always s t fun s => (opCommitComplete s readBackOk).settleOff
def execFuseHoldupLost (t : Nat) (s : State) : Result := always s t fun s => (opFuseHoldupLost s).settleOff

end Sys2Proof.Machine
end

