-- ==== Sys2Proof/Machine/Status.lean ====
section
/-! DEFINITION. The status words: what each status entry of the object dictionary reads, by its field map. -/

namespace Sys2Proof.Machine

/-- A field of a status word, at its lowest bit. -/
def fld (v lo : Nat) : Nat := v * 2 ^ lo

/-! ## Codes of the field maps -/

def TState.code : TState → Nat
  | .idle => 0
  | .ready => 1
  | .waiting => 2
  | .halted => 3
  | .faulted => 4

def WaitKind.code : WaitKind → Nat
  | .none => 0
  | .bell => 1
  | .queue => 2
  | .wpJob => 3
  | .wpSync => 4
  | .evr => 5
  | .bellOut => 6

/-- KIND codes (R68). -/
def DKind.code : DKind → Nat
  | .play => 0
  | .stream => 1
  | .gap => 2
  | .timegate => 3
  | .control => 4

def ChState.code : ChState → Nat
  | .off => 0
  | .parked => 1
  | .playing => 2
  | .held => 3
  | .substituted => 4
  | .muted => 5
  | .fault => 6

def SubPhase.code : SubPhase → Nat
  | .idle => 0
  | .settleIn => 1
  | .fadeIn => 2
  | .cover => 3
  | .settleOut => 4
  | .fadeOut => 5
  | .ownPlumb => 6
  | .unavailable => 7

def RefMode.code : RefMode → Nat
  | .refin => 0
  | .holdover => 1
  | .qualifying => 2
  | .slewing => 3
  | .waitHost => 4
  | .xtal => 5

def SynPhase.code : SynPhase → Nat
  | .disabled => 0
  | .acquiring => 1
  | .settling => 2
  | .aligning => 3
  | .running => 4
  | .noBand => 5
  | .alignWait => 6

def CfgState.code : CfgState → Nat
  | .idle => 0
  | .building => 1
  | .checking => 2
  | .writing => 3

def SysState.code : SysState → Nat
  | .boot => 1
  | .ready => 2
  | .run => 3
  | .standby => 4
  | .recess => 5
  | .faultSafe => 6

/-! ## Joiners, queues and channels -/

/-- TT_STATE. -/
def Timetable.statusWord (v : Timetable) : Nat :=
  fld v.state.code 29 + fld v.wait.code 26 + flag v.z 25 + flag v.n 24 + flag (decide (v.latches ≠ 0)) 23
    + fld v.loops.length 19 + fld v.haltCause 17 + v.pc % 32768

/-- TT_GANG (R65). -/
def Timetable.gangWord (v : Timetable) : Nat := fld v.gangMask.toNat 16 + v.gangBase

/-- HEAD_KIND: KIND of the descriptor in progress, 0xF when idle or escaping. -/
def Activity.headKind : Activity → Nat
  | .idle => 15
  | .play d .. => d.kind.code
  | .stream d .. => d.kind.code
  | .late d .. => d.kind.code
  | .gap d _ => d.kind.code
  | .gate d _ => d.kind.code
  | .escape .. => 15

/-- GATE_WAIT. -/
def Activity.gateWait : Activity → Bool
  | .gate .. => true
  | _ => false

/-- PB_STATUS. -/
def Channel.pbStatus (c : Channel) : Nat :=
  fld c.pbFlags.toNat 26 + flag c.armed.isSome 21 + flag c.act.gateWait 20 + fld c.act.headKind 16
    + (match c.armed with
      | some e => e.d.segId.toNat
      | none => 0)

/-- CH_CTRL; FAULT_CLR reads 0. -/
def Channel.ctrlWord (c : Channel) : Nat := flag c.detectEn 1 + flag c.enable 0

/-- CH_STATUS. -/
def Channel.statusWord (c : Channel) : Nat :=
  fld c.state.code 29 + flag c.stale 28 + flag c.clkStopped 27 + flag c.enabling.isSome 26
    + flag (c.spanPending.isSome || (c.spanDeferred.map (·.2)).getD false) 25 + flag c.trgo 24 + fld c.flags.toNat 16

/-- SUB_STATUS: UNAVAILABLE while SUBb is PLUMB_FAILED, its clock output is disabled, or a parity fault holds it. -/
def State.subStatus (s : State) (b : Nat) : Nat :=
  let v := s.bay b
  if s.subUnavailable b then fld SubPhase.unavailable.code 29
  else if v.phase = .idle ∨ v.phase = .ownPlumb ∨ v.phase = .unavailable then fld v.phase.code 29
  else fld v.phase.code 29 + flag v.holdMode 28 + v.channel

/-- PIPE_LAT (R128): 18 T_CCLK + 6 T_DCLK + 380 ps = 294 D / f_VCO + 380 ps, in fs; how a part of a femtosecond is
rounded is not stated (assumption log 2). -/
def State.pipeLat (s : State) (n : Nat) : Nat :=
  let (f, q) := s.fVco s.synM
  let x := 294 * (s.output n).div * q * secFs
  x / f + 380000 + (if x % f = 0 then 0 else (Config.freeValue s.draws 99).toNat % 2)

/-! ## Clock synthesis -/

/-- REF_STATUS. -/
def State.refStatus (s : State) : Nat :=
  let r := s.ref
  fld r.mode.code 29 + flag r.present 28 + flag r.ampOk 27 + flag r.freqOk 26 + flag r.lost 25 + flag r.returned 24
    + flag s.ppsPresent 23 + flag r.ppsMargin 22 + flag r.alignTimeout 21 + flag r.xtalRange 20

/-- A fine delay of the synthesizer's outputs is moving (R157). -/
def State.fineBusy (s : State) (y : Syn) : Bool :=
  (outsOf y).any fun i => !s.fineAtOnce i && decide ((s.output i).pos ≠ s.fineTarget i)

/-- SYNM_STATUS and SYNA_STATUS; SYN-A has no time-base loop. -/
def State.synStatus (s : State) (y : Syn) : Nat :=
  let v := s.syn y
  let b := (v.entry.map v.band).getD {}
  fld v.phase.code 29 + flag (s.synLocked y) 28 + flag v.gated 27 + flag v.lol 26 + flag v.ceilTrip 25
    + flag v.alignedXtal 24 + flag (v.tbLocked && decide (y = .M)) 23 + flag (s.fineBusy y) 22
    + fld b.code.toNat 8 + fld b.gain.toNat 6 + v.entry.getD 0

/-- OUT_CFG. -/
def Output.cfgWord (o : Output) : Nat := flag o.en 31 + fld o.ceil 24 + o.div

/-- OUT_DELAY. -/
def Output.delayWord (o : Output) : Nat := fld (lowBits 6 o.coarse) 26 + lowBits 17 o.fine

/-- RAMP_CFG and RAMP_STATUS. -/
def SynRamp.cfgWord (r : SynRamp) : Nat := flag r.repeats 9 + flag r.bellEn 8 + r.bell
def SynRamp.statusWord (r : SynRamp) : Nat := flag r.running 31 + fld r.piece 16 + r.passes % 65536

/-- TB_WORDS: the words of REF_FREQ, also while the time-base loop runs from the crystal with words recomputed, which the
spec does not state (DESIGN CHOICE, assumption log 121). -/
def Ref.tbWord (r : Ref) : Nat := fld r.tbN 16 + fld r.tbDiv 8

/-! ## Truss, links and lanes -/

/-- A member's own number of devices, diameter and map: the king post alone keeps them (R197), so what a member reads
there is not stated (assumption log 2). -/
def State.membersRead (s : State) : Nat :=
  if s.ownKing then s.members else 1 + (Config.freeValue s.draws 100).toNat % 64
def State.diameterRead (s : State) : Nat :=
  if s.ownKing then s.truss.diameter else (Config.freeValue s.draws 101).toNat % 64
def State.mapRead (s : State) : Bytes :=
  (List.range 64).map fun d =>
    if s.ownKing then
      let m := sget (fun _ => ({} : Member)) s.truss.map d
      BitVec.ofNat 8 (if d = 0 then 128 else flag m.present 7 + flag m.old 6 + m.parent)
    else (Config.freeValue s.draws (110 + d)).setWidth 8

/-- STATE of TRUSS_STATUS: FORMING, UP, BROKEN. A truss with one device is UP without training any link (R197). -/
def State.trussState (s : State) : Nat := if s.truss.broken then 2 else if s.linksUp then 1 else 0

/-- TRUSS_STATUS. -/
def State.trussStatus (s : State) : Nat :=
  let t := s.truss
  fld s.trussState 29 + flag s.king 28 + flag s.mixed 27 + flag t.timeValid 26 + flag t.epochSet 25
    + flag t.timeApprox 24 + fld t.flags.toNat 18 + fld s.membersRead 8 + s.diameterRead

/-- LINK_STATUS: a lane that is no truss link, or whose quad does not run in RONZAL mode, reads DISABLED (R195). -/
def State.linkStatus (s : State) (l : Nat) : Nat :=
  let v := s.lane l
  fld (if s.trussLane l then v.link.code else 0) 28 + fld v.version 26 + flag v.partnerOld 25 + flag v.lost 24 + flag v.roleBad 23 + flag v.refBad 22
    + flag v.idBad 21 + v.partner

/-- QUAD_CFG. -/
def Quad.cfgWord (q : Quad) : Nat := flag q.en 31 + q.mode

/-- LANE_STATUS. -/
def State.laneStatus (s : State) (l : Nat) : Nat :=
  let v := s.lane l
  let q := s.laneQuad l
  let state := if v.test ≠ 0 then 3 else if v.link = .disabled then 0 else if v.link = .up then 2 else 1
  fld state 30 + fld q.mode 28 + fld (if q.mode = modeRonzal then v.role else 0) 26 + flag v.fullSince.isSome 25
    + flag (v.prbsLock && decide (v.test % 4 ≠ 0)) 24 + fld v.flags.toNat 20 + flag v.roleBadLane 19

/-- ETH_VLAN. -/
def Lane.vlanWord (v : Lane) : Nat := flag v.vlanEn 12 + v.vid.toNat

/-! ## TIU, Plumb and Yearbook -/

/-- TIU_STATUS. -/
def State.tiuStatus (s : State) : Nat :=
  fld s.tbCode 30 + flag s.tiu.lost 29 + flag s.tiu.cal.isSome 28 + s.tiu.cal.getD 0

/-- MEAS_STATUS. -/
def TiuSlot.statusWord (v : TiuSlot) : Nat := fld v.state.code 29 + fld v.flags.toNat 21

/-- AMP_PENDING and TIME_PENDING of a core: a flag set for its turn now, or during its runs for its next turn (R268). -/
def Core.ampFlag (c : Core) : Bool := c.amp.isSome || c.ampNext.isSome
def Core.timeFlag (c : Core) : Bool := c.time.isSome || c.timeNext.isSome

/-- PLUMB_STATUS. -/
def State.plumbStatus (s : State) : Nat :=
  let pending := ((List.range 72).filter fun i => (s.core i).ampFlag || (s.core i).timeFlag).length
  flag s.coreBusy 31 + flag s.plumb.tiuRun.isSome 30 + fld s.plumb.flags.toNat 19 + fld pending 8
    + ((s.plumb.run.map (·.core)).getD 0x7F)

/-- CORE_PLUMB. -/
def Core.statusWord (c : Core) : Nat :=
  flag c.failed 31 + flag c.ampFlag 30 + flag c.timeFlag 29 + fld c.retries 24 + fld c.reason 8

/-- PLUMB_AGE (R265): whole seconds, saturating; all ones before the first result. -/
def State.plumbAge (s : State) (i : Nat) : Nat :=
  match (s.core i).lastAt with
  | some x => min ((s.now - x) / secFs) (2 ^ 32 - 1)
  | none => 2 ^ 32 - 1

/-- YB_STATUS. -/
def State.ybStatus (s : State) : Nat :=
  let p := s.plumb
  fld s.ybState 29 + flag p.done 28 + flag p.programFail 27 + flag p.holdupLost 26 + flag p.factoryBad 25
    + flag (decide (s.ybFree = 0)) 24 + flag p.holdupOk 23

/-! ## System, security, report card, recess -/

/-- CFG_STATUS. How long a command reads as BUILDING or CHECKING after its write has begun is not stated (assumption
log 2). -/
def State.cfgStatus (s : State) : Nat :=
  let c := s.cfg
  let writes := match s.sec.job with
    | some j => decide (j.kind = 2) && (Config.freeValue s.draws 404).getLsbD 0
    | none => false
  fld (if writes then CfgState.writing.code else c.state.code) 29 + flag c.done 28 + flag c.failed 27
    + c.abort.toNat % 2 ^ 27

/-- REG_STATUS. -/
def Sys.regStatus (y : Sys) : Nat :=
  flag (decide (y.parity ≠ [])) 31 + flag y.cfgParity 30 + flag y.writeLost 29 + flag y.lockViolation 28

/-- RAIL_STATUS. -/
def State.railStatus (s : State) : Nat :=
  let y := s.sys
  let free := (Config.freeValue s.draws 97).setWidth 13
  let good := if y.state = .boot then y.good else y.good ||| (free &&& ~~~y.good)
  flag y.safeOff 31 + fld y.warn.toNat 16 + good.toNat

/-- ALERT_STATUS [31:16] as it stands: a level source is set again while its condition stands (R320). -/
def Sys.alertBits (y : Sys) : BitVec 16 :=
  y.alert ||| BitVec.ofNat 16 (flag (decide (y.state = .faultSafe)) 15 + flag y.hot 12)

/-- ALERT_STATUS. -/
def Sys.alertStatus (y : Sys) : Nat := fld y.alertBits.toNat 16 + y.fsCause

/-- ROLLBACK_PENDING (R333): the firmware running has a level above ROLLBACK. -/
def Sec.rollbackPending (v : Sec) : Bool := decide (v.rollback < v.runLevel)

/-- The owner key digest is set (R336). -/
def Sec.ownerSet (v : Sec) : Bool := v.ownerDigest.any fun b => decide (b ≠ 0)

/-- SEC_STATUS. -/
def State.secStatus (s : State) : Nat :=
  let v := s.sec
  flag v.ownerSet 31 + flag v.reqSigned 30 + flag s.sys.debugLock 29 + flag v.recovery 28 + fld v.fwSlot 26
    + flag v.fwOther 25 + flag v.rollbackPending 24 + flag (v.fwJob.isSome || v.advancing) 23
    + flag v.codeJob.isSome 22 + flag v.building.isSome 21 + flag v.lastFailed 20 + v.runLevel

/-- AGEING_STATUS. -/
def Card.ageingStatus (c : Card) : Nat := fld c.flags.toNat 27 + fld c.dtSteps 8

/-- RECESS_CFG and RECESS_STATUS. -/
def Recess.cfgWord (r : Recess) : Nat := flag r.ignore 17 + flag r.highzCfg 16 + flag r.bellEn 8 + r.bell
def State.recessStatus (s : State) : Nat :=
  let r := s.recess
  fld r.capture 29 + flag (decide (s.sys.state = .recess)) 28 + fld r.cause 26 + flag r.late 25 + flag r.highz 24
    + flag r.readLocked 23

end Sys2Proof.Machine
end

