-- ==== Sys2Proof/Machine/Capture.lean ====
section
/-! DEFINITION. The capture image (R357, R358), worked out from the frozen state: the byte at any offset. Bytes whose
layout the spec does not give are free values, drawn once at the freeze, so that every read of one image gives the
same bytes (assumption log 2). -/

namespace Sys2Proof.Machine

/-- A byte of an item: the bits that the spec leaves free, and the others' values. -/
abbrev ItemByte := Byte × Byte

/-- Bytes that the spec lays out. -/
def laid (bs : Bytes) : List ItemByte := bs.map fun b => (0, b)

/-- Bytes that it does not. -/
def notLaid (n : Nat) : List ItemByte := List.replicate n (0xFF, 0)

/-- RSVD bytes read zero. -/
def rsvd (n : Nat) : List ItemByte := List.replicate n (0, 0)

/-- `n` bytes whose bits outside the RSVD ones of `mask` are free: those read zero (R10). -/
def openBits (n mask : Nat) : List ItemByte := (leBytes n mask).map fun m => (~~~m, 0)

/-- A slot of R68 with no descriptor in it: its RSVD bits read zero, and so do those of its marker program. -/
def emptyDescriptor : List ItemByte :=
  openBits 4 0x0C000000 ++ openBits 4 0xF8000000 ++ notLaid 20 ++ rsvd 4
    ++ (List.range 4).flatMap fun _ => notLaid 4 ++ openBits 4 0x3FF00000

/-- A slot of R233 with no stamp in it. -/
def emptyStamp : List ItemByte := notLaid 4 ++ openBits 4 0xE0000000 ++ openBits 4 0x700 ++ openBits 4 0xFFF0

/-- A slot of a bell-delivery queue with no bell in it. -/
def emptyBell : List ItemByte := notLaid 10 ++ rsvd 6

/-! ## Sections 1, 2 and 9: timetables, Joiners, arrival sets -/

/-- TT_REGS. -/
def Timetable.regsBytes (v : Timetable) : Bytes := wordsBytes v.regs.toList

/-- TT_LOOPS: eight entries of count and start address, innermost first. -/
def Timetable.loopsBytes (v : Timetable) : Bytes :=
  (List.range 8).flatMap fun i => match v.loops[i]? with
    | some (c, a) => leBytes 4 c.toNat ++ leBytes 4 a
    | none => List.replicate 8 0

/-- TT_FAULT. -/
def FaultRecord.bytes (f : FaultRecord) : Bytes :=
  leBytes 4 (f.cause + fld f.code.toNat 16) ++ leBytes 4 f.pc ++ leBytes 4 f.word.toNat ++ leBytes 4 f.ext.toNat

/-- TT_SCRATCH. -/
def Timetable.scratchBytes (v : Timetable) : Bytes := wordsBytes ((List.range 64).map (sget (fun _ => 0) v.scratch))

/-- A TIMETABLES item. -/
def State.timetableItem (s : State) (i : Nat) : List ItemByte :=
  let v := s.tt i
  let left := v.readyAt - s.cycle
  laid (leBytes 4 v.statusWord ++ v.regsBytes ++ v.loopsBytes ++ leBytes 32 v.latches.toNat ++ leBytes 32 v.listen.toNat
    ++ leBytes 4 v.gangWord ++ leBytes 4 v.underrun.toNat ++ leBytes 4 v.faultCfg.toNat ++ v.fault.bytes
    ++ leBytes 4 v.wpSrc.toNat ++ leBytes 4 v.wpDstLo.toNat ++ leBytes 4 v.wpDstHi.toNat ++ leBytes 4 v.wpLen.toNat
    ++ leBytes 1 v.prio)
  ++ (if left < 256 then laid (leBytes 1 left) else notLaid 1) ++ rsvd 14 ++ laid v.scratchBytes

/-- A write-port job (16 bytes): source, destination, length, as WP_SRC, WP_DST and WP_LEN hold them (the order within
them a DESIGN CHOICE, assumption log 70). -/
def WpJob.bytes (v : WpJob) : Bytes := leBytes 4 v.src ++ leBytes 8 v.dst ++ leBytes 4 v.units

/-- A JOINERS item: the jobs oldest first (assumption log 70). -/
def State.joinerItem (s : State) (j : Nat) : List ItemByte :=
  let v := s.joiner j
  ((List.range 256).flatMap fun k =>
    let e := sget (fun _ => ({} : BellEntry)) v.bells k
    laid (leBytes 8 e.time.toNat ++ leBytes 1 e.payload.toNat) ++ rsvd 3)
  ++ laid ((v.jobs.take 4).flatMap WpJob.bytes) ++ notLaid (16 * (4 - v.jobs.length))
  ++ laid (v.last.toList.flatMap fun x => leBytes 1 x) ++ rsvd 952

/-- An ARRIVALS item. -/
def State.arrivalItem (s : State) (i : Nat) : List ItemByte := laid (leBytes 32 (s.tt i).arrivals.toNat)

/-! ## Section 3: channels (R358) -/

/-- First boundary and repetitions left of the descriptor in progress. -/
def Activity.progress : Activity → Option (Nat × Nat)
  | .idle => none
  | .play _ k0 left _ => some (k0, left)
  | .stream _ _ k0 _ _ => some (k0, 1)
  | .late _ k0 _ => some (k0, 1)
  | .gap _ k0 => some (k0, 1)
  | .gate _ k0 => some (k0, 1)
  | .escape _ k0 _ _ => some (k0, 1)

/-- Hold factor of the play in progress. -/
def Activity.hold? : Activity → Option Nat
  | .play _ _ _ h => some h
  | .stream _ _ _ _ h => some h
  | .late _ _ h => some h
  | .escape _ _ h _ => some h
  | _ => none

/-- The last code of core `i`, sign-extended; where none has been sent, which it is the spec leaves open (a free value,
assumption log 2). -/
def State.codeItem (s : State) (i : Nat) (code : Option (BitVec 12)) : Bytes :=
  leBytes 2 (lowBits 16 (code.getD ((Config.freeValue s.recess.draw (1200 + i)).setWidth 12)).toInt)

/-- A CHANNELS item of channel `n`; the next granule is the one behind the last boundary before the freeze. -/
def State.channelItem (s : State) (n : Nat) : List ItemByte :=
  let c := s.chan n
  let v := c.vals
  let k := c.accK + 1
  let b := s.bay (n / 8)
  let w := if s.serves n then b.weight c.accK else 0
  let running := c.pulses.foldl (fun m p => if p.2.1 ≤ s.sampleNow n ∧ s.sampleNow n < p.2.2 then m ||| p.1 else m) (0 : BitVec 16)
  laid (leBytes 4 c.statusWord ++ leBytes 4 c.pbStatus
    ++ leBytes 1 (s.depth n) ++ leBytes 1 v.mode.toNat ++ leBytes 1 c.span.toNat ++ leBytes 1 0
    ++ leBytes 8 (accAfter c.acc v.freq 1).toNat ++ leBytes 8 v.freq.toNat
    ++ leBytes 2 v.phase.toNat ++ leBytes 2 v.amp.toNat ++ leBytes 2 v.gain.toNat ++ leBytes 2 v.offset.toNat)
  ++ (match c.act.hold? with
    | some h => laid (leBytes 4 h)
    | none => notLaid 4)
  ++ (match c.act.progress with
    | some (k0, left) => laid (leBytes 4 (k - k0) ++ leBytes 4 left)
    | none => notLaid 8)
  ++ laid (leBytes 8 (s.boundaryTicks n k).toNat)
  ++ (match c.ramp with
    | some (p, done, _) => laid (leBytes 4 done ++ leBytes 2 (p + 0x8000))
    | none => notLaid 4 ++ openBits 2 0xFFF0)
  ++ rsvd 2 ++ laid (leBytes 2 c.marks.toNat ++ leBytes 2 running.toNat)
  ++ laid (s.codeItem n c.lastCode ++ leBytes 2 w) ++ rsvd 56

/-- A CHANNELS item of a substitute. -/
def State.subItem (s : State) (b : Nat) : List ItemByte :=
  let n := (s.bay b).channel
  let on := s.serves n && decide (n / 8 = b)
  laid (leBytes 4 (s.subStatus b)) ++ rsvd 64
  ++ laid (s.codeItem (64 + b) (if on then (s.chan n).lastCode else none))
  ++ laid (leBytes 2 (if on then (s.bay b).weight (s.chan n).accK else 0)) ++ rsvd 56

/-! ## Sections 4 to 8 -/

/-- A bell word (R173). -/
def bellBytes (b : BellWord) : Bytes :=
  leBytes 4 (fld b.kind.toNat 28 + fld b.originDev.toNat 22 + fld b.hops.toNat 16 + fld b.payload.toNat 8 + b.number.toNat)
    ++ leBytes 8 b.origin.toNat ++ leBytes 4 (fld b.source.toNat 28 + b.sourceId.toNat)

/-- A pending setting and its S (16 bytes, their order a DESIGN CHOICE, assumption log 70): setting, item, low 48 bits of
its value, S. -/
def settingBytes (c : SettingChange) : Bytes :=
  leBytes 1 c.setting.toNat ++ leBytes 1 c.item.toNat ++ leBytes 6 c.value.toNat ++ leBytes 8 c.at_.toNat

/-- BELL_UNIT: of several pending settings, the first to switch. -/
def State.bellItem (s : State) : List ItemByte :=
  let waiting := s.truss.bells.filter fun b => !b.released
  laid (leBytes 8 s.recess.freeze.toNat ++ leBytes 4 s.trussStatus ++ leBytes 4 (s.horizonAt s.trussNow)
    ++ leBytes 4 (s.tmaxAt s.trussNow))
  ++ (match s.truss.settings with
    | c :: _ => laid (settingBytes c)
    | [] => rsvd 16)
  ++ notLaid 28
  ++ laid ((List.range 48).flatMap fun l => leBytes 4 (s.linkStatus l))
  ++ ((List.range 256).flatMap fun k => match sget (fun _ => none) s.truss.lastOrigin k with
    | some x => laid (leBytes 8 x.toNat)
    | none => notLaid 8)
  ++ laid ((waiting.take 512).flatMap fun b => bellBytes b.word) ++ rsvd (16 * (512 - waiting.length))

/-- A synthesizer (512 bytes; widths and order a DESIGN CHOICE, assumption log 70): its status; its loop words, FRAC
first; the accumulators, free where the words that the modulator has run with are not known; the band entry; for SYN-A
the ramp's piece and its steps made. -/
def State.synItem (s : State) (y : Syn) : List ItemByte :=
  let v := s.syn y
  let m := s.mashAt y (s.loopFs s.now)
  laid (leBytes 4 (s.synStatus y) ++ leBytes 4 v.frac ++ leBytes 2 v.nInt ++ leBytes 1 v.refDiv ++ leBytes 1 v.lbw)
  ++ (if m.known then laid (leBytes 4 m.acc1.toNat ++ leBytes 4 m.acc2.toNat ++ leBytes 4 m.acc3.toNat) else notLaid 12)
  ++ (match v.entry with
    | some e => laid (leBytes 4 e)
    | none => notLaid 4)
  ++ (if y = .A then laid (leBytes 4 s.ramp.piece ++ leBytes 4 s.ramp.made) else rsvd 8)
  ++ notLaid 476

/-- An output (16 bytes; widths a DESIGN CHOICE, assumption log 70): the divider count, which the 8 ns of the freeze leave
open (R354), COARSE, fine position, fine target, gate state. -/
def State.outputItem (s : State) (i : Nat) : List ItemByte :=
  let o := s.output i
  notLaid 4 ++ laid (leBytes 2 (lowBits 16 o.coarse) ++ leBytes 4 (lowBits 32 o.pos)
    ++ leBytes 4 (lowBits 32 (s.fineTarget i)) ++ leBytes 2 (flag (o.ceilGated || !o.en || (s.syn (if i < 76 then .M else .A)).gated) 0))

/-- SYNTH. -/
def State.synthItem (s : State) : List ItemByte :=
  s.synItem .M ++ s.synItem .A ++ (List.range 80).flatMap s.outputItem

/-- RES_SUMS (R246). -/
def TiuSlot.sumsBytes (v : TiuSlot) : Bytes := leBytes 8 v.count ++ leBytes 16 (lowBits 128 v.s1) ++ leBytes 24 v.s2

/-- Up to eight unpaired stamps of a slot in the layout of R233, start stamps first. -/
def TiuSlot.unpairedItem (v : TiuSlot) : List ItemByte :=
  let xs := (v.starts ++ v.stops).take 8
  laid (xs.flatMap Stamp.bytes) ++ (List.range (8 - xs.length)).flatMap fun _ => emptyStamp

/-- T_A in whole ticks (R237), where it has been fixed. -/
def TiuSlot.armItem (v : TiuSlot) : List ItemByte :=
  match v.armAt with
  | some a => laid (leBytes 8 ((a / tclkFu * 8 + a % tclkFu * 8 / tclkFu) % 2 ^ 64).toNat)
  | none => notLaid 8

/-- TIU. -/
def State.tiuItem (s : State) : List ItemByte :=
  ((List.range 16).flatMap fun c =>
    let v := s.slot c
    laid (leBytes 4 v.statusWord ++ v.sumsBytes ++ leBytes 8 (lowBits 64 v.last) ++ leBytes 8 (lowBits 64 v.xmin)
      ++ leBytes 8 (lowBits 64 v.xmax)) ++ v.armItem ++ v.unpairedItem ++ notLaid 44)
  ++ laid (leBytes 4 s.tiu.head.toNat ++ leBytes 4 s.tiu.tail.toNat) ++ rsvd 56
  ++ (List.range 65536).flatMap fun i => match sget (fun _ => none) s.tiu.ring i with
    | some v => laid v.bytes
    | none => emptyStamp

/-- Blocks of the current superframe that have passed on a lane that is UP (R206). -/
def Lane.superPosition (v : Lane) (now : Nat) : Nat :=
  if v.link = .up then (now - v.since) % superframeFs * superBlocks / superframeFs else 0

/-- A LANES item (widths a DESIGN CHOICE, assumption log 70). -/
def State.laneItem (s : State) (l : Nat) : List ItemByte :=
  let v := s.lane l
  laid (leBytes 4 (s.laneStatus l) ++ leBytes 4 v.sent ++ leBytes 4 v.freed ++ leBytes 4 (v.superPosition s.now)
    ++ leBytes 4 ((v.msg.map (·.due)).getD 0)) ++ notLaid 44

/-- PLUMB (widths and codes a DESIGN CHOICE, assumption log 70): a byte of pending flags for each core, bit 0 amplitude
and bit 1 timing; of the run in progress its phase (0 none, 1 amplitude, 2 timing), its run of the pair, and the handover
step, as SUB_STATUS codes it, of the bay of its core. -/
def State.plumbItem (s : State) : List ItemByte :=
  laid (leBytes 4 s.plumbStatus
    ++ ((List.range 72).flatMap fun i => leBytes 1 (flag (s.core i).ampFlag 0 + flag (s.core i).timeFlag 1))
    ++ (match s.plumb.run with
      | some r => leBytes 1 (if r.kind = .amp then 1 else 2) ++ leBytes 1 (if r.first.isSome then 2 else 1)
          ++ leBytes 1 (s.bay (if r.core < 64 then r.core / 8 else r.core - 64)).phase.code
      | none => [0, 0, 0]))
  ++ notLaid 177

/-! ## Section 10: crossings -/

/-- A descriptor in the layout of R68. -/
def Descriptor.bytes (d : Descriptor) : Bytes :=
  leBytes 4 (fld d.kind.code 28 + fld d.format.toNat 24 + fld d.trigLen.toNat 20 + flag d.mken 19 + fld d.opc.toNat 13 + d.tt)
    ++ leBytes 4 d.base.toNat ++ leBytes 4 d.lenG.toNat ++ leBytes 4 d.reps.toNat
    ++ leBytes 4 (fld d.segId.toNat 16 + d.trigMask.toNat) ++ leBytes 4 d.arg0.toNat ++ leBytes 4 d.arg1.toNat ++ leBytes 4 0
    ++ (if d.mken then d.mprog.flatMap MEvent.bytes else List.replicate 32 0)

/-- The item of instance `n` of crossing `k`, a queue of `depth` entries of `size` bytes: its head, its read and write
pointers, and what it holds in slot order. At which slot the oldest entry stands the spec does not fix: a free value, as
are the slots that hold no entry but for their RSVD bits, laid out as `empty` (assumption log 70). -/
def State.queueItem (s : State) (k n size depth : Nat) (empty : List ItemByte) (entries : List Bytes) : List ItemByte :=
  let at_ := (Config.freeValue s.recess.draw (200 + 256 * k + n)).toNat % depth
  laid (leBytes 4 (fld size 16 + fld n 8 + k) ++ leBytes 4 depth ++ leBytes 4 at_
    ++ leBytes 4 ((at_ + entries.length) % depth))
  ++ (List.range depth).flatMap fun slot => match entries[(slot + depth - at_) % depth]? with
    | some bs => laid bs
    | none => empty

/-- An entry of a bell-delivery queue: E, number, payload and 6 bytes RSVD. -/
def PassedBell.bytes (b : PassedBell) : Bytes :=
  leBytes 8 b.effective.toNat ++ leBytes 1 b.number ++ leBytes 1 b.payload.toNat ++ List.replicate 6 0

/-- A word that a channel has read, as it stands in its buffer. -/
def wordItem : WordRead → List ItemByte
  | .data v => laid (leBytes 8 v.toNat)
  | .corrected v => laid (leBytes 8 v.toNat)
  | .bad => notLaid 8

/-- A word of an escape head that has been filled, as it was read or as memory still holds it; of a word that memory
does not hold, what was read is not known. -/
def State.headWord (s : State) (h : Head) (w : Nat) : List ItemByte :=
  match (sget (fun _ => none) h.buf w), s.mem.word? (768 * h.base.toNat + 8 * w) with
  | some r, _ => wordItem r
  | none, some bs => laid bs
  | none, none => notLaid 8

/-- The item of channel `n`'s sample fetch buffer (24 KiB): which granules stand in it is not fixed. -/
def fetchItem (n : Nat) : List ItemByte := laid (leBytes 1 2 ++ leBytes 1 n) ++ notLaid (14 + 24576)

/-- The item of channel `n`'s escape head buffer (12 KiB): a head whose fill has had its 640 ns stands in it. -/
def State.headItem (s : State) (n : Nat) : List ItemByte :=
  laid (leBytes 1 3 ++ leBytes 1 n) ++ notLaid 14
  ++ match (s.chan n).head with
    | some h =>
      if h.start + 640 * nsFs ≤ s.now then
        ((List.range (min h.words 1536)).flatMap (s.headWord h)) ++ notLaid (8 * (1536 - min h.words 1536))
      else notLaid 12288
    | none => notLaid 12288

/-- The crossings of R19 that are queues or buffers, in table order: number, instances, bytes of an item. -/
def crossings : List (Nat × Nat × Nat) :=
  [(1, 64, 4112), (2, 64, 24592), (3, 64, 12304), (4, 72, Config.crossingItem 4), (5, 8, Config.crossingItem 5),
   (6, 4, Config.crossingItem 6), (7, 48, Config.crossingItem 7), (8, 48, Config.crossingItem 8), (9, 64, 528),
   (10, 72, 24), (11, 16, 4112), (13, 1, Config.crossingItem 13)]

/-- An item of a crossing. -/
def State.crossingItem (s : State) (k n size : Nat) : List ItemByte :=
  match k with
  | 1 => s.queueItem k n 64 64 emptyDescriptor ((s.chan n).queue.map Descriptor.bytes)
  | 2 => fetchItem n
  | 3 => s.headItem n
  | 9 => s.queueItem k n 16 32 emptyBell ((s.chan n).bells.map PassedBell.bytes)
  | 11 => s.queueItem k n 16 256 emptyStamp ((s.slot n).queue.map Stamp.bytes)
  | 10 => laid (leBytes 4 (fld 8 16 + fld n 8 + k) ++ leBytes 4 1) ++ notLaid 16
  | _ => laid (leBytes 1 k ++ leBytes 1 n) ++ notLaid (size - 2)

/-- The crossing item that holds offset `i` of section 10, and the offset of `i` in it. -/
def State.crossingAt (s : State) : List (Nat × Nat × Nat) → Nat → List ItemByte × Nat
  | [], i => ([], i)
  | (k, n, size) :: r, i =>
    if i < n * size then (s.crossingItem k (i / size) size, i % size) else s.crossingAt r (i - n * size)

/-! ## The image -/

/-- Offset of section 10. -/
def crossingsAt : Nat := 4813888

/-- Length of section 10. -/
def crossingsLength : Nat := (crossings.map fun c => c.2.1 * c.2.2).foldl (· + ·) 0

/-- CAPTURE_LENGTH: 0 until the image is ready. -/
def State.captureLength (s : State) : Nat := if s.recess.capture = 2 then crossingsAt + crossingsLength else 0

/-- The sections: ID, items, bytes of an item, offset. -/
def sections : List (Nat × Nat × Nat × Nat) :=
  [(1, 6144, 512, 256), (2, 96, 4096, 3145984), (3, 72, 128, 3539200), (4, 1, 10496, 3548416), (5, 1, 2304, 3558912),
   (6, 1, 1052736, 3561216), (7, 48, 64, 4613952), (8, 1, 256, 4617024), (9, 6144, 32, 4617280)]

/-- The directory. Section 10 has an item for each instance of a crossing. -/
def captureDirectory : List ItemByte :=
  (sections.flatMap fun (id, n, size, at_) => laid (leBytes 4 id ++ leBytes 4 n ++ leBytes 4 at_ ++ leBytes 4 (n * size)))
  ++ laid (leBytes 4 10 ++ leBytes 4 ((crossings.map (·.2.1)).foldl (· + ·) 0) ++ leBytes 4 crossingsAt
    ++ leBytes 4 crossingsLength)

/-- The header of the image. -/
def State.captureHeader (s : State) : List ItemByte :=
  let r := s.recess
  laid (leBytes 4 0x01054350 ++ leBytes 4 (crossingsAt + crossingsLength) ++ leBytes 8 r.freeze.toNat
    ++ leBytes 1 r.cause ++ leBytes 1 r.prior.1 ++ leBytes 1 r.prior.2 ++ leBytes 1 (flag r.late 0) ++ leBytes 4 10)
  ++ rsvd 40

/-- The item of a section that holds offset `i`, and the offset of `i` in it. -/
def State.captureItem (s : State) (i : Nat) : List ItemByte × Nat :=
  let within (at_ size : Nat) : Nat × Nat := ((i - at_) / size, (i - at_) % size)
  if i < 256 then (s.captureHeader ++ captureDirectory ++ notLaid 32, i)
  else if i < 3145984 then let (k, b) := within 256 512; (s.timetableItem k, b)
  else if i < 3539200 then let (k, b) := within 3145984 4096; (s.joinerItem k, b)
  else if i < 3548416 then
    let (k, b) := within 3539200 128
    (if k < 64 then s.channelItem k else s.subItem (k - 64), b)
  else if i < 3558912 then (s.bellItem, i - 3548416)
  else if i < 3561216 then (s.synthItem, i - 3558912)
  else if i < 4613952 then (s.tiuItem, i - 3561216)
  else if i < 4617024 then let (k, b) := within 4613952 64; (s.laneItem k, b)
  else if i < 4617280 then (s.plumbItem, i - 4617024)
  else if i < crossingsAt then let (k, b) := within 4617280 32; (s.arrivalItem k, b)
  else s.crossingAt crossings (i - crossingsAt)

/-- Byte `i` of the capture image. -/
def State.captureByte (s : State) (i : Nat) : Byte :=
  let frozen : State := { s with now := s.recess.at_, draws := s.recess.draw }
  let (xs, b) := frozen.captureItem i
  let free : Byte := (Config.freeValue s.recess.draw (2000000 + i)).setWidth 8
  match xs[b]? with
  | some (m, v) => (free &&& m) ||| v
  | none => free

/-- `n` bytes of the image from offset `i`. -/
def State.captureBytes (s : State) (i n : Nat) : Bytes := (List.range n).map fun j => s.captureByte (i + j)

end Sys2Proof.Machine
end

