-- ==== Sys2Proof/Machine/Entries.lean ====
section
/-! DEFINITION. The object dictionary (11_object_dictionary.md and the entry tables of the chapters, R289, R290, R292,
R298): every entry's type, access code, lengths, fraction bits, default and selector. Index 0x2400 stands for every
channel's index 0x2400 + n, and 0x2480 for every bay's. -/

namespace Sys2Proof.Machine

/-- The data types (R289). -/
inductive VType where
  | bool | u8 | u16 | u32 | u64 | i16 | i32 | i64 | string | domain
  deriving DecidableEq, Repr

/-- The access codes (R290). -/
inductive Access where
  | ro | rw | rwl | wo | w1 | rc
  deriving DecidableEq, Repr

/-- Type codes (R289). -/
def VType.code : VType → Nat
  | .bool => 1
  | .u8 => 2
  | .u16 => 3
  | .u32 => 4
  | .u64 => 5
  | .i16 => 6
  | .i32 => 7
  | .i64 => 8
  | .string => 9
  | .domain => 10

/-- Bytes on the wire of the types of one width (R289). -/
def VType.bytes : VType → Nat
  | .bool => 1
  | .u8 => 1
  | .u16 => 2
  | .u32 => 4
  | .u64 => 8
  | .i16 => 2
  | .i32 => 4
  | .i64 => 8
  | .string => 0
  | .domain => 0

/-- Access codes (R290). -/
def Access.code : Access → Nat
  | .ro => 1
  | .rw => 2
  | .rwl => 3
  | .wo => 4
  | .w1 => 5
  | .rc => 6

/-- An entry of the object dictionary. -/
structure Entry where
  index : Nat
  sub : Nat
  type : VType
  access : Access
  /-- smallest and largest length in bytes -/
  lo : Nat
  hi : Nat
  /-- fraction bits of a fixed-point quantity -/
  frac : Nat
  /-- default of a BOOL or integer entry; 0 where it comes from the Yearbook, the factory, flash or fuses -/
  dflt : Nat
  /-- subindex of the index selector through which it is addressed; 0 when none -/
  sel : Nat
  deriving DecidableEq, Repr

/-- An entry of a type of one width. -/
def Entry.num (index sub : Nat) (type : VType) (access : Access) (dflt : Nat) (sel : Nat := 0) (frac : Nat := 0) : Entry :=
  { index := index, sub := sub, type := type, access := access, lo := type.bytes, hi := type.bytes, frac := frac
    dflt := dflt, sel := sel }

/-- A STRING or DOMAIN entry. -/
def Entry.blob (index sub : Nat) (type : VType) (access : Access) (lo hi : Nat) (sel : Nat := 0) : Entry :=
  { index := index, sub := sub, type := type, access := access, lo := lo, hi := hi, frac := 0, dflt := 0, sel := sel }

/-- Index 0x1018. -/
def entries1018 : List Entry :=
  [Entry.num 0x1018 0x01 .u32 .ro 0x4E560001, -- VENDOR_ID
   Entry.num 0x1018 0x02 .u32 .ro 25672, -- PRODUCT_CODE
   Entry.num 0x1018 0x03 .u32 .ro 176, -- STEPPING
   Entry.blob 0x1018 0x04 .string .ro 1 16, -- SERIAL
   Entry.blob 0x1018 0x05 .string .ro 1 16, -- PART_NAME
   Entry.num 0x1018 0x06 .u32 .ro 0 -- FW_VERSION
  ]

/-- Index 0x1100. -/
def entries1100 : List Entry :=
  [Entry.num 0x1100 0x01 .u8 .ro 6, -- ODA_VERSIONS
   Entry.num 0x1100 0x02 .u8 .ro 0, -- SESSIONS_OPEN
   Entry.num 0x1100 0x03 .u16 .rw 60, -- SESSION_TIMEOUT
   Entry.num 0x1100 0x04 .u32 .rw 10000, -- ROUTE_TIMEOUT
   Entry.num 0x1100 0x05 .u64 .ro 0, -- MGMT_MAC
   Entry.num 0x1100 0x06 .u32 .rw 0, -- MGMT_IPV4
   Entry.num 0x1100 0x07 .u32 .rc 0, -- ODA_ABORTS
   Entry.num 0x1100 0x08 .u32 .rc 0, -- ODA_DUPLICATES
   Entry.num 0x1100 0x09 .u32 .rc 0, -- ODA_BAD_MESSAGES
   Entry.num 0x1100 0x0A .u32 .rc 0, -- ODA_TIMEOUTS
   Entry.num 0x1100 0x0B .u32 .rc 0 -- ROUTE_TIMEOUTS
  ]

/-- Index 0x1200. -/
def entries1200 : List Entry :=
  [Entry.num 0x1200 0x01 .u8 .wo 0, -- CFG_CMD
   Entry.num 0x1200 0x02 .u32 .rc 0, -- CFG_STATUS
   Entry.num 0x1200 0x03 .u32 .rw 0, -- CFG_OFFSET
   Entry.blob 0x1200 0x04 .domain .rw 4 8960, -- CFG_DATA
   Entry.num 0x1200 0x05 .u32 .rw 0, -- CFG_LENGTH
   Entry.num 0x1200 0x06 .u32 .ro 0, -- CFG_SEQ
   Entry.num 0x1200 0x07 .u8 .ro 0, -- CFG_SLOT
   Entry.num 0x1200 0x08 .u32 .ro 0, -- CFG_APPLIED
   Entry.num 0x1200 0x09 .u32 .ro 0, -- CFG_SKIPPED
   Entry.blob 0x1200 0x0A .domain .ro 12 12 -- CFG_FIRST_SKIP
  ]

/-- Index 0x2000. -/
def entries2000 : List Entry :=
  [Entry.num 0x2000 0x01 .u8 .ro 1, -- SYS_STATE
   Entry.num 0x2000 0x02 .u8 .wo 0, -- SYS_CMD
   Entry.num 0x2000 0x03 .u32 .wo 0, -- RESET_CMD
   Entry.num 0x2000 0x04 .u8 .ro 0, -- RESET_CAUSE
   Entry.num 0x2000 0x05 .u32 .rc 0, -- REG_STATUS
   Entry.num 0x2000 0x06 .u32 .ro 0, -- PARITY_ADDR
   Entry.num 0x2000 0x07 .u32 .rc 0, -- PARITY_FAULTS
   Entry.num 0x2000 0x08 .u32 .rc 0, -- WRITE_LOST_COUNT
   Entry.num 0x2000 0x09 .u32 .rc 0, -- LOCK_VIOLATIONS
   Entry.num 0x2000 0x0A .u32 .rc 0, -- RAIL_STATUS
   Entry.num 0x2000 0x0B .u32 .rw 0xFFFFFFFF, -- ALERT_MASK
   Entry.num 0x2000 0x0C .u32 .rc 0 -- ALERT_STATUS
  ] ++
  [Entry.num 0x2000 0x0D .u32 .ro 0 -- BOOT_TIME
  ]

/-- Index 0x2100. -/
def entries2100 : List Entry :=
  [Entry.num 0x2100 0x01 .u32 .rwl 0x989680, -- REF_FREQ
   Entry.num 0x2100 0x02 .u16 .rw 100, -- REF_WINDOW
   Entry.num 0x2100 0x03 .u32 .rc 0, -- REF_STATUS
   Entry.num 0x2100 0x04 .u8 .rwl 0, -- REF_SRC
   Entry.num 0x2100 0x05 .u8 .rw 0, -- REF_RETURN
   Entry.num 0x2100 0x06 .u16 .rw 100, -- REF_QUAL
   Entry.num 0x2100 0x07 .u16 .rw 1000, -- SLEW_RATE
   Entry.num 0x2100 0x08 .i64 .ro 0, -- REF_STEP
   Entry.num 0x2100 0x09 .u8 .wo 0, -- REF_CMD
   Entry.num 0x2100 0x0A .u32 .ro 0, -- HOLDOVER_TIME
   Entry.num 0x2100 0x0B .u32 .rc 0, -- HOLDOVER_COUNT
   Entry.num 0x2100 0x0C .i32 .rw 0 -- XTAL_ADJ
  ] ++
  [Entry.num 0x2100 0x0D .i32 .ro 0, -- XTAL_OFFSET
   Entry.num 0x2100 0x0E .u8 .rw 0, -- ALIGN_SRC
   Entry.num 0x2100 0x0F .u32 .ro 0xC80100, -- TB_WORDS
   Entry.num 0x2100 0x10 .bool .rw 0, -- SYNM_EN
   Entry.num 0x2100 0x11 .u8 .rwl 1, -- SYNM_REF_DIV
   Entry.num 0x2100 0x12 .u16 .rwl 1600, -- SYNM_N_INT
   Entry.num 0x2100 0x13 .u32 .rwl 0, -- SYNM_FRAC
   Entry.num 0x2100 0x14 .u8 .rwl 1, -- SYNM_LBW
   Entry.num 0x2100 0x15 .u32 .rc 0, -- SYNM_STATUS
   Entry.blob 0x2100 0x16 .domain .rwl 1024 1024, -- SYNM_BANDS
   Entry.num 0x2100 0x17 .u32 .rc 0, -- SYNM_LOCK_ATTEMPTS
   Entry.num 0x2100 0x18 .u32 .rc 0 -- SYNM_LOL_COUNT
  ] ++
  [Entry.num 0x2100 0x20 .u8 .rw 0, -- OUT_INDEX
   Entry.num 0x2100 0x21 .u32 .rw 0x5000002 0x20, -- OUT_CFG
   Entry.num 0x2100 0x22 .u32 .rw 0 0x20, -- OUT_DELAY
   Entry.num 0x2100 0x23 .i32 .ro 0 0x20, -- OUT_TRIM
   Entry.num 0x2100 0x30 .bool .rw 0, -- SYNA_EN
   Entry.num 0x2100 0x31 .u8 .rwl 1, -- SYNA_REF_DIV
   Entry.num 0x2100 0x32 .u16 .rwl 1200, -- SYNA_N_INT
   Entry.num 0x2100 0x33 .u32 .rwl 0, -- SYNA_FRAC
   Entry.num 0x2100 0x34 .u8 .rwl 1, -- SYNA_LBW
   Entry.num 0x2100 0x35 .u32 .rc 0, -- SYNA_STATUS
   Entry.blob 0x2100 0x36 .domain .rwl 1024 1024, -- SYNA_BANDS
   Entry.num 0x2100 0x37 .u32 .rc 0 -- SYNA_LOCK_ATTEMPTS
  ] ++
  [Entry.num 0x2100 0x38 .u32 .rc 0, -- SYNA_LOL_COUNT
   Entry.num 0x2100 0x40 .u8 .rw 0, -- CLKOUT_INDEX
   Entry.num 0x2100 0x41 .u32 .rw 0x500000C 0x40, -- CLKOUT_CFG
   Entry.num 0x2100 0x42 .u32 .rw 0 0x40, -- CLKOUT_DELAY
   Entry.num 0x2100 0x48 .u8 .wo 0, -- RAMP_CMD
   Entry.num 0x2100 0x49 .u16 .rwl 0, -- RAMP_CFG
   Entry.blob 0x2100 0x4A .domain .rwl 512 512, -- RAMP_PROFILE
   Entry.num 0x2100 0x4B .u32 .ro 0, -- RAMP_STATUS
   Entry.num 0x2100 0x4C .u32 .rc 0 -- RAMP_LATE
  ]

/-- Index 0x2200. -/
def entries2200 : List Entry :=
  [Entry.num 0x2200 0x01 .u16 .rw 0, -- SEG_INDEX
   Entry.blob 0x2200 0x02 .domain .rw 32 32 0x01, -- SEG_ENTRY
   Entry.num 0x2200 0x03 .u16 .rw 0, -- MPROG_INDEX
   Entry.blob 0x2200 0x04 .domain .rw 32 32 0x03, -- MPROG_ENTRY
   Entry.num 0x2200 0x05 .u8 .rw 0, -- RING_INDEX
   Entry.blob 0x2200 0x06 .domain .rw 16 16 0x05, -- RING_ENTRY
   Entry.num 0x2200 0x08 .u32 .rwl 0, -- BULK_BASE
   Entry.num 0x2200 0x09 .u16 .rwl 0, -- BULK_PAGES
   Entry.num 0x2200 0x0A .u16 .rw 0, -- PAGE_INDEX
   Entry.num 0x2200 0x0B .u32 .ro 0 0x0A, -- PAGE_STATUS
   Entry.num 0x2200 0x10 .u64 .ro 0, -- HBM_CE_COUNT
   Entry.num 0x2200 0x11 .u64 .ro 0 -- HBM_UE_GRANULES
  ] ++
  [Entry.num 0x2200 0x12 .u32 .ro 0, -- HBM_UE_SCRUB
   Entry.num 0x2200 0x13 .u32 .rc 0 -- BULK_REFUSED
  ]

/-- Index 0x2300. -/
def entries2300 : List Entry :=
  [Entry.num 0x2300 0x01 .u8 .rw 0, -- JOINER_INDEX
   Entry.num 0x2300 0x02 .u32 .rw 0, -- CODE_OFFSET
   Entry.blob 0x2300 0x03 .domain .rw 4 8960 0x01, -- CODE_DATA
   Entry.num 0x2300 0x04 .u16 .rw 0, -- TT_INDEX
   Entry.num 0x2300 0x05 .u8 .wo 0 0x04, -- TT_CMD
   Entry.num 0x2300 0x06 .u32 .ro 0 0x04, -- TT_STATE
   Entry.num 0x2300 0x07 .u16 .rwl 0 0x04, -- TT_ENTRY
   Entry.num 0x2300 0x08 .u8 .rwl 0 0x04, -- TT_PRIO
   Entry.blob 0x2300 0x09 .domain .rwl 256 256 0x04, -- TT_SCRATCH
   Entry.blob 0x2300 0x0A .domain .rwl 64 64 0x04, -- TT_REGS
   Entry.blob 0x2300 0x0B .domain .ro 64 64 0x04, -- TT_LOOPS
   Entry.blob 0x2300 0x0C .domain .ro 16 16 0x04 -- TT_FAULT
  ] ++
  [Entry.num 0x2300 0x0D .u32 .rwl 0 0x04, -- TT_GANG
   Entry.blob 0x2300 0x0E .domain .rwl 32 32 0x04, -- TT_LISTEN
   Entry.blob 0x2300 0x0F .domain .ro 32 32 0x04, -- TT_LATCHED
   Entry.num 0x2300 0x10 .u32 .rwl 0 0x04, -- TT_UNDERRUN
   Entry.num 0x2300 0x11 .u32 .rwl 0 0x04, -- TT_FAULT_CFG
   Entry.num 0x2300 0x13 .u32 .rw 0, -- SHARED_OFFSET
   Entry.blob 0x2300 0x14 .domain .rw 4 8960 0x01, -- SHARED_DATA
   Entry.num 0x2300 0x18 .u8 .rw 0, -- LEADER_INDEX
   Entry.num 0x2300 0x19 .u16 .rw 0 0x18, -- LEADER
   Entry.num 0x2300 0x1A .u8 .ro 0 0x18, -- QUEUE_DEPTH
   Entry.num 0x2300 0x1B .u32 .rc 0 0x18, -- QUEUE_FULL_WAITS
   Entry.num 0x2300 0x1C .u32 .rc 0 0x01 -- BELL_OVERWRITES
  ] ++
  [Entry.num 0x2300 0x20 .u32 .rwl 0, -- EVR_BASE
   Entry.num 0x2300 0x21 .u32 .ro 0, -- EVR_HEAD
   Entry.num 0x2300 0x22 .u32 .rw 0, -- EVR_TAIL
   Entry.num 0x2300 0x23 .u8 .rw 0, -- EVR_POLICY
   Entry.num 0x2300 0x24 .u32 .rc 0, -- EVR_DROPPED
   Entry.num 0x2300 0x25 .bool .rw 0, -- EVR_ENABLE
   Entry.num 0x2300 0x28 .u8 .rw 0, -- PB_INDEX
   Entry.num 0x2300 0x29 .u32 .rc 0xF0000 0x28, -- PB_STATUS
   Entry.num 0x2300 0x2A .u8 .rw 0 0x28, -- PB_FILL
   Entry.num 0x2300 0x2B .u8 .rw 64 0x28, -- QUEUE_LIMIT
   Entry.num 0x2300 0x2C .u32 .rc 0 0x28, -- QUEUE_EMPTIES
   Entry.num 0x2300 0x2D .u32 .rc 0 0x28 -- LATE_GATES
  ] ++
  [Entry.num 0x2300 0x2E .u32 .rc 0 0x28, -- ESC_FIRES
   Entry.num 0x2300 0x2F .u32 .rc 0 0x28, -- UNDERRUNS
   Entry.num 0x2300 0x30 .u64 .rc 0 0x28, -- SLIP_GRANULES
   Entry.num 0x2300 0x31 .u64 .rc 0 0x28 -- DROPPED_GRANULES
  ]

/-- Index 0x2400. -/
def entries2400 : List Entry :=
  [Entry.num 0x2400 0x01 .u32 .rw 2, -- CH_CTRL
   Entry.num 0x2400 0x02 .u32 .rc 0, -- CH_STATUS
   Entry.num 0x2400 0x03 .u8 .rw 4, -- SPAN_CFG
   Entry.num 0x2400 0x04 .u8 .rw 0, -- MODE
   Entry.num 0x2400 0x05 .u32 .rw 0, -- FTW_LO
   Entry.num 0x2400 0x06 .u16 .rw 0, -- FTW_HI
   Entry.num 0x2400 0x07 .u16 .rw 0, -- PHASE_OFS
   Entry.num 0x2400 0x08 .u16 .rw 32760 0x00 15, -- NCO_AMP
   Entry.num 0x2400 0x09 .u16 .rw 32768 0x00 15, -- GAIN
   Entry.num 0x2400 0x0A .i16 .rw 0 0x00 4, -- OFFSET
   Entry.num 0x2400 0x0B .u16 .rw 1, -- HOLD
   Entry.num 0x2400 0x0C .i16 .rw 0 -- PARK_CODE
  ] ++
  [Entry.num 0x2400 0x0D .u16 .rw 0, -- MARKER_ROUTE
   Entry.blob 0x2400 0x0E .domain .rw 256 256, -- RAMP_PROFILE
   Entry.num 0x2400 0x0F .u32 .ro 0, -- PIPE_LAT
   Entry.num 0x2400 0x10 .u64 .rc 0, -- SAT_COUNT
   Entry.num 0x2400 0x11 .u32 .rc 0, -- UE_GRANULES
   Entry.num 0x2400 0x12 .u32 .rc 0, -- COMPL_FAULTS
   Entry.num 0x2400 0x13 .u16 .rw 0 -- FAULT_BELL
  ]

/-- Index 0x2480. -/
def entries2480 : List Entry :=
  [Entry.num 0x2480 0x01 .u16 .rw 16, -- FADE_G
   Entry.num 0x2480 0x02 .u32 .ro 0, -- SUB_STATUS
   Entry.num 0x2480 0x03 .u8 .rw 0, -- CORE_SEL
   Entry.blob 0x2480 0x04 .domain .ro 63 63 0x03, -- CELL_TRIM
   Entry.num 0x2480 0x05 .i16 .ro 0 0x03, -- GAIN_TRIM
   Entry.num 0x2480 0x06 .i16 .ro 0 0x03 8, -- OFFSET_TRIM
   Entry.num 0x2480 0x07 .i16 .ro 0 0x03 4, -- CORE_TEMP
   Entry.num 0x2480 0x08 .u32 .rc 0, -- HANDOVERS
   Entry.num 0x2480 0x09 .u32 .rc 0, -- HOLDS
   Entry.num 0x2480 0x0A .u32 .rc 0 -- FADE_ABORTS
  ]

/-- Index 0x2500. -/
def entries2500 : List Entry :=
  [Entry.num 0x2500 0x01 .u8 .rwl 0, -- DEVICE_NUM
   Entry.num 0x2500 0x02 .u32 .rc 0, -- TRUSS_STATUS
   Entry.num 0x2500 0x03 .u16 .rw 640, -- HORIZON
   Entry.num 0x2500 0x04 .u16 .ro 160, -- H_MIN
   Entry.num 0x2500 0x05 .u16 .ro 0, -- TRANSPORT_MAX
   Entry.num 0x2500 0x06 .u64 .ro 0, -- TRUSS_TIME
   Entry.num 0x2500 0x07 .u64 .rw 0, -- EPOCH_VALUE
   Entry.num 0x2500 0x08 .u8 .wo 0, -- EPOCH_CMD
   Entry.num 0x2500 0x09 .u16 .wo 0, -- BELL_RING
   Entry.blob 0x2500 0x0A .domain .rw 256 256, -- BELL_OWNER
   Entry.num 0x2500 0x0B .u8 .rw 1, -- LATE_POLICY
   Entry.num 0x2500 0x0C .u32 .rc 0 -- LATE_BELLS
  ] ++
  [Entry.num 0x2500 0x0D .u32 .rc 0, -- SLOW_BELLS
   Entry.num 0x2500 0x0E .u32 .rc 0, -- BELLS_REFUSED
   Entry.num 0x2500 0x0F .u32 .rw 0 0x10, -- MK_CFG
   Entry.num 0x2500 0x10 .u8 .rw 0, -- MK_INDEX
   Entry.num 0x2500 0x11 .u32 .rc 0, -- MK_BELLS_LOST
   Entry.num 0x2500 0x12 .u8 .rw 0, -- LINK_INDEX
   Entry.num 0x2500 0x13 .u8 .rwl 0 0x12, -- LINK_CFG
   Entry.num 0x2500 0x14 .u32 .rc 0 0x12, -- LINK_STATUS
   Entry.num 0x2500 0x15 .u32 .ro 0 0x12, -- LINK_DELAY
   Entry.blob 0x2500 0x16 .domain .ro 64 64, -- TRUSS_MAP
   Entry.blob 0x2500 0x17 .domain .rw 64 64, -- BREAK_POLICY
   Entry.num 0x2500 0x18 .u16 .rw 0 -- BREAK_BELL
  ] ++
  [Entry.num 0x2500 0x19 .u64 .ro 0, -- BREAK_TIME
   Entry.num 0x2500 0x1A .u8 .wo 0, -- TRUSS_CMD
   Entry.num 0x2500 0x1B .i64 .ro 0, -- REJOIN_STEP
   Entry.num 0x2500 0x1C .i32 .ro 0, -- TIME_RESIDUE
   Entry.num 0x2500 0x1D .u32 .rc 0, -- LINK_LOSSES
   Entry.num 0x2500 0x1E .u32 .rc 0, -- TRAIN_FAILS
   Entry.num 0x2500 0x1F .u32 .rc 0 -- BAD_BLOCKS
  ]

/-- Index 0x2600. -/
def entries2600 : List Entry :=
  [Entry.num 0x2600 0x01 .u8 .rw 0, -- QUAD_INDEX
   Entry.num 0x2600 0x02 .u32 .rw 0 0x01, -- QUAD_CFG
   Entry.num 0x2600 0x03 .u8 .rw 0, -- LANE_INDEX
   Entry.num 0x2600 0x04 .u32 .rc 0 0x03, -- LANE_STATUS
   Entry.num 0x2600 0x05 .u8 .rw 0 0x03, -- LANE_TEST
   Entry.num 0x2600 0x06 .u64 .ro 0 0x03, -- PRBS_BITS
   Entry.num 0x2600 0x07 .u64 .rc 0 0x03, -- PRBS_ERRORS
   Entry.num 0x2600 0x08 .u16 .ro 512 0x03, -- CREDIT_WINDOW
   Entry.num 0x2600 0x09 .u64 .rc 0 0x03, -- CREDIT_ZERO_NS
   Entry.num 0x2600 0x0A .u32 .rc 0 0x03, -- CREDIT_VIOLATIONS
   Entry.num 0x2600 0x0B .u32 .rc 0 0x03, -- CTRL_DISPLACED
   Entry.num 0x2600 0x0C .u32 .rc 0 0x03 -- MSG_TRUNCATED
  ] ++
  [Entry.num 0x2600 0x0D .u32 .rc 0 0x03, -- MSG_REFUSED
   Entry.num 0x2600 0x0E .u32 .rc 0 0x03, -- BULK_SEQ_GAPS
   Entry.num 0x2600 0x0F .u32 .rc 0 0x03, -- LANE_DOWNS
   Entry.num 0x2600 0x10 .u64 .rw 0 0x03, -- ETH_MAC
   Entry.num 0x2600 0x11 .u32 .rw 0 0x03, -- ETH_IPV4
   Entry.num 0x2600 0x12 .u16 .rw 0 0x03, -- ETH_VLAN
   Entry.num 0x2600 0x13 .u8 .rwl 0 0x03, -- ETH_PMD
   Entry.num 0x2600 0x14 .u64 .rc 0 0x03, -- ETH_RX_FRAMES
   Entry.num 0x2600 0x15 .u32 .rc 0 0x03, -- ETH_DROPPED
   Entry.num 0x2600 0x16 .u64 .rc 0 0x03, -- ETH_DROP_BYTES
   Entry.num 0x2600 0x17 .u32 .rc 0 0x03, -- ETH_FCS_ERRORS
   Entry.num 0x2600 0x18 .u32 .rc 0 0x03 -- ETH_OTHER
  ] ++
  [Entry.num 0x2600 0x19 .u32 .rc 0 0x03, -- ETH_PAUSE_RX
   Entry.num 0x2600 0x1A .u32 .rc 0 0x03 -- ETH_BUF_PEAK
  ]

/-- Index 0x2700. -/
def entries2700 : List Entry :=
  [Entry.num 0x2700 0x01 .u8 .rwl 0, -- TB_SEL
   Entry.num 0x2700 0x02 .u8 .rw 0, -- TB_POLICY
   Entry.num 0x2700 0x03 .u32 .rc 0, -- TIU_STATUS
   Entry.num 0x2700 0x04 .u8 .rw 0, -- TIU_INDEX
   Entry.num 0x2700 0x05 .u32 .rwl 1536 0x04, -- TIU_CH_CFG
   Entry.num 0x2700 0x06 .u32 .rwl 0 0x04, -- TIU_MEAS
   Entry.num 0x2700 0x07 .u32 .rwl 1 0x04, -- TIU_N
   Entry.num 0x2700 0x08 .u32 .rwl 1000 0x04, -- FREQ_GATE
   Entry.num 0x2700 0x09 .i64 .rwl 0 0x04 16, -- CMP_LO
   Entry.num 0x2700 0x0A .i64 .rwl 0 0x04 16, -- CMP_HI
   Entry.num 0x2700 0x0B .u8 .rwl 0 0x04, -- CMP_BELL
   Entry.num 0x2700 0x0C .u8 .wo 0 0x04 -- TIU_CMD
  ] ++
  [Entry.num 0x2700 0x0D .u32 .rc 0 0x04, -- MEAS_STATUS
   Entry.num 0x2700 0x0E .u64 .ro 0 0x04, -- RES_COUNT
   Entry.num 0x2700 0x0F .i64 .ro 0 0x04 16, -- RES_LAST
   Entry.num 0x2700 0x10 .i64 .ro 0 0x04 16, -- RES_MEAN
   Entry.num 0x2700 0x11 .i64 .ro 0 0x04 16, -- RES_SD
   Entry.num 0x2700 0x12 .i64 .ro 0 0x04 16, -- RES_MIN
   Entry.num 0x2700 0x13 .i64 .ro 0 0x04 16, -- RES_MAX
   Entry.blob 0x2700 0x14 .domain .ro 48 48 0x04, -- RES_SUMS
   Entry.num 0x2700 0x15 .u32 .rc 0 0x04, -- MISSED
   Entry.num 0x2700 0x16 .u32 .rc 0 0x04, -- MISSED_FULL
   Entry.num 0x2700 0x17 .u32 .rc 0 0x04, -- PAIR_RESYNCS
   Entry.num 0x2700 0x18 .u32 .ro 0 -- STREAM_HEAD
  ] ++
  [Entry.num 0x2700 0x19 .u32 .rw 0, -- STREAM_TAIL
   Entry.blob 0x2700 0x1A .domain .ro 16 8960, -- STREAM_DATA
   Entry.num 0x2700 0x1B .u32 .rc 0, -- STREAM_DROPPED
   Entry.num 0x2700 0x1C .u8 .rw 0, -- BIN_INDEX
   Entry.blob 0x2700 0x1D .domain .ro 8192 8192 0x1C, -- BIN_TABLE
   Entry.num 0x2700 0x1E .u32 .ro 0 0x1C, -- CAL_HITS
   Entry.num 0x2700 0x1F .u32 .rc 0 0x04 -- MK_MISSED
  ]

/-- Index 0x2800. -/
def entries2800 : List Entry :=
  [Entry.num 0x2800 0x01 .u8 .rwl 0, -- PLUMB_MODE
   Entry.num 0x2800 0x02 .u16 .rw 32 0x00 4, -- PLUMB_DT
   Entry.num 0x2800 0x03 .u16 .ro 32 0x00 4, -- PLUMB_DT_EFF
   Entry.num 0x2800 0x04 .u32 .rw 0, -- PLUMB_PERIOD
   Entry.num 0x2800 0x05 .u32 .rw 0, -- VREF_NOM
   Entry.num 0x2800 0x06 .u32 .ro 0, -- VREF_MEAS
   Entry.num 0x2800 0x07 .u32 .wo 0, -- PLUMB_CMD
   Entry.num 0x2800 0x08 .u32 .rc 127, -- PLUMB_STATUS
   Entry.num 0x2800 0x09 .u8 .rw 0, -- CORE_INDEX
   Entry.num 0x2800 0x0A .u32 .ro 0 0x09, -- CORE_PLUMB
   Entry.num 0x2800 0x0B .u32 .ro 0 0x09, -- PLUMB_COUNT
   Entry.num 0x2800 0x0C .u32 .rc 0 0x09 -- PLUMB_DISAGREES
  ] ++
  [Entry.num 0x2800 0x0D .u32 .rc 0 0x09, -- PLUMB_REFUSED
   Entry.num 0x2800 0x0E .u64 .ro 0 0x09, -- PLUMB_LAST
   Entry.num 0x2800 0x0F .u32 .ro 0xFFFFFFFF 0x09, -- PLUMB_AGE
   Entry.num 0x2800 0x10 .i16 .ro 0 0x09 4, -- TEMP_AT_AMP
   Entry.num 0x2800 0x11 .u32 .ro 0, -- TIU_PLUMB_FAILED
   Entry.blob 0x2800 0x12 .domain .ro 48 48, -- LIVE_TRIM_DIGEST
   Entry.num 0x2800 0x18 .u8 .wo 0, -- YB_CMD
   Entry.num 0x2800 0x19 .u64 .rw 0xFFFFFFFFFFFFFFFF, -- YB_UTC
   Entry.num 0x2800 0x1A .u32 .rc 0, -- YB_STATUS
   Entry.num 0x2800 0x1B .u16 .ro 0, -- YB_COMMITS
   Entry.num 0x2800 0x1C .u64 .ro 0xFFFFFFFFFFFFFFFF, -- YB_LAST_UTC
   Entry.num 0x2800 0x1D .u16 .ro 0 -- YB_FREE
  ] ++
  [Entry.num 0x2800 0x1E .u8 .ro 0, -- YB_IN_FORCE
   Entry.num 0x2800 0x1F .u16 .ro 0, -- YB_SKIPPED
   Entry.num 0x2800 0x20 .u8 .rw 0, -- YB_READ_SLOT
   Entry.blob 0x2800 0x21 .domain .ro 7872 8192 -- YB_RECORD
  ]

/-- Index 0x2900. -/
def entries2900 : List Entry :=
  [Entry.num 0x2900 0x01 .u32 .ro 0, -- SEC_STATUS
   Entry.num 0x2900 0x02 .u16 .ro 0, -- ROLLBACK
   Entry.blob 0x2900 0x03 .domain .ro 97 97, -- IDENTITY_KEY
   Entry.blob 0x2900 0x04 .domain .ro 0 2048, -- DEVICE_CERT
   Entry.blob 0x2900 0x05 .domain .ro 0 2048, -- PRODUCT_CERT
   Entry.blob 0x2900 0x06 .domain .w1 48 48, -- OWNER_KEY_DIGEST
   Entry.num 0x2900 0x07 .u32 .rw 0, -- OWNER_POLICY
   Entry.blob 0x2900 0x08 .domain .rw 32 32, -- ATTEST_NONCE
   Entry.num 0x2900 0x09 .u8 .wo 0, -- ATTEST_CMD
   Entry.blob 0x2900 0x0A .domain .ro 488 5528, -- ATTEST_STATEMENT
   Entry.num 0x2900 0x0B .u32 .rc 0, -- SEC_REFUSALS
   Entry.num 0x2900 0x0C .u32 .ro 0 -- SEC_LAST_ABORT
  ] ++
  [Entry.num 0x2900 0x0D .u64 .rw 0, -- FW_SRC
   Entry.num 0x2900 0x0E .u32 .rw 0, -- FW_LEN
   Entry.num 0x2900 0x0F .u8 .wo 0, -- FW_CMD
   Entry.num 0x2900 0x10 .u64 .rw 0, -- CODE_SRC
   Entry.num 0x2900 0x11 .u32 .rw 0, -- CODE_LEN
   Entry.num 0x2900 0x12 .u8 .wo 0, -- CODE_CMD
   Entry.num 0x2900 0x15 .u32 .rw 0, -- REC_LENGTH
   Entry.blob 0x2900 0x16 .domain .wo 16 8960, -- REC_WRITE
   Entry.num 0x2900 0x17 .u8 .wo 0 -- REC_CMD
  ]

/-- Index 0x2A00. -/
def entries2A00 : List Entry :=
  [Entry.num 0x2A00 0x01 .u16 .ro 1200, -- ECLK_CEILING
   Entry.num 0x2A00 0x02 .u8 .ro 0, -- AGEING_STEPS
   Entry.num 0x2A00 0x03 .u32 .rc 0, -- AGEING_STATUS
   Entry.num 0x2A00 0x04 .u32 .ro 0, -- POWER_ON_HOURS
   Entry.num 0x2A00 0x05 .u32 .ro 0, -- POWER_CYCLES
   Entry.num 0x2A00 0x06 .u32 .ro 0, -- THROTTLE_EVENTS
   Entry.num 0x2A00 0x07 .u8 .rw 0, -- HIST_INDEX
   Entry.blob 0x2A00 0x08 .domain .ro 64 64 0x07, -- TEMP_HIST
   Entry.blob 0x2A00 0x09 .domain .ro 2064 2064, -- RC_COUNTERS
   Entry.num 0x2A00 0x0A .u8 .wo 0, -- RC_SAVE_CMD
   Entry.num 0x2A00 0x0B .u64 .ro 0 -- RC_LAST_SAVE
  ]

/-- Index 0x2B00. -/
def entries2B00 : List Entry :=
  [Entry.num 0x2B00 0x01 .u8 .wo 0, -- RECESS_CMD
   Entry.num 0x2B00 0x02 .u32 .rw 0, -- RECESS_CFG
   Entry.num 0x2B00 0x03 .u32 .ro 0, -- RECESS_STATUS
   Entry.num 0x2B00 0x04 .u32 .ro 0, -- CAPTURE_LENGTH
   Entry.num 0x2B00 0x05 .u32 .rw 0, -- CAPTURE_OFFSET
   Entry.blob 0x2B00 0x06 .domain .ro 4 8960, -- CAPTURE_DATA
   Entry.num 0x2B00 0x07 .bool .w1 0, -- DEBUG_LOCK
   Entry.num 0x2B00 0x08 .bool .rw 0 -- RAW_WRITE_EN
  ]

/-- The index whose entries an index has: 0x2400 for a channel's, 0x2480 for a bay's. -/
def classOf (ix : Nat) : Nat :=
  if 0x2400 ≤ ix ∧ ix < 0x2440 then 0x2400 else if 0x2480 ≤ ix ∧ ix < 0x2488 then 0x2480 else ix

/-- The channel or bay of an index. -/
def unitOf (ix : Nat) : Nat := ix - classOf ix

/-- The entries of an index, subindex 0 apart (R297). -/
def entriesAt (ix : Nat) : List Entry :=
  match classOf ix with
  | 0x1018 => entries1018
  | 0x1100 => entries1100
  | 0x1200 => entries1200
  | 0x2000 => entries2000
  | 0x2100 => entries2100
  | 0x2200 => entries2200
  | 0x2300 => entries2300
  | 0x2400 => entries2400
  | 0x2480 => entries2480
  | 0x2500 => entries2500
  | 0x2600 => entries2600
  | 0x2700 => entries2700
  | 0x2800 => entries2800
  | 0x2900 => entries2900
  | 0x2A00 => entries2A00
  | 0x2B00 => entries2B00
  | _ => []

/-- Entries that are in use in ROM recovery only (R335). -/
def Entry.recoveryOnly (e : Entry) : Bool := decide (e.index = 0x2900 ∧ 0x15 ≤ e.sub ∧ e.sub ≤ 0x17)

/-- An index of the raw register window (R296). -/
def rawIndex (ix : Nat) : Bool := decide (0x3000 ≤ ix ∧ ix ≤ 0x3FFF)

/-- A register of the raw window exists. -/
def rawExists (ix sub : Nat) : Bool := (Config.rawTarget (ix - 0x3000) sub).isSome

/-- The entries of an index in use in the device's present state. -/
def State.entriesAt (s : State) (ix : Nat) : List Entry :=
  (Machine.entriesAt ix).filter fun e => s.sec.recovery || !e.recoveryOnly

/-- The entry named, if in use (R293, R296): subindex 0 is the highest subindex of its index, but in the raw window. -/
def State.entry? (s : State) (ix sub : Nat) : Option Entry :=
  if rawIndex ix then (if rawExists ix sub then some (.num ix sub .u32 .rw 0) else none)
  else
    let es := s.entriesAt ix
    if es = [] then none
    else if sub = 0 then some (.num ix 0 .u8 .ro 0)
    else es.find? fun e => decide (e.sub = sub)

/-- The highest subindex in use at an index (R293). -/
def State.topSub (s : State) (ix : Nat) : Nat := ((s.entriesAt ix).map (·.sub)).foldl max 0

/-! ## Selectors (R292) -/

/-- Largest value of each index selector; none for an entry that is none. -/
def selectorMax (ix sub : Nat) : Option Nat :=
  match classOf ix, sub with
  | 0x2200, 0x01 => some 65535
  | 0x2200, 0x03 => some 1023
  | 0x2200, 0x05 => some 255
  | 0x2200, 0x0A => some 16383
  | 0x2300, 0x01 => some 95
  | 0x2300, 0x04 => some 6143
  | 0x2300, 0x18 => some 63
  | 0x2300, 0x28 => some 63
  | 0x2480, 0x03 => some 8
  | 0x2100, 0x20 => some 75
  | 0x2100, 0x40 => some 3
  | 0x2500, 0x10 => some 15
  | 0x2500, 0x12 => some 47
  | 0x2600, 0x01 => some 11
  | 0x2600, 0x03 => some 47
  | 0x2700, 0x04 => some 15
  | 0x2700, 0x1C => some 99
  | 0x2800, 0x09 => some 71
  | 0x2A00, 0x07 => some 9
  | _, _ => none

/-- The memory or image that an offset selector addresses: its size in bytes. -/
def offsetMax (ix sub : Nat) : Option Nat :=
  match ix, sub with
  | 0x1200, 0x03 => some 1048576
  | 0x2300, 0x02 => some 131072
  | 0x2300, 0x13 => some 16384
  | 0x2B00, 0x05 => some (2 ^ 32)
  | _, _ => none

/-- The entry is a selector (R292). -/
def isSelector (ix sub : Nat) : Bool := (selectorMax ix sub).isSome || (offsetMax ix sub).isSome

/-- A session's value of a selector. -/
def Selectors.get (x : Selectors) (ix sub : Nat) : Nat := sget (fun _ => 0) x.vals (256 * ix + sub)

/-- A selector set. -/
def Selectors.set (x : Selectors) (ix sub v : Nat) : Selectors :=
  { x with vals := sset (fun _ => 0) x.vals (256 * ix + sub) v }

/-- The element of an entry that a session's selector names (R292). -/
def Selectors.element (x : Selectors) (e : Entry) (ix : Nat) : Nat := if e.sel = 0 then 0 else x.get ix e.sel

/-! ## Persistence (R298) -/

/-- Entries that do not persist though their access, type and place would have them. -/
def keptOut (ix sub : Nat) : Bool :=
  match classOf ix, sub with
  | 0x2400, 0x01 => true
  | 0x2300, 0x22 => true
  | 0x2700, 0x19 => true
  | 0x2800, 0x19 => true
  | 0x2500, 0x07 => true
  | 0x2B00, 0x08 => true
  | _, _ => false

/-- DOMAIN entries that persist: BELL_OWNER, BREAK_POLICY, TT_LISTEN and both RAMP_PROFILE entries. -/
def domainPersists (ix sub : Nat) : Bool :=
  match classOf ix, sub with
  | 0x2500, 0x0A => true
  | 0x2500, 0x17 => true
  | 0x2300, 0x0E => true
  | 0x2400, 0x0E => true
  | 0x2100, 0x4A => true
  | _, _ => false

/-- What keeps an entry's value (R294 byte 2): 0 none, 1 the configuration copy, 2 the Yearbook, 3 fuses. -/
def Entry.persistence (e : Entry) (ix : Nat) : Nat :=
  if e.index = 0x2100 ∧ (e.sub = 0x16 ∨ e.sub = 0x36) then 2
  else if e.index = 0x2900 ∧ e.sub = 0x06 then 3
  else if e.type = .string ∨ e.type = .domain then (if domainPersists ix e.sub then 1 else 0)
  else if (e.access = .rw ∨ e.access = .rwl) ∧ isSelector ix e.sub = false ∧ ix ≠ 0x1200 ∧ rawIndex ix = false
      ∧ keptOut ix e.sub = false then 1
  else 0

/-- PASS of an entry's configuration record (R299): 2 for SYNM_EN, SYNA_EN and QUAD_CFG. -/
def passOf (ix sub : Nat) : Nat :=
  if ix = 0x2100 ∧ (sub = 0x10 ∨ sub = 0x30) then 2 else if ix = 0x2600 ∧ sub = 0x02 then 2 else 1

end Sys2Proof.Machine
end

