-- ==== Sys2Proof/Machine/Reads.lean ====
section
/-! DEFINITION. What a READ of each entry returns (R289, R291, the entry tables): numbers by their bits, STRING and
DOMAIN entries as bytes. The element is the value of the entry's index selector (R292). -/

namespace Sys2Proof.Machine

/-! ## Identity and card values that reads and statements share -/

/-- SERIAL (R392): digits and upper-case letters. -/
def serialBytes : Bytes :=
  (List.finRange 12).map fun i =>
    let v := (Config.serialChar i).val
    BitVec.ofNat 8 (if v < 10 then 48 + v else 55 + v)

/-- IDENTITY_KEY (R326): 0x04, then X and Y. -/
def identityKey : Bytes := 0x04#8 :: (leBytes 96 Config.identityPoint.toNat).reverse

/-- PART_NAME: "XM6448-B0". -/
def partName : Bytes := [0x58#8, 0x4D#8, 0x36#8, 0x34#8, 0x34#8, 0x38#8, 0x2D#8, 0x42#8, 0x30#8]

/-- POWER_ON_SECONDS (R347). -/
def State.powerOnSeconds (s : State) : Nat := min (2 ^ 64 - 1) (s.card.seconds + (s.now - s.sys.porAt) / secFs)

/-- POWER_ON_HOURS (R347): it saturates (R346). -/
def State.powerOnHours (s : State) : Nat := min (2 ^ 32 - 1) (s.powerOnSeconds / 3600)

/-- TEMP_HIST of a die. -/
def Card.histBytes (c : Card) (die : Nat) : Bytes :=
  (List.range 16).flatMap fun k => leBytes 4 (sget (fun _ => 0) c.hist (16 * die + k))

/-- The report-card image (R347). -/
def State.cardImage (s : State) : Bytes :=
  let c := s.card
  let n (v : Sparse Nat) (count : Nat) : Bytes := (List.range count).flatMap fun i => leBytes 4 (sget (fun _ => 0) v i)
  leBytes 4 0x01035243 ++ leBytes 4 c.cycles ++ leBytes 8 s.powerOnSeconds ++ leBytes 4 c.throttles ++ n c.droops 3
    ++ leBytes 4 c.lateBells ++ leBytes 4 c.underruns ++ leBytes 8 c.hbmCe ++ leBytes 8 c.hbmUe ++ leBytes 4 c.faultSafes
    ++ leBytes 4 (s.eclk.ceiling + fld c.steps 16 + fld c.dtSteps 24)
    ++ ((List.range 10).flatMap c.histBytes) ++ n c.compl 64 ++ n c.plumbs 72 ++ n c.disagrees 72 ++ n c.laneDowns 48
    ++ ((List.range 6).flatMap fun d =>
      let m := sget (fun _ => ((0 : Int), 0)) c.monitors d
      leBytes 4 (lowBits 32 m.1) ++ leBytes 4 m.2)
    ++ ((List.range 72).flatMap fun i =>
      let e := sget (fun _ => (0, 0)) c.trend i
      leBytes 4 (e.1 + fld e.2 8))

/-- The words of the raw register window, 256 to a block (R296), that back an element of an entry. -/
@[irreducible] def rawWordsOf (ix sub e : Nat) : List Nat :=
  (List.range (4096 * 256)).filter fun i =>
    match Config.rawTarget (i / 256) (i % 256) with
    | some (k, e', _) => decide (k = 256 * ix + sub ∧ e' = e)
    | none => false

/-- The backing registers of an entry (R294, R296): first block, first word, count. -/
def backingOf (ix sub e : Nat) : Nat × Nat × Nat :=
  let ws := rawWordsOf ix sub e
  (ws.headD 0 / 256, ws.headD 0 % 256, ws.length)

/-- PARITY_ADDR (R302). -/
def Sys.parityAddr (y : Sys) : Nat :=
  match y.parity with
  | (r, e) :: _ =>
    let (b, w, _) := backingOf r.index.toNat r.sub.toNat e
    flag true 31 + fld b 16 + fld w 8
  | [] => 0

/-- HOLDOVER_TIME: whole seconds in the current holdover. -/
def State.holdoverTime (s : State) : Nat :=
  match s.ref.holdSince with
  | some x => (s.now - x) / secFs
  | none => 0

/-- The core that CORE_SEL of bay `b` names. -/
def selectedCore (b sel : Nat) : Nat := if sel = 8 then 64 + b else 8 * b + sel

/-- CREDIT_ZERO_NS (R211): the time with the landing buffer full, that still running included, whole ns. -/
def State.creditZero (s : State) (l : Nat) : Nat :=
  let v := s.lane l
  (v.zeroFs + (match v.fullSince with
    | some x => s.now - x
    | none => 0)) / nsFs

/-! ## Numbers -/

/-- Indices 0x1018, 0x1100 and 0x1200. -/
def State.readComm (s : State) (ix sub : Nat) : Nat :=
  match ix, sub with
  | 0x1018, 0x01 => 0x4E560001
  | 0x1018, 0x02 => 0x6448
  | 0x1018, 0x03 => 0xB0
  | 0x1018, 0x06 => s.sec.fwVersion.toNat
  | 0x1100, 0x01 => 6
  | 0x1100, 0x02 => (s.oda.sessions.filter fun x => !x.proxy).length
  | 0x1100, 0x03 => s.oda.timeout
  | 0x1100, 0x04 => s.oda.routeTimeout
  | 0x1100, 0x05 => Config.macBase.toNat
  | 0x1100, 0x06 => s.oda.ipv4.toNat
  | 0x1100, 0x07 => counter 32 s.oda.aborts
  | 0x1100, 0x08 => counter 32 s.oda.duplicates
  | 0x1100, 0x09 => counter 32 s.oda.bad
  | 0x1100, 0x0A => counter 32 s.oda.timeouts
  | 0x1100, 0x0B => counter 32 s.oda.routeTimeouts
  | 0x1200, 0x02 => s.cfgStatus
  | 0x1200, 0x05 => s.cfg.length
  | 0x1200, 0x06 => s.cfg.seq
  | 0x1200, 0x07 => s.cfg.slot
  | 0x1200, 0x08 => counter 32 s.cfg.applied
  | 0x1200, 0x09 => counter 32 s.cfg.skipped
  | _, _ => 0

/-- Index 0x2000. -/
def State.readSys (s : State) (sub : Nat) : Nat :=
  match sub with
  | 0x01 => s.sys.state.code
  | 0x04 => s.sys.cause
  | 0x05 => s.sys.regStatus
  | 0x06 => s.sys.parityAddr
  | 0x07 => counter 32 s.sys.parityFaults
  | 0x08 => counter 32 s.sys.writeLosts
  | 0x09 => counter 32 s.sys.lockViolations
  | 0x0A => s.railStatus
  | 0x0B => s.sys.alertMask.toNat
  | 0x0C => s.sys.alertStatus
  | 0x0D => s.sys.bootTime
  | _ => 0

/-- Entries 0x10 to 0x18 and 0x30 to 0x38 of index 0x2100: those of a synthesizer. -/
def State.readSyn (s : State) (y : Syn) (sub : Nat) : Nat :=
  let v := s.syn y
  match sub with
  | 0x0 => flag v.en 0
  | 0x1 => v.refDiv
  | 0x2 => v.nInt
  | 0x3 => v.frac
  | 0x4 => v.lbw
  | 0x5 => s.synStatus y
  | 0x7 => counter 32 v.attempts
  | 0x8 => counter 32 v.lols
  | _ => 0

/-- Index 0x2100. -/
def State.readClock (s : State) (sub e : Nat) : Nat :=
  if 0x10 ≤ sub ∧ sub ≤ 0x18 then s.readSyn .M (sub - 0x10)
  else if 0x30 ≤ sub ∧ sub ≤ 0x38 then s.readSyn .A (sub - 0x30)
  else match sub with
    | 0x01 => s.ref.freq
    | 0x02 => s.ref.window
    | 0x03 => s.refStatus
    | 0x04 => flag s.ref.xtalSrc 0
    | 0x05 => s.ref.ret
    | 0x06 => s.ref.qual
    | 0x07 => s.ref.slewRate
    | 0x08 => lowBits 64 s.ref.step
    | 0x0A => counter 32 s.holdoverTime
    | 0x0B => counter 32 s.ref.holdovers
    | 0x0C => lowBits 32 s.ref.xtalAdj
    | 0x0D => lowBits 32 s.ref.xtalOffset
    | 0x0E => flag s.ref.alignPps 0
    | 0x0F => s.ref.tbWord
    | 0x21 => (s.output e).cfgWord
    | 0x22 => (s.output e).delayWord
    | 0x23 => if e < 72 then lowBits 32 (s.core e).trims.fine else 0
    | 0x41 => (s.output (76 + e)).cfgWord
    | 0x42 => (s.output (76 + e)).delayWord
    | 0x49 => s.ramp.cfgWord
    | 0x4B => s.ramp.statusWord
    | 0x4C => counter 32 s.ramp.late
    | _ => 0

/-- Index 0x2200. -/
def State.readMemory (s : State) (sub e : Nat) : Nat :=
  match sub with
  | 0x08 => s.mem.bulkBase
  | 0x09 => s.mem.bulkPages
  | 0x0B => s.mem.pageStatus e
  | 0x10 => counter 64 s.mem.ceCount
  | 0x11 => counter 64 s.mem.ueGranules
  | 0x12 => counter 32 s.mem.ueScrub
  | 0x13 => counter 32 s.mem.refused
  | _ => 0

/-- Index 0x2300. -/
def State.readJoiner (s : State) (sub e : Nat) : Nat :=
  match sub with
  | 0x06 => (s.tt e).statusWord
  | 0x07 => (s.tt e).entry
  | 0x08 => (s.tt e).prio
  | 0x0D => (s.tt e).gangWord
  | 0x10 => (s.tt e).underrun.toNat
  | 0x11 => (s.tt e).faultCfg.toNat
  | 0x19 => (s.chan e).leader
  | 0x1A => s.depth e
  | 0x1B => counter 32 (s.chan e).fullWaits
  | 0x1C => counter 32 (s.joiner e).overwrites
  | 0x20 => s.evr.base
  | 0x21 => s.evr.head.toNat
  | 0x22 => s.evr.tail.toNat
  | 0x23 => flag s.evr.waitPolicy 0
  | 0x24 => counter 32 s.evr.dropped
  | 0x25 => flag s.evr.enable 0
  | 0x29 => (s.chan e).pbStatus
  | 0x2A => flag (s.chan e).vals.fillHold 0
  | 0x2B => (s.chan e).limit
  | 0x2C => counter 32 (s.chan e).empties
  | 0x2D => counter 32 (s.chan e).lateGates
  | 0x2E => counter 32 (s.chan e).escFires
  | 0x2F => counter 32 (s.chan e).underruns
  | 0x30 => counter 64 (s.chan e).slip
  | 0x31 => counter 64 (s.chan e).dropped
  | _ => 0

/-- Index 0x2400 + n. A staged FTW_LO is not visible (R124). -/
def State.readChannel (s : State) (n sub : Nat) : Nat :=
  let c := s.chan n
  match sub with
  | 0x01 => c.ctrlWord
  | 0x02 => c.statusWord
  | 0x03 => c.span.toNat
  | 0x04 => c.vals.mode.toNat
  | 0x05 => c.vals.freq.toNat % 2 ^ 32
  | 0x06 => c.vals.freq.toNat / 2 ^ 32
  | 0x07 => c.vals.phase.toNat
  | 0x08 => c.vals.amp.toNat
  | 0x09 => c.vals.gain.toNat
  | 0x0A => c.vals.offset.toNat
  | 0x0B => c.vals.hold
  | 0x0C => lowBits 16 c.vals.park.toInt
  | 0x0D => c.route.toNat
  | 0x0F => counter 32 (s.pipeLat n)
  | 0x10 => counter 64 c.satCount
  | 0x11 => counter 32 c.ueGranules
  | 0x12 => counter 32 c.complFaults
  | 0x13 => c.faultBell.toNat
  | _ => 0

/-- Index 0x2480 + b. -/
def State.readBay (s : State) (b sub e : Nat) : Nat :=
  match sub with
  | 0x01 => (s.bay b).fadeG
  | 0x02 => s.subStatus b
  | 0x05 => lowBits 16 (s.core (selectedCore b e)).trims.gain.toInt
  | 0x06 => lowBits 16 (s.core (selectedCore b e)).trims.offset.toInt
  | 0x07 => (s.core (selectedCore b e)).temp.toNat
  | 0x08 => counter 32 (s.bay b).handovers
  | 0x09 => counter 32 (s.bay b).holds
  | 0x0A => counter 32 (s.bay b).aborts
  | _ => 0

/-- Index 0x2500. -/
def State.readTruss (s : State) (sub e : Nat) : Nat :=
  let t := s.truss
  match sub with
  | 0x01 => t.num
  | 0x02 => s.trussStatus
  | 0x03 => s.horizonAt s.trussNow
  | 0x04 => t.hMin
  | 0x05 => s.tmaxAt s.trussNow
  | 0x06 => s.trussNow.toNat
  | 0x07 => t.epochValue.toNat
  | 0x0B => t.latePolicy
  | 0x0C => counter 32 t.lateBells
  | 0x0D => counter 32 t.slowBells
  | 0x0E => counter 32 t.refused
  | 0x0F => s.mkCfgOf e
  | 0x11 => counter 32 t.mkLost
  | 0x13 => (s.lane e).role
  | 0x14 => s.linkStatus e
  | 0x15 => counter 32 (s.lane e).delayPs
  | 0x18 => t.breakBell.toNat
  | 0x19 => t.breakTime.toNat
  | 0x1B => lowBits 64 t.rejoinStep
  | 0x1C => lowBits 32 t.residue
  | 0x1D => counter 32 t.linkLosses
  | 0x1E => counter 32 t.trainFails
  | 0x1F => counter 32 t.badBlocks
  | _ => 0

/-- Index 0x2600. The ETH entries of a lane that has no ETH port read zero. -/
def State.readLane (s : State) (sub e : Nat) : Nat :=
  let v := s.lane e
  if 0x10 ≤ sub ∧ 16 ≤ e then 0
  else match sub with
    | 0x02 => (s.quad e).cfgWord
    | 0x04 => s.laneStatus e
    | 0x05 => v.test
    | 0x06 => counter 64 v.prbsBits
    | 0x07 => counter 64 v.prbsErrors
    | 0x08 => landingMax
    | 0x09 => counter 64 (s.creditZero e)
    | 0x0A => counter 32 v.violations
    | 0x0B => counter 32 v.displaced
    | 0x0C => counter 32 v.truncated
    | 0x0D => counter 32 v.refused
    | 0x0E => counter 32 v.seqGaps
    | 0x0F => counter 32 v.downs
    | 0x10 => (s.macOf e).toNat
    | 0x11 => v.ipv4.toNat
    | 0x12 => v.vlanWord
    | 0x13 => v.pmd
    | 0x14 => counter 64 v.rxFrames
    | 0x15 => counter 32 v.ethDropped
    | 0x16 => counter 64 v.dropBytes
    | 0x17 => counter 32 v.fcsErrors
    | 0x18 => counter 32 v.other
    | 0x19 => counter 32 v.pauseRx
    | 0x1A => counter 32 v.peak
    | _ => 0

/-- Index 0x2700. -/
def State.readTiu (s : State) (sub e : Nat) : Nat :=
  let v := s.slot e
  let k : Int := v.unit
  match sub with
  | 0x01 => flag s.tiu.xtal 0
  | 0x02 => flag s.tiu.stop 0
  | 0x03 => s.tiuStatus
  | 0x05 => v.cfg.toNat
  | 0x06 => v.meas.toNat
  | 0x07 => v.n
  | 0x08 => v.gate
  | 0x09 => lowBits 64 v.cmpLo
  | 0x0A => lowBits 64 v.cmpHi
  | 0x0B => v.cmpBell
  | 0x0D => v.statusWord
  | 0x0E => counter 64 v.count
  | 0x0F => lowBits 64 (k * v.last)
  | 0x10 => lowBits 64 v.mean
  | 0x11 => lowBits 64 v.sd
  | 0x12 => lowBits 64 (k * v.xmin)
  | 0x13 => lowBits 64 (k * v.xmax)
  | 0x15 => counter 32 v.missed
  | 0x16 => counter 32 v.missedFull
  | 0x17 => counter 32 v.resyncs
  | 0x18 => s.tiu.head.toNat
  | 0x19 => s.tiu.tail.toNat
  | 0x1B => counter 32 s.tiu.dropped
  | 0x1E => counter 32 (s.table e).hits
  | 0x1F => counter 32 v.mkMissed
  | _ => 0

/-- Index 0x2800. -/
def State.readPlumb (s : State) (sub e : Nat) : Nat :=
  let p := s.plumb
  match sub with
  | 0x01 => p.mode
  | 0x02 => p.dt
  | 0x03 => s.dtEff
  | 0x04 => p.period
  | 0x05 => p.vrefNom
  | 0x06 => p.vrefMeas
  | 0x08 => s.plumbStatus
  | 0x0A => (s.core e).statusWord
  | 0x0B => counter 32 (s.core e).count
  | 0x0C => counter 32 (s.core e).disagrees
  | 0x0D => counter 32 (s.core e).refused
  | 0x0E => (s.core e).last.toNat
  | 0x0F => s.plumbAge e
  | 0x10 => (s.core e).tempAtAmp.toNat
  | 0x11 => p.tiuFailed.toNat
  | 0x19 => p.utc.toNat
  | 0x1A => s.ybStatus
  | 0x1B => p.commits
  | 0x1C => p.lastUtc.toNat
  | 0x1D => s.ybFree
  | 0x1E => p.inForce
  | 0x1F => p.skipped
  | 0x20 => p.readSlot
  | _ => 0

/-- Index 0x2900. -/
def State.readSec (s : State) (sub : Nat) : Nat :=
  let v := s.sec
  match sub with
  | 0x01 => s.secStatus
  | 0x02 => v.rollback
  | 0x07 => flag v.reqSigned 0
  | 0x0B => counter 32 v.refusals
  | 0x0C => v.lastAbort.toNat
  | 0x0D => v.fwSrc
  | 0x0E => v.fwLen
  | 0x10 => v.codeSrc
  | 0x11 => v.codeLen
  | 0x15 => v.recLength
  | _ => 0

/-- Indices 0x2A00 and 0x2B00. -/
def State.readCard (s : State) (ix sub : Nat) : Nat :=
  match ix, sub with
  | 0x2A00, 0x01 => s.eclk.ceiling
  | 0x2A00, 0x02 => s.card.steps
  | 0x2A00, 0x03 => s.card.ageingStatus
  | 0x2A00, 0x04 => s.powerOnHours
  | 0x2A00, 0x05 => s.card.cycles
  | 0x2A00, 0x06 => s.card.throttles
  | 0x2A00, 0x0B => s.card.lastSave.toNat
  | 0x2B00, 0x02 => s.recess.cfgWord
  | 0x2B00, 0x03 => s.recessStatus
  | 0x2B00, 0x04 => s.captureLength
  | 0x2B00, 0x07 => flag s.sys.debugLock 0
  | 0x2B00, 0x08 => flag s.sys.rawEn 0
  | _, _ => 0

/-- The value of a BOOL or integer entry but for selectors, as its bits; element `e`. -/
def State.readNum (s : State) (ix sub e : Nat) : Nat :=
  if sub = 0 then s.topSub ix
  else match classOf ix with
    | 0x2000 => s.readSys sub
    | 0x2100 => s.readClock sub e
    | 0x2200 => s.readMemory sub e
    | 0x2300 => s.readJoiner sub e
    | 0x2400 => s.readChannel (unitOf ix) sub
    | 0x2480 => s.readBay (unitOf ix) sub e
    | 0x2500 => s.readTruss sub e
    | 0x2600 => s.readLane sub e
    | 0x2700 => s.readTiu sub e
    | 0x2800 => s.readPlumb sub e
    | 0x2900 => s.readSec sub
    | 0x2A00 => s.readCard ix sub
    | 0x2B00 => s.readCard ix sub
    | _ => s.readComm ix sub

/-! ## STRING and DOMAIN entries -/

/-- Bytes of a table of one byte an item. -/
def tableBytes (t : Sparse Nat) (n : Nat) : Bytes := (List.range n).map fun i => BitVec.ofNat 8 (sget (fun _ => 0) t i)

/-- RAMP_PROFILE of a channel (R125). -/
def Channel.profileBytes (c : Channel) : Bytes :=
  (List.range 16).flatMap fun p =>
    let v := c.piece p
    leBytes 8 v.step.toNat ++ leBytes 4 v.lenG ++ leBytes 4 0

/-- RAMP_PROFILE of SYN-A (R169). -/
def SynRamp.profileBytes (r : SynRamp) : Bytes :=
  (List.range 32).flatMap fun p =>
    let v := r.at_ p
    leBytes 4 v.step.toNat ++ leBytes 4 v.dwell ++ leBytes 4 v.count ++ leBytes 4 0

/-- Band table of a synthesizer (R152). -/
def Synth.bandBytes (v : Synth) : Bytes := (List.range 64).flatMap fun i => (v.band i).bytes

/-- BIN_TABLE (R248). -/
def BinTable.bytes (b : BinTable) : Bytes := (List.range 4096).flatMap fun j => leBytes 2 (lowBits 16 (b.width j))

/-- Words of a sparse memory from a byte offset, `n` bytes. -/
def memBytes (m : Sparse Word) (at_ n : Nat) : Bytes :=
  wordsBytes ((List.range (n / 4)).map fun i => sget (fun _ => 0) m (at_ / 4 + i))

/-- The value of a STRING or DOMAIN entry that no offset selector addresses; element `e`. -/
def State.readBlob (s : State) (ix sub e : Nat) : Bytes :=
  match classOf ix, sub with
  | 0x1018, 0x04 => serialBytes
  | 0x1018, 0x05 => partName
  | 0x1200, 0x0A => s.cfg.firstSkip
  | 0x2100, 0x16 => s.synM.bandBytes
  | 0x2100, 0x36 => s.synA.bandBytes
  | 0x2100, 0x4A => s.ramp.profileBytes
  | 0x2200, 0x02 => (s.mem.seg e).bytes
  | 0x2200, 0x04 => (List.range 4).flatMap fun i => (s.mem.event e i).bytes
  | 0x2200, 0x06 => (s.mem.ring e).bytes
  | 0x2300, 0x09 => (s.tt e).scratchBytes
  | 0x2300, 0x0A => (s.tt e).regsBytes
  | 0x2300, 0x0B => (s.tt e).loopsBytes
  | 0x2300, 0x0C => (s.tt e).fault.bytes
  | 0x2300, 0x0E => leBytes 32 (s.tt e).listen.toNat
  | 0x2300, 0x0F => leBytes 32 (s.tt e).latches.toNat
  | 0x2400, 0x0E => (s.chan (unitOf ix)).profileBytes
  | 0x2480, 0x04 => (s.core (selectedCore (unitOf ix) e)).trims.cells
  | 0x2500, 0x0A => (List.range 256).map fun b => BitVec.ofNat 8 (s.owner b)
  | 0x2500, 0x16 => s.mapRead
  | 0x2500, 0x17 => tableBytes s.truss.policy 64
  | 0x2700, 0x14 => (s.slot e).sumsBytes
  | 0x2700, 0x1A => s.streamData
  | 0x2700, 0x1D => (s.table e).bytes
  | 0x2800, 0x12 => s.trimDigest
  | 0x2800, 0x21 => s.ybImage s.plumb.readSlot
  | 0x2900, 0x03 => identityKey
  | 0x2900, 0x04 => (Config.deviceCert identityKey serialBytes).take 2048
  | 0x2900, 0x05 => Config.productCert.take 2048
  | 0x2900, 0x06 => s.sec.ownerDigest
  | 0x2900, 0x08 => s.sec.nonce
  | 0x2900, 0x0A => s.sec.statement
  | 0x2A00, 0x08 => s.card.histBytes e
  | 0x2A00, 0x09 => s.cardImage
  | _, _ => []

/-! ## Clearing RC fields (R290, R304) -/

/-- A word's RC fields: each field of an RC entry of index 0x2100 written with the value a raw write gives it; a read
that clears writes zero. -/
def State.putClock (s : State) (sub v : Nat) : State :=
  match sub with
  | 0x03 => { s with ref := { s.ref with
      lost := bitOf v 25, returned := bitOf v 24, ppsMargin := bitOf v 22, alignTimeout := bitOf v 21
      xtalRange := bitOf v 20 } }
  | 0x0B => { s with ref := { s.ref with holdovers := v } }
  | 0x15 => s.modSyn .M fun y => { y with lol := bitOf v 26, ceilTrip := bitOf v 25 }
  | 0x17 => s.modSyn .M fun y => { y with attempts := v }
  | 0x18 => s.modSyn .M fun y => { y with lols := v }
  | 0x35 => s.modSyn .A fun y => { y with lol := bitOf v 26, ceilTrip := bitOf v 25 }
  | 0x37 => s.modSyn .A fun y => { y with attempts := v }
  | 0x38 => s.modSyn .A fun y => { y with lols := v }
  | 0x4C => { s with ramp := { s.ramp with late := v } }
  | _ => s

/-- RC entries of index 0x2300. -/
def State.putJoiner (s : State) (sub e v : Nat) : State :=
  match sub with
  | 0x1B => s.modChan e fun c => { c with fullWaits := v }
  | 0x1C => s.modJoiner e fun j => { j with overwrites := v }
  | 0x24 => { s with evr := { s.evr with dropped := v } }
  | 0x29 => s.modChan e fun c => { c with pbFlags := BitVec.ofNat 6 (v / 2 ^ 26) }
  | 0x2C => s.modChan e fun c => { c with empties := v }
  | 0x2D => s.modChan e fun c => { c with lateGates := v }
  | 0x2E => s.modChan e fun c => { c with escFires := v }
  | 0x2F => s.modChan e fun c => { c with underruns := v }
  | 0x30 => s.modChan e fun c => { c with slip := v }
  | 0x31 => s.modChan e fun c => { c with dropped := v }
  | _ => s

/-- RC entries of a channel. -/
def State.putChannel (s : State) (n sub v : Nat) : State :=
  match sub with
  | 0x02 => s.modChan n fun c => { c with flags := BitVec.ofNat 8 (v / 65536) }
  | 0x10 => s.modChan n fun c => { c with satCount := v }
  | 0x11 => s.modChan n fun c => { c with ueGranules := v }
  | 0x12 => s.modChan n fun c => { c with complFaults := v }
  | _ => s

/-- RC entries of a bay. -/
def State.putBay (s : State) (b sub v : Nat) : State :=
  match sub with
  | 0x08 => s.modBay b fun x => { x with handovers := v }
  | 0x09 => s.modBay b fun x => { x with holds := v }
  | 0x0A => s.modBay b fun x => { x with aborts := v }
  | _ => s

/-- RC entries of index 0x2500. -/
def State.putTruss (s : State) (sub e v : Nat) : State :=
  let t := s.truss
  match sub with
  | 0x02 => { s with truss := { t with flags := BitVec.ofNat 6 (v / 2 ^ 18) } }
  | 0x0C => { s with truss := { t with lateBells := v } }
  | 0x0D => { s with truss := { t with slowBells := v } }
  | 0x0E => { s with truss := { t with refused := v } }
  | 0x11 => { s with truss := { t with mkLost := v } }
  | 0x14 => s.modLane e fun l => { l with
      lost := bitOf v 24, roleBad := bitOf v 23, refBad := bitOf v 22, idBad := bitOf v 21 }
  | 0x1D => { s with truss := { t with linkLosses := v } }
  | 0x1E => { s with truss := { t with trainFails := v } }
  | 0x1F => { s with truss := { t with badBlocks := v } }
  | _ => s

/-- RC entries of index 0x2600. A landing buffer that is full goes on counting from the read (R304), and the highest
occupancy since the read is at least that of the read (R214). -/
def State.putLane (s : State) (sub e v : Nat) : State :=
  let now := s.now
  s.modLane e fun l =>
    match sub with
    | 0x04 => { l with flags := BitVec.ofNat 4 (v / 2 ^ 20), roleBadLane := bitOf v 19 }
    | 0x07 => { l with prbsErrors := v }
    | 0x09 => { l with zeroFs := v * nsFs, fullSince := l.fullSince.map fun _ => now }
    | 0x0A => { l with violations := v }
    | 0x0B => { l with displaced := v }
    | 0x0C => { l with truncated := v }
    | 0x0D => { l with refused := v }
    | 0x0E => { l with seqGaps := v }
    | 0x0F => { l with downs := v }
    | 0x14 => { l with rxFrames := v }
    | 0x15 => { l with ethDropped := v }
    | 0x16 => { l with dropBytes := v }
    | 0x17 => { l with fcsErrors := v }
    | 0x18 => { l with other := v }
    | 0x19 => { l with pauseRx := v }
    | 0x1A => { l with peak := max v l.occupancy }
    | _ => l

/-- RC entries of index 0x2700. -/
def State.putTiu (s : State) (sub e v : Nat) : State :=
  match sub with
  | 0x03 => { s with tiu := { s.tiu with lost := bitOf v 29 } }
  | 0x0D => s.modSlot e fun x => { x with flags := BitVec.ofNat 8 (v / 2 ^ 21) }
  | 0x15 => s.modSlot e fun x => { x with missed := v }
  | 0x16 => s.modSlot e fun x => { x with missedFull := v }
  | 0x17 => s.modSlot e fun x => { x with resyncs := v }
  | 0x1B => { s with tiu := { s.tiu with dropped := v } }
  | 0x1F => s.modSlot e fun x => { x with mkMissed := v }
  | _ => s

/-- RC entries of the other indices. -/
def State.putSystem (s : State) (ix sub e v : Nat) : State :=
  match ix, sub with
  | 0x1100, 0x07 => { s with oda := { s.oda with aborts := v } }
  | 0x1100, 0x08 => { s with oda := { s.oda with duplicates := v } }
  | 0x1100, 0x09 => { s with oda := { s.oda with bad := v } }
  | 0x1100, 0x0A => { s with oda := { s.oda with timeouts := v } }
  | 0x1100, 0x0B => { s with oda := { s.oda with routeTimeouts := v } }
  | 0x1200, 0x02 => { s with cfg := { s.cfg with done := bitOf v 28, failed := bitOf v 27 } }
  | 0x2000, 0x05 => { s with sys := { s.sys with
      cfgParity := bitOf v 30, writeLost := bitOf v 29, lockViolation := bitOf v 28 } }
  | 0x2000, 0x07 => { s with sys := { s.sys with parityFaults := v } }
  | 0x2000, 0x08 => { s with sys := { s.sys with writeLosts := v } }
  | 0x2000, 0x09 => { s with sys := { s.sys with lockViolations := v } }
  | 0x2000, 0x0A => { s with sys := { s.sys with warn := BitVec.ofNat 13 (v / 65536) } }
  | 0x2000, 0x0C => { s with sys := { s.sys with alert := BitVec.ofNat 16 (v / 65536) } }
  | 0x2200, 0x13 => { s with mem := { s.mem with refused := v } }
  | 0x2800, 0x08 => { s with plumb := { s.plumb with flags := BitVec.ofNat 5 (v / 2 ^ 19) } }
  | 0x2800, 0x0C => s.modCore e fun c => { c with disagrees := v }
  | 0x2800, 0x0D => s.modCore e fun c => { c with refused := v }
  | 0x2800, 0x1A => { s with plumb := { s.plumb with
      done := bitOf v 28, programFail := bitOf v 27, holdupLost := bitOf v 26 } }
  | 0x2900, 0x0B => { s with sec := { s.sec with refusals := v } }
  | 0x2A00, 0x03 => { s with card := { s.card with flags := BitVec.ofNat 5 (v / 2 ^ 27) } }
  | _, _ => s

/-- The RC fields of an entry take their bits of `v`; a read clears them with `v` = 0. -/
def State.putRc (s : State) (ix sub e v : Nat) : State :=
  match classOf ix with
  | 0x2100 => s.putClock sub v
  | 0x2300 => s.putJoiner sub e v
  | 0x2400 => s.putChannel (unitOf ix) sub v
  | 0x2480 => s.putBay (unitOf ix) sub v
  | 0x2500 => s.putTruss sub e v
  | 0x2600 => s.putLane sub e v
  | 0x2700 => s.putTiu sub e v
  | _ => s.putSystem ix sub e v

/-- Registers that no RC field and no host write reaches, and that hardware only counts or records (R296, R305). -/
def State.putRo (s : State) (ix sub e v : Nat) : State :=
  match classOf ix, sub with
  | 0x2000, 0x04 => { s with sys := { s.sys with cause := v % 256 } }
  | 0x2000, 0x0D => { s with sys := { s.sys with bootTime := v } }
  | 0x2100, 0x08 => { s with ref := { s.ref with step := signed 64 v } }
  | 0x2200, 0x10 => { s with mem := { s.mem with ceCount := v } }
  | 0x2200, 0x11 => { s with mem := { s.mem with ueGranules := v } }
  | 0x2200, 0x12 => { s with mem := { s.mem with ueScrub := v } }
  | 0x2300, 0x21 => { s with evr := { s.evr with head := BitVec.ofNat 32 v } }
  | 0x2500, 0x19 => { s with truss := { s.truss with breakTime := BitVec.ofNat 64 v } }
  | 0x2500, 0x1B => { s with truss := { s.truss with rejoinStep := signed 64 v } }
  | 0x2500, 0x1C => { s with truss := { s.truss with residue := signed 32 v } }
  | 0x2600, 0x06 => s.modLane e fun l => { l with prbsBits := v }
  | 0x2700, 0x0E => s.modSlot e fun x => { x with count := v }
  | 0x2700, 0x18 => { s with tiu := { s.tiu with head := BitVec.ofNat 32 v } }
  | 0x2800, 0x06 => { s with plumb := { s.plumb with vrefMeas := v } }
  | 0x2800, 0x0B => s.modCore e fun c => { c with count := v }
  | 0x2800, 0x0E => s.modCore e fun c => { c with last := BitVec.ofNat 64 v }
  | 0x2800, 0x11 => { s with plumb := { s.plumb with tiuFailed := BitVec.ofNat 17 v } }
  | 0x2800, 0x1B => { s with plumb := { s.plumb with commits := v } }
  | 0x2800, 0x1C => { s with plumb := { s.plumb with lastUtc := BitVec.ofNat 64 v } }
  | 0x2800, 0x1F => { s with plumb := { s.plumb with skipped := v } }
  | 0x2900, 0x0C => { s with sec := { s.sec with lastAbort := BitVec.ofNat 32 v } }
  | 0x2A00, 0x02 => { s with card := { s.card with steps := v % 256 } }
  | 0x2A00, 0x05 => { s with card := { s.card with cycles := v } }
  | 0x2A00, 0x06 => { s with card := { s.card with throttles := v } }
  | 0x2A00, 0x0B => { s with card := { s.card with lastSave := BitVec.ofNat 64 v } }
  | _, _ => s

/-- An RC entry as a read of this cycle finds it: without what is set or counted in the same cycle (R304, R305); kept for
ALERT_STATUS, TRUSS_STATUS and LATE_BELLS (assumption log 130). -/
def State.rcAtRead (s : State) (ix sub : Nat) : State :=
  match ix, sub with
  | 0x2000, 0x0C =>
    let old := wasIn s.sys.alertWas s.moment
    { s with sys := { s.sys with alert := old.getD s.sys.alert } }
  | 0x2500, 0x02 =>
    let old := wasIn s.truss.flagsWas s.moment
    { s with truss := { s.truss with flags := old.getD s.truss.flags } }
  | 0x2500, 0x0C =>
    let old := wasIn s.truss.lateWas s.moment
    { s with truss := { s.truss with lateBells := old.getD s.truss.lateBells } }
  | _, _ => s

/-- What has been counted in LATE_BELLS in this cycle. -/
def State.lateThisCycle (s : State) : Nat :=
  match wasIn s.truss.lateWas s.moment with
  | some old => s.truss.lateBells - old
  | none => 0

/-- A read clears the RC fields of an entry; what is set or counted in the same cycle is kept after the clear (R304). -/
def State.clearRc (s : State) (ix sub e : Nat) : State :=
  match ix, sub with
  | 0x2000, 0x0C =>
    let old := wasIn s.sys.alertWas s.moment
    { s with sys := { s.sys with
      alert := s.sys.alert &&& ~~~(old.getD s.sys.alert), alertWas := old.map fun _ => (s.moment, 0) } }
  | 0x2500, 0x02 =>
    let old := wasIn s.truss.flagsWas s.moment
    { s with truss := { s.truss with
      flags := s.truss.flags &&& ~~~(old.getD s.truss.flags), flagsWas := old.map fun _ => (s.moment, 0) } }
  | 0x2500, 0x0C =>
    let old := wasIn s.truss.lateWas s.moment
    { s with truss := { s.truss with
      lateBells := s.lateThisCycle, lateWas := old.map fun _ => (s.moment, 0) } }
  | _, _ => s.putRc ix sub e 0

/-- What stands in a channel is worked out up to the last granule boundary before a read or write of it (R393), and in
every channel before one of the device's counts, alerts and report card (R40, R41). -/
def State.syncEntry (s : State) (ix sub e : Nat) : State :=
  if s.still then s
  else if classOf ix = 0x2400 then s.syncTo (unitOf ix) (s.boundaryNow (unitOf ix))
  else if ix = 0x2300 ∧ 0x29 ≤ sub then s.syncTo e (s.boundaryNow e)
  else if ix = 0x2600 ∧ (sub = 0x04 ∨ sub = 0x06 ∨ sub = 0x07) then s.countPrbs e
  else if ix = 0x2000 ∨ ix = 0x2200 ∨ ix = 0x2A00 then s.catchUpAll
  else s

end Sys2Proof.Machine
end

