-- ==== Sys2Proof/Machine/Flash.lean ====
section
/-! DEFINITION. The boot flash (R314, R315, R328 to R332): image headers, digests, signature blocks, which copy of a
pair is valid, taken and replaced, one write at a time, and the report-card save. -/

namespace Sys2Proof.Machine

/-! ## Headers, digests and signature blocks -/

/-- SHA-384 as 48 bytes, most significant first (R315; assumption log 17). -/
def digest (bs : Bytes) : Bytes := (leBytes 48 (Config.sha384 bs).toNat).reverse

/-- Image types of R315 and R339. -/
def imFirmware : Nat := 1
def imConfig : Nat := 2
def imCard : Nat := 3
def imCode : Nat := 4

/-- Header words 0 to 3 of an image (R315). -/
def headerWords (type seq length : Nat) (signed : Bool) : Bytes :=
  leBytes 4 (0x01004E57 + type * 65536) ++ leBytes 4 seq ++ leBytes 4 length ++ leBytes 4 (flag signed 0)

/-- The digest field of a copy (R315). -/
def FlashCopy.digest (c : FlashCopy) (type : Nat) : Bytes :=
  Machine.digest (headerWords type c.seq c.payload.length c.signed ++ c.payload)

/-- The owner key digest is set (R336). -/
def State.ownerSet (s : State) : Bool := s.sec.ownerSet

/-- A signature block over a payload verifies (R328, R329): its layout, its key against the digest of the kind the image
needs, its signature. A configuration block verifies against its own key while no owner key is set. -/
def State.blockOk (s : State) (type : Nat) (payload block : Bytes) : Bool :=
  let key := (block.drop 8).take 97
  let kind := if type = imFirmware then 1 else 2
  let trusted :=
    if type = imFirmware then decide (digest key = digest (Config.firmwareKey.take 97))
    else if type = imConfig ∧ s.ownerSet = false then true
    else decide (digest key = s.sec.ownerDigest)
  decide (block.length = 208) && decide (leAt block 0 4 = 0x01005347 + kind * 65536)
    && ((block.drop 105).take 7).all (fun b => decide (b = 0)) && trusted
    && Config.ecdsaVerify key payload (block.drop 112)

/-! ## Firmware manifests (R332) -/

/-- FW_VERSION and ROLLBACK_LEVEL of a payload. -/
def manifestVersion (p : Bytes) : Word := wordAt p 1
def manifestLevel (p : Bytes) : Nat := leAt p 8 2

/-- A manifest has the values of R332. -/
def manifestOk (p : Bytes) : Bool :=
  decide (64 ≤ p.length) && decide (leAt p 0 4 = 0x01014657) && decide (manifestLevel p ≤ 64)
    && decide (leAt p 10 2 = 0) && decide (leAt p 12 4 = 0x6448) && decide (leAt p 16 4 = 0xB0)
    && ((p.drop 20).take 44).all (fun b => decide (b = 0))

/-- Largest firmware payload. -/
def firmwareMax : Nat := 12582912

/-- Largest configuration image: header, payload and signature together (R315). -/
def configMax : Nat := 1048576

/-! ## Copies A and B (R330, R331) -/

/-- The firmware fitted at manufacture (assumption log 13). -/
def factoryFirmware : FlashCopy :=
  { seq := 1, signed := true
    payload := leBytes 4 0x01014657 ++ leBytes 4 0x01000000 ++ leBytes 4 0 ++ leBytes 4 0x6448 ++ leBytes 4 0xB0
      ++ List.replicate 44 0
    sig := [], good := true, built := true }

/-- What the regions hold before any write: firmware copy A alone (assumption log 13). -/
def flashInit (k : Nat) : Option FlashCopy := if k = 0 then some factoryFirmware else none

/-- The copy in region `k`: firmware A 0, B 1; configuration A 2, B 3; report card A 4, B 5. -/
def State.flashCopy (s : State) (k : Nat) : Option FlashCopy := sget flashInit s.sec.flash k

/-- Region `k` written, or erased. -/
def State.setFlash (s : State) (k : Nat) (c : Option FlashCopy) : State :=
  { s with sec := { s.sec with flash := sset flashInit s.sec.flash k c } }

/-- The first region of an image type. -/
def flashBase (type : Nat) : Nat := 2 * (type - 1)

/-- A copy is valid (R330, R332, R337); against ROLLBACK, as the last boot found it (R333). -/
def State.copyOk (s : State) (type : Nat) (c : FlashCopy) : Bool :=
  c.good &&
    if type = imFirmware then
      manifestOk c.payload && decide (c.payload.length ≤ firmwareMax)
        && decide (s.sec.bootRollback ≤ manifestLevel c.payload) && c.signed
        && (c.built || s.blockOk imFirmware c.payload c.sig)
    else if type = imConfig then
      decide (64 + c.payload.length + c.sig.length ≤ configMax)
        && (!s.ownerSet || (c.signed && s.blockOk imConfig c.payload c.sig))
    else true

/-- Region `k` of the pair of a type, where its copy is valid. -/
def State.validCopy (s : State) (type side : Nat) : Option FlashCopy :=
  match s.flashCopy (flashBase type + side) with
  | some c => if s.copyOk type c then some c else none
  | none => none

/-- The copy the device takes, with its side: the higher SEQ, copy A where both are equal (R330). -/
def State.takenCopy (s : State) (type : Nat) : Option (Nat × FlashCopy) :=
  match s.validCopy type 0, s.validCopy type 1 with
  | some a, some b => if a.seq < b.seq then some (1, b) else some (0, a)
  | some a, none => some (0, a)
  | none, some b => some (1, b)
  | none, none => none

/-- The side that a write replaces (R331). -/
def State.targetSide (s : State) (type : Nat) : Nat :=
  match s.validCopy type 0, s.validCopy type 1 with
  | none, _ => 0
  | _, none => 1
  | some a, some b => if a.seq < b.seq then 0 else 1

/-- SEQ of the next copy written (R331). -/
def State.nextSeq (s : State) (type : Nat) : Nat :=
  match s.validCopy type 0, s.validCopy type 1 with
  | some a, some b => max a.seq b.seq + 1
  | some a, none => a.seq + 1
  | none, some b => b.seq + 1
  | none, none => 1

/-- The target region is erased. -/
def State.eraseTarget (s : State) (type : Nat) : State := s.setFlash (flashBase type + s.targetSide type) none

/-- A copy is written under R331. -/
def State.writeCopy (s : State) (type : Nat) (c : FlashCopy) : State :=
  let k := flashBase type + s.targetSide type
  let seq := s.nextSeq type
  s.setFlash k (some { c with seq := seq, good := true })

/-! ## One write at a time (R331), report-card saves (R349), SAFE_OFF (R317) -/

/-- A flash write begins. -/
def State.flashBegin (s : State) (type : Nat) (c : FlashCopy) : State :=
  let s := s.eraseTarget type
  { s with sec := { s.sec with job := some { kind := type, copy := c } } }

/-- The report card as a copy, of a state whose channels are worked out up to now (R41). -/
def State.cardCopy (s : State) : FlashCopy :=
  { seq := 0, signed := false, payload := s.cardImage, sig := [], good := true }

/-- A save of the report card (R349): its snapshot is taken now, or when the flash write in progress ends (R331). -/
def State.saveCard (s : State) : State :=
  if s.sec.job.isSome then { s with sec := { s.sec with saveDue := true } }
  else
    let s := s.catchUpAll
    let s := s.flashBegin imCard s.cardCopy
    { s with card := { s.card with saving := some s.trussNow } }

/-- The write of a configuration copy begins where no other flash write runs (R300, R331); BUILD (2) writes none. -/
def State.cfgBegin (s : State) : State :=
  match s.cfg.job, s.sec.job with
  | some (kind, _, some c), none => if kind = 2 then s else s.flashBegin imConfig c
  | _, _ => s

/-- The flash write in progress ends: a save that fell due meanwhile is made, or a configuration copy that waited. -/
def State.flashEnd (s : State) : State :=
  let due := s.sec.saveDue
  let s : State := { s with sec := { s.sec with job := none, saveDue := false } }
  (if due then s.saveCard else s).cfgBegin.settleOff

/-- RC_SAVE_COMPLETE (R349). -/
def opRcSaveComplete (s : State) : State :=
  match s.sec.job with
  | some j =>
    if j.kind = imCard then
      let s := s.writeCopy imCard j.copy
      ({ s with card := { s.card with lastSave := s.card.saving.getD s.card.lastSave, saving := none } } : State).flashEnd
    else s
  | none => s

/-- A save that is whole before a reset begins (R322): every other flash write ends where it stands. -/
def State.saveNow (s : State) : State :=
  let s : State := s.catchUpAll
  let s : State := { s with
    sec := { s.sec with job := none, saveDue := false, fwJob := none }, card := { s.card with saving := none } }
  let s := s.writeCopy imCard s.cardCopy
  { s with card := { s.card with lastSave := s.trussNow } }

/-- RC_SAVE_PERIODIC (R349): every 900 s of POWER_ON_SECONDS. -/
def opRcSavePeriodic (s : State) : State :=
  if s.sys.por || s.sys.pin || decide (s.sys.state = .boot) || !s.card.loaded
      || decide (s.powerOnSeconds < s.card.savedAt + 900) then s
  else ({ s with card := { s.card with savedAt := s.powerOnSeconds / 900 * 900 } } : State).saveCard

/-- RC_SAVE_AFTER_BOOT (R349): 10 s after each boot reaches READY. -/
def opRcSaveAfterBoot (s : State) : State :=
  match s.sys.readyAt with
  | some x =>
    if s.sys.por || s.sys.pin || decide (s.now < x + 10 * secFs) then s
    else ({ s with sys := { s.sys with readyAt := none } } : State).saveCard
  | none => s

/-- RC_SAVE_CMD (R349). -/
def State.cmdSaveCard (s : State) (v : Nat) : Act :=
  s.act [rangeIf (decide (v ≠ 1)), (s.card.saving.isSome, .blockRunning)] s.saveCard

/-! ## The report card as boot loads it (R312 step 4, R347) -/

/-- Counts of a section, `n` words from byte `at_`. -/
def countsAt (bs : Bytes) (at_ n : Nat) : Sparse Nat :=
  (List.range n).foldl (fun m i => sset (fun _ => 0) m i (leAt bs (at_ + 4 * i) 4)) []

/-- The report card that an image holds; flags, excluded pairs and RC_LAST_SAVE are not part of it. -/
def cardOf (bs : Bytes) : Card :=
  { cycles := leAt bs 4 4, seconds := leAt bs 8 8, throttles := leAt bs 16 4, droops := countsAt bs 20 3
    lateBells := leAt bs 32 4, underruns := leAt bs 36 4, hbmCe := leAt bs 40 8, hbmUe := leAt bs 48 8
    faultSafes := leAt bs 56 4, steps := leAt bs 62 1, dtSteps := leAt bs 63 1, hist := countsAt bs 64 160
    compl := countsAt bs 704 64, plumbs := countsAt bs 960 72, disagrees := countsAt bs 1248 72
    laneDowns := countsAt bs 1536 48
    monitors := (List.range 6).foldl (fun m d =>
      sset (fun _ => (0, 0)) m d (signed 32 (leAt bs (1728 + 8 * d) 4), leAt bs (1732 + 8 * d) 4)) []
    trend := (List.range 72).foldl (fun m i =>
      sset (fun _ => (0, 0)) m i (leAt bs (1776 + 4 * i) 1, leAt bs (1777 + 4 * i) 1)) []
    savedAt := leAt bs 8 8 / 900 * 900 }

/-- Step 4 of boot after POR or PIN: the report card of the valid copy with the higher SEQ, else counts of zero. The
ECLK ceiling goes with it (R324). -/
def State.loadCard (s : State) : State :=
  match s.takenCopy imCard with
  | some (_, c) =>
    let ceiling := leAt c.payload 60 2
    { s with
      card := { (cardOf c.payload) with excluded := s.card.excluded, ticks := s.card.ticks, loaded := true }
      eclk := { s.eclk with base := (s.now, s.cycle), ceiling := ceiling, hz := ceiling * 1000000 } }
  | none => { s with card := { excluded := s.card.excluded, ticks := s.card.ticks, loaded := true } }

/-! ## Meanings -/

def execRcSavePeriodic (t : Nat) (s : State) : Result := always s t opRcSavePeriodic
def execRcSaveAfterBoot (t : Nat) (s : State) : Result := always s t opRcSaveAfterBoot
def execRcSaveComplete (t : Nat) (s : State) : Result := always s t opRcSaveComplete

end Sys2Proof.Machine
end

