-- ==== Sys2Proof/Machine/Security.lean ====
section
/-! DEFINITION. Security (13_security_identity.md): firmware installation, the rollback counter, the owner key and
policy, timetable-code images, attestation and ROM recovery. -/

namespace Sys2Proof.Machine

/-- The first abort code that applies, as a word; 0 when none does. -/
def verdictWord (cs : Checks) : Word :=
  match Checks.verdict cs with
  | some a => BitVec.ofNat 32 a.code
  | none => 0

/-- The last FW_CMD, CODE_CMD or REC_CMD ended with abort code `x`, 0 for success (R334, R343, R345). -/
def State.secResult (s : State) (x : Word) : State :=
  if x = 0 then { s with sec := { s.sec with lastFailed := false } }
  else { s with sec := { s.sec with
    lastFailed := true, lastAbort := x
    refusals := s.sec.refusals + (if 0x09000000 ≤ x.toNat then 1 else 0) } }

/-- Any flash write, CFG_CMD or FW_CMD is in progress. -/
def State.fwBlocked (s : State) : Bool :=
  s.sec.job.isSome || decide (s.cfg.state ≠ .idle) || s.sec.fwJob.isSome || s.sec.advancing

/-! ## Firmware (R332 to R334) -/

/-- What R332 and R329 say of a firmware payload and block. -/
def State.firmwareChecks (s : State) (payload block : Bytes) : Checks :=
  [(!manifestOk payload || decide (firmwareMax < payload.length), .imageFormat),
   (decide (manifestLevel payload < s.sec.rollback), .rollback),
   (!s.blockOk imFirmware payload block, .sigInvalid)]

/-- The bytes of an image in segment memory, read as the command is accepted. -/
def State.readImage (s : State) (at_ n : Nat) : Option Bytes × State :=
  let (bs, s) := s.readMem at_ (ceilDiv n 8)
  (bs.map fun x => x.take n, s)

/-- FW_CMD INSTALL (R334). -/
def State.fwInstall (s : State) : Act :=
  let v := s.sec
  let (bs, s1) := s.readImage v.fwSrc v.fwLen
  let after : State := match bs with
    | none => { s1 with sec := { s1.sec with fwJob := some (BitVec.ofNat 32 Abort.memUe.code, s.cardCopy) } }
    | some bs =>
      let payload := bs.take (v.fwLen - 208)
      let block := bs.drop (v.fwLen - 208)
      let x := verdictWord (s1.firmwareChecks payload block)
      let c : FlashCopy := { seq := 0, signed := true, payload := payload, sig := block, good := true }
      let s1 : State := { s1 with sec := { s1.sec with fwJob := some (x, c) } }
      if x = 0 then s1.flashBegin imFirmware c else s1
  s.act
    [rangeIf (decide (v.fwSrc % 8 ≠ 0 ∨ v.fwLen < 272 ∨ hbmBytes < v.fwSrc + v.fwLen)), (s.fwBlocked, .blockRunning)]
    after

/-- FW_INSTALL_COMPLETE (R334). -/
def opFwInstallComplete (s : State) : State :=
  match s.sec.fwJob with
  | some (x, c) =>
    let s : State := ({ s with sec := { s.sec with fwJob := none } } : State).secResult x
    if x = 0 then (s.writeCopy imFirmware c).flashEnd else s
  | none => s

/-- FW_CMD ADVANCE_ROLLBACK (R333). -/
def State.advanceRollback (s : State) : Act :=
  s.act
    [(!s.plumb.holdupOk, .fuseHoldup),
     (s.plumb.commit.isSome || s.sec.fwJob.isSome || s.sec.advancing, .blockRunning)]
    (if s.sec.rollbackPending then { s with sec := { s.sec with advancing := true } } else s.secResult 0)

/-- The fuses of an ADVANCE_ROLLBACK are blown (R333). -/
def opAdvanceRollbackComplete (s : State) : State :=
  if s.sec.advancing then
    (({ s with sec := { s.sec with advancing := false, rollback := max s.sec.rollback s.sec.runLevel } } :
      State).secResult 0).holdupNow
  else s

/-- FW_CMD (R333, R334). -/
def State.fwCmd (s : State) (v : Nat) : Act :=
  if v = 1 then s.fwInstall else if v = 2 then s.advanceRollback else s.act [rangeIf true] s

/-! ## Owner key and policy (R336, R338) -/

/-- OWNER_KEY_DIGEST (R301, R336): a W1 entry in fuses, blown as the write is accepted. -/
def State.writeOwnerKey (s : State) (data : Bytes) : Act :=
  let zero := data.all fun b => decide (b = 0)
  { checks :=
      [(s.ownerSet, .locked), (!s.ownerSet && !zero && !s.plumb.holdupOk, .fuseHoldup),
       (!s.ownerSet && !zero && (s.plumb.commit.isSome || decide (s.cfg.state ≠ .idle) || s.sec.advancing), .blockRunning)]
    after := if zero then s else { s with sec := { s.sec with ownerDigest := data } }
    refused := fun _ =>
      if s.ownerSet then { s with sys := { s.sys with
        lockViolation := true, lockViolations := s.sys.lockViolations + 1 } } else s }

/-- OWNER_POLICY (R338). -/
def State.writePolicy (s : State) (v : Nat) : Act :=
  s.act
    [(bitOf v 0 && !s.ownerSet, .wrongState), (s.ownerSet && s.sec.reqSigned && !bitOf v 0, .policyLocked)]
    { s with sec := { s.sec with reqSigned := bitOf v 0 } }

/-! ## Timetable-code images (R339) -/

/-- What R339 says of a code image of `n` bytes. -/
def State.codeChecks (s : State) (bs : Bytes) (n : Nat) : Checks :=
  let length := leAt bs 8 4
  let payload := (bs.drop 64).take length
  let words := (length - 16) / 4
  [(!(decide (leAt bs 0 4 = 0x01044E57) && bitOf (leAt bs 12 4) 0 && decide (n = 64 + length + 208)
      && decide (20 ≤ length) && decide (length % 4 = 0)
      && decide (digest (bs.take 16 ++ payload) = (bs.drop 16).take 48) && decide (leAt payload 0 12 ≠ 0)
      && decide (leAt payload 12 2 + words ≤ 32768) && decide (leAt payload 14 2 = 0)), .imageFormat),
   (!s.blockOk imCode payload (bs.drop (64 + length)), .sigInvalid)]

/-- CODE_CMD LOAD (R339). -/
def State.codeLoad (s : State) (v : Nat) : Act :=
  let c := s.sec
  let (bs, s1) := s.readImage c.codeSrc c.codeLen
  let after : State := match bs with
    | none => { s1 with sec := { s1.sec with codeJob := some (BitVec.ofNat 32 Abort.memUe.code, 0, 0, []) } }
    | some bs =>
      let payload := (bs.drop 64).take (leAt bs 8 4)
      { s1 with sec := { s1.sec with codeJob := some (verdictWord (s1.codeChecks bs c.codeLen),
          leAt payload 0 12, leAt payload 12 2, bytesWords (payload.drop 16)) } }
  s.act [rangeIf (decide (v ≠ 1 ∨ hbmBytes < c.codeSrc + c.codeLen)), (c.codeJob.isSome, .blockRunning)]
    (after.addTraffic c.codeLen)

/-- Words written into the code SRAM of Joiner `j` from a word address: each with valid check bits (R55). -/
def State.storeCode (s : State) (j at_ : Nat) (ws : List Word) : State :=
  s.modJoiner j fun jn => { jn with
    codeOld := keepOld jn.codeOld s.cycle (sget (fun _ => 0) jn.code) ((List.range ws.length).map (at_ + ·))
    code := ((List.range ws.length).foldl (fun m i => sset (fun _ => (0 : Word)) m (at_ + i) (ws.getD i 0)) jn.code)
    codeUeOld := (s.cycle, (if jn.codeUeOld.1 = s.cycle then jn.codeUeOld.2 else [])
      ++ jn.codeUe.filter fun a => decide (at_ ≤ a ∧ a < at_ + ws.length))
    codeUe := jn.codeUe.filter fun a => decide (a < at_ ∨ at_ + ws.length ≤ a) }

/-- CODE_LOAD_COMPLETE (R339). -/
def opCodeLoadComplete (s : State) : State :=
  match s.sec.codeJob with
  | some (x, mask, at_, ws) =>
    let s : State := ({ s with sec := { s.sec with codeJob := none } } : State).secResult x
    if x = 0 then s.forAll (List.range 96) fun s j => if bitOf mask j then s.storeCode j at_ ws else s else s
  | none => s

/-! ## Attestation (R341, R342) -/

/-- ATTEST_NONCE as a snapshot at the moment `c` sees it: without a write of that cycle (R344). -/
def Sec.nonceIn (v : Sec) (c : Nat) : Bytes :=
  match v.nonceWas with
  | some (x, bs) => if x = c then bs else v.nonce
  | none => v.nonce

/-- ATTEST_NONCE written: a write in the cycle of a snapshot is cleared with the nonce that it used (R344). -/
def State.setNonce (s : State) (data : Bytes) : State :=
  { s with sec := { s.sec with
    nonceWas := some (s.moment, s.sec.nonceIn s.moment)
    nonce := if s.sec.stmtAt = some s.moment then List.replicate 32 0 else data } }

/-- A statement up to its DIGEST (R342): the trims and the nonce are those from before its cycle (R344). -/
def State.statementBody (s : State) (kind : Nat) (session : Word) : Bytes :=
  let p := s.plumb
  let rec_ := s.ybSlot p.inForce
  let age := ((List.range 72).map s.plumbAge).foldl max 0
  let failed := ((List.range 72).filter fun i => (s.core i).failed).length
  leBytes 4 (0x01004154 + kind * 65536) ++ leBytes 4 (if kind = 1 then 488 else 5528) ++ leBytes 4 s.sec.stmts
    ++ leBytes 4 session.toNat ++ leBytes 8 s.trussNow.toNat ++ (serialBytes ++ List.replicate 4 0)
    ++ s.sec.nonceIn s.moment
    ++ s.sec.fwDigest ++ s.cfg.digest ++ digest s.trimsBefore
    ++ leBytes 4 (p.inForce + fld p.mode 8 + fld p.commits 16)
    ++ leBytes 4 ((rec_.map (·.seq)).getD 0) ++ ((rec_.map fun r => digest r.body).getD (List.replicate 48 0))
    ++ leBytes 4 s.sec.fwVersion.toNat ++ leBytes 4 (s.sec.rollback + fld s.sec.runLevel 16)
    ++ leBytes 4 (flag s.sec.reqSigned 0) ++ leBytes 4 s.secStatus
    ++ ((List.range 10).flatMap fun d => leBytes 2 (Config.freeValue s.draws (300 + d)).toNat) ++ leBytes 4 0
    ++ leBytes 4 p.vrefNom ++ leBytes 4 p.vrefMeas ++ leBytes 4 s.refStatus ++ leBytes 4 (s.synStatus .M)
    ++ leBytes 4 s.ref.freq ++ leBytes 4 s.tiuStatus ++ leBytes 4 age ++ leBytes 2 failed ++ leBytes 2 0
    ++ (if kind = 2 then s.trimsBefore else [])

/-- ATTEST_CMD (R341): the snapshot is taken, the nonce is used up. -/
def State.attest (s : State) (v : Nat) (session : Word) : Act :=
  let s1 : State := { s with sec := { s.sec with stmts := (s.sec.stmts + 1) % 2 ^ 32 } }
  s.act
    [rangeIf (decide (v ≠ 1 ∧ v ≠ 2)), ((s.sec.nonceIn s.moment).all fun b => decide (b = 0), .nonceUnset),
     (s.sec.building.isSome, .blockRunning)]
    { s1 with sec := { s1.sec with
        building := some (s1.statementBody v session), nonce := List.replicate 32 0, nonceWas := none
        stmtAt := some s.moment } }

/-- ATTEST_COMPLETE (R341, R342). -/
def opAttestComplete (s : State) : State :=
  match s.sec.building with
  | some b => { s with sec := { s.sec with
      building := none
      statement := b ++ digest b ++ (leBytes 96 (Config.ecdsaSign b).toNat).reverse } }
  | none => s

/-! ## ROM recovery (R335) -/

/-- Bytes of the recovery target: header and region end bound a piece. -/
def recMax : Nat := 16777216 - 64

/-- The byte programmed at a place of the target that no erase has cleared, or that has been programmed before, is not
stated (assumption log 2). -/
def State.recByte (s : State) (i : Nat) (b : Byte) : Byte :=
  if s.sec.erased && (sget (fun _ => none) s.sec.recBytes i).isNone then b
  else (Config.freeValue s.draws (4000000 + i)).setWidth 8

/-- REC_WRITE: a piece at an offset that is a multiple of 8 (R335). -/
def State.recWrite (s : State) (data : Bytes) : Act :=
  let at_ := leAt data 0 4
  let piece := data.drop 8
  s.act
    [(decide (data.length % 8 ≠ 0), .length),
     rangeIf (decide (at_ % 8 ≠ 0 ∨ leAt data 4 4 ≠ 0 ∨ recMax < at_ + piece.length))]
    { s with sec := { s.sec with
        recBytes := (List.range piece.length).foldl (fun m i =>
          sset (fun _ => none) m (at_ + i) (some (s.recByte (at_ + i) (piece.getD i 0)))) s.sec.recBytes } }

/-- The bytes that stand in the target; one that nothing programmed is free (assumption log 2). -/
def State.recImage (s : State) (at_ n : Nat) : Bytes :=
  (List.range n).map fun i =>
    (sget (fun _ => none) s.sec.recBytes (at_ + i)).getD ((Config.freeValue s.draws (4000000 + at_ + i)).setWidth 8)

/-- REC_CMD (R335): 1 ERASE, 2 VERIFY. -/
def State.recCmd (s : State) (v : Nat) : Act :=
  let erased : State := s.eraseTarget imFirmware
  let payload := s.recImage 0 s.sec.recLength
  let block := s.recImage s.sec.recLength 208
  let x := verdictWord (s.firmwareChecks payload block)
  let c : FlashCopy := { seq := 0, signed := true, payload := payload, sig := block, good := true }
  s.act [rangeIf (decide (v ≠ 1 ∧ v ≠ 2))]
    (if v = 1 then ({ erased with sec := { erased.sec with recBytes := [], erased := true } } : State).secResult 0
     else if x = 0 then (s.writeCopy imFirmware c).secResult 0
     else (s.eraseTarget imFirmware).secResult x)

/-! ## Meanings -/

def execFwInstallComplete (t : Nat) (s : State) : Result := always s t opFwInstallComplete
def execAdvanceRollbackComplete (t : Nat) (s : State) : Result := always s t opAdvanceRollbackComplete
def execCodeLoadComplete (t : Nat) (s : State) : Result := event s t opCodeLoadComplete
def execAttestComplete (t : Nat) (s : State) : Result := event s t opAttestComplete

end Sys2Proof.Machine
end

