-- ==== Sys2Proof/Machine/Card.lean ====
section
/-! DEFINITION. Temperature history and ageing (R348, R350 to R353). -/

namespace Sys2Proof.Machine

/-- The temperature bin of a reading, 1/16 degree (R348): a reading on a bin edge goes to the higher bin. -/
def tempBin (x : Int) : Nat := if x < -480 then 0 else if 1760 ≤ x then 15 else ((x + 640) / 160).toNat

/-- TEMP_HIST_TICK (R348, R320): once in each second of crystal time, with the hottest reading of each die. -/
def opTempHistTick (s : State) (temps : Vector Int 10) : State :=
  let second := (s.now - s.sys.porAt) / secFs
  if s.sys.por || s.sys.pin || decide (second ≤ s.card.ticks) then s
  else
    let hist := (List.range 10).foldl (fun m d =>
      let k := 16 * d + tempBin (temps.toList.getD d 0)
      sset (fun _ => 0) m k (satInc 32 (sget (fun _ => 0) m k))) s.card.hist
    let hot := temps.toList.any fun x => decide (2000 < x)
    let s : State := { s with card := { s.card with hist := hist, ticks := second }, sys := { s.sys with hot := hot } }
    s.when hot fun s => s.alert alOvertemp

/-! ## Stretches of ECLK (R309, R310) -/

/-- Depth classes, shallow to deep. -/
def droopRank : DroopClass → Nat
  | .light => 0
  | .middle => 1
  | .deep => 2

/-- One event of THROTTLE_EVENTS and of the report-card bin of its class (R310). -/
def State.countThrottle (s : State) (c : DroopClass) : State :=
  ({ s with card := { s.card with
      throttles := satInc 32 s.card.throttles
      droops := sset (fun _ => 0) s.card.droops (droopRank c) (satInc 32 (sget (fun _ => 0) s.card.droops (droopRank c))) } } :
    State).alert alThrottle

/-- ECLK stops, or the device resets: a stretch whose release has not begun counts now, and none stands any more
(R310). -/
def State.endStretch (s : State) : State :=
  let s := match s.eclk.droop, s.eclk.release with
    | some c, none => if s.eclk.again then s else s.countThrottle c
    | _, _ => s
  { s with eclk := { s.eclk with droop := none, release := none, again := false } }

/-- Number of oscillator pairs of a die (R350). -/
def pairsOf (die : Nat) : Nat := if die = 0 then 4 else 2

/-- The steps that a degradation of the control die requires (R351). -/
def stepsFor (d : Int) : Nat := if d ≤ 20000 then 0 else min 24 (ceilDiv (d - 20000).toNat 2500)

/-- A notice of AGEING_STATUS: bit of [31:27] (R353). -/
def State.ageingNotice (s : State) (i : Nat) : State :=
  ({ s with card := { s.card with flags := s.card.flags ||| BitVec.ofNat 5 (2 ^ i) } } : State).alert alAgeing

def agCeilLowered : Nat := 4
def agMarginLow : Nat := 2
def agEndOfMargin : Nat := 1
def agMonitorFail : Nat := 0

/-- ECLK at its ceiling, where neither stretch nor STANDBY holds it (R309, R351): a stretch applies to the new
ceiling. -/
def State.moveCeiling (s : State) (mhz : Nat) : State :=
  let s : State := { s with eclk := { s.eclk with ceiling := mhz } }
  if s.eclk.release.isSome then s.eclkAt (min s.eclk.hz (mhz * 1000000))
  else match s.eclk.droop with
  | none => if s.eclk.stopped then { s with eclk := { s.eclk with hz := mhz * 1000000 } } else s.eclkAt (mhz * 1000000)
  | some .light => s.eclkAt (mhz * 750000)
  | some .middle => s.eclkAt (mhz * 500000)
  | some .deep => s

/-- The ceiling that the control die's degradation asks for (R351). -/
def State.ageCeiling (s : State) (d : Int) : State :=
  let n := stepsFor d
  if n ≤ s.card.steps then s
  else
    let mhz := 1200 - 25 * n
    let s : State := { s with card := { s.card with steps := n } }
    let s := (s.moveCeiling mhz).ageingNotice agCeilLowered
    let s := s.when (decide (mhz ≤ 900)) fun s => s.ageingNotice agMarginLow
    s.when (decide (n = 24)) fun s => s.ageingNotice agEndOfMargin

/-- The degradation d of pair `k` of a die whose oscillators run at `f.1` (stressed) and `f.2` (fresh), in ppm, as
numerator and denominator (R350). -/
def degradation (die k : Nat) (f : Nat × Nat) : Int × Nat :=
  let (p, q) := Config.pairRatio (4 * die + k)
  let den := f.2 * (p + 1)
  (1000000 * ((den : Int) - f.1 * (q + 1)), den)

/-- A pair reads outside -5,000 to 200,000 ppm (R350). -/
def pairBad (d : Int × Nat) : Bool := decide (d.1 < -5000 * (d.2 : Int) ∨ 200000 * (d.2 : Int) < d.1)

/-- A degradation as whole ppm, rounded down or, where `up`, up. -/
def wholePpm (d : Int × Nat) (up : Bool) : Int := if up then -((-d.1) / (d.2 : Int)) else d.1 / (d.2 : Int)

/-- A measurement of a die is due (R350): once the boot has reached READY, and every 3,600 s after the last. -/
def State.ageingDue (s : State) (die : Nat) : Bool :=
  match s.card.ageing with
  | some m => match sget (fun _ => none) m die with
    | some x => decide (x + 3600 ≤ s.powerOnSeconds)
    | none => true
  | none => false

/-- The degradations that the measured pairs of a die come to: those out of range are excluded until POR, and of the others
the largest is DEGRADE_PPM. How it is rounded to whole ppm is not stated (a free value, assumption log 2). -/
def State.measureDie (s : State) (die : Nat) (pairs : List (Nat × Nat)) : State :=
  let d (k : Nat) := degradation die k (pairs.getD k (1, 1))
  let ks := (List.range (pairsOf die)).filter fun k => decide (k < pairs.length)
  let bad := ks.filter fun k => !s.card.excluded.contains (4 * die + k) && pairBad (d k)
  let s : State := { s with card := { s.card with excluded := bad.map (4 * die + ·) ++ s.card.excluded } }
  let s := s.when (decide (bad ≠ [])) fun s => s.ageingNotice agMonitorFail
  let up := (Config.freeValue s.draws 411).getLsbD 0
  let left := (ks.filter fun k => !s.card.excluded.contains (4 * die + k)).map fun k => wholePpm (d k) up
  match left with
  | [] => s
  | d :: r =>
    let worst := r.foldl max d
    let s : State := { s with card := { s.card with
      monitors := sset (fun _ => (0, 0)) s.card.monitors die (worst, s.powerOnHours) } }
    if die = 0 then s.ageCeiling worst else s

/-- AGEING_MEASUREMENT (R350, R351) of a die: the frequencies of its pairs, stressed and fresh. -/
def opAgeingMeasurement (s : State) (die : Nat) (pairs : List (Nat × Nat)) : State :=
  if s.ageingDue die then
    let m := s.card.ageing.getD []
    ({ s with card := { s.card with ageing := some (sset (fun _ => none) m die (some s.powerOnSeconds)) } } :
      State).measureDie die pairs
  else s

/-! ## Meanings -/

def execTempHistTick (t : Nat) (temps : Vector Int 10) (s : State) : Result := always s t fun s => opTempHistTick s temps
def execAgeingMeasurement (t : Nat) (die : Fin 6) (pairs : List (Nat × Nat)) (s : State) : Result :=
  event s t fun s => opAgeingMeasurement s die pairs

end Sys2Proof.Machine
end

