-- ==== Sys2Proof/Machine/Recess.lean ====
section
/-! DEFINITION. Recess and its capture image (R354 to R360): freezing the device, and the capture path. -/

namespace Sys2Proof.Machine

/-- Causes of recess (RECESS_STATUS CAUSE). -/
def rcFrz : Nat := 1
def rcBell : Nat := 2
def rcOda : Nat := 3

/-- The device can enter recess (R316, R354). -/
def State.canFreeze (s : State) : Bool :=
  !s.sys.por && !s.sys.pin
    && decide (s.sys.state = .ready ∨ s.sys.state = .run ∨ s.sys.state = .standby ∨ s.sys.state = .faultSafe)

/-- The clocks halt (R20, R354, R355, R357): every channel stands at its last granule boundary. -/
def State.freeze (s : State) (cause : Nat) (late : Bool) : State :=
  let prior := s.sys.state.code
  let s := (s.forAll (List.range 64) fun s n => if s.clockRuns n then s.syncTo n (s.boundaryNow n) else s).servePorts
  let s := s.endStretch
  { s with
    time := s.stopTime
    eclk := { s.eclk with base := (s.now, s.cycle), stopped := true }
    sys := { s.sys with state := .recess }
    recess := { s.recess with
      capture := 1, cause := cause, late := late, highz := s.recess.highzCfg, freeze := s.trussNow
      prior := (prior, if cause = rcBell then s.recess.bell else 0),
      at_ := s.now, cycleEnd := s.eclk.cycleFs (s.cycle + 1), draw := s.draws, dues := [] } }

/-- A request to freeze (R354). Of several that fall in one cycle, the first of FRZ_N, bell, ODA is the cause. -/
def State.enterRecess (s : State) (cause : Nat) (late : Bool) : State :=
  if s.canFreeze then s.freeze cause late
  else if s.sys.state = .recess ∧ (s.now = s.recess.at_ ∨ s.now < s.recess.cycleEnd) ∧ cause < s.recess.cause then
    { s with recess := { s.recess with
      cause := cause, late := late, prior := (s.recess.prior.1, if cause = rcBell then s.recess.bell else 0) } }
  else s

/-- FRZ_N_LOW (R354). -/
def opFrzNLow (s : State) : State :=
  let s : State := { s with recess := { s.recess with frzLow := true } }
  if s.recess.ignore then s else s.enterRecess rcFrz false

/-- RECESS_BELL (R354): the recess bell's effective time, or its arrival when late, has come. -/
def opRecessBell (s : State) : State :=
  match s.recess.dues.find? fun p => s.recess.hears p.1 && (p.2.2 || ticksGe s.trussNow p.2.1) with
  | some p =>
    let s : State := { s with recess := { s.recess with dues := s.recess.dues.filter fun q => decide (q ≠ p) } }
    s.enterRecess rcBell p.2.2
  | none => s

/-- RECESS_CMD (R354). -/
def State.cmdRecess (s : State) (v : Nat) : Act := s.act [rangeIf (decide (v ≠ 1))] (s.enterRecess rcOda false)

/-- RECESS_CFG (R354, R355): its RSVD bits hold zero (R10). A bell whose effective time has passed unheard stays
unheard. -/
def State.setRecessCfg (s : State) (v : Nat) : State :=
  let r := { s.recess with ignore := bitOf v 17, highzCfg := bitOf v 16, bellEn := bitOf v 8, bell := v % 256 }
  { s with recess := { r with
    dues := r.dues.filter fun p => (s.recess.hears p.1 && r.hears p.1) || !(p.2.2 || ticksGe s.trussNow p.2.1) } }

/-- A write of RECESS_CFG: FRZ_N acts on its level, so FRZ_IGNORE cleared while it is low freezes (R354). Whether a level
that was low is low still, the command table does not say: a free value (assumption log 128). -/
def State.writeRecessCfg (s : State) (v : Nat) : Act :=
  let low := s.recess.ignore && !bitOf v 17 && s.recess.frzLow && (Config.freeValue s.draws 410).getLsbD 0
  s.act [] ((s.setRecessCfg v).when low fun s => s.enterRecess rcFrz false)

/-- CAPTURE_READY (R357). -/
def opCaptureReady (s : State) : State :=
  if s.sys.state = .recess ∧ s.recess.capture = 1 then { s with recess := { s.recess with capture := 2 } } else s

/-- A read-out of the capture image is refused or answered with zeros (R359). -/
def State.captureShut (s : State) : Bool := s.sys.debugLock || decide (s.recess.capture ≠ 2)

/-- READ_LOCKED is set by a read-out under DEBUG_LOCK (R359, R374). -/
def State.noteLocked (s : State) : State :=
  if s.sys.debugLock then { s with recess := { s.recess with readLocked := true } } else s

/-! ## Meanings -/

def execFrzNLow (t : Nat) (s : State) : Result := always s t opFrzNLow
def execRecessBell (t : Nat) (s : State) : Result := always s t opRecessBell
def execCaptureReady (t : Nat) (s : State) : Result := always s t opCaptureReady

end Sys2Proof.Machine
end

