-- ==== Sys2Proof/Machine/Power.lean ====
section
/-! DEFINITION. Power, sag limiting, device states, FAULT-SAFE, resets (12_power_reset_states.md) and the TAP (R372 to
R374). -/

namespace Sys2Proof.Machine

/-- The device is held in POR or PIN reset. -/
def State.held (s : State) : Bool := s.sys.por || s.sys.pin

/-! ## Supply-sag limiting (R309, R310) -/

/-- ECLK in Hz under a class of droop, from the ceiling (R309). -/
def stretchHz (ceiling : Nat) : DroopClass → Nat
  | .light => ceiling * 750000
  | .middle => ceiling * 500000
  | .deep => 300000000

/-- The deeper of the class of a stretch and a new reading. -/
def deeper (old : Option DroopClass) (c : DroopClass) : DroopClass :=
  match old with
  | some d => if droopRank d < droopRank c then c else d
  | none => c

/-- DROOP (R309, R325): a shallower class does not raise ECLK; with ECLK stopped it is a warning of VDD_CORE only. -/
def opDroop (s : State) (c : DroopClass) : State :=
  if s.held then s
  else if s.eclk.stopped then
    ({ s with sys := { s.sys with warn := s.sys.warn ||| 1 } } : State).alert alRailWarn
  else
    let hz := min s.eclk.hz (stretchHz s.eclk.ceiling c)
    let again := s.eclk.again || s.eclk.release.isSome
    let s := s.eclkAt hz
    { s with eclk := { s.eclk with droop := some (deeper s.eclk.droop c), release := none, again := again } }

/-- DROOP_RELEASE (R310): the release begins; a stretch that began from the ceiling counts. -/
def opDroopRelease (s : State) : State :=
  match s.eclk.droop, s.eclk.release with
  | some c, none =>
    if s.held || s.eclk.stopped then s
    else
      let s := if s.eclk.again then s else s.countThrottle c
      { s with eclk := { s.eclk with release := some (s.now, s.eclk.hz, 0) } }
  | _, _ => s

/-- The frequency after `k` of the four equal steps from `f0` to the ceiling (R310). -/
def stepHz (f0 ceiling k : Nat) : Nat := min (ceiling * 1000000) (f0 + (ceiling * 1000000 - f0) * k / 4)

/-- ECLK_RELEASE_STEP (R310): the steps come 250 ns apart. -/
def opEclkReleaseStep (s : State) : State :=
  match s.eclk.release with
  | some (x, f0, k) =>
    if s.eclk.stopped || decide (s.now < x + 250 * nsFs * (k + 1)) then s
    else
      let s := s.eclkAt (stepHz f0 s.eclk.ceiling (k + 1))
      if k < 3 then { s with eclk := { s.eclk with release := some (x, f0, k + 1) } }
      else { s with eclk := { s.eclk with release := none, droop := none, again := false } }
  | none => s

/-! ## STANDBY (R317) -/

/-- Write-port jobs run to completion. -/
def State.drainJobs (s : State) : State :=
  s.forAll (List.range 96) fun s j => s.forAll (List.range 4) fun s _ => s.finishJob j

/-- A TIU slot is ARMED or RUNNING. -/
def State.slotsLive (s : State) : Bool := s.tiu.slots.any fun p => decide (p.2.state = .armed ∨ p.2.state = .running)

/-- What keeps the device from STANDBY (R317). -/
def State.standbyBlocked (s : State) : Bool :=
  (s.quads.any fun p => p.2.en) || s.slotsLive || s.plumb.run.isSome || s.plumb.tiuRun.isSome || s.plumb.commit.isSome
    || decide (s.cfg.state ≠ .idle)

/-- STANDBY is entered: what its cycle has met is settled, jobs end, ECLK stops. -/
def State.enterStandby (s : State) : State :=
  let s := s.settleCycle.drainJobs.crossAll.servePorts.endStretch
  { s with
    eclk := { s.eclk with base := (s.now, s.cycle), stopped := true }
    sys := { s.sys with state := .standby } }

/-- ECLK runs again, at its ceiling, with a cycle of its own. -/
def State.eclkRestart (s : State) : State :=
  { s with eclk := { s.eclk with
    base := (s.now, s.cycle + 1), stopped := false, hz := s.eclk.ceiling * 1000000, droop := none, release := none
    again := false } }

/-- SYS_CMD STANDBY (R317). -/
def State.cmdStandby (s : State) : Act :=
  s.act [(decide (s.sys.state ≠ .ready), .wrongState), (s.standbyBlocked, .blockRunning)] s.enterStandby

/-- SYS_CMD WAKE (R317). -/
def State.cmdWake (s : State) : Act :=
  let s1 := s.eclkRestart.bellsGoOn
  s.act [(decide (s.sys.state ≠ .standby), .wrongState)]
    { s1 with sys := { s1.sys with state := .ready, safeOff := false, shutting := false } }

/-- SYS_CMD SHUTDOWN (R317). -/
def State.cmdShutdown (s : State) : Act :=
  let s1 := if s.sys.state = .ready then s.enterStandby else s
  let s1 := s1.saveCard
  s.act [(decide (s.sys.state ≠ .ready ∧ s.sys.state ≠ .standby), .wrongState), (s.standbyBlocked, .blockRunning)]
    ({ s1 with sys := { s1.sys with shutting := true } } : State).settleOff

/-! ## FAULT-SAFE (R318, R319) -/

def fsRail : Nat := 1
def fsOvertemp : Nat := 2
def fsParity : Nat := 3
def fsFirmware : Nat := 4
def fsFactory : Nat := 5
def fsHbm : Nat := 6
def fsHost : Nat := 7

/-- Every channel OFF but one in FAULT, with ENABLE 0 (R319, R136); when in the 1 us that R319 gives, the spec leaves
open: at once (DESIGN CHOICE, assumption log 26). -/
def State.safeChannel (s : State) (n : Nat) : State :=
  let s := if (s.chan n).state = .fault then s else s.silence n (s.nextBoundary n) .off
  s.modChan n fun c => { c with enable := false, disabling := none, enabling := none, broke := .none }

/-- A running timetable halts with HALT_CAUSE 2 (R319). -/
def Timetable.safe (v : Timetable) : Timetable :=
  if v.state = .ready ∨ v.state = .waiting then { v with state := .halted, haltCause := 2, wait := .none, held := none }
  else v

/-- An ARMED or RUNNING slot is ABORTED (R319). -/
def TiuSlot.safe (v : TiuSlot) : TiuSlot :=
  if v.state = .armed ∨ v.state = .running then { v with state := .aborted } else v

/-- FAULT-SAFE is entered with a cause (R319). -/
def State.toSafe (s : State) (cause : Nat) : State :=
  let s := if s.sys.state = .standby then s.eclkRestart.bellsGoOn else s
  let s := s.plumbCancel.after
  let s := s.forAll (List.range 64) State.safeChannel
  let s := s.allTts fun _ v => v.safe
  let s : State := { s with
    tiu := { s.tiu with slots := smap (fun _ => {}) (fun _ (v : TiuSlot) => v.safe) 16 s.tiu.slots }
    sys := { s.sys with state := .faultSafe, fsCause := cause }
    card := { s.card with faultSafes := satInc 32 s.card.faultSafes } }
  (s.alert alFaultSafe).saveCard

/-- A cause of R318 comes about (R316, R318, R325): the first cause is recorded. During BOOT it takes effect as boot
ends; during RECESS it is recorded, and the outputs take high impedance. -/
def State.enterFaultSafe (s : State) (cause : Nat) : State :=
  if s.held then s
  else match s.sys.state with
    | .boot => { s with sys := { s.sys with fsCause := if s.sys.fsCause = 0 then cause else s.sys.fsCause } }
    | .recess =>
      { s with
        sys := { s.sys with fsCause := if s.sys.fsCause = 0 then cause else s.sys.fsCause }
        recess := { s.recess with highz := true, faulted := true } }
    | .faultSafe => s
    | _ => s.toSafe cause

/-- SYS_CMD SAFE (R317). -/
def State.cmdSafe (s : State) : Act :=
  s.act [(decide (s.sys.state ≠ .ready ∧ s.sys.state ≠ .run ∧ s.sys.state ≠ .standby), .wrongState)]
    (s.enterFaultSafe fsHost)

/-- SYS_CMD (R317). -/
def State.sysCmd (s : State) (v : Nat) : Act :=
  if v = 1 then s.cmdStandby else if v = 2 then s.cmdWake else if v = 3 then s.cmdShutdown
  else if v = 4 then s.cmdSafe else s.act [rangeIf true] s

/-- OVERTEMP (R318). -/
def opOvertemp (s : State) : State :=
  if s.held then s
  else (({ s with sys := { s.sys with hot := true } } : State).alert alOvertemp).enterFaultSafe fsOvertemp

/-! ## Resets of the device (R308, R321, R322, R324) -/

/-- ROLLBACK as a reset leaves it: where one interrupts an ADVANCE_ROLLBACK it reads the bits blown so far, which come
to no more than the level of the firmware running (R344; how many is a free value). -/
def State.rollbackLeft (s : State) : Nat :=
  if s.sec.advancing then
    s.sec.rollback + (Config.freeValue s.draws 404).toNat % (max s.sec.rollback s.sec.runLevel - s.sec.rollback + 1)
  else s.sec.rollback

/-- What every reset keeps: the Yearbook slots, the flash, the fuses, the TAP and the sensors' readings, with the
model's own counts. -/
def State.base (s : State) : State :=
  { State.reset with
    now := s.now, draws := s.draws, serial := s.serial, pending := s.pending, out := s.out
    eclk := { base := (s.now, 0) }
    sys := { rstLow := s.sys.rstLow, hot := s.sys.hot, good := s.sys.good, bootAt := s.now, porAt := s.sys.porAt }
    plumb := { slots := s.plumb.slots, holdupAt := s.plumb.holdupAt }
    sec := { ownerDigest := s.sec.ownerDigest, rollback := s.rollbackLeft, flash := s.sec.flash }
    cores := smap (fun _ => {}) (fun _ (c : Core) => { temp := c.temp }) 72 s.cores
    recess := { ir := s.recess.ir, scan := s.recess.scan, word := s.recess.word, shift := s.recess.shift } }

/-- POR (R308, R324). -/
def State.assertPor (s : State) : State :=
  let b := s.base
  { b with
    sys := { b.sys with por := true, good := 0, cause := 1 }
    plumb := { slots := s.plumb.slots }
    recess := {} }

/-- PIN reset (R321, R324). -/
def State.assertPin (s : State) : State :=
  let b := s.base
  { b with
    mem := { bytes := s.mem.bytes, ue := s.mem.ue, ce := s.mem.ce }
    cores := smap (fun _ => {}) (fun _ (c : Core) =>
      { temp := c.temp, count := c.count, last := c.last, lastAt := c.lastAt }) 72 s.cores
    ref := { gates := s.ref.gates }
    card := { excluded := s.card.excluded }
    sec := { b.sec with stmts := s.sec.stmts }
    sys := { b.sys with pin := true, cause := 2, debugLock := s.sys.debugLock } }

/-- A WARM or watchdog reset, up to the start of its boot (R322, R324). PLUMB_MODE returns to AUTO, so the record in force is
again the valid user record in the highest slot (R275), though the trims stay (R324; assumption log 81). -/
def State.warm (s : State) (cause : Nat) : State :=
  let b := s.base
  { b with
    mem := {
      bytes := s.mem.bytes, ue := s.mem.ue, ce := s.mem.ce, segs := s.mem.segs, events := s.mem.events
      rings := s.mem.rings }
    joiners := smap (fun _ => {}) (fun _ (j : Joiner) => { code := j.code, codeUe := j.codeUe, shared := j.shared }) 96
      s.joiners
    cores := smap (fun _ => {}) (fun _ (c : Core) =>
      { trims := c.trims, ampFactory := c.ampFactory, timeFactory := c.timeFactory, temp := c.temp, failed := c.failed
        tempAtAmp := c.tempAtAmp, ampDone := c.ampDone
        count := c.count, last := c.last, lastAt := c.lastAt }) 72 s.cores
    ref := { gates := s.ref.gates }
    synM := { bands := s.synM.bands }
    synA := { nInt := 1200, bands := s.synA.bands }
    tiu := { tables := s.tiu.tables }
    plumb := {
      slots := s.plumb.slots, holdupAt := s.plumb.holdupAt, tiuFailed := s.plumb.tiuFailed
      inForce := if s.plumb.mode = 2 then s.ybValid.foldl max 0 else s.plumb.inForce, commits := s.plumb.commits
      lastUtc := s.plumb.lastUtc, skipped := s.plumb.skipped, factoryBad := s.plumb.factoryBad }
    card := { s.card with saving := none, ageing := none }
    eclk := { b.eclk with ceiling := s.eclk.ceiling, hz := s.eclk.ceiling * 1000000 }
    sec := { b.sec with stmts := s.sec.stmts }
    sys := { b.sys with cause := cause, debugLock := s.sys.debugLock } }

/-- A commit that a power failure or a reset interrupts leaves its slot written and unsealed (R279). -/
def State.breakCommit (s : State) : State :=
  match s.plumb.commit with
  | some (k, r) => s.ybEndEarly k r true
  | none => s

/-- The instruction register holds an instruction that controls the pins (R372, R373). -/
def Recess.pinControl (r : Recess) : Bool := r.ir = 0 || r.ir = 3 || r.ir = 4 || r.ir = 5 || r.ir = 6

/-- PIN reset asserted, by RST_N or the TAP (R321, R373). -/
def State.pinReset (s : State) : State := if s.held then s else s.breakCommit.assertPin

/-- PIN reset ends where neither RST_N nor the TAP holds it: boot starts (R312, R373, R374). -/
def State.pinEnd (s : State) : State :=
  if s.sys.pin && !s.sys.por && !s.sys.rstLow && !s.recess.pinControl then
    { s with
      sys := { s.sys with pin := false, cause := 2, bootAt := s.now, porAt := s.now }
      eclk := { s.eclk with base := (s.now, 0) } }
  else s

/-- POR (R308). -/
def opPor (s : State) : State := if s.sys.por then s else s.breakCommit.assertPor

/-- POR_RELEASE (R308); RST_N low at that time goes on holding the device. -/
def opPorRelease (s : State) : State :=
  if s.sys.por then
    { s with
      sys := { s.sys with por := false, pin := s.sys.rstLow, cause := 1, bootAt := s.now, porAt := s.now }
      eclk := { s.eclk with base := (s.now, 0) } }
  else s

/-- RST_N_ASSERT (R321). -/
def opRstNAssert (s : State) : State :=
  ({ s with sys := { s.sys with rstLow := true } } : State).pinReset

/-- RST_N_RELEASE (R321). -/
def opRstNRelease (s : State) : State := ({ s with sys := { s.sys with rstLow := false } } : State).pinEnd

/-- What a WARM or watchdog reset does first (R322): what has been played and a stretch of ECLK count, the report card is
saved where one is loaded (assumption log 62), write-port jobs end, and a commit is interrupted. Clocks that stand end no
job. -/
def State.quiesce (s : State) : State :=
  let s := s.catchUpAll.endStretch
  let s := s.when s.card.loaded State.saveNow
  let s := if s.sys.state = .recess then s else s.drainJobs
  s.breakCommit

/-- WARM_RESET_BEGIN (R322). -/
def opWarmResetBegin (s : State) : State :=
  match s.sys.warmAt with
  | some x => if s.held || decide (s.now < x) then s else s.quiesce.warm 3
  | none => s

/-- WATCHDOG_RESET (R322). -/
def opWatchdogReset (s : State) : State :=
  if s.held || decide (s.sys.state = .boot) then s else s.quiesce.warm 4

/-! ## Rails (R306) -/

/-- RAIL_WARNING (R306). -/
def opRailWarning (s : State) (r : Nat) : State :=
  if s.held then s
  else
    let bit : BitVec 13 := BitVec.ofNat 13 (2 ^ r)
    ({ s with sys := { s.sys with warn := s.sys.warn ||| bit, good := s.sys.good &&& ~~~bit } } : State).alert alRailWarn

/-- Segment memory becomes undefined (R306, R324). -/
def State.loseMemory (s : State) : State := s.catchUpAll.modMem fun m => { m with bytes := [], ue := [], ce := [] }

/-- RAIL_FAULT (R306, R279, R325). -/
def opRailFault (s : State) (r : Nat) : State :=
  if s.sys.por then s
  else if r = 0 ∨ r = 11 then opPor s
  else
    let s := if r = 4 ∨ r = 5 ∨ r = 6 then s.loseMemory else s
    if s.sys.pin then s
    else
      let s := s.alert alRailUv
      if r = 12 then
        (opFuseHoldupLost { s with plumb := { s.plumb with holdupOk := false, holdupDue := none } }).settleOff
      else s.enterFaultSafe fsRail

/-! ## Block resets (R322, R323) -/

/-- RESET_CMD with kind WARM (R322). -/
def State.cmdWarm (s : State) (target : Nat) : Act :=
  s.act
    [rangeIf (decide (target ≠ 0)), (s.plumb.commit.isSome || decide (s.cfg.state ≠ .idle), .blockRunning)]
    { s with sys := { s.sys with warmAt := some (s.sys.warmAt.getD (s.now + msFs)) } }

/-- RESET_CMD with kind CHANNEL (R323). -/
def State.cmdResetChannel (s : State) (n : Nat) : Act :=
  s.act [rangeIf (decide (63 < n))]
    (let s : State := { s with sys := { s.sys with cause := 6 } }
     s.resetAtBoundary n (s.nextBoundary n) false)

/-- RESET_CMD with kind JOINER (R323): its timetables stop. -/
def State.cmdResetJoiner (s : State) (j : Nat) : Act :=
  s.act [rangeIf (decide (95 < j))]
    (let s : State := { s with sys := { s.sys with cause := 7 } }
     (s.joinerTts j fun v => { v with state := .halted, haltCause := 2, wait := .none, held := none }).modJoiner j
       fun jn => { jn with resetting := true })

/-- JOINER_RESET_COMPLETE (R323). -/
def opJoinerResetComplete (s : State) (j : Nat) : State :=
  if (s.joiner j).resetting && decide ((s.joiner j).jobs = []) then
    (s.joinerTts j Timetable.clearRun).modJoiner j fun jn => { jn with
      resetting := false, bells := [], last := Vector.replicate 8 63 }
  else s

/-- RESET_CMD with kind LANE (R323): a lane that runs trains again, its buffers and counts cleared. -/
def State.cmdResetLane (s : State) (l : Nat) : Act :=
  s.act [rangeIf (decide (47 < l))]
    (let s : State := { s with sys := { s.sys with cause := 8 } }
     let runs := (s.laneQuad l).en && decide ((s.laneQuad l).mode ≠ modeOff ∧ (s.lane l).test = 0)
     let s := s.when (s.lane l).incomplete fun s => s.truncate l
     let s := if runs then s.leaveUp l .signal else s
     s.modLane l fun v => { (v.notFull s.now) with
       landing := [], ingress := [], rxDue := 0, discarding := false, sent := 0, outbox := [], freed := 0, stale := 0
       partnerFreed := 0, inMsg := [], inDue := 0 })

/-- RESET_CMD (R322). -/
def State.resetCmd (s : State) (v : Nat) : Act :=
  let target := v % 256
  match bits v 31 24 with
  | 1 => s.cmdWarm target
  | 2 => s.cmdResetChannel target
  | 3 => s.cmdResetJoiner target
  | 4 => s.cmdResetLane target
  | _ => s.act [rangeIf true] s

/-! ## The TAP (R372 to R374) -/

/-- What the boundary-scan register holds at an update of the instruction: no row of the command table carries what is
shifted into it or captured, so it is a free value at each (assumption log 54). -/
def State.scanned (s : State) : BitVec 268 :=
  BitVec.ofNat 268 ((List.range 5).foldl (fun v k => v * 2 ^ 64 + (Config.freeValue s.draws (412 + k)).toNat) 0)

/-- The instruction register takes a code; pin control holds the device in PIN reset, and leaving it boots (R373). -/
def State.setIr (s : State) (ir : BitVec 8) : State :=
  let s : State := { s with recess := { s.recess with
    ir := ir, scan := s.scanned, word := if ir = 0x20 then 0 else s.recess.word } }
  if s.recess.pinControl then s.pinReset else s.pinEnd

/-- TAP_INSTRUCTION_UPDATE: during POR the TAP stays in Test-Logic-Reset (R374). -/
def opTapInstructionUpdate (s : State) (ir : BitVec 8) : State := if s.sys.por then s else s.setIr ir

/-- TAP_RESET: IDCODE is selected (R372). -/
def opTapReset (s : State) : State := s.setIr 1

/-- The word at word address `w` of the capture image. -/
def State.captureWord (s : State) (w : Nat) : Word := BitVec.ofNat 32 (leNat (s.captureBytes (4 * w) 4))

/-- TAP_CAPTURE_READ (R359, R373, R374): the next word of the image, zeros while it is shut or past its end. -/
def opTapCaptureRead (s : State) : State :=
  if s.recess.ir ≠ 0x20 then s
  else
    let w := s.recess.word
    if s.captureShut then
      (({ s with recess := { s.recess with shift := 0 } } : State).noteLocked).send (.tapWord 0)
    else
      let v := if 4 * w < s.captureLength then s.captureWord w else 0
      ({ s with recess := { s.recess with shift := v, word := w + 1 } } : State).send (.tapWord v)

/-! ## Meanings -/

def execRailWarning (t : Nat) (rail : Fin 13) (s : State) : Result := always s t fun s => opRailWarning s rail
def execRailFault (t : Nat) (rail : Fin 13) (s : State) : Result := always s t fun s => opRailFault s rail
def execPor (t : Nat) (s : State) : Result := always s t opPor
def execPorRelease (t : Nat) (s : State) : Result := always s t opPorRelease
def execDroop (t : Nat) (depth : DroopClass) (s : State) : Result := always s t fun s => opDroop s depth
def execDroopRelease (t : Nat) (s : State) : Result := always s t opDroopRelease
def execEclkReleaseStep (t : Nat) (s : State) : Result := always s t opEclkReleaseStep
def execOvertemp (t : Nat) (s : State) : Result := always s t opOvertemp
def execRstNAssert (t : Nat) (s : State) : Result := always s t opRstNAssert
def execRstNRelease (t : Nat) (s : State) : Result := always s t opRstNRelease
def execWarmResetBegin (t : Nat) (s : State) : Result := always s t opWarmResetBegin
def execWatchdogReset (t : Nat) (s : State) : Result := always s t opWatchdogReset
def execJoinerResetComplete (t : Nat) (j : Fin 96) (s : State) : Result := event s t fun s => opJoinerResetComplete s j
def execTapInstructionUpdate (t : Nat) (ir : BitVec 8) (s : State) : Result :=
  always s t fun s => opTapInstructionUpdate s ir
def execTapReset (t : Nat) (s : State) : Result := always s t opTapReset
def execTapCaptureRead (t : Nat) (s : State) : Result := always s t opTapCaptureRead

end Sys2Proof.Machine
end

