-- ==== Sys2Proof/Machine/Copy.lean ====
section
/-! DEFINITION. The configuration copy (R298 to R300, R337): records, the image that SAVE and BUILD make, the check that
INSTALL makes, and CFG_CMD. -/

namespace Sys2Proof.Machine

/-- The value of an entry as its bytes; element `e`. -/
def State.valueBytes (s : State) (ix sub e : Nat) (en : Entry) : Bytes :=
  if en.type = .string ∨ en.type = .domain then s.readBlob ix sub e else leBytes en.hi (s.readNum ix sub e)

/-! ## Records (R299) -/

/-- A configuration record. -/
structure Rec where
  index : Nat
  sub : Nat
  pass : Nat
  element : Nat
  data : Bytes
  deriving DecidableEq, Repr

/-- Zero bytes that fill a value of `n` bytes up to a multiple of 4. -/
def padTo4 (n : Nat) : Nat := (4 - n % 4) % 4

/-- A record as its bytes. -/
def recordBytes (r : Rec) : Bytes :=
  leBytes 2 r.index ++ leBytes 1 r.sub ++ leBytes 1 r.pass ++ leBytes 2 r.element ++ leBytes 2 r.data.length ++ r.data
    ++ List.replicate (padTo4 r.data.length) 0

/-- The records of a payload, at most `fuel` of them; a value that the payload cuts short is taken as far as it goes
(assumption log 21). -/
def recordsOf : Nat → Bytes → List Rec
  | 0, _ => []
  | fuel + 1, bs =>
    if bs.length < 8 then []
    else
      let n := leAt bs 6 2
      { index := leAt bs 0 2, sub := leAt bs 2 1, pass := leAt bs 3 1, element := leAt bs 4 2
        data := (bs.drop 8).take n } :: recordsOf fuel (bs.drop (8 + n + padTo4 n))

/-! ## Building an image (R298 to R300) -/

/-- Every index of the object dictionary, rising (R297). -/
def dictionary : List Nat :=
  [0x1018, 0x1100, 0x1200, 0x2000, 0x2100, 0x2200, 0x2300] ++ (List.range 64).map (0x2400 + ·)
    ++ (List.range 8).map (0x2480 + ·) ++ [0x2500, 0x2600, 0x2700, 0x2800, 0x2900, 0x2A00, 0x2B00]

/-- Elements of an entry of index `ix`. -/
def elementsOf (ix : Nat) (en : Entry) : Nat :=
  if en.sel = 0 then 1 else match selectorMax ix en.sel with
    | some m => m + 1
    | none => 1

/-- The record of one element of an entry, where its value differs from its default. -/
def State.recordFor (s : State) (ix : Nat) (en : Entry) (e : Nat) : Option Rec :=
  let value := (s.syncEntry ix en.sub e).valueBytes ix en.sub e en
  if value = State.reset.valueBytes ix en.sub e en then none
  else some { index := ix, sub := en.sub, pass := passOf ix en.sub, element := e, data := value }

/-- The records of an index. -/
def State.recordsAt (s : State) (ix : Nat) : List Rec :=
  ((Machine.entriesAt ix).filter fun en => decide (en.persistence ix = 1)).flatMap fun en =>
    (List.range (elementsOf ix en)).filterMap fun e => s.recordFor ix en e

/-- The payload built from the values in force. -/
def State.cfgPayload (s : State) : Bytes := (dictionary.flatMap s.recordsAt).flatMap recordBytes

/-- The unsigned image built from the values in force. -/
def State.cfgImage (s : State) : FlashCopy :=
  { seq := s.nextSeq imConfig, signed := false, payload := s.cfgPayload, sig := [], good := true }

/-- An image as its bytes (R315). -/
def imageBytes (type : Nat) (c : FlashCopy) : Bytes :=
  headerWords type c.seq c.payload.length c.signed ++ c.digest type ++ c.payload ++ c.sig

/-! ## CFG_CMD (R300, R337) -/

/-- The staged image of CFG_LENGTH bytes. -/
def State.staged (s : State) : Bytes := (List.range s.cfg.length).map fun i => sget (fun _ => 0) s.cfg.staging i

/-- The staged image is SIGNED. -/
def stagedSigned (bs : Bytes) : Bool := bitOf (leAt bs 12 4) 0

/-- The staged payload. -/
def stagedPayload (bs : Bytes) : Bytes := (bs.drop 64).take (leAt bs 8 4)

/-- What INSTALL checks (R300, R315, R337, R343). -/
def State.cfgChecks (s : State) (bs : Bytes) : Checks :=
  let payload := stagedPayload bs
  let signed := stagedSigned bs
  [(!(decide (leAt bs 0 4 = 0x01024E57)
      && decide (bs.length = 64 + leAt bs 8 4 + (if signed then 208 else 0))
      && decide (digest (bs.take 16 ++ payload) = (bs.drop 16).take 48)), .imageFormat),
   (s.ownerSet && !signed, .unsignedCfg),
   (signed && !s.blockOk imConfig payload (bs.drop (64 + payload.length)), .sigInvalid)]

/-- A command begins: its state, its outcome and the image it writes. -/
def State.cfgStart (s : State) (state : CfgState) (kind : Nat) (x : Word) (c : Option FlashCopy) : State :=
  ({ s with cfg := { s.cfg with state := state, job := some (kind, x, c) } } : State).cfgBegin

/-- SAVE. -/
def State.cfgSave (s : State) : Act :=
  s.act [(decide (s.cfg.state ≠ .idle), .blockRunning), (s.ownerSet, .unsignedCfg)]
    (s.cfgStart .building 1 0 (some s.cfgImage))

/-- BUILD. -/
def State.cfgBuild (s : State) : Act :=
  s.act [(decide (s.cfg.state ≠ .idle), .blockRunning)] (s.cfgStart .building 2 0 (some s.cfgImage))

/-- INSTALL: a staged image that fails its check is not written. -/
def State.cfgInstall (s : State) : Act :=
  let bs := s.staged
  let x := verdictWord (s.cfgChecks bs)
  let c : FlashCopy :=
    { seq := 0, signed := stagedSigned bs, payload := stagedPayload bs, sig := bs.drop (64 + leAt bs 8 4), good := true }
  s.act [(decide (s.cfg.state ≠ .idle), .blockRunning)]
    (s.cfgStart .checking 3 x (if x = 0 then some c else none))

/-- CFG_CMD. -/
def State.cfgCmd (s : State) (v : Nat) : Act :=
  if v = 1 then s.cfgSave else if v = 2 then s.cfgBuild else if v = 3 then s.cfgInstall
  else s.act [rangeIf true, (decide (s.cfg.state ≠ .idle), .blockRunning)] s

/-- A built image stands in the staging buffer. -/
def State.stage (s : State) (c : FlashCopy) : State :=
  let bs := imageBytes imConfig c
  { s with cfg := { s.cfg with
    staging := bs.zipIdx.foldl (fun m p => sset (fun _ => (0 : Byte)) m p.2 p.1) s.cfg.staging, length := bs.length } }

/-- DONE or FAILED with ABORT, and SEC_REFUSALS where a code of R343 refused the image. -/
def State.cfgResult (s : State) (x : Word) : State :=
  if x = 0 then { s with cfg := { s.cfg with done := true, abort := 0 } }
  else { s with
    cfg := { s.cfg with failed := true, abort := x &&& 0x07FFFFFF }
    sec := { s.sec with refusals := s.sec.refusals + (if 0x09000000 ≤ x.toNat then 1 else 0) } }

/-- CFG_CMD_COMPLETE (R300): not before the command's own flash write runs (R331). -/
def opCfgCmdComplete (s : State) : State :=
  match s.cfg.job with
  | none => s
  | some (kind, x, c) =>
    let ended : State := ({ s with cfg := { s.cfg with state := .idle, job := none } } : State).cfgResult x
    match c, s.sec.job with
    | none, _ => ended
    | some copy, some j =>
      if kind = 2 then ended.stage copy
      else if j.kind = imConfig then (ended.writeCopy imConfig copy).flashEnd else s
    | some copy, none => if kind = 2 then ended.stage copy else s

/-! ## Meanings -/

def execCfgCmdComplete (t : Nat) (s : State) : Result := event s t opCfgCmdComplete

end Sys2Proof.Machine
end

