-- ==== Sys2Proof/Machine/Writes.lean ====
section
/-! DEFINITION. What a WRITE of each entry does (R290, R291, the entry tables of the chapters): the conditions that
refuse it, each with its code, and the state after it. Reserved bits are stored as zero (R10). Selectors and entries
that an offset selector addresses belong to a session and are in Machine/Oda.lean. -/

namespace Sys2Proof.Machine

/-- A write that only RANGE can refuse. -/
def State.put (s : State) (bad : Bool) (after : State) : Act := s.act [rangeIf bad] after

/-- A write that nothing refuses. -/
def State.take (s : State) (after : State) : Act := s.act [] after

/-! ## Index 0x1100, 0x1200, 0x2000 -/

/-- SESSION_TIMEOUT, ROUTE_TIMEOUT, MGMT_IPV4 (R283, R284, R287). -/
def State.writeComm (s : State) (sub v : Nat) : Act :=
  match sub with
  | 0x03 => s.put (decide (v < 5 ∨ 3600 < v)) { s with oda := { s.oda with timeout := v } }
  | 0x04 => s.put (decide (v < 100 ∨ 1000000 < v)) { s with oda := { s.oda with routeTimeout := v } }
  | 0x06 => s.take { s with oda := { s.oda with ipv4 := BitVec.ofNat 32 v } }
  | _ => s.put true s

/-- CFG_LENGTH (R300). -/
def State.writeCfgLength (s : State) (v : Nat) : Act :=
  s.put (decide (configMax < v)) { s with cfg := { s.cfg with length := v } }

/-- SYS_CMD, RESET_CMD, ALERT_MASK (R317, R320, R322). -/
def State.writeSys (s : State) (sub v : Nat) : Act :=
  match sub with
  | 0x02 => s.sysCmd v
  | 0x03 => s.resetCmd v
  | 0x0B => s.take { s with sys := { s.sys with alertMask := BitVec.ofNat 32 v } }
  | _ => s.put true s

/-! ## Index 0x2100 -/

/-- REF_SRC (R164): writable while both synthesizers are disabled. -/
def State.writeRefSrc (s : State) (v : Nat) : Act :=
  s.act [rangeIf (decide (1 < v)), (s.synM.en || s.synA.en, .blockRunning)]
    { s.endSlew with ref := { s.endSlew.ref with
      xtalSrc := decide (v = 1), mode := if v = 1 then .xtal else .refin
      presentSince := none, measuring := none, slewEnd := none, holdSince := none } }

/-- A loop word of a synthesizer: writable while it is disabled (R149, R151). -/
def State.writeLoop (s : State) (y : Syn) (sub v : Nat) : Act :=
  s.act [rangeIf (decide (sub = 4 ∧ 2 < v)), ((s.syn y).en, .blockRunning)]
    (s.modSyn y fun x =>
      match sub with
      | 1 => { x with refDiv := v }
      | 2 => { x with nInt := v }
      | 3 => { x with frac := v }
      | _ => { x with lbw := v })

/-- SYNx_EN. -/
def State.writeSynEn (s : State) (y : Syn) (v : Nat) : Act := if v = 1 then s.synEnable y else s.synDisable y

/-- REF_CMD: 1 SLEW, 2 HOP (R166). -/
def State.writeRefCmd (s : State) (v : Nat) : Act :=
  if v = 1 then s.refCmd 3 else if v = 2 then s.refCmd 4 else s.put true s

/-- RAMP_CMD: 1 START, 2 STOP (R170, R171). -/
def State.writeRampCmd (s : State) (v : Nat) : Act :=
  if v = 1 then s.rampCmdStart else if v = 2 then s.rampCmdStop else s.put true s

/-- SYN-A's ramp runs or waits for its bell: RAMP_CFG and RAMP_PROFILE are refused in both (R170). A START with
BELL_EN lets a running ramp go on until the bell (DESIGN CHOICE, assumption log 92). -/
def State.rampBusy (s : State) : Bool := s.ramp.running || s.ramp.waiting

/-- RAMP_CFG (R170). -/
def State.writeRampCfg (s : State) (v : Nat) : Act :=
  s.act [(s.rampBusy, .blockRunning)]
    { s with ramp := { s.ramp with repeats := bitOf v 9, bellEn := bitOf v 8, bell := v % 256 } }

/-- A piece of RAMP_PROFILE as a write stores it (R169). -/
def synPieceOf (bs : Bytes) (p : Nat) : SynPiece :=
  { step := BitVec.ofNat 32 (leAt bs (16 * p) 4), dwell := leAt bs (16 * p + 4) 2, count := leAt bs (16 * p + 8) 4 }

/-- RAMP_PROFILE of SYN-A (R169). -/
def State.writeSynProfile (s : State) (data : Bytes) : Act :=
  s.act [(decide (data.length ≠ 512), .length), (s.rampBusy, .blockRunning)]
    { s with ramp := { s.ramp with
      profile := (List.range 32).foldl (fun m p => sset (fun _ => {}) m p (synPieceOf data p)) [] } }

/-- Integer entries of index 0x2100. -/
def State.writeClock (s : State) (sub e v : Nat) : Act :=
  match sub with
  | 0x01 => s.writeRefFreq v
  | 0x02 => s.put (decide (v < 1 ∨ 10000 < v)) { s with ref := { s.ref with window := v } }
  | 0x04 => s.writeRefSrc v
  | 0x05 => s.put (decide (2 < v)) { s with ref := { s.ref with ret := v } }
  | 0x06 => s.put (decide (v < 1 ∨ 10000 < v)) { s with ref := { s.ref with qual := v } }
  | 0x07 => s.put (decide (v < 10 ∨ 1000 < v)) { s with ref := { s.ref with slewRate := v } }
  | 0x09 => s.writeRefCmd v
  | 0x0C => s.put (decide (2000000 < (signed 32 v).natAbs)) { s with ref := { s.ref with xtalAdj := signed 32 v } }
  | 0x0E => s.writeAlignSrc v
  | 0x10 => s.writeSynEn .M v
  | 0x11 => s.writeLoop .M 1 v
  | 0x12 => s.writeLoop .M 2 v
  | 0x13 => s.writeLoop .M 3 v
  | 0x14 => s.writeLoop .M 4 v
  | 0x21 => s.writeOutCfg e v
  | 0x22 => s.writeOutDelay e v
  | 0x30 => s.writeSynEn .A v
  | 0x31 => s.writeLoop .A 1 v
  | 0x32 => s.writeLoop .A 2 v
  | 0x33 => s.writeLoop .A 3 v
  | 0x34 => s.writeLoop .A 4 v
  | 0x41 => s.writeOutCfg (76 + e) v
  | 0x42 => s.writeOutDelay (76 + e) v
  | 0x48 => s.writeRampCmd v
  | 0x49 => s.writeRampCfg v
  | _ => s.put true s

/-! ## Index 0x2300 -/

/-- The timetable runs: READY or WAITING. -/
def Timetable.runs (v : Timetable) : Bool := decide (v.state = .ready ∨ v.state = .waiting)

/-- An RWL entry of timetable `i` (R290). -/
def State.writeTt (s : State) (i : Nat) (bad : Bool) (f : Timetable → Timetable) : Act :=
  s.act [rangeIf bad, ((s.tt i).runs, .blockRunning)] (s.modTt i f)

/-- TT_CMD START (R84, R319, R323). -/
def State.ttStart (s : State) (i : Nat) : Act :=
  let now := s.cycle + 1
  s.act
    [(decide (s.sys.state = .faultSafe), .wrongState),
     ((s.tt i).runs || s.resetting || (s.joiner (i / 64)).resetting, .blockRunning)]
    (s.modTt i fun v => { v with
      pc := v.entry, loops := [], z := false, n := false, latches := 0, arrivals := 0, state := .ready, wait := .none
      held := none, readyAt := now })

/-- TT_CMD STOP (R84, R85). -/
def State.ttStop (s : State) (i : Nat) : Act := s.take (s.stopTt i)

/-- TT_CMD FLUSH (R84). -/
def State.ttFlush (s : State) (i : Nat) : Act := s.act [((s.tt i).runs, .blockRunning)] (s.flushGang i)

/-- TT_CMD CLEAR (R84). -/
def State.ttClear (s : State) (i : Nat) : Act :=
  s.act [((s.tt i).runs, .blockRunning)]
    (s.modTt i fun v => if v.state = .faulted then { v with state := .idle, fault := {} } else v)

/-- TT_CMD. -/
def State.ttCmd (s : State) (i v : Nat) : Act :=
  if v = 1 then s.ttStart i else if v = 2 then s.ttStop i else if v = 3 then s.ttFlush i
  else if v = 4 then s.ttClear i else s.put true s

/-- LEADER of channel `n` (R64). -/
def State.writeLeader (s : State) (n v : Nat) : Act :=
  let old := (s.chan n).leader
  let running (i : Nat) : Bool := decide (i < 6144) && (s.tt i).runs
  let s1 := s.modTt old fun x =>
    if x.gangBase ≤ n ∧ n < x.gangBase + 16 then
      { x with gangMask := x.gangMask &&& ~~~(BitVec.ofNat 16 (2 ^ (n - x.gangBase))) } else x
  s.act [rangeIf (decide (6143 < v ∧ v ≠ 0xFFFF)), (running old || running v, .blockRunning)]
    ((if old < 6144 then s1 else s).modChan n fun c => { c with leader := v })

/-- TT_GANG of timetable `i` (R65). -/
def State.writeGang (s : State) (i v : Nat) : Act :=
  let base := v % 64
  let mask := v / 65536
  let named := (List.range 16).filter fun b => bitOf mask b
  s.act
    [((s.tt i).runs, .blockRunning), rangeIf (decide (bits v 15 6 ≠ 0) || named.any fun b => decide (63 < base + b)),
     (named.any fun b => decide ((s.chan (base + b)).leader ≠ i), .notLeader)]
    (s.modTt i fun x => { x with gangBase := base, gangMask := BitVec.ofNat 16 mask })

/-- EVR_TAIL (R75): not above EVR_HEAD nor below EVR_HEAD - 2,048. A hardware use in the same cycle sees what it held
before (R305). -/
def State.writeEvrTail (s : State) (v : Nat) : Act :=
  let w : Word := BitVec.ofNat 32 v
  s.put (decide (2048 < (s.evr.head - w).toNat)) { s with evr := { s.evr with
      tail := w, tailWas := some (s.cycle, s.evr.tailIn s.cycle) } }

/-- EVR_ENABLE (R75). -/
def State.writeEvrEnable (s : State) (v : Nat) : Act :=
  let waits := s.tts.any fun p => decide (p.2.state = .waiting ∧ p.2.wait = .evr)
  s.act [(decide (v = 0) && waits, .blockRunning)] { s with evr := { s.evr with enable := decide (v = 1) } }

/-- A host-written setting of channel `n` waits for its boundary (R393). -/
def State.pendSetting (s : State) (n : Nat) (v : SettingValue) : State :=
  let now := s.now
  s.modChan n fun c => { c with pend := c.pend ++ [(now, v)] }

/-- Integer entries of index 0x2300. -/
def State.writeJoiner (s : State) (sub e v : Nat) : Act :=
  match sub with
  | 0x05 => s.ttCmd e v
  | 0x07 => s.writeTt e (decide (32767 < v)) fun x => { x with entry := v }
  | 0x08 => s.writeTt e (decide (7 < v)) fun x => { x with prio := v }
  | 0x0D => s.writeGang e v
  | 0x10 => s.writeTt e (decide (v % 4 = 3)) fun x => { x with underrun := BitVec.ofNat 32 v &&& 0xFFFFFF07 }
  | 0x11 => s.writeTt e false fun x => { x with faultCfg := BitVec.ofNat 32 v &&& 0x1FF01 }
  | 0x19 => s.writeLeader e v
  | 0x20 => s.act [rangeIf (decide (1572863 < v)), (s.evr.enable, .blockRunning)] { s with evr := { s.evr with base := v } }
  | 0x22 => s.writeEvrTail v
  | 0x23 => s.put (decide (1 < v)) { s with evr := { s.evr with waitPolicy := decide (v = 1) } }
  | 0x25 => s.writeEvrEnable v
  | 0x2A => s.put (decide (1 < v)) (s.pendSetting e (.fill (decide (v = 1))))
  | 0x2B => s.put (decide (v < 1 ∨ 64 < v)) (s.modChan e fun c => { c with limit := v })
  | _ => s.put true s

/-- DOMAIN entries of a timetable. -/
def State.writeTtBlob (s : State) (sub e : Nat) (data : Bytes) : Act :=
  match sub with
  | 0x09 => s.writeTt e false fun x => { x with
      scratch := (List.range 64).foldl (fun m i => sset (fun _ => 0) m i (wordAt data i)) [] }
  | 0x0A => s.writeTt e false fun x => { x with
      regs := Vector.ofFn fun i => if i.val = 0 then 0 else wordAt data i.val }
  | 0x0E => s.writeTt e false fun x => { x with listen := BitVec.ofNat 256 (leNat data) }
  | _ => s.put true s

/-! ## Channels and bays -/

/-- FAULT_CLR (R135): from FAULT to OFF; an ENABLE in the same write is overridden. -/
def State.clearFault (s : State) (n : Nat) : State :=
  s.modChan n fun c => { c with state := .off, enable := false, enabling := none, disabling := none }

/-- ENABLE set (R134, R135): the 2 us count from now, or from the boundary at which a cleared ENABLE acts. -/
def State.enableChannel (s : State) (n : Nat) : State :=
  let c := s.chan n
  if c.enable then s
  else match c.disabling with
    | some (k, _) => s.modChan n fun c => { c with enable := true, disabling := some (k, true) }
    | none =>
      let from_ := if s.clockRuns n then max s.now (s.boundaryFs n c.idleFrom) else s.now
      s.modChan n fun c => { c with enable := true, enabling := some from_ }

/-- ENABLE cleared (R135): OFF at the next granule boundary, or at the first one once the clock runs. -/
def State.disableChannel (s : State) (n : Nat) : State :=
  let k := s.nextBoundary n
  if !(s.chan n).enable then s else s.modChan n fun c => { c with enable := false, disabling := some (k, false) }

/-- CH_CTRL (R134, R135, R137, R319). -/
def State.writeCtrl (s : State) (n v : Nat) : Act :=
  let s1 := s.modChan n fun c => { c with detectEn := bitOf v 1 }
  s.act [(decide (s.sys.state = .faultSafe) && bitOf v 0, .wrongState)]
    (if (s.chan n).state = .fault then
       if bitOf v 15 then s1.clearFault n else s1.modChan n fun c => { c with enable := bitOf v 0 }
     else if bitOf v 0 then s1.enableChannel n else s1.disableChannel n)

/-- SPAN_CFG (R131): waits for the next segment boundary. -/
def State.writeSpan (s : State) (n v : Nat) : Act :=
  let now := s.now
  s.take (s.modChan n fun c => { c with spanPending := some (BitVec.ofNat 3 v, now, none) })

/-- RAMP_PROFILE of a channel (R125, R126). -/
def State.writeProfile (s : State) (n : Nat) (data : Bytes) : Act :=
  let piece (p : Nat) : NcoPiece :=
    { step := BitVec.ofNat 48 (leAt data (16 * p) 6), lenG := leAt data (16 * p + 8) 4 }
  s.act [(decide (data.length ≠ 256), .length), ((s.chan n).ramp.isSome, .blockRunning)]
    (s.modChan n fun c => { c with
      profile := (List.range 16).foldl (fun m p => sset (fun _ => {}) m p (piece p)) [] })

/-- Integer entries of channel `n`. -/
def State.writeChannel (s : State) (n sub v : Nat) : Act :=
  let s := s.syncEntry (0x2400 + n) sub 0
  match sub with
  | 0x01 => s.writeCtrl n v
  | 0x03 => s.writeSpan n v
  | 0x04 => s.put (decide (3 < v)) (s.pendSetting n (.mode (BitVec.ofNat 2 v)))
  | 0x05 => s.take (s.modChan n fun c => { c with ftwLo := BitVec.ofNat 32 v })
  | 0x06 => s.take (s.pendSetting n (.ftw (BitVec.ofNat 48 (v * 2 ^ 32 + (s.chan n).ftwLo.toNat))))
  | 0x07 => s.take (s.pendSetting n (.phaseOfs (BitVec.ofNat 16 v)))
  | 0x08 => s.take (s.pendSetting n (.ncoAmp (BitVec.ofNat 16 v)))
  | 0x09 => s.take (s.pendSetting n (.gain (BitVec.ofNat 16 v)))
  | 0x0A => s.take (s.pendSetting n (.offset (BitVec.ofNat 16 v)))
  | 0x0B => s.put (decide (v < 1 ∨ 256 < v)) (s.pendSetting n (.hold v))
  | 0x0C => s.put (decide (signed 16 v < -2048 ∨ 2047 < signed 16 v)) (s.pendSetting n (.park (BitVec.ofNat 12 v)))
  | 0x0D => s.take (s.modChan n fun c => { c with route := BitVec.ofNat 16 v &&& 0x8F8F })
  | 0x13 => s.take (s.modChan n fun c => { c with faultBell := BitVec.ofNat 16 v &&& 0x80FF })
  | _ => s.put true s

/-- Integer entries of bay `b`: FADE_G (R142). -/
def State.writeBay (s : State) (b sub v : Nat) : Act :=
  match sub with
  | 0x01 => s.put (decide (v < 4 ∨ 256 < v)) (s.modBay b fun x => { x with fadeG := v })
  | _ => s.put true s

/-! ## Bells, truss and lanes -/

/-- EPOCH_CMD: 1 NOW, 2 PPS (R182). -/
def State.writeEpochCmd (s : State) (v : Nat) : Act :=
  if v = 1 then s.epochNow else if v = 2 then s.epochPps else s.act [s.kingOnly, rangeIf true] s

/-- TRUSS_CMD: 1 RESUME, 2 TRUSS_RESET (R200, R201). -/
def State.writeTrussCmd (s : State) (v : Nat) : Act :=
  if v = 1 then s.cmdResume else if v = 2 then s.cmdTrussReset else s.act [s.kingOnly, rangeIf true] s

/-- BREAK_POLICY (R199). -/
def State.writePolicies (s : State) (data : Bytes) : Act :=
  s.act [(decide (data.length ≠ 64), .length), rangeIf (data.any fun b => decide (3 < b.toNat))]
    { s with truss := { s.truss with
      policy := data.zipIdx.foldl (fun m p => sset (fun _ => 0) m p.2 p.1.toNat) [] } }

/-- Integer entries of index 0x2500. A BELL_RING that is held is in Machine/Requests.lean (R177). -/
def State.writeTruss (s : State) (sub e v : Nat) : Act :=
  match sub with
  | 0x01 => s.writeDeviceNum v
  | 0x03 => s.writeHorizon v
  | 0x07 => s.writeEpochValue v
  | 0x08 => s.writeEpochCmd v
  | 0x09 => s.writeRingBell (v % 256) (BitVec.ofNat 8 (v / 256))
  | 0x0B => s.put (decide (2 < v)) { s with truss := { s.truss with latePolicy := v } }
  | 0x0F => s.writeMkCfg e v
  | 0x13 => s.writeLinkCfg e v
  | 0x18 => s.take { s with truss := { s.truss with breakBell := BitVec.ofNat 16 v &&& 0x80FF } }
  | 0x1A => s.writeTrussCmd v
  | _ => s.put true s

/-- Integer entries of index 0x2600; those of an ETH port exist for lanes 0 to 15 (R224). -/
def State.writeLane (s : State) (sub e v : Nat) : Act :=
  let eth (blocks : Checks) (bad : Bool) (f : Lane → Lane) : Act :=
    s.act (rangeIf (bad || decide (15 < e)) :: blocks) (s.modLane e f)
  match sub with
  | 0x02 => s.writeQuad e v
  | 0x05 => s.writeLaneTest e v
  | 0x10 => eth [] false fun l => { l with mac := some (BitVec.ofNat 48 v) }
  | 0x11 => eth [] false fun l => { l with ipv4 := BitVec.ofNat 32 v }
  | 0x12 => eth [] false fun l => { l with vlanEn := bitOf v 12, vid := BitVec.ofNat 12 v }
  | 0x13 => eth [((s.laneQuad e).en, .blockRunning)] (decide (1 < v)) fun l => { l with pmd := v }
  | _ => s.put true s

/-! ## TIU, Plumb, security, report card, recess -/

/-- TIU_CMD: 1 START, 2 STOP, 3 CLEAR; no START in FAULT-SAFE (R319). -/
def State.tiuCmd (s : State) (c v : Nat) : Act :=
  if v = 1 then
    let a := s.tiuStart c
    { a with checks := (decide (s.sys.state = .faultSafe), .wrongState) :: a.checks }
  else if v = 2 then s.tiuStop c else if v = 3 then s.tiuClear c else s.put true s

/-- Integer entries of index 0x2700. -/
def State.writeTiu (s : State) (sub e v : Nat) : Act :=
  match sub with
  | 0x01 => s.writeTbSel v
  | 0x02 => s.put (decide (1 < v)) { s with tiu := { s.tiu with stop := decide (v = 1) } }
  | 0x05 => s.writeTiuCh e v
  | 0x06 => s.writeTiuMeas e v
  | 0x07 => s.writeSlot e false fun x => { x with n := v }
  | 0x08 => s.writeSlot e (decide (v < 1 ∨ 1000000 < v)) fun x => { x with gate := v }
  | 0x09 => s.writeSlot e false fun x => { x with cmpLo := signed 64 v }
  | 0x0A => s.writeSlot e (decide (signed 64 v < (s.slot e).cmpLo)) fun x => { x with cmpHi := signed 64 v }
  | 0x0B => s.writeSlot e false fun x => { x with cmpBell := v }
  | 0x0C => s.tiuCmd e v
  | 0x19 => s.writeTail (BitVec.ofNat 32 v)
  | _ => s.put true s

/-- PLUMB_CMD: 1 RUN, 2 CLEAR_FAILED, 3 CANCEL (R259, R266, R268). -/
def State.plumbCmd (s : State) (v : Nat) : Act :=
  match bits v 31 24 with
  | 1 => s.plumbRun (bits v 18 16) (v % 256)
  | 2 => s.plumbClearFailed (v % 256)
  | 3 => s.plumbCancel
  | _ => s.put true s

/-- YB_UTC (R305): a write in the cycle of a seal is lost. -/
def State.writeUtc (s : State) (v : Nat) : Act :=
  s.take (if s.plumb.sealedAt = some s.moment then s.loseWrite
    else { s with plumb := { s.plumb with utc := BitVec.ofNat 64 v, utcAt := some s.moment } })

/-- Integer entries of index 0x2800. -/
def State.writePlumb (s : State) (sub v : Nat) : Act :=
  match sub with
  | 0x01 => s.writePlumbMode v
  | 0x02 => s.put (decide (v < 4 ∨ 320 < v)) { s with plumb := { s.plumb with dt := v } }
  | 0x04 => s.writePlumbPeriod v
  | 0x05 => s.put (decide (v ≠ 0 ∧ (v < 1000000 ∨ 10000000 < v))) { s with plumb := { s.plumb with vrefNom := v } }
  | 0x07 => s.plumbCmd v
  | 0x18 => if v = 1 then s.ybCommit else s.put true s
  | 0x19 => s.writeUtc v
  | 0x20 => s.put (decide (132 < v)) { s with plumb := { s.plumb with readSlot := v } }
  | _ => s.put true s

/-- Integer entries of index 0x2900, for a request of `session`. -/
def State.writeSec (s : State) (sub v : Nat) (session : Word) : Act :=
  match sub with
  | 0x07 => s.writePolicy v
  | 0x09 => s.attest v session
  | 0x0D => s.put (decide (v % 8 ≠ 0)) { s with sec := { s.sec with fwSrc := v } }
  | 0x0E => s.put (decide (v < 272 ∨ 12583120 < v)) { s with sec := { s.sec with fwLen := v } }
  | 0x0F => s.fwCmd v
  | 0x10 => s.put (decide (v % 8 ≠ 0)) { s with sec := { s.sec with codeSrc := v } }
  | 0x11 => s.put (decide (v < 292 ∨ 131360 < v)) { s with sec := { s.sec with codeLen := v } }
  | 0x12 => s.codeLoad v
  | 0x15 => s.put false { s with sec := { s.sec with recLength := v } }
  | 0x17 => s.recCmd v
  | _ => s.put true s

/-- DEBUG_LOCK (R301): written once it is 1. -/
def State.writeDebugLock (s : State) (v : Nat) : Act :=
  { checks := [(s.sys.debugLock, .locked)]
    after := { s with sys := { s.sys with debugLock := decide (v = 1) } }
    refused := fun a => if a = .locked then { s with sys := { s.sys with
      lockViolation := true, lockViolations := s.sys.lockViolations + 1 } } else s }

/-- Integer entries of indices 0x2A00 and 0x2B00. -/
def State.writeCard (s : State) (ix sub v : Nat) : Act :=
  match ix, sub with
  | 0x2A00, 0x0A => s.cmdSaveCard v
  | 0x2B00, 0x01 => s.cmdRecess v
  | 0x2B00, 0x02 => s.writeRecessCfg v
  | 0x2B00, 0x07 => s.writeDebugLock v
  | 0x2B00, 0x08 => s.take { s with sys := { s.sys with rawEn := decide (v = 1) } }
  | _, _ => s.put true s

/-! ## By index -/

/-- A write of a BOOL or integer entry that is no selector; element `e`, value bits `v`. -/
def State.writeNum (s : State) (ix sub e v : Nat) (session : Word) : Act :=
  match classOf ix with
  | 0x1100 => s.writeComm sub v
  | 0x1200 => if sub = 0x01 then s.cfgCmd v else s.writeCfgLength v
  | 0x2000 => s.writeSys sub v
  | 0x2100 => s.writeClock sub e v
  | 0x2200 => s.writeBulk (decide (sub = 0x09)) v
  | 0x2300 => s.writeJoiner sub e v
  | 0x2400 => s.writeChannel (unitOf ix) sub v
  | 0x2480 => s.writeBay (unitOf ix) sub v
  | 0x2500 => s.writeTruss sub e v
  | 0x2600 => s.writeLane sub e v
  | 0x2700 => s.writeTiu sub e v
  | 0x2800 => s.writePlumb sub v
  | 0x2900 => s.writeSec sub v session
  | _ => s.writeCard ix sub v

/-- A write of a DOMAIN entry that no offset selector addresses; element `e`. -/
def State.writeBlob (s : State) (ix sub e : Nat) (data : Bytes) : Act :=
  match classOf ix, sub with
  | 0x2100, 0x16 => s.writeBands .M data
  | 0x2100, 0x36 => s.writeBands .A data
  | 0x2100, 0x4A => s.writeSynProfile data
  | 0x2200, 0x02 => s.writeSeg e data
  | 0x2200, 0x04 => s.writeMprog e data
  | 0x2200, 0x06 => s.writeRing e data
  | 0x2300, _ => s.writeTtBlob sub e data
  | 0x2400, 0x0E => (s.syncEntry ix sub 0).writeProfile (unitOf ix) data
  | 0x2500, 0x0A => s.writeOwners data
  | 0x2500, 0x17 => s.writePolicies data
  | 0x2900, 0x06 => s.writeOwnerKey data
  | 0x2900, 0x08 => s.take (s.setNonce data)
  | 0x2900, 0x16 => s.recWrite data
  | _, _ => s.put true s

/-! ## Register parity (R302, R303) -/

/-- A standing parity fault lies in a register that `p` holds of. -/
def State.faultIn (s : State) (p : Nat → Nat → Bool) : Bool :=
  s.sys.parity.any fun x => p x.1.index.toNat x.1.sub.toNat

/-- The synthesizers that a register of index 0x2100 concerns (R302): both for the references. -/
def synsOf (sub : Nat) : List Syn :=
  if sub ≤ 0x0F then [.M, .A] else if sub ≤ 0x22 then [.M] else [.A]

/-- The safe state of a channel: FAULT, cause 3 (R135, R138, R302). -/
def State.parityChannel (s : State) (n : Nat) : State :=
  if (s.chan n).state = .off ∨ (s.chan n).state = .fault then s
  else
    ((s.silence n (s.boundaryNow n) .fault).modChan n fun c => { c with
      disabling := none, flags := c.flags ||| 1 }).faultBell n 3

/-- The safe state of a bay: its handover abandoned, SUBb UNAVAILABLE (R142, R302). -/
def State.parityBay (s : State) (b : Nat) : State :=
  let n := (s.bay b).channel
  let s := if s.serves n ∧ n / 8 = b then s.abandonHandover n else s
  s.modBay b fun x => { x with parity := true }

/-- The safe state of a synthesizer: gated as at loss of lock (R159, R302). -/
def State.paritySyn (s : State) (y : Syn) : State :=
  if (s.syn y).en ∧ (s.syn y).parity = false then ((s.gateSyn y).unlock y).modSyn y fun v => { v with parity := true } else s

/-- The Joiners of a register of index 0x2300; the event ring's and playback's registers belong to none. -/
def joinersOf (sub e : Nat) : List Nat :=
  if sub = 0x03 ∨ sub = 0x14 then [e] else if 0x05 ≤ sub ∧ sub ≤ 0x11 then [e / 64] else []

/-- The safe state of a TIU channel: every slot that uses it ABORTED (R302). -/
def State.parityTiu (s : State) (c : Nat) : State :=
  s.forAll (List.range 16) fun s i =>
    if (s.slot i).uses i c && decide ((s.slot i).state = .armed ∨ (s.slot i).state = .running) then
      s.modSlot i fun v => { v with state := .aborted } else s

/-- The owning block of a register takes its safe state (R302). What LANE and the bell's payload hold for a break on a
parity fault is not stated (assumption log 2); the registers of index 0x2200 have no safe state in the table. -/
def State.safeState (s : State) (ix sub e : Nat) : State :=
  match classOf ix with
  | 0x2400 => s.parityChannel (unitOf ix)
  | 0x2480 => s.parityBay (unitOf ix)
  | 0x2100 => s.forAll (synsOf sub) State.paritySyn
  | 0x2300 =>
    if 0x2A ≤ sub ∧ sub ≤ 0x2B then s.parityChannel e
    else s.forAll (joinersOf sub e) fun s j => s.joinerTts j fun v =>
      if v.runs then { v with state := .halted, haltCause := 1, wait := .none, held := none } else v
  | 0x2500 => s.enterBroken none ((Config.freeValue s.draws 400).toNat % 64) ((Config.freeValue s.draws 401).setWidth 8)
  | 0x2600 => (s.writeQuad (if sub = 0x02 then e else e / 4)
      (fld (s.quad (if sub = 0x02 then e else e / 4)).mode 0)).after
  | 0x2700 => s.parityTiu e
  | 0x2800 =>
    let s := s.plumbCancel.after
    { s with plumb := { s.plumb with parity := true } }
  | 0x2200 => s
  | _ => s.enterFaultSafe fsParity

/-- A host write stores fresh parity: the register's fault ends (R303). While another stands, its block stays in its safe
state, whatever the write would have it do (R302). -/
def State.freshParity (s : State) (ix sub e : Nat) : State :=
  if s.sys.parity = [] then s
  else
    let s : State := { s with sys := { s.sys with
      parity := s.sys.parity.filter fun p => decide (p.1.index.toNat ≠ ix ∨ p.1.sub.toNat ≠ sub ∨ p.2 ≠ e) } }
    let s := if classOf ix = 0x2480 then
        s.modBay (unitOf ix) fun b => { b with parity := b.parity && s.faultIn fun i _ => decide (i = ix) }
      else s
    let s : State := { s with plumb := { s.plumb with
      parity := s.plumb.parity && s.faultIn fun i _ => decide (i = 0x2800) } }
    s.forAll s.sys.parity fun s p => s.safeState p.1.index.toNat p.1.sub.toNat p.2

/-- The entry holds software-written configuration in a register (R302): a RW or RWL entry that is no selector and no
memory. -/
def State.hasParity (s : State) (ix sub : Nat) : Bool :=
  match s.entry? ix sub with
  | some en =>
    decide (en.access = .rw ∨ en.access = .rwl ∨ en.access = .w1) && !isSelector ix sub && !rawIndex ix && decide (sub ≠ 0)
      && !(decide (ix = 0x1200 ∧ sub = 0x04)) && !(decide (ix = 0x2200 ∧ sub ≤ 0x06))
      && !(decide (ix = 0x2100 ∧ (sub = 0x16 ∨ sub = 0x36)))
      && !(decide (ix = 0x2300 ∧ (sub = 0x03 ∨ sub = 0x14 ∨ sub = 0x09 ∨ sub = 0x0A)))
  | none => false

/-- PARITY_SCRUB (R302): a mismatch is raised once, and its block is held in its safe state while it stands. `mismatch` is
what the check finds once the writes of its cycle have stored their parity. -/
def opParityScrub (s : State) (ix sub e : Nat) (mismatch : Bool) : State :=
  let stands := s.sys.parity.any fun p => decide (p.1.index.toNat = ix ∧ p.1.sub.toNat = sub ∧ p.2 = e)
  if s.hasParity ix sub && (mismatch || stands) then
    let s : State := if stands then s
      else ({ s with sys := { s.sys with
        parity := s.sys.parity ++ [({ index := BitVec.ofNat 16 ix, sub := BitVec.ofNat 8 sub }, e)]
        parityFaults := s.sys.parityFaults + 1, cfgParity := true } } : State).alert alCfgParity
    s.safeState ix sub e
  else s

def execParityScrub (t : Nat) (reg : EntryRef) (element : Fin 65536) (mismatch : Bool) (s : State) : Result :=
  event s t fun s => opParityScrub s reg.index.toNat reg.sub.toNat element mismatch

end Sys2Proof.Machine
end

