-- ==== Sys2Proof/Machine/Oda.lean ====
section
/-! DEFINITION. The ODA protocol (R281 to R296): sessions, versions, the replay cache, routing, and what a READ, WRITE,
DESCRIBE and MEM_READ come to. -/

namespace Sys2Proof.Machine

/-! ## What a request comes to -/

/-- A request that a device serves: what refuses it, its reply data, the state and the session's selectors after it, and
the state after a refusal. -/
structure Served where
  checks : Checks
  data : Bytes := []
  after : State
  sel : Selectors
  refused : Abort → State

/-- An action as a request without reply data. -/
def Act.served (a : Act) (x : Selectors) (more : Checks) : Served :=
  { checks := more ++ a.checks, after := a.after, sel := x, refused := a.refused }

/-- A request that comes to nothing but a refusal. -/
def State.refuse (s : State) (x : Selectors) (a : Abort) : Served :=
  { checks := [(true, a)], after := s, sel := x, refused := fun _ => s }

/-- The entries that the ROM serves in recovery (R335). -/
def recoveryServes (ix sub : Nat) : Bool :=
  decide ((ix = 0x1018 ∧ 1 ≤ sub ∧ sub ≤ 6) ∨ (ix = 0x1100 ∧ 1 ≤ sub ∧ sub ≤ 0x0B)
    ∨ (ix = 0x2000 ∧ (sub = 1 ∨ sub = 3 ∨ sub = 0x0C))
    ∨ (ix = 0x2900 ∧ ((1 ≤ sub ∧ sub ≤ 5) ∨ sub = 0x0C ∨ (0x15 ≤ sub ∧ sub ≤ 0x17))))

/-- The entry a request names, where it is in use (R293, R296, R335). -/
def State.find (s : State) (ix sub : Nat) : Option Entry :=
  if s.sec.recovery && !recoveryServes ix sub then none else s.entry? ix sub

/-- The index behind an entry: of a raw register, that of the entry it backs. -/
def indexBehind (ix sub : Nat) : Nat :=
  if rawIndex ix then (match Config.rawTarget (ix - 0x3000) sub with
    | some (k, _, _) => k / 256
    | none => ix) else ix

/-- The entries that recess serves (R356). -/
def recessServes (ix sub : Nat) : Bool :=
  decide (ix = 0x1018 ∨ ix = 0x1100 ∨ ix = 0x2A00
    ∨ (ix = 0x2000 ∧ (sub = 1 ∨ sub = 3 ∨ sub = 4 ∨ sub = 0x0A ∨ sub = 0x0B ∨ sub = 0x0C))
    ∨ (ix = 0x2900 ∧ sub = 1) ∨ (ix = 0x2B00 ∧ 3 ≤ sub ∧ sub ≤ 6))

/-- The host cannot reach the entry in the device's state (the table of device states, R356). -/
def State.outOfReach (s : State) (ix sub : Nat) : Bool :=
  match s.sys.state with
  | .recess => !recessServes ix sub
  | .standby =>
    let i := indexBehind ix sub
    decide (i = 0x2200 ∨ i = 0x2300 ∨ i = 0x2600 ∨ i = 0x2700)
  | _ => false

/-! ## READ (R291, R292, R296, R304, R359) -/

/-- A read through an offset selector: the lesser of 8,960 bytes and those up to the end (R292). -/
def State.offsetRead (s : State) (x : Selectors) (ix sel size : Nat) (bytes : Nat → Nat → Bytes) : Served :=
  let o := x.get ix sel
  let n := min 8960 (size - o)
  { checks := [rangeIf (decide (size ≤ o))], data := bytes o n, after := s, sel := x.set ix sel (o + n)
    refused := fun _ => s }

/-- CAPTURE_DATA (R359). -/
def State.readCapture (s : State) (x : Selectors) : Served :=
  let r := s.offsetRead x 0x2B00 0x05 s.captureLength s.captureBytes
  { r with
    checks := (s.sys.debugLock, .access) :: (decide (s.recess.capture ≠ 2), .wrongState) :: r.checks
    refused := fun a => if a = .access then s.noteLocked else s }

/-- The state after a read of an entry: RC fields are cleared (R290, R304). -/
def State.afterRead (s : State) (ix sub e : Nat) (en : Entry) : State :=
  if en.access = .rc then s.clearRc ix sub e else s

/-- The bits of a write-only entry that are not RSVD (R10, R280, R322). -/
def woMask (ix sub : Nat) : Nat :=
  if ix = 0x2800 ∧ sub = 0x07 then 0xFF0700FF else if ix = 0x2000 ∧ sub = 0x03 then 0xFF0000FF else 2 ^ 64 - 1

/-- Four bytes of a raw register (R296); a field of a write-only entry, and a register behind which no entry stands,
is a free value (assumption log 18). RSVD fields read zero (R10). -/
def State.readRaw (s : State) (x : Selectors) (ix sub : Nat) : Served :=
  let free := leBytes 4 (Config.freeValue s.draws 403).toNat
  match Config.rawTarget (ix - 0x3000) sub with
  | some (k, e, off) =>
    match s.find (k / 256) (k % 256) with
    | some en =>
      let s := s.syncEntry (k / 256) (k % 256) e
      let value := (s.rcAtRead (k / 256) (k % 256)).valueBytes (k / 256) (k % 256) e en
      { checks := []
        data := if en.access = .wo then
            (((leBytes en.hi ((Config.freeValue s.draws 403).toNat &&& woMask (k / 256) (k % 256))).drop off).take 4
              ++ [0, 0, 0, 0]).take 4
          else ((value.drop off).take 4 ++ [0, 0, 0, 0]).take 4
        after := s.afterRead (k / 256) (k % 256) e en, sel := x, refused := fun _ => s }
    | none => { checks := [], data := free, after := s, sel := x, refused := fun _ => s }
  | none => s.refuse x .noEntry

/-- A READ of an entry that exists. -/
def State.readEntry (s : State) (x : Selectors) (ix sub : Nat) (en : Entry) : Served :=
  if rawIndex ix then s.readRaw x ix sub
  else if isSelector ix sub then
    { checks := [], data := leBytes en.hi (x.get ix sub), after := s, sel := x, refused := fun _ => s }
  else match ix, sub with
    | 0x1200, 0x04 => s.offsetRead x ix 0x03 s.cfg.length fun o n =>
        (List.range n).map fun i => sget (fun _ => 0) s.cfg.staging (o + i)
    | 0x2300, 0x03 => s.offsetRead x ix 0x02 131072 (memBytes (s.joiner (x.get ix 0x01)).code)
    | 0x2300, 0x14 => s.offsetRead x ix 0x13 16384 (memBytes (s.joiner (x.get ix 0x01)).shared)
    | 0x2B00, 0x06 => s.readCapture x
    | _, _ =>
      let e := x.element en ix
      let s := s.syncEntry ix sub e
      { checks := [(decide (en.access = .wo), .access)]
        data := (s.rcAtRead ix sub).valueBytes ix sub e en, after := s.afterRead ix sub e en, sel := x
        refused := fun _ => s }

/-- A READ (R290, R293). -/
def State.serveRead (s : State) (x : Selectors) (ix sub : Nat) : Served :=
  match s.find ix sub with
  | none => s.refuse x .noEntry
  | some en =>
    let r := s.readEntry x ix sub en
    { r with checks := (s.outOfReach ix sub, .wrongState) :: r.checks }

/-! ## WRITE (R290 to R292, R296, R301) -/

/-- A selector takes a value (R292). -/
def State.writeSelector (s : State) (x : Selectors) (ix sub v : Nat) : Served :=
  let bad := match selectorMax ix sub, offsetMax ix sub with
    | some m, _ => decide (m < v)
    | none, some m => decide (v % 4 ≠ 0 ∨ (if ix = 0x2B00 then s.captureLength else m) ≤ v)
    | none, none => false
  { checks := [rangeIf bad], after := s, sel := x.set ix sub v, refused := fun _ => s }

/-- A write through an offset selector that `after` makes (R83, R292). -/
def State.offsetWrite (s : State) (x : Selectors) (ix sel size : Nat) (data : Bytes) (more : Checks)
    (after : Nat → State) : Served :=
  let o := x.get ix sel
  { checks := rangeIf (decide (size < o + data.length)) :: more, after := after o
    sel := x.set ix sel (o + data.length), refused := fun _ => s }

/-- CODE_DATA (R83, R339). -/
def State.writeCode (s : State) (x : Selectors) (data : Bytes) : Served :=
  s.offsetWrite x 0x2300 0x02 131072 data
    [(decide (data.length % 4 ≠ 0), .length), (s.sec.reqSigned, .unsignedCode)] fun o =>
    s.storeCode (x.get 0x2300 0x01) (o / 4) (bytesWords data)

/-- SHARED_DATA (R83). -/
def State.writeShared (s : State) (x : Selectors) (data : Bytes) : Served :=
  s.offsetWrite x 0x2300 0x13 16384 data [(decide (data.length % 4 ≠ 0), .length)] fun o =>
    s.modJoiner (x.get 0x2300 0x01) fun j => j.storeShared s.draws s.cycle (o / 4) (bytesWords data)

/-- CFG_DATA (R292). -/
def State.writeStaging (s : State) (x : Selectors) (data : Bytes) : Served :=
  s.offsetWrite x 0x1200 0x03 1048576 data [] fun o =>
    { s with cfg := { s.cfg with
      staging := data.zipIdx.foldl (fun m p => sset (fun _ => 0) m (o + p.2) p.1) s.cfg.staging } }

/-- A write of an entry with no session: a configuration record's, or an index-selected one (R291, R299, R301). -/
def State.writeAt (s : State) (ix sub e : Nat) (en : Entry) (data : Bytes) (session : Word) : Act :=
  let a := if en.type = .domain ∨ en.type = .string then s.writeBlob ix sub e data
    else s.writeNum ix sub e (leNat data) session
  { checks :=
      [(decide (en.access = .ro ∨ en.access = .rc), .access),
       (decide (data.length < en.lo ∨ en.hi < data.length), .length),
       rangeIf (decide (en.type = .bool ∧ 1 < leNat data))] ++ a.checks
    after := a.after.freshParity ix sub e
    refused := a.refused }

/-- The codes that the entry level checks give, which a raw write skips (R296). -/
def entryLevel (a : Abort) : Bool :=
  decide (a = .range ∨ a = .wrongState ∨ a = .blockRunning ∨ a = .notOwner ∨ a = .notLeader)

/-- Bytes of a value replaced from an offset. -/
def patch (value : Bytes) (off : Nat) (data : Bytes) : Bytes :=
  (value.take off ++ data ++ value.drop (off + data.length)).take value.length

/-- A raw write (R296): range, state, ownership and owning block are not checked; a status field or counter takes the
value written. -/
def State.writeRaw (s : State) (x : Selectors) (ix sub : Nat) (data : Bytes) (session : Word) : Served :=
  let gate : Checks :=
    [(!s.sys.rawEn || s.sys.debugLock, .access), (decide (data.length ≠ 4), .length)]
  match Config.rawTarget (ix - 0x3000) sub with
  | none => s.refuse x .noEntry
  | some (k, e, off) =>
    let i := k / 256
    let j := k % 256
    match s.find i j with
    | none => { checks := gate, after := s, sel := x, refused := fun _ => s }
    | some en =>
      let value := patch (s.valueBytes i j e en) off data
      if en.access = .ro ∨ en.access = .rc then
        let v := leNat value + (if i = 0x2500 ∧ j = 0x0C then s.lateThisCycle else 0)
        { checks := gate, after := (s.putRc i j e v).putRo i j e v, sel := x, refused := fun _ => s }
      else if isSelector i j then { checks := gate, after := s, sel := x, refused := fun _ => s }
      else
        let value := if en.type = .bool then value.map (· &&& 1) else value
        let a := s.writeAt i j e en value session
        { checks := gate ++ a.checks.filter fun c => !entryLevel c.2
          after := a.after, sel := x, refused := fun c => if c = .access ∨ c = .length then s else a.refused c }

/-- A WRITE of an entry that exists. -/
def State.writeEntry (s : State) (x : Selectors) (ix sub : Nat) (en : Entry) (data : Bytes) (session : Word) : Served :=
  let form : Checks :=
    [(decide (en.access = .ro ∨ en.access = .rc), .access),
     (decide (data.length < en.lo ∨ en.hi < data.length), .length)]
  if rawIndex ix then s.writeRaw x ix sub data session
  else if isSelector ix sub then
    let r := s.writeSelector x ix sub (leNat data)
    { r with checks := form ++ r.checks }
  else match ix, sub with
    | 0x1200, 0x04 => let r := s.writeStaging x data; { r with checks := form ++ r.checks }
    | 0x2300, 0x03 => let r := s.writeCode x data; { r with checks := form ++ r.checks }
    | 0x2300, 0x14 => let r := s.writeShared x data; { r with checks := form ++ r.checks }
    | _, _ => (s.writeAt ix sub (x.element en ix) en data session).served x []

/-- A WRITE (R290, R293). In recess and in recovery RESET_CMD takes kind WARM only (R335, R356). -/
def State.serveWrite (s : State) (x : Selectors) (ix sub : Nat) (data : Bytes) (session : Word) : Served :=
  match s.find ix sub with
  | none => s.refuse x .noEntry
  | some en =>
    let r := s.writeEntry x ix sub en data session
    let otherKind := decide (ix = 0x2000 ∧ sub = 0x03 ∧ leNat data / 2 ^ 24 ≠ 1)
    { r with checks :=
        (s.outOfReach ix sub, .wrongState) :: (otherKind && decide (s.sys.state = .recess), .wrongState)
          :: (otherKind && s.sec.recovery, .range) :: r.checks }

/-! ## DESCRIBE and MEM_READ (R294, R295) -/

/-- Entries held in memory rather than in registers. -/
def inMemory (ix sub : Nat) : Bool :=
  match classOf ix, sub with
  | 0x1200, 0x04 => true
  | 0x2100, 0x16 => true
  | 0x2100, 0x36 => true
  | 0x2200, 0x02 => true
  | 0x2200, 0x04 => true
  | 0x2200, 0x06 => true
  | 0x2300, 0x03 => true
  | 0x2300, 0x09 => true
  | 0x2300, 0x0A => true
  | 0x2300, 0x14 => true
  | 0x2700, 0x1A => true
  | 0x2700, 0x1D => true
  | 0x2800, 0x21 => true
  | 0x2A00, 0x08 => true
  | 0x2A00, 0x09 => true
  | 0x2B00, 0x06 => true
  | _, _ => false

/-- The default of a BOOL or integer entry: LEADER's and TT_GANG's depend on the element (R63). -/
def defaultOf (ix sub e : Nat) (en : Entry) : Nat :=
  if ix = 0x2300 ∧ (sub = 0x19 ∨ sub = 0x0D) then State.reset.readNum ix sub e
  else if en.type = .string ∨ en.type = .domain then 0 else en.dflt

/-- The 24-byte description of an entry (R294). The smallest length of a certificate is not stated. -/
def State.describe (s : State) (x : Selectors) (ix sub : Nat) (en : Entry) : Bytes :=
  let e := if rawIndex ix then 0 else x.element en ix
  let (b, w, n) := if rawIndex ix then (ix - 0x3000, sub, 1) else backingOf ix sub e
  let lo := if ix = 0x2900 ∧ (sub = 0x04 ∨ sub = 0x05) then (Config.freeValue s.draws 96).toNat % 2049 else en.lo
  leBytes 1 en.type.code ++ leBytes 1 en.access.code ++ leBytes 1 (if sub = 0 then 0 else en.persistence ix)
    ++ leBytes 1 en.frac ++ leBytes 2 lo ++ leBytes 2 en.hi
    ++ leBytes 8 (if rawIndex ix then 0 else if sub = 0 then s.topSub ix else defaultOf ix sub e en)
    ++ leBytes 2 b ++ leBytes 1 w ++ leBytes 1 (if inMemory ix sub then 0 else n) ++ leBytes 4 0

/-- DESCRIBE. -/
def State.serveDescribe (s : State) (x : Selectors) (ix sub : Nat) : Served :=
  match s.find ix sub with
  | none => s.refuse x .noEntry
  | some en =>
    { checks := [(s.outOfReach ix sub, .wrongState)], data := s.describe x ix sub en, after := s, sel := x
      refused := fun _ => s }

/-- MEM_READ (R295): not while the HBM stacks are in self-refresh (STANDBY, RECESS), and not in recovery. -/
def State.serveMemRead (s : State) (x : Selectors) (addr n : Nat) : Served :=
  let bad := decide (addr % 8 ≠ 0 ∨ n % 8 ≠ 0 ∨ n < 8 ∨ 8960 < n ∨ hbmBytes < addr + n)
  let (bs, s1) := s.readMem addr (n / 8)
  let shut := decide (s.sys.state = .standby ∨ s.sys.state = .recess)
  { checks := [(s.sec.recovery, .noEntry), (shut, .wrongState), rangeIf bad, (bs.isNone, .memUe)]
    data := bs.getD [], after := s1, sel := x, refused := fun a => if a = .memUe then s1 else s }

/-! ## Messages -/

/-- INDEX and SUBINDEX of a request's word 0. -/
def indexOf (m : OdaMsg) : Nat := m.w0.toNat / 65536
def subOf (m : OdaMsg) : Nat := m.w0.toNat / 256 % 256

/-- Word 0 of a READ, WRITE or DESCRIBE. -/
def entryWord (ix sub : Nat) : Word := BitVec.ofNat 32 (ix * 65536 + sub * 256)

/-- A WRITE message. -/
def writeMsg (r : Req) (ix sub : Nat) (data : Bytes) : OdaMsg :=
  { req := r, type := 0x11, w0 := entryWord ix sub, w1 := BitVec.ofNat 32 data.length, w2 := 0, data := data }

/-- A READ or DESCRIBE message. -/
def readMsg (r : Req) (type : BitVec 8) (ix sub : Nat) : OdaMsg :=
  { req := r, type := type, w0 := entryWord ix sub, w1 := 0, w2 := 0, data := [] }

/-- TYPE is defined for ODA requests (R282). -/
def typeDefined (t : BitVec 8) : Bool := t = 0x01 || t = 0x02 || t = 0x10 || t = 0x11 || t = 0x12 || t = 0x20

/-- A message whose TYPE is defined and whose data is as long as its fields declare (R282). -/
def wellFormedMsg (m : OdaMsg) : Bool :=
  typeDefined m.type && decide (m.data.length = if m.type = 0x11 then m.w1.toNat else 0)

/-- The serving of a request by the device itself. -/
def State.request (s : State) (m : OdaMsg) (x : Selectors) : Served :=
  match m.type.toNat with
  | 0x10 => s.serveRead x (indexOf m) (subOf m)
  | 0x11 => s.serveWrite x (indexOf m) (subOf m) m.data m.req.session
  | 0x12 => s.serveDescribe x (indexOf m) (subOf m)
  | _ => s.serveMemRead x (m.w1.toNat % 32 * 2 ^ 32 + m.w0.toNat) m.w2.toNat

/-! ## Ports, sessions and replies (R282 to R287) -/

/-- Requests that come on the UP link are the king post's, served under proxy sessions (R287). -/
def State.fromKing (s : State) (p : Port) : Bool :=
  match p with
  | .lane l => decide ((s.lane l).role = roleUp)
  | _ => false

/-- The device takes ODA requests on the port (R205, R212, R284, R287, the table of device states). -/
def State.portOpen (s : State) (p : Port) : Bool :=
  let all := decide (s.sys.state = .ready ∨ s.sys.state = .run)
  !s.held && decide (s.sys.state ≠ .boot) && (match p with
    | .mgmt => true
    | .eth q => all && s.ethPort q && decide ((s.lane q).link = .up ∧ (s.lane q).ipv4 ≠ 0)
    | .lane l => all && s.trussLane l && s.fromKing p && decide ((s.lane l).link = .up))

/-- The session of a number, own or proxy. -/
def State.session? (s : State) (proxy : Bool) (id : Word) : Option Session :=
  s.oda.sessions.find? fun x => decide (x.proxy = proxy ∧ x.id = id)

/-- A session changed. -/
def State.modSession (s : State) (proxy : Bool) (id : Word) (f : Session → Session) : State :=
  { s with oda := { s.oda with
    sessions := s.oda.sessions.map fun x => if x.proxy = proxy ∧ x.id = id then f x else x } }

/-- Own sessions, or proxy sessions, open. -/
def State.sessionCount (s : State) (proxy : Bool) : Nat := (s.oda.sessions.filter fun x => decide (x.proxy = proxy)).length

/-- A reply sent by the port of its request, to its sender (R213, R282). -/
def State.reply (s : State) (r : Req) (dup : Bool) (c : CachedReply) : State :=
  s.sendPort r.port c.data.length (.reply r.port r.peer (replyWord r.ver dup c.type c.device) r.seq r.session c.field0 c.abort
    (BitVec.ofNat 32 c.data.length) c.field3 c.data)

/-- The reply of device `d` to message `m` with abort code `a`. -/
def replyOf (d : Nat) (m : OdaMsg) (a : Option Abort) (data : Bytes) : CachedReply :=
  { seq := m.req.seq, type := m.type, device := d, field0 := m.w0
    abort := BitVec.ofNat 32 (match a with | some x => x.code | none => 0), data := data, field3 := 0 }

/-- A reply enters its session's replay cache, the last 16 (R286). -/
def Session.answered (x : Session) (c : CachedReply) : Session :=
  { x with cache := (c :: x.cache).take 16, open_ := x.open_.filter fun q => decide (q ≠ c.seq) }

/-- A request is answered: counted, kept in the replay cache and sent (R282, R286, R288). -/
def State.finish (s : State) (m : OdaMsg) (a : Option Abort) (data : Bytes) : State :=
  let c := replyOf s.deviceNum m a data
  let proxy := s.fromKing m.req.port
  ((s.countAbort a).modSession proxy m.req.session fun x => x.answered c).reply m.req false c

/-- A request is refused without entering a replay cache: it belongs to no open session, or is one too many. -/
def State.turnAway (s : State) (m : OdaMsg) (a : Abort) : State :=
  (s.countAbort (some a)).reply m.req false (replyOf s.deviceNum m (some a) [])

/-! ## OPEN and CLOSE (R283, R284) -/

/-- The version that an OPEN leads to, from the versions it offers (R284). -/
def chosenVersion (ver : BitVec 4) (offered : BitVec 8) : Option Nat :=
  if ver = 1 then some 1
  else if offered.getLsbD 2 then some 2 else if offered.getLsbD 1 then some 1 else none

/-- Largest data length of a session. -/
def versionMax (v : Nat) : Nat := if v = 1 then 1024 else 8960

/-- A session closes; requests that wait in it go with it. -/
def State.closeSession (s : State) (proxy : Bool) (id : Word) : State :=
  { s with oda := { s.oda with
    sessions := s.oda.sessions.filter fun x => decide (x.proxy ≠ proxy ∨ x.id ≠ id)
    waiting := s.oda.waiting.filter fun m => decide (s.fromKing m.req.port ≠ proxy ∨ m.req.session ≠ id) } }

/-! ## Serving (R177, R285 to R287) -/

/-- A BELL_RING of the session is held: what follows in the session waits (R177, R285). -/
def State.ringWaits (s : State) (r : Req) : Bool :=
  s.truss.heldRings.any fun h => decide (s.fromKing h.req.port = s.fromKing r.port ∧ h.req.session = r.session)

/-- A write of BELL_RING that has to be held (R177). -/
def State.holdsRing (s : State) (m : OdaMsg) : Bool :=
  decide (m.type = 0x11 ∧ indexOf m = 0x2500 ∧ subOf m = 0x09) && s.ringHeld (leNat m.data % 256)

/-- A request in progress. -/
def State.noteOpen (s : State) (m : OdaMsg) : State :=
  s.modSession (s.fromKing m.req.port) m.req.session fun x => { x with open_ := x.open_ ++ [m.req.seq] }

/-- An accepted REF_CMD, for the coincidences of R167. -/
def State.noteCmd (s : State) (m : OdaMsg) : State :=
  if m.type = 0x11 ∧ indexOf m = 0x2100 ∧ subOf m = 0x09 then
    { s with ref := { s.ref with cmds := (s.moment, m.req :: (if s.ref.cmds.1 = s.moment then s.ref.cmds.2 else [])) } }
  else s

/-- What a served request leaves before it is answered: an accepted REF_CMD is noted, and the bytes that a MEM_READ reads
are network traffic (R23, R210). -/
def Served.settled (r : Served) (m : OdaMsg) : State :=
  (r.after.noteCmd m).when (decide (m.type = 0x20)) fun s => s.addTraffic r.data.length

/-- A BELL_RING is held with its reply (R177). -/
def State.holdRing (s : State) (m : OdaMsg) : State :=
  { s with truss := { s.truss with heldRings := s.truss.heldRings ++
    [{ req := m.req, number := leNat m.data % 256, payload := BitVec.ofNat 8 (leNat m.data / 256) }] } }

/-- The device serves a request of one of its sessions, and answers it unless it is a held BELL_RING. -/
def State.serve (s : State) (m : OdaMsg) : State :=
  let proxy := s.fromKing m.req.port
  match s.session? proxy m.req.session with
  | none => s
  | some x =>
    if m.type = 0x02 then (s.finish m none []).closeSession proxy x.id
    else
      let r := s.request m x.sel
      match r.checks.verdict with
      | some a => (r.refused a).finish m (some a) []
      | none =>
        if s.holdsRing m then s.holdRing m
        else ((r.settled m).modSession proxy x.id fun y => { y with sel := r.sel }).finish m none r.data

/-- A member is present in TRUSS_MAP. -/
def State.memberPresent (s : State) (d : Nat) : Bool := (sget (fun _ => {}) s.truss.map d).present

/-- The king post, or a member on the way, passes a request on along the tree, in data blocks of the lane that leads
to its device (R207, R287). -/
def State.route (s : State) (m : OdaMsg) : State :=
  let entry : Routed :=
    { session := m.req.session, seq := m.req.seq, type := m.type, field0 := m.w0, device := m.req.device
      sentAt := s.now, port := m.req.port, peer := m.req.peer }
  let s : State := { s with oda := { s.oda with
    routed := (s.oda.routed.filter fun x => decide (x.session ≠ m.req.session ∨ x.seq ≠ m.req.seq)) ++ [entry] } }
  match s.laneTo m.req.device with
  | i :: _ => s.sendBlocks i (blocksOf m.data.length) (.forward m.req.device m.type m.req.seq m.req.session m.w0 m.w1 m.w2 m.data)
  | [] => s

/-- A version 1 session's limits (R284). -/
def State.overLimits (s : State) (m : OdaMsg) : Bool :=
  decide (m.req.device.val ≠ s.deviceNum ∨ 1024 < m.data.length ∨ m.type = 0x12 ∨ m.type = 0x20)
    || (decide (m.type = 0x10 ∨ m.type = 0x11) && (match s.find (indexOf m) (subOf m) with
      | some en => decide (en.type = .domain ∧ 1024 < en.hi)
      | none => false))

/-- The request is for another device (R287): a CLOSE, too, then concerns the proxy session that the other device
holds. -/
def State.elsewhere (s : State) (m : OdaMsg) : Bool := decide (m.req.device.val ≠ s.deviceNum)

/-- What refuses a request for another device (R287). -/
def State.routeChecks (s : State) (m : OdaMsg) (fromKing : Bool) : Checks :=
  [(s.elsewhere m && !fromKing && !s.king, .route),
   (s.elsewhere m && s.king && !s.memberPresent m.req.device, .noDevice)]

/-- What refuses a request of session `x` before it is served (R282, R284, R285, R287). -/
def State.gate (s : State) (m : OdaMsg) (x : Session) : Checks :=
  [(!wellFormedMsg m, .badMessage),
   (decide (m.req.ver.toNat ≠ x.version) || (decide (x.version = 1) && s.overLimits m), .version),
   (decide (16 ≤ x.open_.length) || decide (mailboxMax ≤ s.oda.mailbox.length), .busy)] ++ s.routeChecks m x.proxy

/-- A request of session `x` that the replay cache does not answer. -/
def State.admitRequest (s : State) (m : OdaMsg) (x : Session) : State :=
  match (s.gate m x).verdict with
  | some a => if a = .busy then s.turnAway m .busy else s.finish m (some a) []
  | none =>
    let s := s.noteOpen m
    if s.elsewhere m then s.route m
    else if s.ringWaits m.req then { s with oda := { s.oda with waiting := s.oda.waiting ++ [m] } }
    else s.serve m

/-- OPEN is served (R283, R284): numbers count up (assumption log 10). -/
def State.grantSession (s : State) (m : OdaMsg) (v : Nat) : State :=
  let r := m.req
  let id := s.oda.next
  let x : Session :=
    { id := id, version := v, port := r.port, lastAt := s.now, sel := {}, cache := [], open_ := [], proxy := false }
  let s : State := { s with oda := { s.oda with
    sessions := s.oda.sessions ++ [x], next := if id + 1 = 0 then 1 else id + 1 } }
  s.sendPort r.port 0 (.reply r.port r.peer (replyWord r.ver false 0x01 s.deviceNum) r.seq r.session m.w0 0 id
    (BitVec.ofNat 32 (versionMax v * 65536 + v)) [])

/-- What refuses an OPEN (R283 to R285, R287). -/
def State.openChecks (s : State) (m : OdaMsg) (offered : BitVec 8) : Checks :=
  let here := !s.elsewhere m
  [(here && (chosenVersion m.req.ver offered).isNone, .version),
   ((here && decide (16 ≤ s.sessionCount false)) || decide (mailboxMax ≤ s.oda.mailbox.length), .busy)]
    ++ s.routeChecks m (s.fromKing m.req.port)

/-- OPEN (R283 to R285, R287). One for another device goes on to it, and it opens a session of its own for it as for
one of its ports (DESIGN CHOICE: the spec names no session for it, assumption log 125). -/
def State.openSession (s : State) (r : Req) (offered : BitVec 8) : State :=
  let m : OdaMsg := { req := r, type := 0x01, w0 := offered.setWidth 32, w1 := 0, w2 := 0, data := [] }
  match (s.openChecks m offered).verdict with
  | some a => s.turnAway m a
  | none =>
    if s.elsewhere m then s.route m
    else match chosenVersion r.ver offered with
      | some v => s.grantSession m v
      | none => s

/-- A proxy session for the king post's session of the same number (R287). -/
def State.openProxy (s : State) (r : Req) : State :=
  let x : Session :=
    { id := r.session, version := 2, port := r.port, lastAt := s.now, sel := {}, cache := [], open_ := [], proxy := true }
  { s with oda := { s.oda with sessions := s.oda.sessions ++ [x] } }

/-- A request of an open session: answered again from the replay cache, discarded as a repetition, or admitted (R286).
-/
def State.inSession (s : State) (m : OdaMsg) (x : Session) : State :=
  let now := s.now
  let s := s.modSession x.proxy x.id fun y => { y with lastAt := now }
  let again : State := { s with oda := { s.oda with duplicates := s.oda.duplicates + 1 } }
  match x.cache.find? fun c => decide (c.seq = m.req.seq) with
  | some c => again.reply m.req true c
  | none => if x.open_.contains m.req.seq then again else s.admitRequest m x

/-- A message that came over a truss link is taken out of the mailbox (R19, R207). -/
def State.takeMail (s : State) (p : Port) (seq session : Word) : State :=
  match p with
  | .lane l => { s with oda := { s.oda with
      mailbox := s.oda.mailbox.eraseP fun x => decide (x.lane = l.val ∧ x.seq = seq ∧ x.session = session) } }
  | _ => s

/-- An ODA request other than OPEN reaches the device; its bytes are network traffic (R210). -/
def State.handle (s : State) (m : OdaMsg) : State :=
  if !s.portOpen m.req.port then s
  else
    let s := (s.takeMail m.req.port m.req.seq m.req.session).addTraffic (32 + m.data.length)
    let proxy := s.fromKing m.req.port
    match s.session? proxy m.req.session with
    | some x => s.inSession m x
    | none =>
      if !wellFormedMsg m then s.turnAway m .badMessage
      else if !proxy then s.turnAway m .noSession
      else if 16 ≤ s.sessionCount true then s.turnAway m .busy
      else
        let s := s.openProxy m.req
        match s.session? true m.req.session with
        | some x => s.inSession m x
        | none => s

/-! ## Held rings, routed replies, timeouts -/

/-- Requests that waited behind a held BELL_RING are served in order, up to the next that is held. -/
def State.serveWaiting (s : State) : State :=
  let ms := s.oda.waiting
  ({ s with oda := { s.oda with waiting := [] } } : State).forAll ms fun s m =>
    if s.ringWaits m.req then { s with oda := { s.oda with waiting := s.oda.waiting ++ [m] } } else s.serve m

/-- BELL_RING_ACCEPT (R177): the first held write that is admissible, or whose number the device no longer owns. -/
def opBellRingAccept (s : State) : State :=
  let ripe (h : HeldRing) : Bool := !s.owns h.number || s.admissible h.number s.trussNow
  match s.truss.heldRings.find? ripe with
  | none => s
  | some h =>
    let m := writeMsg h.req 0x2500 0x09 [BitVec.ofNat 8 h.number, h.payload]
    let s : State := { s with truss := { s.truss with heldRings := s.truss.heldRings.erase h } }
    let s := if s.owns h.number then
        (s.admitBell h.number h.payload s.trussNow srcOda 0 s.trussNow).finish m none []
      else s.refuseBell.finish m (some .notOwner) []
    s.serveWaiting

/-- The reply to an OPEN that was sent on: the session and the limits that it gives, words 2 and 3, are the other
device's (free values, assumption log 125). -/
def State.openAnswer (s : State) (r : Req) (c : CachedReply) : State :=
  let free (i : Nat) : Word := if c.abort = 0 then (Config.freeValue s.draws i).setWidth 32 else 0
  s.sendPort r.port 0 (.reply r.port r.peer (replyWord r.ver false c.type c.device) r.seq r.session c.field0 c.abort
    (free 91) (free 92) [])

/-- ROUTED_REPLY_RX (R287): the king post keeps the reply in its replay cache and sends it on; a member on the way
passes it up. A reply that nothing waits for is discarded. -/
def opRoutedReplyRx (s : State) (session seq abort : Word) (data : Bytes) : State :=
  match s.oda.routed.find? fun x => decide (x.session = session ∧ x.seq = seq) with
  | none => s
  | some x =>
    let c : CachedReply :=
      { seq := seq, type := x.type, device := x.device, field0 := x.field0, abort := abort, data := data, field3 := 0 }
    let r : Req := { port := x.port, peer := x.peer, ver := 2, device := x.device, seq := seq, session := session }
    let s : State := { s with oda := { s.oda with
      routed := s.oda.routed.filter fun y => decide (y.session ≠ session ∨ y.seq ≠ seq)
      mailbox := s.oda.mailbox.eraseP fun y => decide (y.session = session ∧ y.seq = seq) && isReply y.bytes } }
    let proxy := s.fromKing x.port
    if x.type = 0x01 then s.openAnswer r c
    else if proxy || (s.session? false session).isSome then
      (s.modSession proxy session fun y => y.answered c).reply r false c
    else s

/-- ROUTE_TIMEOUT (R287). -/
def opRouteTimeout (s : State) (session seq : Word) : State :=
  match s.oda.routed.find? fun x => decide (x.session = session ∧ x.seq = seq) with
  | none => s
  | some x =>
    if s.now < x.sentAt + s.oda.routeTimeout * usFs ∨ s.fromKing x.port = true then s
    else
      let m : OdaMsg := {
        req := { port := x.port, peer := x.peer, ver := 2, device := x.device, seq := seq, session := session }
        type := x.type, w0 := x.field0, w1 := 0, w2 := 0, data := [] }
      let s : State := { s with oda := { s.oda with
        routed := s.oda.routed.filter fun y => decide (y.session ≠ session ∨ y.seq ≠ seq)
        routeTimeouts := s.oda.routeTimeouts + 1 } }
      s.finish m (some .routeTimeout) []

/-- SESSION_TIMEOUT (R283). -/
def opSessionTimeout (s : State) (id : Word) : State :=
  let due := s.oda.sessions.filter fun x => decide (x.id = id ∧ x.lastAt + s.oda.timeout * secFs ≤ s.now)
  s.forAll due fun s x =>
    let s := s.closeSession x.proxy x.id
    { s with oda := { s.oda with timeouts := s.oda.timeouts + 1 } }

/-- A message without MAGIC or shorter than 32 bytes (R281); until boot ends nothing is counted (R312). -/
def opBadMessage (s : State) : State :=
  if s.held || decide (s.sys.state = .boot) then s
  else { s with oda := { s.oda with bad := s.oda.bad + 1 } }

/-! ## Meanings -/

def execBellRingAccept (t : Nat) (s : State) : Result := event s t opBellRingAccept
def execRoutedReplyRx (t : Nat) (session seq abort : Word) (data : Bytes) (s : State) : Result :=
  event s t fun s => opRoutedReplyRx s session seq abort data
def execRouteTimeout (t : Nat) (session seq : Word) (s : State) : Result := always s t fun s => opRouteTimeout s session seq
def execSessionTimeout (t : Nat) (session : Word) (s : State) : Result := always s t fun s => opSessionTimeout s session
def execOdaBadMessageDiscard (t : Nat) (s : State) : Result := always s t opBadMessage
def execOdaOpen (t : Nat) (r : Req) (versions : BitVec 8) (s : State) : Result :=
  always s t fun s => if s.portOpen r.port then (s.takeMail r.port r.seq r.session).openSession r versions else s

end Sys2Proof.Machine
end

