-- ==== Sys2Proof/Machine/Boot.lean ====
section
/-! DEFINITION. Boot (R299, R312, R313, R330, R335): its steps, how the configuration copy is applied, and the states it
ends in. BOOT_COMPLETE comes about once to run the steps up to the pass 2 records, and where SYN-M has still to reach
RUNNING or ALIGN_WAIT, again when boot can end. -/

namespace Sys2Proof.Machine

/-! ## Records applied at boot (R299) -/

/-- A record written as an ODA write would be, with the session selector that addresses it (R299). -/
def State.bootWrite (s : State) (r : Rec) : Served :=
  let x : Selectors := match s.find r.index r.sub with
    | some en => if en.sel = 0 then {} else ({} : Selectors).set r.index en.sel r.element
    | none => {}
  let far := match s.find r.index r.sub with
    | some en => decide (en.sel ≠ 0 ∧ elementsOf r.index en ≤ r.element)
    | none => false
  let v := s.serveWrite x r.index r.sub r.data 0
  { v with checks := rangeIf far :: v.checks }

/-- CFG_FIRST_SKIP of a record refused with `a`. -/
def skipBytes (r : Rec) (a : Abort) : Bytes :=
  leBytes 2 r.index ++ leBytes 1 r.sub ++ leBytes 1 r.pass ++ leBytes 2 r.element ++ [0, 0] ++ leBytes 4 a.code

/-- A record applied, or refused and counted; a security code counts in SEC_REFUSALS too (R343). -/
def State.applyRecord (s : State) (r : Rec) : State :=
  let v := s.bootWrite r
  match v.checks.verdict with
  | none => { v.after with cfg := { v.after.cfg with applied := v.after.cfg.applied + 1 } }
  | some a =>
    let s := v.refused a
    let first := if s.cfg.skipped = 0 then skipBytes r a else s.cfg.firstSkip
    { s with
      cfg := { s.cfg with skipped := s.cfg.skipped + 1, firstSkip := first }
      sec := { s.sec with refusals := s.sec.refusals + (if 0x09000000 ≤ a.code then 1 else 0) } }

/-- Every record of a pass, in the order stored. -/
def State.applyPass (s : State) (rs : List Rec) (pass : Nat) : State :=
  s.forAll (rs.filter fun r => decide (r.pass = pass)) State.applyRecord

/-- Steps 5 and 7: the copy in force is applied, pass 1 and then pass 2; without one, the defaults stand and
BOOT_DEGRADED is set. -/
def State.applyCopy (s : State) : State :=
  match s.takenCopy imConfig with
  | none => s.alert alBootDegraded
  | some (side, c) =>
    let rs := recordsOf c.payload.length c.payload
    let s : State := { s with cfg := { s.cfg with slot := side + 1, seq := c.seq, digest := c.digest imConfig } }
    let s := (s.applyPass rs 1).applyPass rs 2
    s.when (decide (s.cfg.skipped ≠ 0)) fun s => s.alert alBootDegraded

/-! ## The steps -/

/-- Step 1: the firmware copy taken runs (R330, R332). -/
def State.startFirmware (s : State) (side : Nat) (c : FlashCopy) : State :=
  { s with sec := { s.sec with
    fwVersion := manifestVersion c.payload, fwSlot := side + 1, runLevel := manifestLevel c.payload
    fwDigest := c.digest imFirmware, fwOther := (s.validCopy imFirmware (1 - side)).isSome } }

/-- The boot follows POR or PIN, not a WARM or watchdog reset. -/
def State.coldBoot (s : State) : Bool := decide (s.sys.cause = 1 ∨ s.sys.cause = 2)

/-- Step 3 after POR or PIN: the Yearbook is read and the record in force is loaded (R275). -/
def State.bootYearbook (s : State) : State :=
  let s := s.readYearbook
  let r := (s.ybSlot s.plumb.inForce).getD factoryRecord
  let s := (s.loadTrims r).loadTables r
  s.when (decide (s.plumb.skipped ≠ 0)) fun s => s.alert alBootDegraded

/-- Step 4: both copies of the report card are judged (R313, R330). After POR or PIN the counts are loaded (R324), and
POWER_CYCLES counts a POR (R347). -/
def State.bootCard (s : State) (warm : Bool) : State :=
  let bad := (s.validCopy imCard 0).isNone || (s.validCopy imCard 1).isNone
  let s := s.when (!warm) fun s =>
    let s := s.loadCard
    { s with card := { s.card with cycles := if s.sys.cause = 1 then satInc 32 s.card.cycles else s.card.cycles } }
  s.when bad fun s => s.alert alBootDegraded

/-- The cores' temperatures as boot finds them, and TEMP_AT_AMP of a core that has had no agreeing amplitude run
(R259). -/
def State.bootTemps (s : State) (temps : List (BitVec 16)) : State :=
  s.forAll (List.range 72) fun s i => s.modCore i fun c =>
    let x := temps.getD i c.temp
    { c with temp := x, tempAtAmp := if c.ampDone then c.tempAtAmp else x }

/-- Ring entries kept by a WARM or watchdog reset stand again after the window registers are applied, and mark their
pages (R51, R324; assumption log 27). -/
def State.keepRings (s : State) (rings : Sparse Ring) : State :=
  let s := s.modMem fun m => { m with rings := rings }
  s.forAll rings fun s p => s.forAll p.2.pages fun s i => s.modPage i fun v => { v with ring := true }

/-- The first cause recorded during this boot stands. -/
def State.bootCause (s : State) (b : Bool) (cause : Nat) : State :=
  if b && decide (s.sys.fsCause = 0) then { s with sys := { s.sys with fsCause := cause } } else s

/-- Steps 2 to 7 as far as the pass 2 records. -/
def State.bootSteps (s : State) (f : BootFindings) : State :=
  let rings := s.mem.rings
  let warm := !s.coldBoot
  let s := (if warm then s else s.bootYearbook).bootCard warm
  let s := (s.bootTemps f.coreTemps).bootCause s.plumb.factoryBad fsFactory
  let s := s.applyCopy
  let s := if warm then s.keepRings rings else s
  let s := s.bootCause (!f.hbmTrained) fsHbm
  { s with sys := { s.sys with stepsDone := true } }

/-- What boot records as it ends: BOOT_TIME in whole milliseconds (its rounding is not stated, assumption log 2) and
GOOD (assumption log 12). -/
def State.bootNotes (s : State) (f : BootFindings) : State :=
  let ran := s.now - s.sys.bootAt
  let up := if ran % msFs = 0 then 0 else (Config.freeValue s.draws 402).toNat % 2
  let good := if f.railFault then 0 else if s.coldBoot then ~~~s.sys.warn else s.sys.good
  { s with sys := { s.sys with bootTime := ran / msFs + up, good := good } }

/-- A rail fault or overtemperature that stands returns the device to FAULT-SAFE (R319). -/
def State.bootStanding (s : State) (f : BootFindings) : State :=
  let s := (s.when f.railFault fun s => s.alert alRailUv).bootCause f.railFault fsRail
  let s : State := { s with sys := { s.sys with hot := f.hot } }
  (s.when f.hot fun s => s.alert alOvertemp).bootCause f.hot fsOvertemp

/-- A lane of a quad that pass 2 has enabled begins to train at step 8 (R312). Where boot ends in FAULT-SAFE instead, none
does (DESIGN CHOICE, assumption log 126). -/
def State.trainAtReady (s : State) (l : Nat) : State := if (s.lane l).link = .disabled then s.trainLane l else s

/-- Step 8 or a finding of R313: the device leaves BOOT. FRZ_N low as boot ends freezes it on reaching READY (R354). -/
def State.bootEnd (s : State) (f : BootFindings) : State :=
  let s := (s.bootStanding f).bootNotes f
  if s.sys.fsCause ≠ 0 then s.toSafe s.sys.fsCause
  else
    let s := ({ s with
      sys := { s.sys with state := .ready, readyAt := some s.now }
      card := { s.card with ageing := some [] }
      recess := { s.recess with frzLow := f.frzLow } } : State).forAll allLanes State.trainAtReady
    if f.frzLow && !s.recess.ignore then s.enterRecess rcFrz false else s

/-- No firmware copy verifies: FAULT-SAFE with the ROM's recovery entries, and nothing else runs (R313, R335). The report
card is saved (R319, R349) where a WARM reset has kept one; before step 4 of a cold boot none is loaded, and there is
nothing to save (assumption log 62). -/
def State.bootRecovery (s : State) (f : BootFindings) : State :=
  let s := (s.bootStanding f).bootNotes f
  let s := s.bootCause true fsFirmware
  let s := ({ s with
    sys := { s.sys with state := .faultSafe }
    card := { s.card with faultSafes := satInc 32 s.card.faultSafes }
    sec := { s.sec with recovery := true } } : State).alert alFaultSafe
  s.when s.card.loaded State.saveCard

/-- Boot still waits for SYN-M (R312, step 7), not beyond 2.5 s. -/
def State.bootWaits (s : State) : Bool :=
  s.synM.en && decide (s.synM.phase ≠ .running ∧ s.synM.phase ≠ .alignWait)
    && decide (s.now < s.sys.bootAt + 2500 * msFs)

/-- BOOT_COMPLETE (R312, R313). -/
def opBootComplete (s : State) (f : BootFindings) : State :=
  if s.held || decide (s.sys.state ≠ .boot) then s
  else
    let s : State := { s with sec := { s.sec with bootRollback := s.sec.rollback } }
    match s.takenCopy imFirmware with
    | none => s.bootRecovery f
    | some (side, c) =>
      let s := if s.sys.stepsDone then s else (s.startFirmware side c).bootSteps f
      if s.bootWaits then s else s.bootEnd f

/-! ## Meanings -/

def execBootComplete (t : Nat) (f : BootFindings) (s : State) : Result := always s t fun s => opBootComplete s f

end Sys2Proof.Machine
end

