-- ==== Sys2Proof/Machine/Events.lean ====
section
/-! DEFINITION. The meanings of the events of segment memory, the channels and the bays (02, 04, 05): each carried out
at its device time, after what time itself brings about (Due.lean). -/

namespace Sys2Proof.Machine

/-! ## Segment memory and the bulk window -/

def execPatrolScrub (t : Nat) (word : Fin 12884901888) (raced : Bool) (s : State) : Result :=
  event s t fun s => opPatrolScrub s word raced
def execBulkWrite (t : Nat) (m : BulkMsg) (data : Bytes) (s : State) : Result :=
  portEvent s t m.port fun s => opBulkWrite s m data
def execClaim (t : Nat) (m : BulkMsg) (s : State) : Result := portEvent s t m.port fun s => opClaim s m
def execRelease (t : Nat) (m : BulkMsg) (s : State) : Result := portEvent s t m.port fun s => opRelease s m
def execHandover (t : Nat) (m : BulkMsg) (s : State) : Result := portEvent s t m.port fun s => opHandover s m
def execReclaim (t : Nat) (m : BulkMsg) (s : State) : Result := portEvent s t m.port fun s => opReclaim s m
def execHandoverComplete (t : Nat) (page : Fin 16384) (s : State) : Result := event s t fun s => opHandoverComplete s page

/-! ## Channels -/

def execDescriptorVisible (t : Nat) (ch : Fin 64) (s : State) : Result := event s t fun s => opDescriptorVisible s ch
def execDescriptorStart (t : Nat) (ch : Fin 64) (s : State) : Result := event s t fun s => opDescriptorStart s ch
def execDescriptorEnd (t : Nat) (ch : Fin 64) (s : State) : Result := event s t fun s => opDescriptorEnd s ch
def execRepetitionEnd (t : Nat) (ch : Fin 64) (s : State) : Result := event s t fun s => opRepetitionEnd s ch
def execTimegateOpen (t : Nat) (ch : Fin 64) (s : State) : Result := event s t fun s => opTimegateOpen s ch
def execEscapeArmed (t : Nat) (ch : Fin 64) (s : State) : Result := event s t fun s => opEscapeArmed s ch
def execEscapeFire (t : Nat) (ch : Fin 64) (s : State) : Result := event s t fun s => opEscapeFire s ch
def execEscapeEnd (t : Nat) (ch : Fin 64) (s : State) : Result := event s t fun s => opEscapeEnd s ch
def execStreamCheck (t : Nat) (ch : Fin 64) (s : State) : Result := event s t fun s => opStreamCheck s ch
def execUnderrunRecheck (t : Nat) (ch : Fin 64) (s : State) : Result := event s t fun s => opUnderrunRecheck s ch
def execStreamPageComplete (t : Nat) (ch : Fin 64) (s : State) : Result := event s t fun s => opStreamPageComplete s ch
def execMarkerEventFire (t : Nat) (ch : Fin 64) (e : Fin 4) (s : State) : Result := event s t fun s => opMarkerEventFire s ch e
def execTriggerPulseEnd (t : Nat) (ch : Fin 64) (s : State) : Result := event s t fun s => opTriggerPulseEnd s ch
def execNcoRampStep (t : Nat) (ch : Fin 64) (s : State) : Result := event s t fun s => opNcoRampStep s ch
def execMuteEnd (t : Nat) (ch : Fin 64) (s : State) : Result := event s t fun s => opMuteEnd s ch
def execChannelSettingApply (t : Nat) (ch : Fin 64) (s : State) : Result := event s t fun s => opChannelSettingApply s ch
def execSpanApply (t : Nat) (ch : Fin 64) (s : State) : Result := event s t fun s => opSpanApply s ch
def execEnablingComplete (t : Nat) (ch : Fin 64) (s : State) : Result := event s t fun s => opEnablingComplete s ch
def execDetectorTrip (t : Nat) (ch : Fin 64) (legs : BitVec 6) (s : State) : Result := event s t fun s => opDetectorTrip s ch legs

/-! ## Bays -/

def execSettleInEnd (t : Nat) (bay : Fin 8) (s : State) : Result := event s t fun s => opSettleInEnd s bay
def execFadeInEnd (t : Nat) (bay : Fin 8) (s : State) : Result := event s t fun s => opFadeInEnd s bay
def execSettleOutEnd (t : Nat) (bay : Fin 8) (s : State) : Result := event s t fun s => opSettleOutEnd s bay
def execFadeOutEnd (t : Nat) (bay : Fin 8) (s : State) : Result := event s t fun s => opFadeOutEnd s bay

end Sys2Proof.Machine
end

