-- ==== Sys2Proof/Machine/Requests.lean ====
section
/-! DEFINITION. The host's commands, one definition for each row: the ODA message that brings it, served by
Machine/Oda.lean with the effect that Machine/Writes.lean gives the entry; and the hold-up test. An index selector
that an entry needs is the requesting session's (R292). -/

namespace Sys2Proof.Machine

/-- A WRITE of an entry by the host. -/
def State.hostWrite (s : State) (t : Nat) (r : Req) (ix sub : Nat) (data : Bytes) : Result :=
  always s t fun s => s.handle (writeMsg r ix sub data)

/-- A READ of an entry by the host. -/
def State.hostRead (s : State) (t : Nat) (r : Req) (ix sub : Nat) : Result :=
  always s t fun s => s.handle (readMsg r 0x10 ix sub)

/-- A message of any TYPE. -/
def plainMsg (r : Req) (type : BitVec 8) (w0 w1 w2 : Word) (data : Bytes) : OdaMsg :=
  { req := r, type := type, w0 := w0, w1 := w1, w2 := w2, data := data }

/-- The value of RESET_CMD (R322). -/
def resetBytes (kind : Nat) (target : BitVec 8) : Bytes := leBytes 4 (kind * 2 ^ 24 + target.toNat)

/-- The value of PLUMB_CMD (10_plumb_and_yearbook.md, 0x2800:07). -/
def plumbBytes (cmd kinds : Nat) (target : BitVec 8) : Bytes := leBytes 4 (cmd * 2 ^ 24 + kinds * 2 ^ 16 + target.toNat)

/-- Fuses or a Yearbook slot are being programmed (R278, R333). -/
def State.programming (s : State) : Bool := (s.plumb.commit.isSome && decide (s.ybProgramAt ≤ s.now)) || s.sec.advancing

/-- HOLDUP_TEST (R382): the first comes within 1 s of POR release, the others every 10 s; one that falls due during
programming is made when programming ends (with the outcome given, assumption log 129). -/
def opHoldupTest (s : State) (held : Bool) : State :=
  let due := match s.plumb.holdupAt with
    | some x => decide (x + 10 * secFs ≤ s.now)
    | none => true
  if s.held || !due || s.plumb.holdupDue.isSome then s
  else if s.programming then { s with plumb := { s.plumb with holdupDue := some held } }
  else s.holdupTest held

/-! ## Meanings -/

def execHoldupTest (t : Nat) (held : Bool) (s : State) : Result := always s t fun s => opHoldupTest s held

/-- TT_CMD START of the timetable that the session's TT_INDEX names (R84). -/
def execTtStart (t : Nat) (r : Req) (s : State) : Result := s.hostWrite t r 0x2300 0x05 [1]

/-- TT_CMD STOP (R84). -/
def execTtStop (t : Nat) (r : Req) (s : State) : Result := s.hostWrite t r 0x2300 0x05 [2]

/-- TT_CMD FLUSH (R84). -/
def execTtFlush (t : Nat) (r : Req) (s : State) : Result := s.hostWrite t r 0x2300 0x05 [3]

/-- TT_CMD CLEAR (R84). -/
def execTtClear (t : Nat) (r : Req) (s : State) : Result := s.hostWrite t r 0x2300 0x05 [4]

/-- A write of LEADER (R64). -/
def execLeaderWrite (t : Nat) (r : Req) (data : Bytes) (s : State) : Result := s.hostWrite t r 0x2300 0x19 data

/-- A write of TT_GANG (R65). -/
def execTtGangWrite (t : Nat) (r : Req) (data : Bytes) (s : State) : Result := s.hostWrite t r 0x2300 0x0D data

/-- A write of QUEUE_LIMIT (R92). -/
def execQueueLimitWrite (t : Nat) (r : Req) (data : Bytes) (s : State) : Result := s.hostWrite t r 0x2300 0x2B data

/-- A write of EVR_TAIL (R75). -/
def execEvrTailWrite (t : Nat) (r : Req) (data : Bytes) (s : State) : Result := s.hostWrite t r 0x2300 0x22 data

/-- A write of EVR_ENABLE (R75). -/
def execEvrEnableWrite (t : Nat) (r : Req) (data : Bytes) (s : State) : Result := s.hostWrite t r 0x2300 0x25 data

/-- A write of CODE_DATA (R83). -/
def execCodeDataWrite (t : Nat) (r : Req) (data : Bytes) (s : State) : Result := s.hostWrite t r 0x2300 0x03 data

/-- A read of CODE_DATA (R83). -/
def execCodeDataRead (t : Nat) (r : Req) (s : State) : Result := s.hostRead t r 0x2300 0x03

/-- A write of SHARED_DATA (R83). -/
def execSharedDataWrite (t : Nat) (r : Req) (data : Bytes) (s : State) : Result := s.hostWrite t r 0x2300 0x14 data

/-- A read of SHARED_DATA (R83). -/
def execSharedDataRead (t : Nat) (r : Req) (s : State) : Result := s.hostRead t r 0x2300 0x14

/-- A write of SEG_ENTRY (R32). -/
def execSegEntryWrite (t : Nat) (r : Req) (data : Bytes) (s : State) : Result := s.hostWrite t r 0x2200 0x02 data

/-- A write of MPROG_ENTRY (R37). -/
def execMprogEntryWrite (t : Nat) (r : Req) (data : Bytes) (s : State) : Result := s.hostWrite t r 0x2200 0x04 data

/-- A write of RING_ENTRY (R51). -/
def execRingEntryWrite (t : Nat) (r : Req) (data : Bytes) (s : State) : Result := s.hostWrite t r 0x2200 0x06 data

/-- A write of BULK_BASE or BULK_PAGES (R44). -/
def execBulkWindowWrite (t : Nat) (r : Req) (pages : Bool) (data : Bytes) (s : State) : Result :=
  s.hostWrite t r 0x2200 (if pages then 0x09 else 0x08) data

/-- A write of a channel setting that waits for a granule boundary (R393). PB_FILL is that of the channel that the
session's PB_INDEX names. -/
def execChannelSettingWrite (t : Nat) (r : Req) (ch : Fin 64) (k : ChannelSetting) (data : Bytes) (s : State) : Result :=
  match k with
  | .pbFill => s.hostWrite t r 0x2300 0x2A data
  | .mode => s.hostWrite t r (0x2400 + ch) 0x04 data
  | .phaseOfs => s.hostWrite t r (0x2400 + ch) 0x07 data
  | .ncoAmp => s.hostWrite t r (0x2400 + ch) 0x08 data
  | .gain => s.hostWrite t r (0x2400 + ch) 0x09 data
  | .offset => s.hostWrite t r (0x2400 + ch) 0x0A data
  | .hold => s.hostWrite t r (0x2400 + ch) 0x0B data
  | .parkCode => s.hostWrite t r (0x2400 + ch) 0x0C data

/-- A write of FTW_HI (R124). -/
def execFtwHiWrite (t : Nat) (r : Req) (ch : Fin 64) (data : Bytes) (s : State) : Result :=
  s.hostWrite t r (0x2400 + ch) 0x06 data

/-- A write of SPAN_CFG (R131). -/
def execSpanCfgWrite (t : Nat) (r : Req) (ch : Fin 64) (data : Bytes) (s : State) : Result :=
  s.hostWrite t r (0x2400 + ch) 0x03 data

/-- A write of CH_CTRL that sets ENABLE (R134). -/
def execChannelEnable (t : Nat) (r : Req) (ch : Fin 64) (data : Bytes) (s : State) : Result :=
  s.hostWrite t r (0x2400 + ch) 0x01 data

/-- A write of CH_CTRL that clears ENABLE (R135). -/
def execChannelDisable (t : Nat) (r : Req) (ch : Fin 64) (data : Bytes) (s : State) : Result :=
  s.hostWrite t r (0x2400 + ch) 0x01 data

/-- A write of CH_CTRL with FAULT_CLR (R135). -/
def execFaultClr (t : Nat) (r : Req) (ch : Fin 64) (data : Bytes) (s : State) : Result :=
  s.hostWrite t r (0x2400 + ch) 0x01 data

/-- A write of REF_FREQ (R145). -/
def execRefFreqWrite (t : Nat) (r : Req) (data : Bytes) (s : State) : Result := s.hostWrite t r 0x2100 0x01 data

/-- A write of ALIGN_SRC (R161). -/
def execAlignSrcWrite (t : Nat) (r : Req) (data : Bytes) (s : State) : Result := s.hostWrite t r 0x2100 0x0E data

/-- A write of 1 to SYNM_EN or SYNA_EN (R154). -/
def execSynEnable (t : Nat) (r : Req) (y : Syn) (s : State) : Result :=
  s.hostWrite t r 0x2100 (if y = .M then 0x10 else 0x30) [1]

/-- A write of 0 to SYNM_EN or SYNA_EN (R167). -/
def execSynDisable (t : Nat) (r : Req) (y : Syn) (s : State) : Result :=
  s.hostWrite t r 0x2100 (if y = .M then 0x10 else 0x30) [0]

/-- A write of SYNM_BANDS or SYNA_BANDS (R153). -/
def execBandTableWrite (t : Nat) (r : Req) (y : Syn) (data : Bytes) (s : State) : Result :=
  s.hostWrite t r 0x2100 (if y = .M then 0x16 else 0x36) data

/-- A write of OUT_CFG or CLKOUT_CFG that enables the output (R158). -/
def execOutputEnable (t : Nat) (r : Req) (y : Syn) (data : Bytes) (s : State) : Result :=
  s.hostWrite t r 0x2100 (if y = .M then 0x21 else 0x41) data

/-- A write of OUT_CFG or CLKOUT_CFG that disables the output (R158). -/
def execOutputDisable (t : Nat) (r : Req) (y : Syn) (data : Bytes) (s : State) : Result :=
  s.hostWrite t r 0x2100 (if y = .M then 0x21 else 0x41) data

/-- A write of OUT_DELAY or CLKOUT_DELAY (R156). -/
def execOutDelayWrite (t : Nat) (r : Req) (y : Syn) (data : Bytes) (s : State) : Result :=
  s.hostWrite t r 0x2100 (if y = .M then 0x22 else 0x42) data

/-- REF_CMD SLEW (R166). -/
def execRefCmdSlew (t : Nat) (r : Req) (s : State) : Result := s.hostWrite t r 0x2100 0x09 [1]

/-- REF_CMD HOP (R166). -/
def execRefCmdHop (t : Nat) (r : Req) (s : State) : Result := s.hostWrite t r 0x2100 0x09 [2]

/-- RAMP_CMD START (R171). -/
def execSynaRampStart (t : Nat) (r : Req) (s : State) : Result := s.hostWrite t r 0x2100 0x48 [1]

/-- RAMP_CMD STOP (R170). -/
def execSynaRampStop (t : Nat) (r : Req) (s : State) : Result := s.hostWrite t r 0x2100 0x48 [2]

/-- A write of BELL_RING (R174, R177). -/
def execBellRing (t : Nat) (r : Req) (data : Bytes) (s : State) : Result := s.hostWrite t r 0x2500 0x09 data

/-- A write of HORIZON (R185). -/
def execHorizonWrite (t : Nat) (r : Req) (data : Bytes) (s : State) : Result := s.hostWrite t r 0x2500 0x03 data

/-- A write of BELL_OWNER (R179). -/
def execBellOwnerWrite (t : Nat) (r : Req) (data : Bytes) (s : State) : Result := s.hostWrite t r 0x2500 0x0A data

/-- EPOCH_CMD NOW (R182). -/
def execEpochCmdNow (t : Nat) (r : Req) (s : State) : Result := s.hostWrite t r 0x2500 0x08 [1]

/-- EPOCH_CMD PPS (R182). -/
def execEpochCmdPps (t : Nat) (r : Req) (s : State) : Result := s.hostWrite t r 0x2500 0x08 [2]

/-- TRUSS_CMD RESUME (R200). -/
def execTrussResume (t : Nat) (r : Req) (s : State) : Result := s.hostWrite t r 0x2500 0x1A [1]

/-- TRUSS_CMD TRUSS_RESET (R201). -/
def execTrussResetCmd (t : Nat) (r : Req) (s : State) : Result := s.hostWrite t r 0x2500 0x1A [2]

/-- A write of DEVICE_NUM (R197). -/
def execDeviceNumWrite (t : Nat) (r : Req) (data : Bytes) (s : State) : Result := s.hostWrite t r 0x2500 0x01 data

/-- A write of LINK_CFG (R197). -/
def execLinkCfgWrite (t : Nat) (r : Req) (data : Bytes) (s : State) : Result := s.hostWrite t r 0x2500 0x13 data

/-- A write of QUAD_CFG that enables the quad (R204). -/
def execQuadEnable (t : Nat) (r : Req) (data : Bytes) (s : State) : Result := s.hostWrite t r 0x2600 0x02 data

/-- A write of QUAD_CFG that disables the quad (R204). -/
def execQuadDisable (t : Nat) (r : Req) (data : Bytes) (s : State) : Result := s.hostWrite t r 0x2600 0x02 data

/-- A write of LANE_TEST that starts a test (R222). -/
def execLaneTestStart (t : Nat) (r : Req) (data : Bytes) (s : State) : Result := s.hostWrite t r 0x2600 0x05 data

/-- A write of 0 to LANE_TEST (R222). -/
def execLaneTestEnd (t : Nat) (r : Req) (s : State) : Result := s.hostWrite t r 0x2600 0x05 [0]

/-- CLOSE (R283). -/
def execOdaClose (t : Nat) (r : Req) (s : State) : Result := always s t fun s => s.handle (plainMsg r 0x02 0 0 0 [])

/-- READ (R290 to R293). -/
def execOdaRead (t : Nat) (r : Req) (e : EntryRef) (s : State) : Result := s.hostRead t r e.index.toNat e.sub.toNat

/-- WRITE (R290 to R293). -/
def execOdaWrite (t : Nat) (r : Req) (e : EntryRef) (data : Bytes) (s : State) : Result :=
  s.hostWrite t r e.index.toNat e.sub.toNat data

/-- DESCRIBE (R294). -/
def execOdaDescribe (t : Nat) (r : Req) (e : EntryRef) (s : State) : Result :=
  always s t fun s => s.handle (readMsg r 0x12 e.index.toNat e.sub.toNat)

/-- MEM_READ (R295). -/
def execMemRead (t : Nat) (r : Req) (addr : BitVec 37) (length : BitVec 32) (s : State) : Result :=
  always s t fun s =>
    s.handle (plainMsg r 0x20 (addr.setWidth 32) ((addr >>> 32).setWidth 32) length [])

/-- A message whose TYPE is undefined; one of a defined TYPE brings a wrong length (R282). -/
def execOdaUndefinedType (t : Nat) (r : Req) (type : BitVec 8) (s : State) : Result :=
  always s t fun s =>
    s.handle (plainMsg r type 0 (if type = 0x11 then 1 else 0) 0 (if typeDefined type && !decide (type = 0x11) then [0] else []))

/-- A write through the raw register window (R296). -/
def execRawWrite (t : Nat) (r : Req) (block : Fin 4096) (word : Fin 256) (data : Bytes) (s : State) : Result :=
  s.hostWrite t r (0x3000 + block) word data

/-- A write of a W1 entry (R301). -/
def execW1Write (t : Nat) (r : Req) (e : EntryRef) (data : Bytes) (s : State) : Result :=
  s.hostWrite t r e.index.toNat e.sub.toNat data

/-- CFG_CMD SAVE (R300). -/
def execCfgSave (t : Nat) (r : Req) (s : State) : Result := s.hostWrite t r 0x1200 0x01 [1]

/-- CFG_CMD BUILD (R300). -/
def execCfgBuild (t : Nat) (r : Req) (s : State) : Result := s.hostWrite t r 0x1200 0x01 [2]

/-- CFG_CMD INSTALL (R300). -/
def execCfgInstall (t : Nat) (r : Req) (s : State) : Result := s.hostWrite t r 0x1200 0x01 [3]

/-- A write of CFG_DATA (R292). -/
def execCfgDataWrite (t : Nat) (r : Req) (data : Bytes) (s : State) : Result := s.hostWrite t r 0x1200 0x04 data

/-- A read of CFG_DATA (R292). -/
def execCfgDataRead (t : Nat) (r : Req) (s : State) : Result := s.hostRead t r 0x1200 0x04

/-- SYS_CMD STANDBY (R317). -/
def execSysStandby (t : Nat) (r : Req) (s : State) : Result := s.hostWrite t r 0x2000 0x02 [1]

/-- SYS_CMD WAKE (R317). -/
def execSysWake (t : Nat) (r : Req) (s : State) : Result := s.hostWrite t r 0x2000 0x02 [2]

/-- SYS_CMD SHUTDOWN (R317). -/
def execSysShutdown (t : Nat) (r : Req) (s : State) : Result := s.hostWrite t r 0x2000 0x02 [3]

/-- SYS_CMD SAFE (R317). -/
def execSysSafe (t : Nat) (r : Req) (s : State) : Result := s.hostWrite t r 0x2000 0x02 [4]

/-- RESET_CMD of kind WARM (R322). -/
def execWarmReset (t : Nat) (r : Req) (target : BitVec 8) (s : State) : Result :=
  s.hostWrite t r 0x2000 0x03 (resetBytes 1 target)

/-- RESET_CMD of kind CHANNEL (R323). -/
def execChannelReset (t : Nat) (r : Req) (target : BitVec 8) (s : State) : Result :=
  s.hostWrite t r 0x2000 0x03 (resetBytes 2 target)

/-- RESET_CMD of kind JOINER (R323). -/
def execJoinerReset (t : Nat) (r : Req) (target : BitVec 8) (s : State) : Result :=
  s.hostWrite t r 0x2000 0x03 (resetBytes 3 target)

/-- RESET_CMD of kind LANE (R323). -/
def execLaneReset (t : Nat) (r : Req) (target : BitVec 8) (s : State) : Result :=
  s.hostWrite t r 0x2000 0x03 (resetBytes 4 target)

/-- FW_CMD INSTALL (R334). -/
def execFwInstall (t : Nat) (r : Req) (s : State) : Result := s.hostWrite t r 0x2900 0x0F [1]

/-- FW_CMD ADVANCE_ROLLBACK (R333). -/
def execAdvanceRollback (t : Nat) (r : Req) (s : State) : Result := s.hostWrite t r 0x2900 0x0F [2]

/-- A write of OWNER_KEY_DIGEST (R336). -/
def execOwnerKeyDigestWrite (t : Nat) (r : Req) (data : Bytes) (s : State) : Result := s.hostWrite t r 0x2900 0x06 data

/-- A write of OWNER_POLICY (R338). -/
def execOwnerPolicyWrite (t : Nat) (r : Req) (data : Bytes) (s : State) : Result := s.hostWrite t r 0x2900 0x07 data

/-- CODE_CMD LOAD (R339). -/
def execCodeLoad (t : Nat) (r : Req) (s : State) : Result := s.hostWrite t r 0x2900 0x12 [1]

/-- ATTEST_CMD 1 (R341). -/
def execAttestStatementReq (t : Nat) (r : Req) (s : State) : Result := s.hostWrite t r 0x2900 0x09 [1]

/-- ATTEST_CMD 2 (R341). -/
def execAttestTrimsReq (t : Nat) (r : Req) (s : State) : Result := s.hostWrite t r 0x2900 0x09 [2]

/-- REC_CMD ERASE (R335). -/
def execRecErase (t : Nat) (r : Req) (s : State) : Result := s.hostWrite t r 0x2900 0x17 [1]

/-- A write of REC_WRITE (R335). -/
def execRecWrite (t : Nat) (r : Req) (data : Bytes) (s : State) : Result := s.hostWrite t r 0x2900 0x16 data

/-- REC_CMD VERIFY (R335). -/
def execRecVerify (t : Nat) (r : Req) (s : State) : Result := s.hostWrite t r 0x2900 0x17 [2]

/-- RC_SAVE_CMD (R349). -/
def execRcSaveCmd (t : Nat) (r : Req) (s : State) : Result := s.hostWrite t r 0x2A00 0x0A [1]

/-- RECESS_CMD (R354). -/
def execRecessCmd (t : Nat) (r : Req) (s : State) : Result := s.hostWrite t r 0x2B00 0x01 [1]

/-- A read of CAPTURE_DATA (R359). -/
def execCaptureDataRead (t : Nat) (r : Req) (s : State) : Result := s.hostRead t r 0x2B00 0x06

/-- TIU_CMD START (R237). -/
def execTiuStart (t : Nat) (r : Req) (s : State) : Result := s.hostWrite t r 0x2700 0x0C [1]

/-- TIU_CMD STOP (R238). -/
def execTiuStop (t : Nat) (r : Req) (s : State) : Result := s.hostWrite t r 0x2700 0x0C [2]

/-- TIU_CMD CLEAR (R238). -/
def execTiuClear (t : Nat) (r : Req) (s : State) : Result := s.hostWrite t r 0x2700 0x0C [3]

/-- A write of STREAM_TAIL (R242). -/
def execStreamTailWrite (t : Nat) (r : Req) (data : Bytes) (s : State) : Result := s.hostWrite t r 0x2700 0x19 data

/-- PLUMB_CMD RUN (R259). -/
def execPlumbRunCmd (t : Nat) (r : Req) (kinds : BitVec 3) (target : BitVec 8) (s : State) : Result :=
  s.hostWrite t r 0x2800 0x07 (plumbBytes 1 kinds.toNat target)

/-- PLUMB_CMD CLEAR_FAILED (R266). -/
def execPlumbClearFailed (t : Nat) (r : Req) (target : BitVec 8) (s : State) : Result :=
  s.hostWrite t r 0x2800 0x07 (plumbBytes 2 0 target)

/-- PLUMB_CMD CANCEL (R268). -/
def execPlumbCancel (t : Nat) (r : Req) (s : State) : Result := s.hostWrite t r 0x2800 0x07 (plumbBytes 3 0 0)

/-- A write of PLUMB_MODE (R269). -/
def execPlumbModeWrite (t : Nat) (r : Req) (data : Bytes) (s : State) : Result := s.hostWrite t r 0x2800 0x01 data

/-- YB_CMD COMMIT (R277). -/
def execYbCommit (t : Nat) (r : Req) (s : State) : Result := s.hostWrite t r 0x2800 0x18 [1]

end Sys2Proof.Machine
end

