-- ==== Sys2Proof/Machine/Dispatch.lean ====
section
/-! DEFINITION. The dispatch: one arm for each command, each a direct call of that command's meaning. -/

namespace Sys2Proof.Machine

/-- A command's effect on everything but the queue. -/
def exec (i : Instr) (s : State) : Host.Outcome State Fault Refusal :=
  match i with
  | .nop t tt => Sys2Proof.Machine.execNop t tt s
  | .halt t tt => Sys2Proof.Machine.execHalt t tt s
  | .yield t tt => Sys2Proof.Machine.execYield t tt s
  | .sleep t tt => Sys2Proof.Machine.execSleep t tt s
  | .play t tt => Sys2Proof.Machine.execPlay t tt s
  | .playn t tt => Sys2Proof.Machine.execPlayn t tt s
  | .playg t tt => Sys2Proof.Machine.execPlayg t tt s
  | .strm t tt => Sys2Proof.Machine.execStrm t tt s
  | .loop t tt => Sys2Proof.Machine.execLoop t tt s
  | .endl t tt => Sys2Proof.Machine.execEndl t tt s
  | .brk t tt => Sys2Proof.Machine.execBrk t tt s
  | .jmp t tt => Sys2Proof.Machine.execJmp t tt s
  | .jcc t tt => Sys2Proof.Machine.execJcc t tt s
  | .jbel t tt => Sys2Proof.Machine.execJbel t tt s
  | .wbel t tt => Sys2Proof.Machine.execWbel t tt s
  | .wtime t tt => Sys2Proof.Machine.execWtime t tt s
  | .ring t tt => Sys2Proof.Machine.execRing t tt s
  | .clrb t tt => Sys2Proof.Machine.execClrb t tt s
  | .post t tt => Sys2Proof.Machine.execPost t tt s
  | .trap t tt => Sys2Proof.Machine.execTrap t tt s
  | .rsvdOpcode t tt => Sys2Proof.Machine.execRsvdOpcode t tt s
  | .setf t tt => Sys2Proof.Machine.execSetf t tt s
  | .setp t tt => Sys2Proof.Machine.execSetp t tt s
  | .ramp t tt => Sys2Proof.Machine.execRamp t tt s
  | .prst t tt => Sys2Proof.Machine.execPrst t tt s
  | .mode t tt => Sys2Proof.Machine.execMode t tt s
  | .gain t tt => Sys2Proof.Machine.execGain t tt s
  | .offs t tt => Sys2Proof.Machine.execOffs t tt s
  | .span t tt => Sys2Proof.Machine.execSpan t tt s
  | .mark t tt => Sys2Proof.Machine.execMark t tt s
  | .trgo t tt => Sys2Proof.Machine.execTrgo t tt s
  | .esc t tt => Sys2Proof.Machine.execEsc t tt s
  | .gang t tt => Sys2Proof.Machine.execGang t tt s
  | .li t tt => Sys2Proof.Machine.execLi t tt s
  | .add t tt => Sys2Proof.Machine.execAdd t tt s
  | .sub t tt => Sys2Proof.Machine.execSub t tt s
  | .and t tt => Sys2Proof.Machine.execAnd t tt s
  | .or t tt => Sys2Proof.Machine.execOr t tt s
  | .xor t tt => Sys2Proof.Machine.execXor t tt s
  | .shf t tt => Sys2Proof.Machine.execShf t tt s
  | .cmp t tt => Sys2Proof.Machine.execCmp t tt s
  | .ld t tt => Sys2Proof.Machine.execLd t tt s
  | .st t tt => Sys2Proof.Machine.execSt t tt s
  | .queueRoomWake t tt => Sys2Proof.Machine.execQueueRoomWake t tt s
  | .wpJobSlotWake t tt => Sys2Proof.Machine.execWpJobSlotWake t tt s
  | .wpSyncWake t tt => Sys2Proof.Machine.execWpSyncWake t tt s
  | .evrSlotWake t tt => Sys2Proof.Machine.execEvrSlotWake t tt s
  | .bellAdmit t tt => Sys2Proof.Machine.execBellAdmit t tt s
  | .wpJobComplete t j => Sys2Proof.Machine.execWpJobComplete t j s
  | .ttStart t r => Sys2Proof.Machine.execTtStart t r s
  | .ttStop t r => Sys2Proof.Machine.execTtStop t r s
  | .ttFlush t r => Sys2Proof.Machine.execTtFlush t r s
  | .ttClear t r => Sys2Proof.Machine.execTtClear t r s
  | .leaderWrite t r data => Sys2Proof.Machine.execLeaderWrite t r data s
  | .ttGangWrite t r data => Sys2Proof.Machine.execTtGangWrite t r data s
  | .queueLimitWrite t r data => Sys2Proof.Machine.execQueueLimitWrite t r data s
  | .evrTailWrite t r data => Sys2Proof.Machine.execEvrTailWrite t r data s
  | .evrEnableWrite t r data => Sys2Proof.Machine.execEvrEnableWrite t r data s
  | .codeDataWrite t r data => Sys2Proof.Machine.execCodeDataWrite t r data s
  | .codeDataRead t r => Sys2Proof.Machine.execCodeDataRead t r s
  | .sharedDataWrite t r data => Sys2Proof.Machine.execSharedDataWrite t r data s
  | .sharedDataRead t r => Sys2Proof.Machine.execSharedDataRead t r s
  | .segEntryWrite t r data => Sys2Proof.Machine.execSegEntryWrite t r data s
  | .mprogEntryWrite t r data => Sys2Proof.Machine.execMprogEntryWrite t r data s
  | .ringEntryWrite t r data => Sys2Proof.Machine.execRingEntryWrite t r data s
  | .bulkWindowWrite t r pages data => Sys2Proof.Machine.execBulkWindowWrite t r pages data s
  | .patrolScrub t word raced => Sys2Proof.Machine.execPatrolScrub t word raced s
  | .bulkWrite t m data => Sys2Proof.Machine.execBulkWrite t m data s
  | .claim t m => Sys2Proof.Machine.execClaim t m s
  | .release t m => Sys2Proof.Machine.execRelease t m s
  | .handover t m => Sys2Proof.Machine.execHandover t m s
  | .reclaim t m => Sys2Proof.Machine.execReclaim t m s
  | .handoverComplete t page => Sys2Proof.Machine.execHandoverComplete t page s
  | .descriptorVisible t ch => Sys2Proof.Machine.execDescriptorVisible t ch s
  | .descriptorStart t ch => Sys2Proof.Machine.execDescriptorStart t ch s
  | .descriptorEnd t ch => Sys2Proof.Machine.execDescriptorEnd t ch s
  | .repetitionEnd t ch => Sys2Proof.Machine.execRepetitionEnd t ch s
  | .timegateOpen t ch => Sys2Proof.Machine.execTimegateOpen t ch s
  | .escapeArmed t ch => Sys2Proof.Machine.execEscapeArmed t ch s
  | .escapeFire t ch => Sys2Proof.Machine.execEscapeFire t ch s
  | .escapeEnd t ch => Sys2Proof.Machine.execEscapeEnd t ch s
  | .streamCheck t ch => Sys2Proof.Machine.execStreamCheck t ch s
  | .underrunRecheck t ch => Sys2Proof.Machine.execUnderrunRecheck t ch s
  | .streamPageComplete t ch => Sys2Proof.Machine.execStreamPageComplete t ch s
  | .markerEventFire t ch e => Sys2Proof.Machine.execMarkerEventFire t ch e s
  | .triggerPulseEnd t ch => Sys2Proof.Machine.execTriggerPulseEnd t ch s
  | .ncoRampStep t ch => Sys2Proof.Machine.execNcoRampStep t ch s
  | .muteEnd t ch => Sys2Proof.Machine.execMuteEnd t ch s
  | .channelSettingApply t ch => Sys2Proof.Machine.execChannelSettingApply t ch s
  | .spanApply t ch => Sys2Proof.Machine.execSpanApply t ch s
  | .channelSettingWrite t r ch k data => Sys2Proof.Machine.execChannelSettingWrite t r ch k data s
  | .ftwHiWrite t r ch data => Sys2Proof.Machine.execFtwHiWrite t r ch data s
  | .spanCfgWrite t r ch data => Sys2Proof.Machine.execSpanCfgWrite t r ch data s
  | .channelEnable t r ch data => Sys2Proof.Machine.execChannelEnable t r ch data s
  | .enablingComplete t ch => Sys2Proof.Machine.execEnablingComplete t ch s
  | .channelDisable t r ch data => Sys2Proof.Machine.execChannelDisable t r ch data s
  | .faultClr t r ch data => Sys2Proof.Machine.execFaultClr t r ch data s
  | .detectorTrip t ch legs => Sys2Proof.Machine.execDetectorTrip t ch legs s
  | .settleInEnd t bay => Sys2Proof.Machine.execSettleInEnd t bay s
  | .fadeInEnd t bay => Sys2Proof.Machine.execFadeInEnd t bay s
  | .settleOutEnd t bay => Sys2Proof.Machine.execSettleOutEnd t bay s
  | .fadeOutEnd t bay => Sys2Proof.Machine.execFadeOutEnd t bay s
  | .refFreqWrite t r data => Sys2Proof.Machine.execRefFreqWrite t r data s
  | .refinLoss t => Sys2Proof.Machine.execRefinLoss t s
  | .refinGateEnd t ampOk count => Sys2Proof.Machine.execRefinGateEnd t ampOk count s
  | .refinQualified t => Sys2Proof.Machine.execRefinQualified t s
  | .refStepMeasured t meanFs => Sys2Proof.Machine.execRefStepMeasured t meanFs s
  | .slewComplete t => Sys2Proof.Machine.execSlewComplete t s
  | .xtalGateEnd t offset => Sys2Proof.Machine.execXtalGateEnd t offset s
  | .ppsEdge t disagree => Sys2Proof.Machine.execPpsEdge t disagree s
  | .alignTimeout t => Sys2Proof.Machine.execAlignTimeout t s
  | .alignSrcWrite t r data => Sys2Proof.Machine.execAlignSrcWrite t r data s
  | .synEnable t r y => Sys2Proof.Machine.execSynEnable t r y s
  | .synDisable t r y => Sys2Proof.Machine.execSynDisable t r y s
  | .lockDeclared t y l => Sys2Proof.Machine.execLockDeclared t y l s
  | .lossOfLock t y l => Sys2Proof.Machine.execLossOfLock t y l s
  | .lockRetry t y => Sys2Proof.Machine.execLockRetry t y s
  | .settleComplete t y => Sys2Proof.Machine.execSettleComplete t y s
  | .alignmentEdge t y => Sys2Proof.Machine.execAlignmentEdge t y s
  | .outputRelease t y => Sys2Proof.Machine.execOutputRelease t y s
  | .ceilingTrip t out => Sys2Proof.Machine.execCeilingTrip t out s
  | .bandTableWrite t r y data => Sys2Proof.Machine.execBandTableWrite t r y data s
  | .outputEnable t r y data => Sys2Proof.Machine.execOutputEnable t r y data s
  | .outputDisable t r y data => Sys2Proof.Machine.execOutputDisable t r y data s
  | .outDelayWrite t r y data => Sys2Proof.Machine.execOutDelayWrite t r y data s
  | .fineDelayStep t out => Sys2Proof.Machine.execFineDelayStep t out s
  | .refCmdSlew t r => Sys2Proof.Machine.execRefCmdSlew t r s
  | .refCmdHop t r => Sys2Proof.Machine.execRefCmdHop t r s
  | .synaRampStart t r => Sys2Proof.Machine.execSynaRampStart t r s
  | .synaRampStop t r => Sys2Proof.Machine.execSynaRampStop t r s
  | .synaRampBellStart t => Sys2Proof.Machine.execSynaRampBellStart t s
  | .synaRampStep t => Sys2Proof.Machine.execSynaRampStep t s
  | .mkEdge t port rising code levels => Sys2Proof.Machine.execMkEdge t port rising code levels s
  | .bellRing t r data => Sys2Proof.Machine.execBellRing t r data s
  | .bellRingAccept t => Sys2Proof.Machine.execBellRingAccept t s
  | .bellArrival t lane b => Sys2Proof.Machine.execBellArrival t lane b s
  | .bellRelease t => Sys2Proof.Machine.execBellRelease t s
  | .bellPass t => Sys2Proof.Machine.execBellPass t s
  | .horizonWrite t r data => Sys2Proof.Machine.execHorizonWrite t r data s
  | .bellOwnerWrite t r data => Sys2Proof.Machine.execBellOwnerWrite t r data s
  | .epochCmdNow t r => Sys2Proof.Machine.execEpochCmdNow t r s
  | .epochCmdPps t r => Sys2Proof.Machine.execEpochCmdPps t r s
  | .trussResume t r => Sys2Proof.Machine.execTrussResume t r s
  | .trussResetCmd t r => Sys2Proof.Machine.execTrussResetCmd t r s
  | .settingSwitch t => Sys2Proof.Machine.execSettingSwitch t s
  | .settingsBlockRx t lane c => Sys2Proof.Machine.execSettingsBlockRx t lane c s
  | .trussReset t => Sys2Proof.Machine.execTrussReset t s
  | .trussTimeRecovery t partnerTime => Sys2Proof.Machine.execTrussTimeRecovery t partnerTime s
  | .timeSnapshot t core => Sys2Proof.Machine.execTimeSnapshot t core s
  | .heartbeatSend t lane => Sys2Proof.Machine.execHeartbeatSend t lane s
  | .heartbeatRx t lane b => Sys2Proof.Machine.execHeartbeatRx t lane b s
  | .linkLost t lane => Sys2Proof.Machine.execLinkLost t lane s
  | .breakBlockRx t lane b => Sys2Proof.Machine.execBreakBlockRx t lane b s
  | .breakPolicyApply t ch => Sys2Proof.Machine.execBreakPolicyApply t ch s
  | .clockRecoveryLock t lane => Sys2Proof.Machine.execClockRecoveryLock t lane s
  | .signalTimeout t lane => Sys2Proof.Machine.execSignalTimeout t lane s
  | .codewordAligned t lane => Sys2Proof.Machine.execCodewordAligned t lane s
  | .blockLockTimeout t lane => Sys2Proof.Machine.execBlockLockTimeout t lane s
  | .trainBlockRx t lane b => Sys2Proof.Machine.execTrainBlockRx t lane b s
  | .capabilityRetry t lane => Sys2Proof.Machine.execCapabilityRetry t lane s
  | .rateLocked t lane => Sys2Proof.Machine.execRateLocked t lane s
  | .timeBlockRx t lane b arrival reply => Sys2Proof.Machine.execTimeBlockRx t lane b arrival reply s
  | .delayComplete t lane => Sys2Proof.Machine.execDelayComplete t lane s
  | .timeTransferRx t lane b => Sys2Proof.Machine.execTimeTransferRx t lane b s
  | .joinReportRx t lane b => Sys2Proof.Machine.execJoinReportRx t lane b s
  | .joinAdmitRx t lane b => Sys2Proof.Machine.execJoinAdmitRx t lane b s
  | .joinRefuseRx t lane b => Sys2Proof.Machine.execJoinRefuseRx t lane b s
  | .deviceNumWrite t r data => Sys2Proof.Machine.execDeviceNumWrite t r data s
  | .linkCfgWrite t r data => Sys2Proof.Machine.execLinkCfgWrite t r data s
  | .badBlockRx t lane kind => Sys2Proof.Machine.execBadBlockRx t lane kind s
  | .creditBlockRx t lane freed => Sys2Proof.Machine.execCreditBlockRx t lane freed s
  | .quadEnable t r data => Sys2Proof.Machine.execQuadEnable t r data s
  | .quadDisable t r data => Sys2Proof.Machine.execQuadDisable t r data s
  | .dataBlockRx t lane block => Sys2Proof.Machine.execDataBlockRx t lane block s
  | .ethFrameRx t port f => Sys2Proof.Machine.execEthFrameRx t port f s
  | .arpRequest t port f => Sys2Proof.Machine.execArpRequest t port f s
  | .icmpEchoRequest t port f => Sys2Proof.Machine.execIcmpEchoRequest t port f s
  | .laneTestStart t r data => Sys2Proof.Machine.execLaneTestStart t r data s
  | .laneTestEnd t r => Sys2Proof.Machine.execLaneTestEnd t r s
  | .odaOpen t r versions => Sys2Proof.Machine.execOdaOpen t r versions s
  | .odaClose t r => Sys2Proof.Machine.execOdaClose t r s
  | .odaRead t r e => Sys2Proof.Machine.execOdaRead t r e s
  | .odaWrite t r e data => Sys2Proof.Machine.execOdaWrite t r e data s
  | .odaDescribe t r e => Sys2Proof.Machine.execOdaDescribe t r e s
  | .memRead t r addr length => Sys2Proof.Machine.execMemRead t r addr length s
  | .odaUndefinedType t r type => Sys2Proof.Machine.execOdaUndefinedType t r type s
  | .odaBadMessageDiscard t => Sys2Proof.Machine.execOdaBadMessageDiscard t s
  | .sessionTimeout t session => Sys2Proof.Machine.execSessionTimeout t session s
  | .routedReplyRx t session seq abort data => Sys2Proof.Machine.execRoutedReplyRx t session seq abort data s
  | .routeTimeout t session seq => Sys2Proof.Machine.execRouteTimeout t session seq s
  | .rawWrite t r block word data => Sys2Proof.Machine.execRawWrite t r block word data s
  | .w1Write t r e data => Sys2Proof.Machine.execW1Write t r e data s
  | .parityScrub t reg element mismatch => Sys2Proof.Machine.execParityScrub t reg element mismatch s
  | .cfgSave t r => Sys2Proof.Machine.execCfgSave t r s
  | .cfgBuild t r => Sys2Proof.Machine.execCfgBuild t r s
  | .cfgInstall t r => Sys2Proof.Machine.execCfgInstall t r s
  | .cfgCmdComplete t => Sys2Proof.Machine.execCfgCmdComplete t s
  | .cfgDataWrite t r data => Sys2Proof.Machine.execCfgDataWrite t r data s
  | .cfgDataRead t r => Sys2Proof.Machine.execCfgDataRead t r s
  | .railWarning t rail => Sys2Proof.Machine.execRailWarning t rail s
  | .railFault t rail => Sys2Proof.Machine.execRailFault t rail s
  | .por t => Sys2Proof.Machine.execPor t s
  | .porRelease t => Sys2Proof.Machine.execPorRelease t s
  | .bootComplete t f => Sys2Proof.Machine.execBootComplete t f s
  | .droop t depth => Sys2Proof.Machine.execDroop t depth s
  | .droopRelease t => Sys2Proof.Machine.execDroopRelease t s
  | .eclkReleaseStep t => Sys2Proof.Machine.execEclkReleaseStep t s
  | .sysStandby t r => Sys2Proof.Machine.execSysStandby t r s
  | .sysWake t r => Sys2Proof.Machine.execSysWake t r s
  | .sysShutdown t r => Sys2Proof.Machine.execSysShutdown t r s
  | .sysSafe t r => Sys2Proof.Machine.execSysSafe t r s
  | .overtemp t => Sys2Proof.Machine.execOvertemp t s
  | .rstNAssert t => Sys2Proof.Machine.execRstNAssert t s
  | .rstNRelease t => Sys2Proof.Machine.execRstNRelease t s
  | .warmReset t r target => Sys2Proof.Machine.execWarmReset t r target s
  | .warmResetBegin t => Sys2Proof.Machine.execWarmResetBegin t s
  | .watchdogReset t => Sys2Proof.Machine.execWatchdogReset t s
  | .channelReset t r target => Sys2Proof.Machine.execChannelReset t r target s
  | .joinerReset t r target => Sys2Proof.Machine.execJoinerReset t r target s
  | .joinerResetComplete t j => Sys2Proof.Machine.execJoinerResetComplete t j s
  | .laneReset t r target => Sys2Proof.Machine.execLaneReset t r target s
  | .fwInstall t r => Sys2Proof.Machine.execFwInstall t r s
  | .fwInstallComplete t => Sys2Proof.Machine.execFwInstallComplete t s
  | .advanceRollback t r => Sys2Proof.Machine.execAdvanceRollback t r s
  | .ownerKeyDigestWrite t r data => Sys2Proof.Machine.execOwnerKeyDigestWrite t r data s
  | .ownerPolicyWrite t r data => Sys2Proof.Machine.execOwnerPolicyWrite t r data s
  | .codeLoad t r => Sys2Proof.Machine.execCodeLoad t r s
  | .codeLoadComplete t => Sys2Proof.Machine.execCodeLoadComplete t s
  | .attestStatementReq t r => Sys2Proof.Machine.execAttestStatementReq t r s
  | .attestTrimsReq t r => Sys2Proof.Machine.execAttestTrimsReq t r s
  | .attestComplete t => Sys2Proof.Machine.execAttestComplete t s
  | .recErase t r => Sys2Proof.Machine.execRecErase t r s
  | .recWrite t r data => Sys2Proof.Machine.execRecWrite t r data s
  | .recVerify t r => Sys2Proof.Machine.execRecVerify t r s
  | .rcSavePeriodic t => Sys2Proof.Machine.execRcSavePeriodic t s
  | .rcSaveAfterBoot t => Sys2Proof.Machine.execRcSaveAfterBoot t s
  | .rcSaveCmd t r => Sys2Proof.Machine.execRcSaveCmd t r s
  | .rcSaveComplete t => Sys2Proof.Machine.execRcSaveComplete t s
  | .tempHistTick t temps => Sys2Proof.Machine.execTempHistTick t temps s
  | .ageingMeasurement t die pairs => Sys2Proof.Machine.execAgeingMeasurement t die pairs s
  | .frzNLow t => Sys2Proof.Machine.execFrzNLow t s
  | .recessBell t => Sys2Proof.Machine.execRecessBell t s
  | .recessCmd t r => Sys2Proof.Machine.execRecessCmd t r s
  | .captureReady t => Sys2Proof.Machine.execCaptureReady t s
  | .captureDataRead t r => Sys2Proof.Machine.execCaptureDataRead t r s
  | .tapInstructionUpdate t ir => Sys2Proof.Machine.execTapInstructionUpdate t ir s
  | .tapCaptureRead t => Sys2Proof.Machine.execTapCaptureRead t s
  | .tapReset t => Sys2Proof.Machine.execTapReset t s
  | .tiuEdge t c rising code => Sys2Proof.Machine.execTiuEdge t c rising code s
  | .stampDrain t => Sys2Proof.Machine.execStampDrain t s
  | .tiuStart t r => Sys2Proof.Machine.execTiuStart t r s
  | .tiuStop t r => Sys2Proof.Machine.execTiuStop t r s
  | .tiuClear t r => Sys2Proof.Machine.execTiuClear t r s
  | .tiuArm t slot => Sys2Proof.Machine.execTiuArm t slot s
  | .streamTailWrite t r data => Sys2Proof.Machine.execStreamTailWrite t r data s
  | .tclkUngate t => Sys2Proof.Machine.execTclkUngate t s
  | .codeDensityStart t c e => Sys2Proof.Machine.execCodeDensityStart t c e s
  | .codeDensityComplete t c hits e => Sys2Proof.Machine.execCodeDensityComplete t c hits e s
  | .plumbRunCmd t r kinds target => Sys2Proof.Machine.execPlumbRunCmd t r kinds target s
  | .plumbClearFailed t r target => Sys2Proof.Machine.execPlumbClearFailed t r target s
  | .plumbCancel t r => Sys2Proof.Machine.execPlumbCancel t r s
  | .plumbTempTrigger t core temp => Sys2Proof.Machine.execPlumbTempTrigger t core temp s
  | .plumbPeriodicTrigger t => Sys2Proof.Machine.execPlumbPeriodicTrigger t s
  | .plumbStart t e => Sys2Proof.Machine.execPlumbStart t e s
  | .plumbRunComplete t e m => Sys2Proof.Machine.execPlumbRunComplete t e m s
  | .plumbModeWrite t r data => Sys2Proof.Machine.execPlumbModeWrite t r data s
  | .ybCommit t r => Sys2Proof.Machine.execYbCommit t r s
  | .commitComplete t readBackOk => Sys2Proof.Machine.execCommitComplete t readBackOk s
  | .fuseHoldupLost t => Sys2Proof.Machine.execFuseHoldupLost t s
  | .holdupTest t held => Sys2Proof.Machine.execHoldupTest t held s
  | .ethLinkUp t port => Sys2Proof.Machine.execEthLinkUp t port s
  | .ethLinkDown t port => Sys2Proof.Machine.execEthLinkDown t port s
  | .advanceRollbackComplete t => Sys2Proof.Machine.execAdvanceRollbackComplete t s

end Sys2Proof.Machine
end

