-- ==== Sys2Proof/Safety.lean ====
section
/-! DEFINITION. The terms in which statements about the machine are made: that a command's conditions hold, that a
request is served and answered, and that one state differs from another in named parts only. -/

namespace Sys2Proof

/-- The commands that are events of the clocked part of the device: none comes about while its clocks stand (R308, R321,
R354). The host's requests, resets, rails, flash and the TAP go on, and the management port takes its bulk messages, which
it refuses in recess (R356). -/
def Instr.clocked (i : Instr) : Bool :=
  match i with
  | .nop _ _ => true
  | .halt _ _ => true
  | .yield _ _ => true
  | .sleep _ _ => true
  | .play _ _ => true
  | .playn _ _ => true
  | .playg _ _ => true
  | .strm _ _ => true
  | .loop _ _ => true
  | .endl _ _ => true
  | .brk _ _ => true
  | .jmp _ _ => true
  | .jcc _ _ => true
  | .jbel _ _ => true
  | .wbel _ _ => true
  | .wtime _ _ => true
  | .ring _ _ => true
  | .clrb _ _ => true
  | .post _ _ => true
  | .trap _ _ => true
  | .rsvdOpcode _ _ => true
  | .setf _ _ => true
  | .setp _ _ => true
  | .ramp _ _ => true
  | .prst _ _ => true
  | .mode _ _ => true
  | .gain _ _ => true
  | .offs _ _ => true
  | .span _ _ => true
  | .mark _ _ => true
  | .trgo _ _ => true
  | .esc _ _ => true
  | .gang _ _ => true
  | .li _ _ => true
  | .add _ _ => true
  | .sub _ _ => true
  | .and _ _ => true
  | .or _ _ => true
  | .xor _ _ => true
  | .shf _ _ => true
  | .cmp _ _ => true
  | .ld _ _ => true
  | .st _ _ => true
  | .queueRoomWake _ _ => true
  | .wpJobSlotWake _ _ => true
  | .wpSyncWake _ _ => true
  | .evrSlotWake _ _ => true
  | .bellAdmit _ _ => true
  | .wpJobComplete _ _ => true
  | .ttStart _ _ => false
  | .ttStop _ _ => false
  | .ttFlush _ _ => false
  | .ttClear _ _ => false
  | .leaderWrite _ _ _ => false
  | .ttGangWrite _ _ _ => false
  | .queueLimitWrite _ _ _ => false
  | .evrTailWrite _ _ _ => false
  | .evrEnableWrite _ _ _ => false
  | .codeDataWrite _ _ _ => false
  | .codeDataRead _ _ => false
  | .sharedDataWrite _ _ _ => false
  | .sharedDataRead _ _ => false
  | .segEntryWrite _ _ _ => false
  | .mprogEntryWrite _ _ _ => false
  | .ringEntryWrite _ _ _ => false
  | .bulkWindowWrite _ _ _ _ => false
  | .patrolScrub _ _ _ => true
  | .bulkWrite _ _ _ => false
  | .claim _ _ => false
  | .release _ _ => false
  | .handover _ _ => false
  | .reclaim _ _ => false
  | .handoverComplete _ _ => true
  | .descriptorVisible _ _ => true
  | .descriptorStart _ _ => true
  | .descriptorEnd _ _ => true
  | .repetitionEnd _ _ => true
  | .timegateOpen _ _ => true
  | .escapeArmed _ _ => true
  | .escapeFire _ _ => true
  | .escapeEnd _ _ => true
  | .streamCheck _ _ => true
  | .underrunRecheck _ _ => true
  | .streamPageComplete _ _ => true
  | .markerEventFire _ _ _ => true
  | .triggerPulseEnd _ _ => true
  | .ncoRampStep _ _ => true
  | .muteEnd _ _ => true
  | .channelSettingApply _ _ => true
  | .spanApply _ _ => true
  | .channelSettingWrite _ _ _ _ _ => false
  | .ftwHiWrite _ _ _ _ => false
  | .spanCfgWrite _ _ _ _ => false
  | .channelEnable _ _ _ _ => false
  | .enablingComplete _ _ => true
  | .channelDisable _ _ _ _ => false
  | .faultClr _ _ _ _ => false
  | .detectorTrip _ _ _ => true
  | .settleInEnd _ _ => true
  | .fadeInEnd _ _ => true
  | .settleOutEnd _ _ => true
  | .fadeOutEnd _ _ => true
  | .refFreqWrite _ _ _ => false
  | .refinLoss _ => true
  | .refinGateEnd _ _ _ => true
  | .refinQualified _ => true
  | .refStepMeasured _ _ => true
  | .slewComplete _ => true
  | .xtalGateEnd _ _ => true
  | .ppsEdge _ _ => true
  | .alignTimeout _ => true
  | .alignSrcWrite _ _ _ => false
  | .synEnable _ _ _ => false
  | .synDisable _ _ _ => false
  | .lockDeclared _ _ _ => true
  | .lossOfLock _ _ _ => true
  | .lockRetry _ _ => true
  | .settleComplete _ _ => true
  | .alignmentEdge _ _ => true
  | .outputRelease _ _ => true
  | .ceilingTrip _ _ => true
  | .bandTableWrite _ _ _ _ => false
  | .outputEnable _ _ _ _ => false
  | .outputDisable _ _ _ _ => false
  | .outDelayWrite _ _ _ _ => false
  | .fineDelayStep _ _ => true
  | .refCmdSlew _ _ => false
  | .refCmdHop _ _ => false
  | .synaRampStart _ _ => false
  | .synaRampStop _ _ => false
  | .synaRampBellStart _ => true
  | .synaRampStep _ => true
  | .mkEdge _ _ _ _ _ => true
  | .bellRing _ _ _ => false
  | .bellRingAccept _ => true
  | .bellArrival _ _ _ => true
  | .bellRelease _ => true
  | .bellPass _ => true
  | .horizonWrite _ _ _ => false
  | .bellOwnerWrite _ _ _ => false
  | .epochCmdNow _ _ => false
  | .epochCmdPps _ _ => false
  | .trussResume _ _ => false
  | .trussResetCmd _ _ => false
  | .settingSwitch _ => true
  | .settingsBlockRx _ _ _ => true
  | .trussReset _ => true
  | .trussTimeRecovery _ _ => true
  | .timeSnapshot _ _ => true
  | .heartbeatSend _ _ => true
  | .heartbeatRx _ _ _ => true
  | .linkLost _ _ => true
  | .breakBlockRx _ _ _ => true
  | .breakPolicyApply _ _ => true
  | .clockRecoveryLock _ _ => true
  | .signalTimeout _ _ => true
  | .codewordAligned _ _ => true
  | .blockLockTimeout _ _ => true
  | .trainBlockRx _ _ _ => true
  | .capabilityRetry _ _ => true
  | .rateLocked _ _ => true
  | .timeBlockRx _ _ _ _ _ => true
  | .delayComplete _ _ => true
  | .timeTransferRx _ _ _ => true
  | .joinReportRx _ _ _ => true
  | .joinAdmitRx _ _ _ => true
  | .joinRefuseRx _ _ _ => true
  | .deviceNumWrite _ _ _ => false
  | .linkCfgWrite _ _ _ => false
  | .badBlockRx _ _ _ => true
  | .creditBlockRx _ _ _ => true
  | .quadEnable _ _ _ => false
  | .quadDisable _ _ _ => false
  | .dataBlockRx _ _ _ => true
  | .ethFrameRx _ _ _ => true
  | .arpRequest _ _ _ => true
  | .icmpEchoRequest _ _ _ => true
  | .laneTestStart _ _ _ => false
  | .laneTestEnd _ _ => false
  | .odaOpen _ _ _ => false
  | .odaClose _ _ => false
  | .odaRead _ _ _ => false
  | .odaWrite _ _ _ _ => false
  | .odaDescribe _ _ _ => false
  | .memRead _ _ _ _ => false
  | .odaUndefinedType _ _ _ => false
  | .odaBadMessageDiscard _ => false
  | .sessionTimeout _ _ => false
  | .routedReplyRx _ _ _ _ _ => true
  | .routeTimeout _ _ _ => false
  | .rawWrite _ _ _ _ _ => false
  | .w1Write _ _ _ _ => false
  | .parityScrub _ _ _ _ => true
  | .cfgSave _ _ => false
  | .cfgBuild _ _ => false
  | .cfgInstall _ _ => false
  | .cfgCmdComplete _ => true
  | .cfgDataWrite _ _ _ => false
  | .cfgDataRead _ _ => false
  | .railWarning _ _ => false
  | .railFault _ _ => false
  | .por _ => false
  | .porRelease _ => false
  | .bootComplete _ _ => false
  | .droop _ _ => false
  | .droopRelease _ => false
  | .eclkReleaseStep _ => false
  | .sysStandby _ _ => false
  | .sysWake _ _ => false
  | .sysShutdown _ _ => false
  | .sysSafe _ _ => false
  | .overtemp _ => false
  | .rstNAssert _ => false
  | .rstNRelease _ => false
  | .warmReset _ _ _ => false
  | .warmResetBegin _ => false
  | .watchdogReset _ => false
  | .channelReset _ _ _ => false
  | .joinerReset _ _ _ => false
  | .joinerResetComplete _ _ => true
  | .laneReset _ _ _ => false
  | .fwInstall _ _ => false
  | .fwInstallComplete _ => false
  | .advanceRollback _ _ => false
  | .ownerKeyDigestWrite _ _ _ => false
  | .ownerPolicyWrite _ _ _ => false
  | .codeLoad _ _ => false
  | .codeLoadComplete _ => true
  | .attestStatementReq _ _ => false
  | .attestTrimsReq _ _ => false
  | .attestComplete _ => true
  | .recErase _ _ => false
  | .recWrite _ _ _ => false
  | .recVerify _ _ => false
  | .rcSavePeriodic _ => false
  | .rcSaveAfterBoot _ => false
  | .rcSaveCmd _ _ => false
  | .rcSaveComplete _ => false
  | .tempHistTick _ _ => false
  | .ageingMeasurement _ _ _ => true
  | .frzNLow _ => false
  | .recessBell _ => false
  | .recessCmd _ _ => false
  | .captureReady _ => false
  | .captureDataRead _ _ => false
  | .tapInstructionUpdate _ _ => false
  | .tapCaptureRead _ => false
  | .tapReset _ => false
  | .tiuEdge _ _ _ _ => true
  | .stampDrain _ => true
  | .tiuStart _ _ => false
  | .tiuStop _ _ => false
  | .tiuClear _ _ => false
  | .tiuArm _ _ => true
  | .streamTailWrite _ _ _ => false
  | .tclkUngate _ => true
  | .codeDensityStart _ _ _ => true
  | .codeDensityComplete _ _ _ _ => true
  | .plumbRunCmd _ _ _ _ => false
  | .plumbClearFailed _ _ _ => false
  | .plumbCancel _ _ => false
  | .plumbTempTrigger _ _ _ => true
  | .plumbPeriodicTrigger _ => true
  | .plumbStart _ _ => true
  | .plumbRunComplete _ _ _ => true
  | .plumbModeWrite _ _ _ => false
  | .ybCommit _ _ => false
  | .commitComplete _ _ => false
  | .fuseHoldupLost _ => false
  | .holdupTest _ _ => false
  | .ethLinkUp _ _ => true
  | .ethLinkDown _ _ => true
  | .advanceRollbackComplete _ => false

/-- A BELL word one hop on (R193). -/
def BellWord.next (w : BellWord) : BellWord := { w with hops := w.hops + 1 }

end Sys2Proof

namespace Sys2Proof.Machine

/-! ## Invariants -/

/-- READY and RUN follow the channels and timetables (R316): RUN exactly while one is busy. -/
def State.RunFollows (s : State) : Prop :=
  (s.sys.state = .ready → s.busy = false) ∧ (s.sys.state = .run → s.busy = true)

/-! ## The moment of a command

A command at device time `t` acts on the state that time has brought about by then: `s.advance t`, the state of the
moment. What follows is said of that state. -/

/-- Nothing is left for time alone to bring about: no check, pass request or STOP waits for the end of an ECLK cycle, no
channel or bay for a granule boundary, and no lane has data waiting or is UP. -/
def State.quiet (s : State) : Bool :=
  !s.unsettled && s.waitingChans.isEmpty && !s.laneWaits && s.upLanes.isEmpty && decide (s.net.traffic = 0)

/-! ## What a state keeps of an earlier one -/

/-- `s'` with the queue of commands, and READY or RUN (R316), of `s`: what every command's end sets. Statements of
what a command leaves alone compare the rest. -/
def State.graft (s s' : State) : State := { s' with pending := s.pending, sys := { s'.sys with state := s.sys.state } }

/-- The Joiner's memories, its bell table and its jobs are those it had. -/
def Joiner.SameStores (j j' : Joiner) : Prop := { j' with nextIssue := j.nextIssue, last := j.last } = j

/-- Every timetable but `i` is as it was, and so are the memories, bells and jobs of every Joiner. -/
def State.OtherTts (s s' : State) (i : Nat) : Prop :=
  (∀ k, k ≠ i → s'.tt k = s.tt k) ∧ (∀ j, (s.joiner j).SameStores (s'.joiner j))

/-- `s'` differs from `s` in timetable `i` only, and in which timetable its Joiner issued last. -/
def State.SameButTt (s s' : State) (i : Nat) : Prop :=
  { s.graft s' with tts := s.tts, joiners := s.joiners } = s ∧ s.OtherTts s' i

/-- `x` differs from `s` in what channels play only, and in what comes of it: the counts of memory errors, the hall
passes and rings of the bulk window, and the device's flags. -/
def State.OnPlay (s x : State) : Prop :=
  { x with chans := s.chans, mem := s.mem, card := s.card, sys := s.sys } = s
    ∧ x.mem.bytes = s.mem.bytes ∧ x.mem.segs = s.mem.segs ∧ x.mem.events = s.mem.events

/-- `x` differs from `s` in what channels have put out and fetched ahead by now, and in the errors met in that: the
counts of memory errors and the device's flags. Of segment memory and its tables only counts differ. -/
def State.OnOutput (s x : State) : Prop :=
  { x with chans := s.chans, mem := s.mem, card := s.card, sys := s.sys } = s
    ∧ { x.mem with ceCount := s.mem.ceCount, ueGranules := s.mem.ueGranules } = s.mem

/-- `x` differs from `s` in channel `n`, in the hall passes and rings of the bulk window, in the counts of memory
errors and underruns, and in the device's flags only: no other channel and no byte, segment or marker program of
segment memory. -/
def State.OnChan (s x : State) (n : Nat) : Prop :=
  { x with chans := s.chans, mem := s.mem, card := s.card, sys := s.sys } = s ∧ (∀ m, m ≠ n → x.chan m = s.chan m)
    ∧ x.mem.bytes = s.mem.bytes ∧ x.mem.segs = s.mem.segs ∧ x.mem.events = s.mem.events

/-! ## A Joiner issues -/

/-- The clocks run and Joiner `i / 64` issues for timetable `i`, whose PC holds the instruction `f` (R60, R54). -/
structure State.Issues (s : State) (i : Nat) (f : Fetched) : Prop where
  clocked : s.still = false
  turn : s.issues i = true
  fetched : s.fetch (i / 64) (s.tt i).pc = (f, none)

/-- The clocks run, and timetable `i` waits for `k` at the instruction `f`, its Joiner and ECLK running, no STOP of it
waiting for the end of the cycle (R58, R85). -/
structure State.Waits (s : State) (i : Nat) (k : WaitKind) (f : Fetched) : Prop where
  clocked : s.still = false
  eclk : s.eclk.stopped = false
  joiner : (s.joiner (i / 64)).resetting = false
  state : (s.tt i).state = .waiting
  kind : (s.tt i).wait = k
  held : (s.tt i).held = some f
  stays : s.stopping i = false

/-- The cycle from which a timetable is ready again that wakes now: the next one, or later where its latency asks for it
(R58). -/
def State.readyWoken (s : State) (i : Nat) : Nat := max (s.cycle + 1) (s.tt i).readyAt

/-- The cycle from which a timetable is ready again whose instruction issues now with latency `lat` (R61). -/
def State.readyAfter (s : State) (lat : Nat) : Nat := s.cycle + lat

/-- The timetable after a trap of cause `c` with a code at instruction `f` (R82). -/
def Timetable.faulted (v : Timetable) (c code : Nat) (f : Fetched) : Timetable :=
  { v with
    state := .faulted, wait := .none, held := none
    fault := { cause := c, code := BitVec.ofNat 16 code, pc := f.pc, word := f.word, ext := f.ext } }

/-! ## Bells -/

/-- What the raising of bell `w` leaves of the truss and of what was sent, where it reaches the device's own bell unit
at truss time `x` (R174 to R177): a bell that the device does not own, or that comes too soon, is counted only; one
that is raised, and is on time and not slow, waits in the bell unit and leaves on the truss links that are UP. -/
def State.Raises (u s' : State) (w : BellWord) (x : Ticks) : Prop :=
  ((u.ownsAt w.number.toNat w.origin && u.admissible w.number.toNat w.origin) = false →
    s'.truss = { u.truss with refused := u.truss.refused + 1 } ∧ s'.out = u.out ∧ s'.lanes = u.lanes) ∧
  ((u.ownsAt w.number.toNat w.origin && u.admissible w.number.toNat w.origin) = true →
    (u.punctual w x).isLate = false → (u.punctual w x).isSlow = false →
    s'.truss = { u.truss with
      lastOrigin := sset (fun _ => none) u.truss.lastOrigin w.number.toNat (some w.origin)
      bells := u.truss.bells ++ [u.punctual w x] } ∧
    s'.out = u.out ++ (u.upLinks none).map (fun l => .link (Fin.ofNat 48 l)
      (.bell { w.next with payload := if (u.lane l).version = 1 then 0 else w.payload })) ∧
    ∀ l, { s'.lane l with superframe := (u.lane l).superframe, displaced := (u.lane l).displaced } = u.lane l)

/-- The LOCAL bell that BREAK_BELL, where it is enabled, puts into the bell unit at the entry into BROKEN: `shown` is
the lane that the entry names (R198). -/
def State.breakBells (s : State) (shown : Nat) (payload : Byte) : List PendingBell :=
  let v := s.truss.breakBell.toNat
  if bitOf v 15 then [s.punctual (s.bellWord 2 (v % 256) payload s.trussNow srcBreak shown) s.trussNow] else []

/-- Where the next record of the event ring stands (R75). -/
def State.evrSlot (s : State) : Nat := s.evr.base * 65536 + 32 * (s.evr.head.toNat % 2048)

/-- The FAULT record of timetable `i` (R75): kind 1, the cause with its code, the time, the PC and the instruction. -/
def State.faultRecord (s : State) (i c code : Nat) (f : Fetched) : Bytes :=
  leBytes 4 (2 ^ 28 + i) ++ leBytes 4 (c + code * 65536) ++ leBytes 8 s.trussNow.toNat ++ leBytes 4 f.pc
    ++ leBytes 4 f.word.toNat ++ leBytes 8 0

/-- Timetable `i` has faulted at instruction `f` (R82): TT_FAULT holds the cause, a code and the instruction, no other
timetable changes, and TT_FAULT_CFG is acted on: a FAULT record, its bytes as R75 gives them, where the event ring takes records, the bell where
RING_EN asks for it, empty queues of the gang where FLUSH_EN does; where none of the three does, nothing else changes.
-/
structure State.Faults (s s' : State) (i c code : Nat) (f : Fetched) : Prop where
  own : s'.tt i = (s.tt i).faulted c code f
  others : ∀ k, k ≠ i → s'.tt k = s.tt k
  silent : s.evr.enable = false → bitOf (s.tt i).faultCfg.toNat 0 = false → bitOf (s.tt i).faultCfg.toNat 16 = false →
    s.SameButTt s' i
  posted : s.evr.enable = true →
    s'.evr = if s.evrFull = true then { s.evr with dropped := s.evr.dropped + 1 } else { s.evr with head := s.evr.head + 1 }
  rung : bitOf (s.tt i).faultCfg.toNat 0 = true →
    s.Raises s' (s.bellWord 0 (bits (s.tt i).faultCfg.toNat 15 8) (BitVec.ofNat 8 c) s.trussNow srcTtFault i) s.trussNow
  flushed : bitOf (s.tt i).faultCfg.toNat 16 = true → ∀ n ∈ (s.tt i).gang, (s'.chan n).queue = []
  record : s.evr.enable = true → s.evrFull = false → ∀ a, cellAt s'.mem.bytes a =
    if s.evrSlot ≤ a ∧ a < s.evrSlot + 32 then (s.faultRecord i c code f)[a - s.evrSlot]? else cellAt s.mem.bytes a
  bytes : s.evr.enable = false ∨ s.evrFull = true → s'.mem.bytes = s.mem.bytes

/-! ## The host asks -/

/-- The device takes request `m` as a new one of its open session `x` (R281 to R287): the port takes requests, the
message is well formed, of the session's version and within its limits, and for this device; its SEQ has not been
seen, fewer than 16 requests are in progress, the mailbox has room (R19), and no BELL_RING of the session is held. The
device does not run from its ROM (R335). -/
structure State.Serves (s : State) (m : OdaMsg) (x : Session) : Prop where
  port : s.portOpen m.req.port = true
  session : s.session? (s.fromKing m.req.port) m.req.session = some x
  fresh : (x.cache.find? fun c => decide (c.seq = m.req.seq)) = none
  once : x.open_.contains m.req.seq = false
  form : wellFormedMsg m = true
  version : m.req.ver.toNat = x.version
  limits : x.version = 1 → s.overLimits m = false
  room : x.open_.length < 16
  mail : s.oda.mailbox.length < mailboxMax
  here : m.req.device.val = s.deviceNum
  order : s.ringWaits m.req = false
  firmware : s.sec.recovery = false

/-- The device takes a WRITE of `data` to an entry that its state lets the host reach, and no register parity fault
stands (R303). -/
structure State.Writes (s : State) (r : Req) (x : Session) (ix sub : Nat) (data : Bytes) : Prop where
  serves : s.Serves (writeMsg r ix sub data) x
  reach : s.outOfReach ix sub = false
  parity : s.sys.parity = []

/-- The reply to request `m` with an abort code (0: none) and data (R281, R282). -/
def State.replyTo (s : State) (m : OdaMsg) (abort : Nat) (data : Bytes) : OutMsg :=
  .reply m.req.port m.req.peer (replyWord m.req.ver false m.type s.deviceNum) m.req.seq m.req.session m.w0 (BitVec.ofNat 32 abort)
    (BitVec.ofNat 32 data.length) 0 data

/-- What has been sent, and what waits to be sent on lanes, after the reply to request `m` has followed what `y` had
sent: over a lane a reply goes in data blocks (R207). -/
def State.Replies (y s' : State) (m : OdaMsg) (abort : Nat) (data : Bytes) : Prop :=
  s'.out = (y.sendPort m.req.port data.length (s'.replyTo m abort data)).out ∧
    s'.lanes = (y.sendPort m.req.port data.length (s'.replyTo m abort data)).lanes

/-- `s'` with what every served request may change put back: as `graft`, and the sessions, the mailbox, the messages
sent or to be sent, and the traffic they are. -/
def State.graftReply (s s' : State) : State :=
  { s.graft s' with
    out := s.out, lanes := s.lanes, net := { s'.net with traffic := s.net.traffic }
    oda := { s'.oda with sessions := s.oda.sessions, mailbox := s.oda.mailbox } }

/-- As `graftReply`, of a request that is refused: ODA_ABORTS counts it (R288). -/
def State.graftRefusal (s s' : State) : State :=
  { s.graftReply s' with
    oda := { s'.oda with sessions := s.oda.sessions, mailbox := s.oda.mailbox, aborts := s.oda.aborts } }

/-- The device has answered request `m` with an abort code below 0x0900_0000, has counted it, and is otherwise as it was
(R282, R288). -/
def State.TurnsAway (s s' : State) (m : OdaMsg) (code : Nat) : Prop :=
  s.Replies s' m code [] ∧ s'.oda.aborts = s.oda.aborts + 1 ∧ s.graftRefusal s' = s

/-- The device takes bulk message `m` (R213, R215, R284): its clocks run, it has booted and segment memory is not in
self-refresh, an ETH port has its link and an address, and no session of version 1 holds the port. -/
structure State.TakesBulk (s : State) (m : BulkMsg) : Prop where
  clocked : s.still = false
  booted : s.sys.state ≠ .boot
  awake : s.sys.state ≠ .standby
  link : s.bulkOpen m.port = true
  version : (s.oda.sessions.any fun x => decide (x.port = m.port ∧ x.version = 1) && !x.proxy) = false

/-- What has been sent, and what waits to be sent on lanes, after the reply to bulk message `m` of a TYPE, with an
abort code (0: none), has followed what `y` had sent, where the message asks for one (R220): the page's pass and
ACCEPTED_BYTES are those after it. -/
def State.BulkReplies (y s' : State) (m : BulkMsg) (type abort : Nat) : Prop :=
  let z := if m.ack = true then
    y.sendPort m.port 0 (.bulkReply m.port m.peer m.seq
      (BitVec.ofNat 32 (type * 2 ^ 24 + (if type = 0x40 ∧ m.abs = true then 0
        else if m.page < s'.mem.bulkPages then (s'.mem.page m.page).pass.code else 0) * 65536 + m.page))
      (BitVec.ofNat 32 abort) (BitVec.ofNat 32 (s'.mem.page m.page).accepted)) else y
  s'.out = z.out ∧ s'.lanes = z.lanes

/-- The port's record after a bulk message taken from it (R220): its sequence number met, and where it is refused
counted. -/
def Lane.bulkMet (v : Lane) (m : BulkMsg) (refused : Bool) : Lane :=
  { v.meetSeq m.seq with refused := (v.meetSeq m.seq).refused + (if refused = true then 1 else 0) }

/-- Of segment memory and its tables only the hall pass of page `p` differs, and the requests that wait for the end of
their cycle. -/
def SegMem.OnPage (m m' : SegMem) (p : Nat) : Prop :=
  (∀ q, q ≠ p → m'.page q = m.page q) ∧ { m' with pages := m.pages, passes := m.passes } = m

/-- The device takes a READ of an entry that its state lets the host reach. -/
structure State.Reads (s : State) (r : Req) (x : Session) (ix sub : Nat) : Prop where
  serves : s.Serves (readMsg r 0x10 ix sub) x
  reach : s.outOfReach ix sub = false

/-- After the command the session of the request holds value `v` in a selector (R292). -/
def State.Selects (s s' : State) (r : Req) (ix sub v : Nat) : Prop :=
  ∃ y, s'.session? (s.fromKing r.port) r.session = some y ∧ y.sel.get ix sub = v

/-! ## Channels -/

/-- Channel `n` worked out to its last granule boundary (R393). -/
def State.upTo (s : State) (n : Nat) : State := s.syncTo n (s.boundaryNow n)

/-- Channel `n` worked out to boundary `k` or to the end of what it produces if that comes first. -/
def State.chanAt (s : State) (n k : Nat) : Channel := (s.syncTo n k).chan n

/-- The clocks run, channel `n` takes its queue, and its boundary `k` has come (R88, R135). -/
structure State.Plays (s : State) (n k : Nat) : Prop where
  clocked : s.still = false
  taking : s.taking n = true
  reached : k ≤ s.boundaryNow n

/-- Descriptor `d` can follow at boundary `k` without a gap (R90): a GAP that is visible by then. -/
def State.GapFollows (s : State) (n k : Nat) (d : Descriptor) : Prop :=
  d.kind = .gap ∧ d.visible = true ∧ d.visibleAt ≤ s.boundaryFs n k

/-- Marker event `i` of the play in progress has fired once event `e` of it has (R38): it stands on an earlier sample, or on
the same one with no higher number. -/
abbrev Channel.FiresBy (c : Channel) (e i : Nat) : Prop :=
  i ∈ c.events ∧ (c.eventSample i < c.eventSample e ∨ c.eventSample i = c.eventSample e ∧ i ≤ e)

/-- A pin on each of the pages `ps`, named once each, is given up (R46, R47): a page keeps the pins left, and with the last
it is FREE where a stream play of it was completed and DEVICE otherwise. Every other page is as it was. -/
def State.GivesUp (s s' : State) (ps : List Nat) : Prop :=
  ps.Nodup → ∀ q, s'.mem.page q =
    if q ∈ ps then
      if (s.mem.page q).pins ≤ 1 then
        { s.mem.page q with pins := 0, pass := if (s.mem.page q).played = true then .free else .device, played := false }
      else { s.mem.page q with pins := (s.mem.page q).pins - 1 }
    else s.mem.page q

/-- A check of STREAM `d` in ECLK cycle `c` has done with a page of the descriptor's ring, and a channel has taken it where
`taker` names one (R52, R53): PLAY_PTR is one on, from the ring's last page to its first, once for all descriptors of one
STRM whose checks fall in one cycle; SPLITS counts, up to 65,535, where another channel took the ring's page before. No
other ring changes. -/
structure State.RingGoesOn (s s' : State) (d : Descriptor) (c : Nat) (taker : Option Nat) : Prop where
  first : (s.mem.ring d.ringNo).met d.serial c = none →
    (s'.mem.ring d.ringNo).playPtr =
      (if (s.mem.ring d.ringNo).playPtr + 1 < (s.mem.ring d.ringNo).count then (s.mem.ring d.ringNo).playPtr + 1 else 0) ∧
    (taker = none → (s'.mem.ring d.ringNo).splits = (s.mem.ring d.ringNo).splits) ∧
    ∀ n, taker = some n → (s'.mem.ring d.ringNo).takers = [n] ∧ (s'.mem.ring d.ringNo).splits =
      if (s.mem.ring d.ringNo).takers = [] ∨ n ∈ (s.mem.ring d.ringNo).takers then (s.mem.ring d.ringNo).splits
      else min ((s.mem.ring d.ringNo).splits + 1) 65535
  again : (s.mem.ring d.ringNo).met d.serial c ≠ none →
    (s'.mem.ring d.ringNo).playPtr = (s.mem.ring d.ringNo).playPtr ∧
      (s'.mem.ring d.ringNo).splits = (s.mem.ring d.ringNo).splits
  others : ∀ i, i ≠ d.ringNo → s'.mem.ring i = s.mem.ring i

/-- No escape of channel `n` fires at boundary `k` or before (R99, R116). -/
def State.NoFiring (s : State) (n k : Nat) : Prop := ∀ j e, s.firing n = some (j, e) → k < j

/-! ## Blocks sent on links -/

/-- The messages that control block `b` makes on the truss links that are UP, lane `but` left out (R191, R193). -/
def State.upMsgs (s : State) (but : Option Nat) (b : LinkBlock) : List OutMsg :=
  (s.upLinks but).map fun l => .link (Fin.ofNat 48 l) b

/-- The messages that a bell makes on the truss links that are UP, lane `but` left out: HOPS one up, and on a version 1
link without PAYLOAD (R193, R196). -/
def State.bellMsgs (s : State) (but : Option Nat) (w : BellWord) : List OutMsg :=
  (s.upLinks but).map fun l =>
    .link (Fin.ofNat 48 l) (.bell { w.next with payload := if (s.lane l).version = 1 then 0 else w.payload })

/-- The message that control block `b` makes on lane `l`. -/
def linkMsg (l : Nat) (b : LinkBlock) : OutMsg := .link (Fin.ofNat 48 l) b

/-- `v` differs from `u` in its control-block slots only (R206). -/
def Lane.SameButSlots (u v : Lane) : Prop := { v with superframe := u.superframe, displaced := u.displaced } = u

/-- `y` is `s` after the messages `ms` have left on links (R206). -/
def State.Sends (s y : State) (ms : List OutMsg) : Prop :=
  { y with lanes := s.lanes, out := s.out } = s ∧ y.out = s.out ++ ms ∧ ∀ l, (s.lane l).SameButSlots (y.lane l)

/-- `x` differs from `s` in truss and bells, the lanes' control-block slots and what was sent only. -/
def State.OnTruss (s x : State) : Prop :=
  { x with truss := s.truss, lanes := s.lanes, out := s.out } = s ∧ ∀ l, (s.lane l).SameButSlots (x.lane l)

/-- `x` differs from `s` in lane `l`, the control-block slots of the others, and what was sent only. -/
def State.OnLane (s x : State) (l : Nat) : Prop :=
  { x with lanes := s.lanes, out := s.out } = s ∧ ∀ m, m ≠ l → (s.lane m).SameButSlots (x.lane m)

/-! ## Device states -/

/-- The device has entered FAULT-SAFE with a cause (R319): every channel is OFF or in FAULT with ENABLE clear, what
ran of the timetables is HALTED with cause 2, no TIU slot is armed or runs, and segment memory keeps its bytes. -/
def State.SafeFrom (s s' : State) (cause : Nat) : Prop :=
  s'.sys.state = .faultSafe ∧ s'.sys.fsCause = cause ∧
    (∀ n, n < 64 → ((s'.chan n).state = .off ∨ (s'.chan n).state = .fault) ∧ (s'.chan n).enable = false) ∧
    (∀ i, i < 6144 → s'.tt i = (s.tt i).safe) ∧
    (∀ c, c < 16 → (s'.slot c).state ≠ .armed ∧ (s'.slot c).state ≠ .running) ∧ s'.mem.bytes = s.mem.bytes

/-- What a reset of the device leaves of playback and its clocks: nothing plays, runs or is configured, the device
boots, and the queue of commands stays (R308, R321, R322, R324). -/
def State.Cleared (s s' : State) (cause : Nat) : Prop :=
  s'.chans = [] ∧ s'.tts = [] ∧ s'.bays = [] ∧ s'.outs = [] ∧ s'.quads = [] ∧ s'.lanes = [] ∧ s'.oda.sessions = [] ∧
    s'.synM.en = false ∧ s'.synA.en = false ∧ s'.sys.state = .boot ∧ s'.sys.cause = cause ∧ s'.sys.stepsDone = false ∧
    s'.pending = s.pending ∧ s'.out = s.out

end Sys2Proof.Machine
end

