-- ==== Sys2Proof/Certificates/Slice0/Obligations.lean ====
section
/-! DEFINITION. The statements for the provers, each from the rules its docstring names. -/

open Sys2Proof Sys2Proof.Machine

/-- ADD, SUB, AND, OR, XOR, SHF, CMP and LI (R76, R77). -/
def Obligations.ArithmeticInstructions : Prop :=
  (∀ (s u : State) (t : Nat) (tt : Fin 6144) (f : Fetched) (b : Word), u = s.advance t →
    ∀ p ∈ ([(Instr.add t tt, 0x31, fun a b => a + b), (Instr.sub t tt, 0x32, fun a b => a - b),
            (Instr.and t tt, 0x33, fun a b => a &&& b), (Instr.or t tt, 0x34, fun a b => a ||| b),
            (Instr.xor t tt, 0x35, fun a b => a ^^^ b)] : List (Instr × Nat × (Word → Word → Word))),
      u.Issues tt f → f.opcode = p.2.1 → f.rd ≤ 15 → f.ra ≤ 15 → (u.tt tt).operandB f = some b →
      ∃ s', exec p.1 s = .next s' ∧ u.SameButTt s' tt ∧
        s'.tt tt = (((u.tt tt).setG f.rd (p.2.2 ((u.tt tt).g f.ra) b)).flagsOf (p.2.2 ((u.tt tt).g f.ra) b)).goesOn
          (f.pc + f.size) (u.readyAfter 1)) ∧
  (∀ (s u : State) (t : Nat) (tt : Fin 6144) (f : Fetched), u = s.advance t → u.Issues tt f →
    (∀ n, f.opcode = 0x36 → f.rd ≤ 15 → f.ra ≤ 15 → (u.tt tt).operandShift f = some n →
      ∃ s', exec (.shf t tt) s = .next s' ∧ u.SameButTt s' tt ∧
        s'.tt tt = (((u.tt tt).setG f.rd (shift (bits f.imm 6 5) n ((u.tt tt).g f.ra))).flagsOf
            (shift (bits f.imm 6 5) n ((u.tt tt).g f.ra))).goesOn (f.pc + f.size) (u.readyAfter 1)) ∧
    (∀ b, f.opcode = 0x37 → f.rd = 0 → f.ra ≤ 15 → (u.tt tt).operandB f = some b →
      ∃ s', exec (.cmp t tt) s = .next s' ∧ u.SameButTt s' tt ∧
        s'.tt tt = Timetable.goesOn
          { u.tt tt with z := decide ((u.tt tt).g f.ra = b), n := decide (((u.tt tt).g f.ra).toInt < b.toInt) }
          (f.pc + f.size) (u.readyAfter 1)) ∧
    (f.opcode = 0x30 → f.rd ≤ 15 → f.ra = 0 →
      ∃ s', exec (.li t tt) s = .next s' ∧ u.SameButTt s' tt ∧
        s'.tt tt = ((u.tt tt).setG f.rd (BitVec.ofInt 32 (signed 16 f.imm))).goesOn (f.pc + f.size) (u.readyAfter 1)) ∧
    (f.opcode = 0x30 → f.rd ≤ 15 → f.ra = 1 → f.imm = 0 →
      ∃ s', exec (.li t tt) s = .next s' ∧ u.SameButTt s' tt ∧
        s'.tt tt = ((u.tt tt).setG f.rd f.ext).goesOn (f.pc + f.size) (u.readyAfter 2)))

/-- NOP, YIELD, HALT, JMP and JCC (R77, R62, R54); LOOP, ENDL and BRK (R80). That the sum of a JMP wraps modulo 2^32
before it is compared (R76 gives it as g[ra] + imm16) is the model's reading (assumption log 31). -/
def Obligations.ControlFlowAndLoops : Prop :=
  (∀ (s u : State) (t : Nat) (tt : Fin 6144) (f : Fetched), u = s.advance t → u.Issues tt f →
    (∀ p ∈ [(Instr.nop t tt, 0x00), (Instr.yield t tt, 0x02)],
      f.opcode = p.2 → f.rd = 0 → f.ra = 0 → f.imm = 0 →
      ∃ s', exec p.1 s = .next s' ∧ u.SameButTt s' tt ∧ s'.tt tt = (u.tt tt).goesOn (f.pc + f.size) (u.readyAfter 1)) ∧
    (f.opcode = 0x01 → f.rd = 0 → f.ra = 0 → f.imm = 0 →
      ∃ s', exec (.halt t tt) s = .next s' ∧ u.SameButTt s' tt ∧
        s'.tt tt = { u.tt tt with state := .halted, haltCause := 0 }) ∧
    (f.opcode = 0x14 → f.rd = 0 → f.ra ≤ 15 → ((u.tt tt).g f.ra + BitVec.ofNat 32 f.imm).toNat ≤ 32767 →
      ∃ s', exec (.jmp t tt) s = .next s' ∧ u.SameButTt s' tt ∧
        s'.tt tt = (u.tt tt).goesOn ((u.tt tt).g f.ra + BitVec.ofNat 32 f.imm).toNat (u.readyAfter 2)) ∧
    (f.opcode = 0x15 → f.ra = 0 → (u.tt tt).cond f.rd = some true → f.imm ≤ 32767 →
      ∃ s', exec (.jcc t tt) s = .next s' ∧ u.SameButTt s' tt ∧ s'.tt tt = (u.tt tt).goesOn f.imm (u.readyAfter 2)) ∧
    (f.opcode = 0x15 → f.ra = 0 → (u.tt tt).cond f.rd = some false →
      ∃ s', exec (.jcc t tt) s = .next s' ∧ u.SameButTt s' tt ∧ s'.tt tt = (u.tt tt).goesOn (f.pc + f.size) (u.readyAfter 1))) ∧
  (∀ (s u : State) (t : Nat) (tt : Fin 6144) (f : Fetched), u = s.advance t → u.Issues tt f →
    (∀ c, f.opcode = 0x10 → f.rd = 0 → (u.tt tt).operandC f = some c → c ≠ 0 → (u.tt tt).loops.length < 8 →
      ∃ s', exec (.loop t tt) s = .next s' ∧ u.SameButTt s' tt ∧
        s'.tt tt = Timetable.goesOn { u.tt tt with loops := (c, f.pc + 1) :: (u.tt tt).loops } (f.pc + f.size) (u.readyAfter 1)) ∧
    (∀ c a r, f.opcode = 0x11 → f.rd = 0 → f.ra = 0 → f.imm = 0 → (u.tt tt).loops = (c, a) :: r →
      ∃ s', exec (.endl t tt) s = .next s' ∧ u.SameButTt s' tt ∧
        s'.tt tt = if c - 1 ≠ 0 then Timetable.goesOn { u.tt tt with loops := (c - 1, a) :: r } a (u.readyAfter 2)
          else Timetable.goesOn { u.tt tt with loops := r } (f.pc + f.size) (u.readyAfter 1)) ∧
    (∀ p r, f.opcode = 0x12 → f.rd = 0 → f.ra = 0 → f.imm ≤ 32767 → (u.tt tt).loops = p :: r →
      ∃ s', exec (.brk t tt) s = .next s' ∧ u.SameButTt s' tt ∧
        s'.tt tt = Timetable.goesOn { u.tt tt with loops := r } f.imm (u.readyAfter 2)))

/-- JBEL, WBEL, CLRB and GANG (R72, R73, R77, R78, R65). -/
def Obligations.BellLatches : Prop :=
  ∀ (s u : State) (t : Nat) (tt : Fin 6144) (f : Fetched), u = s.advance t → u.Issues tt f →
    (∀ k, f.opcode = 0x16 → f.rd = 0 → f.ra ≤ 15 → k = ((u.tt tt).g f.ra).toNat % 256 →
      (u.tt tt).listen.getLsbD k = true → f.imm ≤ 32767 →
      ∃ s', exec (.jbel t tt) s = .next s' ∧ u.SameButTt s' tt ∧
        s'.tt tt = if (u.tt tt).latches.getLsbD k = true then (u.tt tt).goesOn f.imm (u.readyAfter 2)
          else (u.tt tt).goesOn (f.pc + f.size) (u.readyAfter 1)) ∧
    (f.opcode = 0x18 → f.rd ≤ 15 → f.ra = 0 → f.imm < 256 → (u.tt tt).listen.getLsbD f.imm = true →
      ∃ s', exec (.wbel t tt) s = .next s' ∧ u.SameButTt s' tt ∧
        s'.tt tt = if (u.tt tt).latches.getLsbD f.imm = true then
            (Timetable.setG { u.tt tt with latches := (u.tt tt).latches &&& ~~~(BitVec.ofNat 256 (2 ^ f.imm)) } f.rd
              (BitVec.ofNat 32 (f.imm * 256 + (u.bellEntry tt f.imm).payload.toNat))).goesOn (f.pc + f.size) (u.readyAfter 1)
          else (u.tt tt).waitsAt .bell f (u.readyAfter 1)) ∧
    (f.opcode = 0x18 → f.rd ≤ 15 → f.ra = 0 → f.imm = 0x8000 →
      ∃ s', exec (.wbel t tt) s = .next s' ∧ u.SameButTt s' tt ∧
        s'.tt tt = match u.earliestLatched tt with
          | some k => (Timetable.setG { u.tt tt with latches := (u.tt tt).latches &&& ~~~(BitVec.ofNat 256 (2 ^ k)) } f.rd
              (BitVec.ofNat 32 (k * 256 + (u.bellEntry tt k).payload.toNat))).goesOn (f.pc + f.size) (u.readyAfter 1)
          | none => (u.tt tt).waitsAt .bell f (u.readyAfter 1)) ∧
    (f.opcode = 0x1B → f.rd = 0 → f.ra = 0 → f.imm = 0x8000 →
      ∃ s', exec (.clrb t tt) s = .next s' ∧ u.SameButTt s' tt ∧
        s'.tt tt = Timetable.goesOn
          { u.tt tt with latches := (u.tt tt).latches &&& (if (u.tt tt).fresh.1 = u.cycle then (u.tt tt).fresh.2 else 0) }
          (f.pc + f.size) (u.readyAfter 1)) ∧
    (∀ k, f.opcode = 0x1B → f.rd = 0 → f.ra ≤ 15 → f.imm = 0 → k = ((u.tt tt).g f.ra).toNat % 256 →
      (u.tt tt).listen.getLsbD k = true →
      ∃ s', exec (.clrb t tt) s = .next s' ∧ u.SameButTt s' tt ∧
        s'.tt tt = Timetable.goesOn { u.tt tt with latches := (u.tt tt).latches &&&
            (~~~(BitVec.ofNat 256 (2 ^ k)) ||| (if (u.tt tt).fresh.1 = u.cycle then (u.tt tt).fresh.2 else 0)) }
          (f.pc + f.size) (u.readyAfter 1)) ∧
    (∀ base mask, f.opcode = 0x2C → f.rd = 0 → f.ra ≤ 15 → f.imm = 0 →
      (u.tt tt).g f.ra = BitVec.ofNat 32 (mask.toNat * 65536 + base) → base < 64 →
      (∀ n ∈ gangOf base mask, n < 64 ∧ (u.chan n).leader = tt) →
      ∃ s', exec (.gang t tt) s = .next s' ∧ u.SameButTt s' tt ∧
        s'.tt tt = Timetable.goesOn { u.tt tt with gangBase := base, gangMask := mask } (f.pc + f.size) (u.readyAfter 1))

/-- RING and BELL_ADMIT (R81, R174, R176, R177). A bell raised now is on time wherever HORIZON is in the range of R185. -/
def Obligations.RingAdmission : Prop :=
  ∀ (s u : State) (t : Nat) (tt : Fin 6144) (f : Fetched) (number : Nat) (payload : Byte) (w : BellWord), u = s.advance t →
    f.opcode = 0x1A → f.rd = 0 → f.ra ≤ 15 → number = f.imm % 256 →
    payload = BitVec.ofNat 8 (f.imm / 256) ^^^ ((u.tt tt).g f.ra).setWidth 8 →
    w = u.bellWord 0 number payload u.trussNow srcRing tt →
    (∀ i k, ((i = .ring t tt ∧ k = u.readyAfter 1 ∧ u.Issues tt f) ∨
        (i = .bellAdmit t tt ∧ k = u.readyWoken tt ∧ u.Waits tt .bellOut f)) →
      (u.owns number = false →
        ∃ s', exec i s = .next s' ∧ s'.truss = { u.truss with refused := u.truss.refused + 1 } ∧
          s'.tt tt = (u.tt tt).goesOn (f.pc + f.size) k ∧ u.OtherTts s' tt ∧
          { u.graft s' with tts := u.tts, joiners := u.joiners, truss := u.truss } = u) ∧
      (u.owns number = true → u.admissible number u.trussNow = true →
        (u.punctual w u.trussNow).isLate = false → (u.punctual w u.trussNow).isSlow = false →
        ∃ s', exec i s = .next s' ∧
          s'.truss = { u.truss with
            lastOrigin := sset (fun _ => none) u.truss.lastOrigin number (some u.trussNow)
            bells := u.truss.bells ++ [u.punctual w u.trussNow] } ∧
          s'.out = u.out ++ u.bellMsgs none w ∧ (∀ l, (u.lane l).SameButSlots (s'.lane l)) ∧
          s'.tt tt = (u.tt tt).goesOn (f.pc + f.size) k ∧ u.OtherTts s' tt ∧
          { u.graft s' with tts := u.tts, joiners := u.joiners, truss := u.truss, lanes := u.lanes, out := u.out } = u)) ∧
    (u.Issues tt f → u.owns number = true → u.admissible number u.trussNow = false →
      ∃ s', exec (.ring t tt) s = .next s' ∧ u.SameButTt s' tt ∧
        s'.tt tt = (u.tt tt).waitsAt .bellOut f (u.readyAfter 1)) ∧
    (u.Waits tt .bellOut f → u.owns number = true → u.admissible number u.trussNow = false →
      exec (.bellAdmit t tt) s = .next (u.close s.pending))

/-- POST and EVR_SLOT_WAKE (R75). `x` is the state with what has been played and fetched ahead held (R15, R17). -/
def Obligations.PostRecords : Prop :=
  ∀ (s u : State) (t : Nat) (tt : Fin 6144) (f : Fetched) (slot : Nat) (record : Bytes), u = s.advance t →
    f.opcode = 0x3E → f.rd ≤ 15 → f.ra ≤ 15 →
    slot = u.evr.base * 65536 + 32 * (u.evr.head.toNat % 2048) →
    record = leBytes 4 tt ++ leBytes 4 f.imm ++ leBytes 8 u.trussNow.toNat
      ++ leBytes 4 ((u.tt tt).g f.rd).toNat ++ leBytes 4 ((u.tt tt).g f.ra).toNat ++ leBytes 8 0 →
    (∀ i k x, ((i = .post t tt ∧ k = u.readyAfter 1 ∧ x = (u.takeSlot tt).holdFetched slot 32 ∧ u.Issues tt f) ∨
        (i = .evrSlotWake t tt ∧ k = u.readyWoken tt ∧ x = u.holdFetched slot 32 ∧ u.Waits tt .evr f)) →
      u.evr.enable = true → u.evrFull = false →
      ∃ s', exec i s = .next s' ∧ s'.evr = { u.evr with head := u.evr.head + 1 } ∧
        (∀ a, cellAt s'.mem.bytes a =
          if slot ≤ a ∧ a < slot + 32 then record[a - slot]? else cellAt u.mem.bytes a) ∧
        s'.mem.segs = u.mem.segs ∧ s'.mem.events = u.mem.events ∧ s'.chans = x.chans ∧
        s'.net = { u.net with traffic := u.net.traffic + 32 * 1000000 } ∧
        s'.tt tt = (u.tt tt).goesOn (f.pc + f.size) k ∧ u.OtherTts s' tt ∧
        { u.graft s' with
          tts := u.tts, joiners := u.joiners, evr := u.evr, mem := u.mem, chans := u.chans, card := u.card, sys := u.sys
          net := u.net } = u) ∧
    (u.Issues tt f → u.evr.enable = false →
      ∃ s', exec (.post t tt) s = .next s' ∧ u.SameButTt s' tt ∧
        s'.tt tt = (u.tt tt).goesOn (f.pc + f.size) (u.readyAfter 1)) ∧
    (u.Issues tt f → u.evr.enable = true → u.evrFull = true → u.evr.waitPolicy = false →
      ∃ s', exec (.post t tt) s = .next s' ∧ s'.evr = { u.evr with dropped := u.evr.dropped + 1 } ∧
        s'.tt tt = (u.tt tt).goesOn (f.pc + f.size) (u.readyAfter 1) ∧ u.OtherTts s' tt ∧
        { u.graft s' with tts := u.tts, joiners := u.joiners, evr := u.evr } = u) ∧
    (u.Issues tt f → u.evr.enable = true → u.evrFull = true → u.evr.waitPolicy = true →
      ∃ s', exec (.post t tt) s = .next s' ∧ u.SameButTt s' tt ∧
        s'.tt tt = (u.tt tt).waitsAt .evr f (u.readyAfter 1))

/-- TRAP and RSVD_OPCODE (R77, R82), failed fetches (R54), and the traps of every instruction, with the condition of each
cause. Where several causes meet, the order is the model's choice (assumption logs 33, 87 and 116); the words that TT_FAULT
holds where none was fetched are free (log 32). -/
def Obligations.InstructionTraps : Prop :=
  ∀ (s u : State) (t : Nat) (tt : Fin 6144) (f : Fetched), u = s.advance t →
    (u.Issues tt f → f.opcode = 0x3F → f.rd = 0 → f.ra = 0 →
      ∃ s', exec (.trap t tt) s = .next s' ∧ u.Faults s' tt 0x0F f.imm f) ∧
    (u.Issues tt f → f.opcode = 0x3F → ¬ (f.rd = 0 ∧ f.ra = 0) →
      ∃ s', exec (.trap t tt) s = .next s' ∧ u.Faults s' tt 0x02 0 f) ∧
    (u.Issues tt f → undefinedOpcode f.opcode = true →
      ∃ s', exec (.rsvdOpcode t tt) s = .next s' ∧ u.Faults s' tt 0x01 0 f) ∧
    (∀ p ∈ ([(.nop t tt, 0x00), (.halt t tt, 0x01), (.yield t tt, 0x02), (.sleep t tt, 0x03), (.play t tt, 0x08),
        (.playn t tt, 0x09), (.playg t tt, 0x0A), (.strm t tt, 0x0B), (.loop t tt, 0x10), (.endl t tt, 0x11),
        (.brk t tt, 0x12), (.jmp t tt, 0x14), (.jcc t tt, 0x15), (.jbel t tt, 0x16), (.wbel t tt, 0x18), (.wtime t tt, 0x19),
        (.ring t tt, 0x1A), (.clrb t tt, 0x1B), (.post t tt, 0x3E), (.trap t tt, 0x3F), (.setf t tt, 0x20),
        (.setp t tt, 0x21), (.ramp t tt, 0x22), (.prst t tt, 0x23), (.mode t tt, 0x24), (.gain t tt, 0x25),
        (.offs t tt, 0x26), (.span t tt, 0x27), (.mark t tt, 0x28), (.trgo t tt, 0x29), (.esc t tt, 0x2A),
        (.gang t tt, 0x2C), (.li t tt, 0x30), (.add t tt, 0x31), (.sub t tt, 0x32), (.and t tt, 0x33), (.or t tt, 0x34),
        (.xor t tt, 0x35), (.shf t tt, 0x36), (.cmp t tt, 0x37), (.ld t tt, 0x38), (.st t tt, 0x39)] : List (Instr × Nat)),
      (∀ c code, u.Issues tt f → f.opcode = p.2 → effOf p.2 (u.takeSlot tt) tt f = .trap c code →
        ∃ s', exec p.1 s = .next s' ∧ u.Faults s' tt c.code code f) ∧
      (∀ c, u.still = false → u.issues tt = true → u.fetch (tt / 64) (u.tt tt).pc = (f, some c) →
        ∃ s', exec p.1 s = .next s' ∧ u.Faults s' tt c.code 0 f) ∧
      (u.still = false → u.issues tt = true → 32767 < (u.tt tt).pc →
        ∃ s' g, exec p.1 s = .next s' ∧ g.pc = (u.tt tt).pc ∧ u.Faults s' tt 0x03 0 g) ∧
      (u.still = false → u.issues tt = true → (u.tt tt).pc ≤ 32767 → (u.joiner (tt / 64)).codeBad u.cycle (u.tt tt).pc = true →
        ∃ s' g, exec p.1 s = .next s' ∧ g.pc = (u.tt tt).pc ∧ u.Faults s' tt 0x04 0 g)) ∧
    (∀ (v : Timetable) (a : Nat), v = u.tt tt → a = (v.g f.ra).toNat + bits f.imm 13 0 → u.Issues tt f →
      ∀ p ∈ ([
        (.loop t tt, 0x10, f.rd = 0 ∧ v.operandC f = some 0, 0x02),
        (.loop t tt, 0x10, f.rd = 0 ∧ (∃ c, v.operandC f = some c ∧ c ≠ 0) ∧ 8 ≤ v.loops.length, 0x05),
        (.endl t tt, 0x11, f.rd = 0 ∧ f.ra = 0 ∧ f.imm = 0 ∧ v.loops = [], 0x06),
        (.brk t tt, 0x12, f.rd = 0 ∧ f.ra = 0 ∧ v.loops = [], 0x06),
        (.brk t tt, 0x12, f.rd = 0 ∧ f.ra = 0 ∧ v.loops ≠ [] ∧ 32767 < f.imm, 0x03),
        (.jmp t tt, 0x14, f.rd = 0 ∧ f.ra ≤ 15 ∧ 32767 < (v.g f.ra + BitVec.ofNat 32 f.imm).toNat, 0x03),
        (.jcc t tt, 0x15, f.ra = 0 ∧ v.cond f.rd = some true ∧ 32767 < f.imm, 0x03),
        (.jbel t tt, 0x16, f.rd = 0 ∧ f.ra ≤ 15 ∧ v.listen.getLsbD ((v.g f.ra).toNat % 256) = false, 0x0E),
        (.jbel t tt, 0x16, f.rd = 0 ∧ f.ra ≤ 15 ∧ v.listen.getLsbD ((v.g f.ra).toNat % 256) = true ∧
          v.latches.getLsbD ((v.g f.ra).toNat % 256) = true ∧ 32767 < f.imm, 0x03),
        (.wbel t tt, 0x18, f.rd ≤ 15 ∧ f.ra = 0 ∧ f.imm < 256 ∧ v.listen.getLsbD f.imm = false, 0x0E),
        (.clrb t tt, 0x1B, f.rd = 0 ∧ f.ra ≤ 15 ∧ f.imm = 0 ∧ v.listen.getLsbD ((v.g f.ra).toNat % 256) = false, 0x0E),
        (.wtime t tt, 0x19, f.rd ≤ 15 ∧ f.ra ≤ 15 ∧ f.imm = 1 ∧ v.listen.getLsbD ((v.g f.rd).toNat % 256) = false, 0x0E),
        (.wtime t tt, 0x19, f.rd ≤ 15 ∧ f.ra ≤ 15 ∧ f.imm = 1 ∧ v.listen.getLsbD ((v.g f.rd).toNat % 256) = true ∧
          v.gang ≠ [] ∧ (∀ n ∈ v.gang, u.room n = true) ∧ v.arrivals.getLsbD ((v.g f.rd).toNat % 256) = false, 0x0D),
        (.gang t tt, 0x2C, f.rd = 0 ∧ f.ra ≤ 15 ∧ f.imm = 0 ∧ bits (v.g f.ra).toNat 15 6 ≠ 0, 0x02),
        (.gang t tt, 0x2C, f.rd = 0 ∧ f.ra ≤ 15 ∧ f.imm = 0 ∧ bits (v.g f.ra).toNat 15 6 = 0 ∧
          (∀ n ∈ gangOf (bits (v.g f.ra).toNat 5 0) (BitVec.ofNat 16 ((v.g f.ra).toNat / 65536)), n ≤ 63) ∧
          (∃ n ∈ gangOf (bits (v.g f.ra).toNat 5 0) (BitVec.ofNat 16 ((v.g f.ra).toNat / 65536)),
            (u.chan n).leader ≠ tt.val), 0x0B),
        (.ld t tt, 0x38, f.rd ≤ 15 ∧ f.ra ≤ 15 ∧ bits f.imm 15 14 ≠ 2 ∧ spaceWords (bits f.imm 15 14) ≤ a, 0x07),
        (.st t tt, 0x39, f.rd ≤ 15 ∧ f.ra ≤ 15 ∧ bits f.imm 15 14 ≠ 2 ∧ spaceWords (bits f.imm 15 14) ≤ a, 0x07),
        (.st t tt, 0x39, f.rd ≤ 15 ∧ f.ra ≤ 15 ∧ bits f.imm 15 14 = 3 ∧ (a = 5 ∨ a = 6), 0x02),
        (.st t tt, 0x39, f.rd ≤ 15 ∧ f.ra ≤ 15 ∧ bits f.imm 15 14 = 3 ∧ a = 4 ∧
          (v.wpSrc.toNat % 4 ≠ 0 ∨ v.wpLen.toNat < 1 ∨ 1024 < v.wpLen.toNat ∨
            4096 < v.wpSrc.toNat + 4 * v.wpLen.toNat ∨ v.wpDstLo.toNat % 16 ≠ 0 ∨
            hbmBytes < v.wpDstHi.toNat * 2 ^ 32 + v.wpDstLo.toNat + 16 * v.wpLen.toNat), 0x07),
        (.playg t tt, 0x0A, f.rd = 0 ∧ f.ra ≤ 15 ∧ f.imm = 0 ∧ 65536 ≤ (v.g f.ra).toNat, 0x02),
        (.strm t tt, 0x0B, f.rd = 0 ∧ f.ra ≤ 15 ∧ f.imm = 0 ∧ 256 ≤ (v.g f.ra).toNat, 0x02),
        (.setf t tt, 0x20, f.rd = 0 ∧ f.ra ≤ 14 ∧ f.imm = 0 ∧ 65536 ≤ (v.g (f.ra + 1)).toNat, 0x02),
        (.strm t tt, 0x0B, f.rd = 0 ∧ f.ra ≤ 15 ∧ f.imm = 0 ∧ (v.g f.ra).toNat < 256 ∧ v.gang ≠ [] ∧
          (∀ n ∈ v.gang, u.room n = true) ∧ (u.mem.ring (v.g f.ra).toNat).valid = false, 0x0A)
      ] : List (Instr × Nat × Prop × Nat)),
        f.opcode = p.2.1 → p.2.2.1 → ∃ s', exec p.1 s = .next s' ∧ u.Faults s' tt p.2.2.2 0 f) ∧
    (∀ (v : Timetable) (e : SegEntry), v = u.tt tt → u.Issues tt f → v.gang ≠ [] → (∀ n ∈ v.gang, u.room n = true) →
      ∀ p ∈ ([
        (.play t tt, 0x08, f.rd = 0 ∧ f.ra = 0, f.imm),
        (.playn t tt, 0x09, f.rd = 0 ∧ f.ra ≤ 15 ∧ v.g f.ra ≠ 0, f.imm),
        (.playg t tt, 0x0A, f.rd = 0 ∧ f.ra ≤ 15 ∧ f.imm = 0 ∧ (v.g f.ra).toNat < 65536, (v.g f.ra).toNat),
        (.esc t tt, 0x2A, f.rd = 0 ∧ f.ra = 0 ∧ f.ext.toNat < 256, f.imm)] : List (Instr × Nat × Prop × Nat)),
        f.opcode = p.2.1 → p.2.2.1 → e = oldIn u.mem.segsOld u.cycle u.mem.seg p.2.2.2 →
        (e.valid = false → ∃ s', exec p.1 s = .next s' ∧ u.Faults s' tt 0x08 0 f) ∧
        (e.valid = true → (∃ q ∈ u.mem.segPages e, (u.mem.page q).pinnable = false) →
          ∃ s', exec p.1 s = .next s' ∧ u.Faults s' tt 0x09 0 f))

/-- LD and ST (R56, R74). `x` is the state with what channels have played so far worked out (R17), `y` the one in which
the ports have been served up to now (the model's accounting, assumption log 34). -/
def Obligations.LoadsAndStores : Prop :=
  ∀ (s u : State) (t : Nat) (tt : Fin 6144) (f : Fetched) (a : Nat), u = s.advance t → u.Issues tt f → f.rd ≤ 15 → f.ra ≤ 15 →
    a = ((u.tt tt).g f.ra).toNat + bits f.imm 13 0 →
    (∀ p ∈ [(0, 64, sget (fun _ => 0) (u.tt tt).scratch a), (1, 4096, sget (fun _ => 0) (u.joiner (tt / 64)).shared a),
            (3, 7, u.wpReg tt a)],
      f.opcode = 0x38 → bits f.imm 15 14 = p.1 → a < p.2.1 → (p.1 = 3 → a = 6 → (u.joiner (tt / 64)).jobsOf tt = 0) →
      ∃ s', exec (.ld t tt) s = .next s' ∧ u.SameButTt s' tt ∧
        s'.tt tt = ((u.tt tt).setG f.rd p.2.2).goesOn (f.pc + f.size) (u.readyAfter 2)) ∧
    (f.opcode = 0x38 → bits f.imm 15 14 = 3 → a = 6 → (u.joiner (tt / 64)).jobsOf tt ≠ 0 →
      ∃ s', exec (.ld t tt) s = .next s' ∧ u.SameButTt s' tt ∧ s'.tt tt = (u.tt tt).waitsAt .wpSync f (u.readyAfter 2)) ∧
    (f.opcode = 0x39 → bits f.imm 15 14 = 0 → a < 64 →
      ∃ s', exec (.st t tt) s = .next s' ∧ u.SameButTt s' tt ∧
        s'.tt tt = Timetable.goesOn { u.tt tt with scratch := sset (fun _ => 0) (u.tt tt).scratch a ((u.tt tt).g f.rd) }
          (f.pc + f.size) (u.readyAfter 2) ∧
        (∀ k, sget (fun _ => 0) (s'.tt tt).scratch k =
          if k = a then (u.tt tt).g f.rd else sget (fun _ => 0) (u.tt tt).scratch k)) ∧
    (f.opcode = 0x39 → bits f.imm 15 14 = 1 → a < 4096 →
      ∃ s', exec (.st t tt) s = .next s' ∧ { u.graft s' with tts := u.tts, joiners := u.joiners } = u ∧
        s'.tt tt = (u.tt tt).goesOn (f.pc + f.size) (u.readyAfter 2) ∧ (∀ k, k ≠ tt.val → s'.tt k = u.tt k) ∧
        (∀ j k, sget (fun _ => 0) (s'.joiner j).shared k =
          if j = tt.val / 64 ∧ k = a then (u.tt tt).g f.rd else sget (fun _ => 0) (u.joiner j).shared k) ∧
        (∀ j, j ≠ tt.val / 64 → s'.joiner j = u.joiner j) ∧
        (s'.joiner (tt / 64)).bells = (u.joiner (tt / 64)).bells ∧ (s'.joiner (tt / 64)).code = (u.joiner (tt / 64)).code ∧
        (s'.joiner (tt / 64)).jobs.map (fun w => (w.tt, w.src, w.dst, w.units)) =
          (u.joiner (tt / 64)).jobs.map fun w => (w.tt, w.src, w.dst, w.units)) ∧
    (f.opcode = 0x39 → bits f.imm 15 14 = 3 → a < 4 →
      ∃ s', exec (.st t tt) s = .next s' ∧ u.SameButTt s' tt ∧
        s'.tt tt = Timetable.goesOn { u.tt tt with
          wpSrc := if a = 0 then (u.tt tt).g f.rd else (u.tt tt).wpSrc
          wpDstLo := if a = 1 then (u.tt tt).g f.rd else (u.tt tt).wpDstLo
          wpDstHi := if a = 2 then (u.tt tt).g f.rd else (u.tt tt).wpDstHi
          wpLen := if a = 3 then (u.tt tt).g f.rd else (u.tt tt).wpLen } (f.pc + f.size) (u.readyAfter 2)) ∧
    (∀ src n dst, f.opcode = 0x39 → bits f.imm 15 14 = 3 → a = 4 →
      src = (u.tt tt).wpSrc.toNat → n = (u.tt tt).wpLen.toNat →
      dst = (u.tt tt).wpDstHi.toNat * 2 ^ 32 + (u.tt tt).wpDstLo.toNat →
      src % 4 = 0 → 1 ≤ n → n ≤ 1024 → src + 4 * n ≤ 4096 → dst % 16 = 0 → dst + 16 * n ≤ hbmBytes →
      ((u.joiner (tt / 64)).jobs.length < 4 →
        ∀ x y, x = (u.takeSlot tt).catchUpAll → y = x.servePorts →
        ∃ s', exec (.st t tt) s = .next s' ∧ u.OnPlay { x with joiners := u.joiners } ∧
          { y.graft s' with tts := y.tts, joiners := y.joiners } = y ∧
          (s'.joiner (tt / 64)).jobs = (y.joiner (tt / 64)).jobs ++ [{
            tt := tt, src := src, dst := dst, units := n, draw := x.draws
            served := if (u.joiner (tt / 64)).jobs = [] then u.portPhase else 0 }] ∧
          (∀ k, k ≠ tt.val / 64 → s'.joiner k = y.joiner k) ∧
          s'.tt tt = (u.tt tt).goesOn (f.pc + f.size) (u.readyAfter 2) ∧ (∀ k, k ≠ tt.val → s'.tt k = u.tt k)) ∧
      (4 ≤ (u.joiner (tt / 64)).jobs.length →
        ∃ s', exec (.st t tt) s = .next s' ∧ u.SameButTt s' tt ∧ s'.tt tt = (u.tt tt).waitsAt .wpJob f (u.readyAfter 2)))

/-- WP_JOB_SLOT_WAKE, WP_SYNC_WAKE and WP_JOB_COMPLETE (R17, R22, R58, R74). That the whole job reaches memory at its
completion, and the accounting of rate and shares (`jobDue`, `servePorts`, `portPhase`), is the model's choice (assumption
log 34). -/
def Obligations.WritePortJobs : Prop :=
  (∀ (s u x y : State) (t : Nat) (tt : Fin 6144) (f : Fetched) (src n dst : Nat), u = s.advance t → x = u.catchUpAll →
      y = x.servePorts →
      u.Waits tt .wpJob f → f.opcode = 0x39 → f.rd ≤ 15 → f.ra ≤ 15 →
      ((u.tt tt).g f.ra).toNat + bits f.imm 13 0 = 4 → bits f.imm 15 14 = 3 →
      src = (u.tt tt).wpSrc.toNat → n = (u.tt tt).wpLen.toNat →
      dst = (u.tt tt).wpDstHi.toNat * 2 ^ 32 + (u.tt tt).wpDstLo.toNat →
      src % 4 = 0 → 1 ≤ n → n ≤ 1024 → src + 4 * n ≤ 4096 → dst % 16 = 0 → dst + 16 * n ≤ hbmBytes →
      (u.joiner (tt / 64)).jobs.length < 4 →
      ∃ s', exec (.wpJobSlotWake t tt) s = .next s' ∧ u.OnPlay x ∧
        { y.graft s' with tts := y.tts, joiners := y.joiners } = y ∧
        (s'.joiner (tt / 64)).jobs = (y.joiner (tt / 64)).jobs ++ [{
            tt := tt, src := src, dst := dst, units := n, draw := x.draws
            served := if (u.joiner (tt / 64)).jobs = [] then u.portPhase else 0 }] ∧
        (∀ k, k ≠ tt.val / 64 → s'.joiner k = y.joiner k) ∧
        s'.tt tt = (u.tt tt).goesOn (f.pc + f.size) (u.readyWoken tt) ∧ (∀ k, k ≠ tt.val → s'.tt k = u.tt k)) ∧
  (∀ (s u : State) (t : Nat) (tt : Fin 6144) (f : Fetched), u = s.advance t →
      u.Waits tt .wpSync f → f.opcode = 0x38 → f.rd ≤ 15 → f.ra ≤ 15 →
      ((u.tt tt).g f.ra).toNat + bits f.imm 13 0 = 6 → bits f.imm 15 14 = 3 →
      (u.joiner (tt / 64)).jobsOf tt = 0 →
      ∃ s', exec (.wpSyncWake t tt) s = .next s' ∧ u.SameButTt s' tt ∧
        s'.tt tt = ((u.tt tt).setG f.rd 0).goesOn (f.pc + f.size) (u.readyWoken tt)) ∧
  (∀ (s u : State) (t : Nat) (j : Fin 96) (w : WpJob) (r : List WpJob) (data : Bytes), u = s.advance t →
      u.still = false → (u.joiner j).jobs = w :: r → data = wordsBytes ((u.joiner j).jobWords u.cycle w) →
      (u.jobDue j = true →
        ∃ s', exec (.wpJobComplete t j) s = .next s' ∧
          (∀ a, cellAt s'.mem.bytes a =
            if w.dst ≤ a ∧ a < w.dst + data.length then data[a - w.dst]? else cellAt u.mem.bytes a) ∧
          s'.mem.segs = u.mem.segs ∧ s'.mem.events = u.mem.events ∧
          s'.net = { u.net with portsFrom := u.now } ∧
          (s'.joiner j).jobs = (match r with
            | [] => []
            | v :: q => { v with served := u.portPhase } :: q) ∧
          (s'.tt w.tt).wpDone = (u.tt w.tt).wpDone + 1 ∧ (∀ k, k ≠ w.tt → s'.tt k = u.tt k) ∧
          (∀ k, k ≠ j.val → s'.joiner k = u.servePorts.joiner k) ∧
          { u.graft s' with
            tts := u.tts, joiners := u.joiners, mem := u.mem, chans := u.chans, card := u.card, sys := u.sys
            net := u.net } = u) ∧
      (u.jobDue j = false → exec (.wpJobComplete t j) s = .next (u.close s.pending)))

/-- The channel instructions (R66, R67, R79, R91, R93): one descriptor to every channel of the gang, with the pins of its
segment (R33, R34, R47), and QUEUE_ROOM_WAKE (R58, R92). Each row: the command, its opcode and latency, its operands in
order, and the descriptor it makes. That SLEEP and PLAYN of 0 need no room is the model's choice (assumption log 35). -/
def Obligations.ChannelInstructions : Prop :=
  ∀ (s u : State) (t : Nat) (tt : Fin 6144) (f : Fetched) (d : Descriptor), u = s.advance t →
    (∀ p ∈ ([
        (Instr.sleep t tt, 0x03, 2, f.rd = 0 ∧ (∃ c, (u.tt tt).operandC f = some c ∧ c ≠ 0),
          ∃ c, (u.tt tt).operandC f = some c ∧ d = { kind := .gap, reps := c }),
        (Instr.play t tt, 0x08, 2, f.rd = 0 ∧ f.ra = 0, u.segDescriptor f.imm { kind := .play, reps := 1 } = .ok d),
        (Instr.playn t tt, 0x09, 2, f.rd = 0 ∧ f.ra ≤ 15 ∧ (u.tt tt).g f.ra ≠ 0,
          u.segDescriptor f.imm { kind := .play, reps := (u.tt tt).g f.ra } = .ok d),
        (Instr.playg t tt, 0x0A, 2, f.rd = 0 ∧ f.ra ≤ 15 ∧ f.imm = 0 ∧ ((u.tt tt).g f.ra).toNat < 65536,
          u.segDescriptor ((u.tt tt).g f.ra).toNat { kind := .play, reps := 1 } = .ok d),
        (Instr.strm t tt, 0x0B, 2, f.rd = 0 ∧ f.ra ≤ 15 ∧ f.imm = 0 ∧ ((u.tt tt).g f.ra).toNat < 256,
          (u.mem.ring ((u.tt tt).g f.ra).toNat).valid = true ∧
          d = { kind := .stream, base := BitVec.ofNat 27 ((u.tt tt).g f.ra).toNat
                format := (u.mem.ring ((u.tt tt).g f.ra).toNat).format, serial := u.serial }),
        (Instr.wtime t tt, 0x19, 2, f.rd = 0 ∧ f.ra ≤ 14 ∧ f.imm = 0,
          d = { kind := .timegate, arg0 := (u.tt tt).g f.ra, arg1 := (u.tt tt).g (f.ra + 1) }),
        (Instr.wtime t tt, 0x19, 2, f.rd ≤ 15 ∧ f.ra ≤ 15 ∧ f.imm = 1 ∧
            (u.tt tt).listen.getLsbD (((u.tt tt).g f.rd).toNat % 256) = true,
          (u.tt tt).arrivals.getLsbD (((u.tt tt).g f.rd).toNat % 256) = true ∧
          d = gateDescriptor ((u.bellEntry tt (((u.tt tt).g f.rd).toNat % 256)).time + ((u.tt tt).g f.ra).setWidth 64)),
        (Instr.setf t tt, 0x20, 2, f.rd = 0 ∧ f.ra ≤ 14 ∧ f.imm = 0 ∧ ((u.tt tt).g (f.ra + 1)).toNat < 65536,
          d = { kind := .control, opc := 0x20, arg0 := (u.tt tt).g f.ra, arg1 := (u.tt tt).g (f.ra + 1) }),
        (Instr.setp t tt, 0x21, 2, f.rd = 0 ∧ ((u.tt tt).operandV f).isSome = true,
          ∃ v, (u.tt tt).operandV f = some v ∧ d = { kind := .control, opc := 0x21, arg0 := v.setWidth 32 }),
        (Instr.ramp t tt, 0x22, 2, f.rd = 0 ∧ f.ra = 0 ∧ (f.imm = 1 ∨ f.imm = 2),
          d = { kind := .control, opc := 0x22, arg0 := BitVec.ofNat 32 f.imm }),
        (Instr.prst t tt, 0x23, 2, f.rd = 0 ∧ f.ra = 0 ∧ f.imm = 0, d = { kind := .control, opc := 0x23 }),
        (Instr.mode t tt, 0x24, 2, f.rd = 0 ∧ f.ra = 0 ∧ f.imm ≤ 3,
          d = { kind := .control, opc := 0x24, arg0 := BitVec.ofNat 32 f.imm }),
        (Instr.gain t tt, 0x25, 2, f.rd = 0 ∧ ((u.tt tt).operandV f).isSome = true,
          ∃ v, (u.tt tt).operandV f = some v ∧ d = { kind := .control, opc := 0x25, arg0 := v.setWidth 32 }),
        (Instr.offs t tt, 0x26, 2, f.rd = 0 ∧ ((u.tt tt).operandV f).isSome = true,
          ∃ v, (u.tt tt).operandV f = some v ∧ d = { kind := .control, opc := 0x26, arg0 := v.setWidth 32 }),
        (Instr.span t tt, 0x27, 2, f.rd = 0 ∧ f.ra = 0 ∧ f.imm ≤ 7,
          d = { kind := .control, opc := 0x27, arg0 := BitVec.ofNat 32 f.imm }),
        (Instr.mark t tt, 0x28, 2, f.rd = 0 ∧ f.ra ≤ 15 ∧ f.imm = 0,
          d = { kind := .control, opc := 0x28, arg0 := (u.tt tt).g f.ra }),
        (Instr.trgo t tt, 0x29, 2, f.rd = 0 ∧ f.ra = 0 ∧ f.imm ≤ 1,
          d = { kind := .control, opc := 0x29, arg0 := BitVec.ofNat 32 f.imm }),
        (Instr.esc t tt, 0x2A, 3, f.rd = 0 ∧ f.ra = 0 ∧ f.ext.toNat < 256,
          u.segDescriptor f.imm { kind := .control, opc := 0x2A, arg0 := f.ext } = .ok d),
        (Instr.esc t tt, 0x2A, 3, f.rd = 0 ∧ f.ra = 0 ∧ f.ext = 256 ∧ f.imm = 0,
          d = { kind := .control, opc := 0x2A, arg0 := f.ext })
      ] : List (Instr × Nat × Nat × Prop × Prop)),
      f.opcode = p.2.1 → p.2.2.2.1 →
      (∀ i k ws, ((i = p.1 ∧ k = u.readyAfter p.2.2.1 ∧ ws = u.woken ∧ u.Issues tt f) ∨
          (i = .queueRoomWake t tt ∧ k = u.readyWoken tt ∧ u.Waits tt .queue f ∧
            ws = { cycle := u.cycle, tt := tt, before := u.tt tt, serial := u.serial } ::
              u.woken.filter fun w => decide (w.cycle = u.cycle))) →
        (u.tt tt).gang ≠ [] → (∀ n ∈ (u.tt tt).gang, u.room n = true) → p.2.2.2.2 →
        ∃ s', exec i s = .next s' ∧
          (∀ n ∈ (u.tt tt).gang, s'.chan n = { u.chan n with
            freed := (u.chan n).freed.filter fun x => decide (u.cycle < x)
            queue := (u.chan n).queue ++ [{ d with
              tt := tt, order := u.serial, crossCycle := u.cycle + (if tt.val / 64 = n then 2 else 10) }] }) ∧
          (∀ n, n ∉ (u.tt tt).gang → s'.chan n = u.chan n) ∧ { s'.mem with pages := u.mem.pages } = u.mem ∧
          (∀ q, d.pins.Nodup → s'.mem.page q = if q ∈ d.pins then { u.mem.page q with
            pass := .reading, pins := (u.mem.page q).pins + (u.tt tt).gang.length } else u.mem.page q) ∧
          s'.serial = u.serial + 1 ∧ s'.woken = ws ∧
          s'.tt tt = (u.tt tt).goesOn (f.pc + f.size) k ∧ u.OtherTts s' tt ∧
          { u.graft s' with
            tts := u.tts, joiners := u.joiners, chans := u.chans, mem := u.mem, serial := u.serial
            woken := u.woken } = u) ∧
      (u.Issues tt f → (u.tt tt).gang ≠ [] → (∃ n ∈ (u.tt tt).gang, u.room n = false) →
        ∃ s', exec p.1 s = .next s' ∧ s'.tt tt = (u.tt tt).waitsAt .queue f (u.readyAfter p.2.2.1) ∧ u.OtherTts s' tt ∧
          (∀ n, s'.chan n = if n ∈ (u.tt tt).gang ∧ u.room n = false then
            { u.chan n with fullWaits := (u.chan n).fullWaits + 1 } else u.chan n) ∧
          { u.graft s' with tts := u.tts, joiners := u.joiners, chans := u.chans } = u) ∧
      (u.Issues tt f → (u.tt tt).gang = [] →
        ∃ s', exec p.1 s = .next s' ∧ (∀ k, k ≠ tt.val → s'.tt k = u.tt k) ∧ s'.tt tt = (u.tt tt).faulted 0x0C 0 f)) ∧
    (∀ p ∈ [(Instr.sleep t tt, 0x03, (u.tt tt).operandC f = some 0), (.playn t tt, 0x09, f.ra ≤ 15 ∧ (u.tt tt).g f.ra = 0)],
      u.Issues tt f → f.opcode = p.2.1 → f.rd = 0 → p.2.2 → (u.tt tt).gang ≠ [] →
      ∃ s', exec p.1 s = .next s' ∧ u.SameButTt s' tt ∧ s'.tt tt = (u.tt tt).goesOn (f.pc + f.size) (u.readyAfter 2)) ∧
    (u.Issues tt f → f.opcode = 0x08 → f.rd = 0 → f.ra = 0 → (u.tt tt).gang ≠ [] →
      (∀ n ∈ (u.tt tt).gang, u.room n = true) → (oldIn u.mem.segsOld u.cycle u.mem.seg f.imm).valid = false →
      ∃ s', exec (.play t tt) s = .next s' ∧ (∀ k, k ≠ tt.val → s'.tt k = u.tt k) ∧ s'.tt tt = (u.tt tt).faulted 0x08 0 f) ∧
    (∀ (i : Nat) (b : Descriptor) (e : SegEntry), e = oldIn u.mem.segsOld u.cycle u.mem.seg i → u.segDescriptor i b = .ok d →
      e.valid = true ∧ d.base = e.base ∧ d.lenG = e.lenG ∧ d.format = e.format ∧ d.trigMask = e.trigMask ∧
        d.trigLen = e.trigLen ∧ d.mken = e.mken ∧ d.pins.Nodup ∧
        (∀ q ∈ d.pins, (u.mem.page q).pass = .device ∨ (u.mem.page q).pass = .reading) ∧
        ∀ q, q ∈ d.pins ↔ q < u.mem.bulkPages ∧ e.lenG ≠ 0 ∧
          (u.mem.bulkBase + q) * 2097152 < 768 * e.base.toNat + e.lenG.toNat * (if e.format = 0 then 24 else 32) ∧
          768 * e.base.toNat < (u.mem.bulkBase + q + 1) * 2097152)

/-- A step takes the command at the front of the queue; on an empty queue it idles (assumption log 4). -/
def Obligations.StepRunsTheFrontCommand : Prop :=
  (∀ (c : Instr) (q : List Instr) (s : State),
    step { s with pending := c :: q } = exec c { s with pending := q }) ∧
  (∀ s : State, s.pending = [] → step s = .next s)

/-- Every command answers a next state, and no command adds to the queue or takes from it: the form of the model, not a
rule (assumption logs 85 and 86). -/
def Obligations.EveryCommandCompletes : Prop :=
  ∀ (c : Instr) (s : State), ∃ s', exec c s = .next s' ∧ s'.pending = s.pending

/-- READY and RUN follow the channels and timetables at reset (R316). -/
def Obligations.RunFollowsAtReset : Prop := State.reset.RunFollows

/-- Every step keeps READY and RUN in agreement with the channels and timetables (R316). -/
def Obligations.RunFollowsIsKept : Prop :=
  ∀ s s' : State, s.RunFollows → step s = .next s' → s'.RunFollows

/-- While the clocks stand no clocked event changes anything (R308, R321, R354, R356). -/
def Obligations.ClockedEventsStandStill : Prop :=
  (∀ (c : Instr) (s : State), c.clocked = true → s.still = true →
    ∃ t s', exec c s = .next s' ∧ (s.tick t).graft s' = s.tick t) ∧
  (∀ (s : State) (t : Nat) (m : BulkMsg) (data : Bytes),
    s.sys.por = true ∨ s.sys.pin = true ∨ (s.sys.state = .recess ∧ m.port ≠ .mgmt) →
    ∀ c ∈ [Instr.bulkWrite t m data, .claim t m, .release t m, .handover t m, .reclaim t m],
      ∃ s', exec c s = .next s' ∧ (s.tick t).graft s' = s.tick t) ∧
  (∀ (s : State) (t : Nat), s.quiet = true → s.advance t = s.tick t)

/-- A write to segment memory, and what is read after it (R9, R26, R40, R42). -/
def Obligations.SegmentMemoryWrites : Prop :=
  ∀ (m : SegMem) (a : Nat) (bs : Bytes),
    (m.wf = true → (m.write a bs).wf = true) ∧
    (∀ i, cellAt (m.write a bs).bytes i = if a ≤ i ∧ i < a + bs.length then bs[i - a]? else cellAt m.bytes i) ∧
    (∀ draw reader v, bs = leBytes 8 v → v < 2 ^ 64 →
      (m.write a bs).readWord draw reader a = .data (BitVec.ofNat 64 v)) ∧
    (∀ w draw reader, (w + 8 ≤ a ∨ a + bs.length ≤ w) → (m.write a bs).readWord draw reader w = m.readWord draw reader w)

/-- TT_CMD (R84, R85). That START keeps HALT_CAUSE and lets the timetable issue from the next cycle on, and that FLUSH
acts at once where no core clock runs, is the model's reading (assumption logs 67 and 26). -/
def Obligations.TimetableCommands : Prop :=
  (∀ (s u : State) (t : Nat) (r : Req) (x : Session) (i : Nat), u = s.advance t → i = x.sel.get 0x2300 0x04 →
    (u.Writes r x 0x2300 0x05 [1] → (u.tt i).runs = false → u.sys.state ≠ .faultSafe → u.resetting = false →
      (u.joiner (i / 64)).resetting = false →
      ∃ s', exec (.ttStart t r) s = .next s' ∧ u.Replies s' (writeMsg r 0x2300 0x05 [1]) 0 [] ∧
        s'.tt i = { u.tt i with
          pc := (u.tt i).entry, loops := [], z := false, n := false, latches := 0, arrivals := 0, state := .ready
          wait := .none, held := none, readyAt := u.cycle + 1 } ∧
        (∀ k, k ≠ i → s'.tt k = u.tt k) ∧ { u.graftReply s' with tts := u.tts } = u) ∧
    (u.Writes r x 0x2300 0x05 [2] → (u.tt i).runs = false ∨ u.stopping i = true →
      ∃ s', exec (.ttStop t r) s = .next s' ∧ u.Replies s' (writeMsg r 0x2300 0x05 [2]) 0 [] ∧ u.graftReply s' = u) ∧
    (u.Writes r x 0x2300 0x05 [2] → (u.tt i).runs = true → u.stopping i = false →
      (u.woken.find? fun w => decide (w.tt = i ∧ w.cycle = u.cycle)) = none →
      ∃ s', exec (.ttStop t r) s = .next s' ∧ u.Replies s' (writeMsg r 0x2300 0x05 [2]) 0 [] ∧
        s'.stops = u.stops ++ [(i, u.cycle)] ∧ { u.graftReply s' with stops := u.stops } = u) ∧
    (∀ w, u.Writes r x 0x2300 0x05 [2] → (u.tt i).runs = true → u.stopping i = false →
      (u.woken.find? fun w => decide (w.tt = i ∧ w.cycle = u.cycle)) = some w →
      ∃ s', exec (.ttStop t r) s = .next s' ∧ s'.stops = u.stops ++ [(i, u.cycle)] ∧
        s'.tt i = { w.before with
          latches := w.before.latches ||| (u.tt i).latches, arrivals := (u.tt i).arrivals, fresh := (u.tt i).fresh } ∧
        (∀ k, k ≠ i → s'.tt k = u.tt k) ∧
        (∀ n d, d ∈ (s'.chan n).queue → d ∈ (u.chan n).queue) ∧
        (∀ n ∈ w.before.gang, ∀ d ∈ (s'.chan n).queue, d.order ≠ w.serial) ∧ s'.mem.bytes = u.mem.bytes) ∧
    (u.Writes r x 0x2300 0x05 [3] → (u.tt i).runs = false →
      ∃ s', exec (.ttFlush t r) s = .next s' ∧ u.Replies s' (writeMsg r 0x2300 0x05 [3]) 0 [] ∧
        (∀ n ∈ (u.tt i).gang, (s'.chan n).queue = [] ∧
          (u.clockRuns n = true → (s'.chan n).flushing = some (u.nextBoundary n) ∧ (s'.chan n).act = (u.chan n).act) ∧
          (u.clockRuns n = false → (s'.chan n).act = .idle ∧ (s'.chan n).armed = none ∧ (s'.chan n).arming = none)) ∧
        (∀ n, n ∉ (u.tt i).gang → s'.chan n = u.chan n) ∧ s'.mem.bytes = u.mem.bytes ∧
        { u.graftReply s' with chans := u.chans, mem := u.mem, card := u.card, sys := u.sys } = u) ∧
    (u.Writes r x 0x2300 0x05 [4] → (u.tt i).runs = false →
      ∃ s', exec (.ttClear t r) s = .next s' ∧ u.Replies s' (writeMsg r 0x2300 0x05 [4]) 0 [] ∧
        s'.tt i = (if (u.tt i).state = .faulted then { u.tt i with state := .idle, fault := {} } else u.tt i) ∧
        (∀ k, k ≠ i → s'.tt k = u.tt k) ∧ { u.graftReply s' with tts := u.tts } = u)) ∧
  (∀ (s : State) (t : Nat), s.still = false → State.quiet { s with stops := [] } = true → s.stops ≠ [] →
    s.cycle < (s.tick t).cycle →
    (∀ i, (s.advance t).tt i = if s.stopping i = true ∧ (s.tt i).runs = true then
      { s.tt i with state := .halted, haltCause := 1, wait := .none, held := none } else s.tt i) ∧
    { s.advance t with tts := s.tts, stops := s.stops } = s.tick t)

/-- LEADER (R64). The channel is the one that the session's LEADER_INDEX names. -/
def Obligations.LeaderOfAChannel : Prop :=
  ∀ (s u : State) (t : Nat) (r : Req) (x : Session) (data : Bytes) (n v old : Nat), u = s.advance t →
    u.Writes r x 0x2300 0x19 data → data.length = 2 → v = leNat data → n = x.sel.get 0x2300 0x18 →
    old = (u.chan n).leader → (v ≤ 6143 ∨ v = 0xFFFF) →
    ((old < 6144 ∧ (u.tt old).runs = true) ∨ (v < 6144 ∧ (u.tt v).runs = true) →
      ∃ s', exec (.leaderWrite t r data) s = .next s' ∧ u.TurnsAway s' (writeMsg r 0x2300 0x19 data) Abort.blockRunning.code) ∧
    ((old < 6144 → (u.tt old).runs = false) → (v < 6144 → (u.tt v).runs = false) →
      ∃ s', exec (.leaderWrite t r data) s = .next s' ∧ u.Replies s' (writeMsg r 0x2300 0x19 data) 0 [] ∧
        s'.chan n = { u.chan n with leader := v } ∧ (∀ m, m ≠ n → s'.chan m = u.chan m) ∧
        (∀ k, k ≠ old → s'.tt k = u.tt k) ∧
        (old < 6144 → { s'.tt old with gangMask := (u.tt old).gangMask } = u.tt old ∧
          (∀ m, m ∈ (s'.tt old).gang ↔ m ∈ (u.tt old).gang ∧ m ≠ n)) ∧
        { u.graftReply s' with tts := u.tts, chans := u.chans } = u)

/-- QUEUE_LIMIT (R92). The channel is the one that the session's PB_INDEX names. -/
def Obligations.QueueLimitAndRoom : Prop :=
  (∀ (s u : State) (t : Nat) (r : Req) (x : Session) (data : Bytes) (n v : Nat), u = s.advance t →
    u.Writes r x 0x2300 0x2B data → data.length = 1 → v = leNat data → n = x.sel.get 0x2300 0x28 → 1 ≤ v → v ≤ 64 →
    ∃ s', exec (.queueLimitWrite t r data) s = .next s' ∧ u.Replies s' (writeMsg r 0x2300 0x2B data) 0 [] ∧
      s'.chan n = { u.chan n with limit := v } ∧ (∀ m, m ≠ n → s'.chan m = u.chan m) ∧
      { u.graftReply s' with chans := u.chans } = u) ∧
  (∀ (s : State) (n : Nat), s.lockLost = false → (s.room n = true ↔ s.depth n < (s.chan n).limit)) ∧
  (∀ (s u : State) (t : Nat) (tt : Fin 6144) (f : Fetched), u = s.advance t → u.Issues tt f → f.opcode = 0x08 → f.rd = 0 → f.ra = 0 →
    (u.tt tt).gang ≠ [] → (∃ n ∈ (u.tt tt).gang, u.room n = false) →
    ∃ s', exec (.play t tt) s = .next s' ∧ s'.tt tt = (u.tt tt).waitsAt .queue f (u.readyAfter 2) ∧
      (∀ n, (s'.chan n).queue = (u.chan n).queue))

/-- Hall passes (R45, R46, R48, R49, R216, R218 to R220, R288). Requests are settled at the end of their ECLK cycle, and a
refused one counts in ODA_ABORTS: the model's choice (assumption logs 19 and 103). -/
def Obligations.HallPasses : Prop :=
  (∀ (s u : State) (t : Nat) (m : BulkMsg), u = s.advance t → u.TakesBulk m →
    ∀ p ∈ [(Instr.claim t m, 0x41), (.release t m, 0x42), (.handover t m, 0x43), (.reclaim t m, 0x44)],
      ∃ s', exec p.1 s = .next s' ∧
        s'.mem = { u.mem with passes := u.mem.passes ++ [{ cycle := u.cycle, type := p.2, msg := m }] } ∧
        s'.mgmt = (u.modPort m.port fun l => l.meetSeq m.seq).mgmt ∧
        s'.lanes = (u.modPort m.port fun l => l.meetSeq m.seq).lanes ∧
        { u.graft s' with mem := u.mem, mgmt := u.mgmt, lanes := u.lanes } = u) ∧
  (∀ (s y z u : State) (t c type : Nat) (m : BulkMsg) (p : Page), y = s.tick t → u = s.advance t →
    z = y.modPort m.port (fun l => { l with refused := l.refused + 1 }) →
    s.still = false → State.quiet { s with mem := { s.mem with passes := [] } } = true →
    s.mem.passes = [{ cycle := c, type := type, msg := m }] → s.cycle < y.cycle → s.bulkOpen m.port = true →
    p = s.mem.page m.page →
    (m.page < s.mem.bulkPages → s.filling m.page = false →
      (∀ p', ((type = 0x41 ∧ p.pass = .free ∧ p' = { p with pass := .host, accepted := 0 }) ∨
          (type = 0x41 ∧ p.pass = .host ∧ p' = p) ∨
          (type = 0x42 ∧ p.pass = .host ∧ p.closing = false ∧ p.waiting = none ∧ p' = { p with pass := .free, waiting := none }) ∨
          (type = 0x44 ∧ p.pass = .device ∧ p' = { p with pass := .host, accepted := 0, waiting := none })) →
        u.mem.page m.page = p' ∧ y.mem.OnPage u.mem m.page ∧ u.mem.passes = [] ∧ y.BulkReplies u m type 0 ∧
          { u with mem := y.mem, lanes := y.lanes, out := y.out } = y) ∧
      (type = 0x43 → p.pass = .host → p.closing = false → p.waiting = none →
        (m.w2 = 0 ∨ m.w2 = BitVec.ofNat 32 p.accepted) →
        u.mem.page m.page = { p with closing := true, handover := some m, waiting := none } ∧ y.mem.OnPage u.mem m.page ∧
          u.mem.passes = [] ∧ { u with mem := y.mem } = y) ∧
      (type = 0x43 → p.pass = .host → p.closing = false → p.waiting = none → m.w2 ≠ 0 → m.w2 ≠ BitVec.ofNat 32 p.accepted →
        u.mem.page m.page = p ∧ y.mem.OnPage u.mem m.page ∧ u.mem.passes = [] ∧
          z.BulkReplies u m 0x43 Abort.byteCount.code ∧ u.oda.aborts = y.oda.aborts + 1 ∧
          { u with mem := z.mem, lanes := z.lanes, out := z.out, oda := z.oda } = z)) ∧
    (∀ code, ((y.mem.bulkPages ≤ m.page ∧ (type = 0x41 ∨ type = 0x42 ∨ type = 0x43 ∨ type = 0x44) ∧
          code = Abort.range.code) ∨
        (m.page < y.mem.bulkPages ∧ type = 0x41 ∧ (p.pass = .device ∨ p.pass = .reading) ∧ code = Abort.pageBusy.code) ∨
        (m.page < y.mem.bulkPages ∧ type = 0x44 ∧ p.pass ≠ .device ∧ code = Abort.pageBusy.code) ∨
        (m.page < y.mem.bulkPages ∧ (type = 0x42 ∨ type = 0x43) ∧
          (p.pass ≠ .host ∨ p.closing = true ∨ p.waiting.isSome = true) ∧ code = Abort.pageNotHeld.code)) →
      u.mem.page m.page = p ∧ y.mem.OnPage u.mem m.page ∧ u.mem.passes = [] ∧ z.BulkReplies u m type code ∧
        u.oda.aborts = y.oda.aborts + 1 ∧ { u with mem := z.mem, lanes := z.lanes, out := z.out, oda := z.oda } = z)) ∧
  (∀ (s u : State) (t : Nat) (m : BulkMsg) (p : Page) (h : Fin 16384), u = s.advance t → u.still = false →
    u.bulkOpen m.port = true → h.val = m.page → p = u.mem.page m.page → p.handover = some m →
    ∃ s', exec (.handoverComplete t h) s = .next s' ∧ u.mem.OnPage s'.mem m.page ∧
      s'.mem.page m.page = { p with pass := .device, closing := false, handover := none, played := false } ∧
      (bitOf m.w0.toNat 29 = false → u.BulkReplies s' m 0x43 0 ∧
        { u.graft s' with mem := u.mem, lanes := u.lanes, out := u.out } = u) ∧
      (bitOf m.w0.toNat 29 = true → ∃ y : State, y.BulkReplies s' m 0x43 0 ∧ s'.truss = y.truss ∧
        u.Raises y (u.bellWord 0 (bits m.w1.toNat 7 0) (BitVec.ofNat 8 (bits m.w1.toNat 15 8)) u.trussNow srcHandover h)
          u.trussNow))

/-- BULK_WRITE (R45, R216 to R218, R288, R356). That a refused message counts in ODA_ABORTS is the model's choice
(assumption log 103). `y` is the state with the message's sequence number met, `x` with what has been played
and fetched ahead held, `z` the state in which the port counts the message as refused. -/
def Obligations.BulkWrites : Prop :=
  (∀ (s u x y z : State) (t : Nat) (m : BulkMsg) (data : Bytes) (p : Page) (a : Nat), u = s.advance t → u.TakesBulk m →
    p = u.mem.page m.page → m.length = data.length → 16 ≤ data.length →
    data.length ≤ (if m.port.isLane = true then 2097152 else 8960) → data.length % 16 = 0 → a = m.addr u.mem.bulkBase → y = u.modPort m.port (fun l => l.meetSeq m.seq) →
    x = y.holdFetched a data.length → z = y.modPort m.port (fun l => { l with refused := l.refused + 1 }) →
    (m.abs = false → m.page < u.mem.bulkPages → m.w1.toNat % 16 = 0 → m.w1.toNat + data.length ≤ 2097152 →
      p.pass = .host → p.closing = false →
      ∃ s', exec (.bulkWrite t m data) s = .next s' ∧ y.BulkReplies s' m 0x40 0 ∧ s'.mgmt = y.mgmt ∧
        (∀ i, cellAt s'.mem.bytes i = if a ≤ i ∧ i < a + data.length then data[i - a]? else cellAt u.mem.bytes i) ∧
        s'.mem.page m.page = { p with accepted := p.accepted + data.length } ∧
        (∀ q, q ≠ m.page → s'.mem.page q = u.mem.page q) ∧ s'.chans = x.chans ∧
        { s'.mem with
          pages := u.mem.pages, bytes := u.mem.bytes, ue := u.mem.ue, ce := u.mem.ce, ceCount := u.mem.ceCount
          ueGranules := u.mem.ueGranules } = u.mem ∧
        { u.graft s' with
          mem := u.mem, mgmt := u.mgmt, lanes := u.lanes, out := u.out, chans := u.chans, card := u.card, sys := u.sys
          net := u.net } = u) ∧
    (m.abs = false → m.page < u.mem.bulkPages → m.w1.toNat % 16 = 0 → m.w1.toNat + data.length ≤ 2097152 →
      p.pass ≠ .host ∨ p.closing = true →
      ∃ s', exec (.bulkWrite t m data) s = .next s' ∧ z.BulkReplies s' m 0x40 Abort.pageNotHeld.code ∧ s'.mgmt = z.mgmt ∧
        s'.mem = { u.mem with refused := u.mem.refused + 1 } ∧ s'.oda = { u.oda with aborts := u.oda.aborts + 1 } ∧
        { u.graft s' with mem := u.mem, mgmt := u.mgmt, lanes := u.lanes, out := u.out, oda := u.oda } = u) ∧
    (m.abs = true → a % 16 = 0 → a + data.length ≤ hbmBytes →
      (u.mem.bulkPages = 0 ∨ a + data.length ≤ u.mem.bulkBase * 2097152 ∨
        (u.mem.bulkBase + u.mem.bulkPages) * 2097152 ≤ a) →
      ∃ s', exec (.bulkWrite t m data) s = .next s' ∧ y.BulkReplies s' m 0x40 0 ∧ s'.mgmt = y.mgmt ∧
        (∀ i, cellAt s'.mem.bytes i = if a ≤ i ∧ i < a + data.length then data[i - a]? else cellAt u.mem.bytes i) ∧
        s'.chans = x.chans ∧
        { s'.mem with
          bytes := u.mem.bytes, ue := u.mem.ue, ce := u.mem.ce, ceCount := u.mem.ceCount
          ueGranules := u.mem.ueGranules } = u.mem ∧
        { u.graft s' with
          mem := u.mem, mgmt := u.mgmt, lanes := u.lanes, out := u.out, chans := u.chans, card := u.card, sys := u.sys
          net := u.net } = u)) ∧
  (∀ (s u x y w : State) (t : Nat) (m : BulkMsg) (l : Fin 48) (data : Bytes) (p : Page) (a : Nat), u = s.advance t →
    u.TakesBulk m → m.port = .lane l → p = u.mem.page m.page → data.length < m.length → m.length ≤ 2097152 →
    m.length % 16 = 0 → a = m.addr u.mem.bulkBase → y = u.modPort m.port (fun v => v.meetSeq m.seq) →
    x = y.holdFetched a data.length → m.abs = false → m.page < u.mem.bulkPages → m.w1.toNat % 16 = 0 →
    m.w1.toNat + m.length ≤ 2097152 → p.pass = .host → p.closing = false →
    w = y.modLane l (fun v => { v with
      msg := some { page := some m.page, addr := a + data.length, due := m.length - data.length, skip := false } }) →
    ∃ s', exec (.bulkWrite t m data) s = .next s' ∧ w.BulkReplies s' m 0x40 0 ∧
      (∀ i, cellAt s'.mem.bytes i = if a ≤ i ∧ i < a + data.length then data[i - a]? else cellAt u.mem.bytes i) ∧
      s'.mem.page m.page = { p with accepted := p.accepted + data.length } ∧
      (∀ q, q ≠ m.page → s'.mem.page q = u.mem.page q) ∧ s'.chans = x.chans ∧
      { u.graft s' with
        mem := u.mem, lanes := u.lanes, out := u.out, chans := u.chans, card := u.card, sys := u.sys } = u) ∧
  (∀ (s u z : State) (t : Nat) (m : BulkMsg) (data : Bytes) (a : Nat), u = s.advance t → u.TakesBulk m →
    a = m.addr u.mem.bulkBase →
    z = u.modPort m.port (fun l => { l.meetSeq m.seq with refused := (l.meetSeq m.seq).refused + 1 }) →
    (m.port.isLane = true → m.length = data.length) →
    ∀ code, ((code = Abort.length.code ∧ (m.length = 0 ∨ m.length % 16 ≠ 0 ∨ m.length ≠ data.length ∨
          (if m.port.isLane = true then 2097152 else 8960) < m.length)) ∨
        (code = Abort.range.code ∧ m.length = data.length ∧ 16 ≤ m.length ∧ m.length % 16 = 0 ∧
          m.length ≤ (if m.port.isLane = true then 2097152 else 8960) ∧
          ((m.abs = false ∧ (u.mem.bulkPages ≤ m.page ∨ m.w1.toNat % 16 ≠ 0 ∨ 2097152 < m.w1.toNat + m.length)) ∨
            (m.abs = true ∧ (a % 16 ≠ 0 ∨ hbmBytes < a + m.length ∨
              (u.mem.bulkPages ≠ 0 ∧ a < (u.mem.bulkBase + u.mem.bulkPages) * 2097152 ∧
                u.mem.bulkBase * 2097152 < a + m.length)))))) →
      ∃ s', exec (.bulkWrite t m data) s = .next s' ∧ z.BulkReplies s' m 0x40 code ∧ s'.mgmt = z.mgmt ∧
        s'.oda = { u.oda with aborts := u.oda.aborts + 1 } ∧
        { u.graft s' with mgmt := u.mgmt, lanes := u.lanes, out := u.out, oda := u.oda } = u) ∧
  (∀ (s u z : State) (t : Nat) (m : BulkMsg) (data : Bytes), u = s.advance t → u.sys.por = false → u.sys.pin = false →
    u.sys.state = .standby ∨ u.sys.state = .recess → m.port = .mgmt →
    (u.oda.sessions.any fun x => decide (x.port = m.port ∧ x.version = 1) && !x.proxy) = false →
    z = { u with mgmt := { u.mgmt.meetSeq m.seq with refused := (u.mgmt.meetSeq m.seq).refused + 1 } } →
    ∀ p ∈ ([(Instr.bulkWrite t m data, 0x40, m.length = data.length ∧ 16 ≤ m.length ∧ m.length % 16 = 0 ∧ m.length ≤ 8960),
        (.claim t m, 0x41, True), (.release t m, 0x42, True), (.handover t m, 0x43, True), (.reclaim t m, 0x44, True)] :
        List (Instr × Nat × Prop)), p.2.2 →
      ∃ s', exec p.1 s = .next s' ∧ z.BulkReplies s' m p.2.1 Abort.wrongState.code ∧ s'.mgmt = z.mgmt ∧
        s'.oda = { u.oda with aborts := u.oda.aborts + 1 } ∧
        { u.graft s' with mgmt := u.mgmt, out := u.out, lanes := u.lanes, oda := u.oda } = u)

/-- PATROL_SCRUB (R26, R43). That a corrected word not written whole since POR is not written back is the model's choice
(assumption log 3). -/
def Obligations.PatrolScrub : Prop :=
  ∀ (s u : State) (t : Nat) (w : Fin 12884901888) (raced : Bool), u = s.advance t → u.still = false → u.sys.state ≠ .boot →
    u.sys.state ≠ .standby →
    (∀ v, u.mem.readWord u.draws 0 (8 * w) = .data v →
      ∃ s', exec (.patrolScrub t w raced) s = .next s' ∧ u.graft s' = u) ∧
    (∀ v, u.mem.readWord u.draws 0 (8 * w) = .corrected v → (raced = true ∨ u.mem.word? (8 * w) = none) →
      ∃ s', exec (.patrolScrub t w raced) s = .next s' ∧ s'.mem = { u.mem with ceCount := u.mem.ceCount + 1 } ∧
        s'.card = { u.card with hbmCe := min (u.card.hbmCe + 1) (2 ^ 64 - 1) } ∧
        { u.graft s' with mem := u.mem, card := u.card } = u) ∧
    (∀ v bs, u.mem.readWord u.draws 0 (8 * w) = .corrected v → raced = false → u.mem.word? (8 * w) = some bs →
      ∃ s', exec (.patrolScrub t w raced) s = .next s' ∧ u.mem.ceCount + 1 ≤ s'.mem.ceCount ∧
        (∀ i, cellAt s'.mem.bytes i = if 8 * w.val ≤ i ∧ i < 8 * w.val + 8
          then (leBytes 8 v.toNat)[i - 8 * w.val]? else cellAt u.mem.bytes i) ∧
        8 * w.val ∉ s'.mem.ce ∧
        { s'.mem with
          bytes := u.mem.bytes, ue := u.mem.ue, ce := u.mem.ce, ceCount := u.mem.ceCount
          ueGranules := u.mem.ueGranules } = u.mem ∧
        { u.graft s' with mem := u.mem, card := u.card, chans := u.chans, sys := u.sys } = u) ∧
    (u.mem.readWord u.draws 0 (8 * w) = .bad →
      ∃ s', exec (.patrolScrub t w raced) s = .next s' ∧ s'.mem = { u.mem with ueScrub := u.mem.ueScrub + 1 } ∧
        s'.card = { u.card with hbmUe := satInc 64 u.card.hbmUe } ∧
        s'.sys.alert = u.sys.alert ||| BitVec.ofNat 16 (2 ^ 5) ∧
        { u.graft s' with mem := u.mem, card := u.card, sys := u.sys } = u)

/-- The tables of segment memory (R31, R32, R37, R44, R51). -/
def Obligations.SegmentTables : Prop :=
  ∀ (s u : State) (t : Nat) (r : Req) (x : Session) (data : Bytes), u = s.advance t →
    (∀ i, u.Writes r x 0x2200 0x02 data → data.length = 32 → i = x.sel.get 0x2200 0x01 → (segOf data).ok = true →
      ∃ s', exec (.segEntryWrite t r data) s = .next s' ∧ u.Replies s' (writeMsg r 0x2200 0x02 data) 0 [] ∧
        (∀ k, s'.mem.seg k = if k = i then segOf data else u.mem.seg k) ∧
        { s'.mem with segs := u.mem.segs, segsOld := u.mem.segsOld } = u.mem ∧ { u.graftReply s' with mem := u.mem } = u) ∧
    (u.Writes r x 0x2200 0x02 data → data.length = 32 → (segOf data).valid = true →
      (segOf data).lenG.toNat < 16 ∨ 2 ≤ (segOf data).format.toNat ∨
        103079215104 < 768 * (segOf data).base.toNat + (segOf data).lenG.toNat * (if (segOf data).format = 0 then 24 else 32) →
      ∃ s', exec (.segEntryWrite t r data) s = .next s' ∧ u.TurnsAway s' (writeMsg r 0x2200 0x02 data) Abort.range.code) ∧
    (∀ i, u.Writes r x 0x2200 0x04 data → data.length = 32 → i = x.sel.get 0x2200 0x03 →
      ∃ s', exec (.mprogEntryWrite t r data) s = .next s' ∧ u.Replies s' (writeMsg r 0x2200 0x04 data) 0 [] ∧
        (∀ k e, e < 4 → s'.mem.event k e = if k = i then eventOf data e else u.mem.event k e) ∧
        { s'.mem with events := u.mem.events, eventsOld := u.mem.eventsOld } = u.mem ∧ { u.graftReply s' with mem := u.mem } = u) ∧
    (∀ i, u.Writes r x 0x2200 0x06 data → data.length = 16 → i = x.sel.get 0x2200 0x05 → u.streams (some i) = false →
      u.mem.ringOk i (ringOf data) = true →
      ∃ s', exec (.ringEntryWrite t r data) s = .next s' ∧ u.Replies s' (writeMsg r 0x2200 0x06 data) 0 [] ∧
        (∀ k, s'.mem.ring k = if k = i then ringOf data else u.mem.ring k) ∧
        (∀ q, { s'.mem.page q with ring := (u.mem.page q).ring } = u.mem.page q) ∧
        (∀ q, (s'.mem.page q).ring = if q ∈ (ringOf data).pages then true
          else if q ∈ (u.mem.ring i).pages then false else (u.mem.page q).ring) ∧
        { s'.mem with rings := u.mem.rings, pages := u.mem.pages } = u.mem ∧ { u.graftReply s' with mem := u.mem } = u) ∧
    (∀ i g, u.Writes r x 0x2200 0x06 data → data.length = 16 → i = x.sel.get 0x2200 0x05 → g = ringOf data →
      (u.streams (some i) = true →
        ∃ s', exec (.ringEntryWrite t r data) s = .next s' ∧ u.TurnsAway s' (writeMsg r 0x2200 0x06 data) Abort.blockRunning.code) ∧
      (u.streams (some i) = false → g.valid = true →
        u.mem.bulkPages < g.first + g.count ∨ g.count = 0 ∨ 2 ≤ g.format.toNat ∨ g.lenG < 16 ∨
          (g.format = 0 ∧ 87360 < g.lenG) ∨ (g.format = 1 ∧ 65520 < g.lenG) ∨
          (∃ p ∈ u.mem.rings, p.1 ≠ i ∧ (∃ q ∈ g.pages, q ∈ p.2.pages)) →
        ∃ s', exec (.ringEntryWrite t r data) s = .next s' ∧ u.TurnsAway s' (writeMsg r 0x2200 0x06 data) Abort.range.code)) ∧
    (∀ p ∈ [(Instr.segEntryWrite t r data, 0x02, 32), (.mprogEntryWrite t r data, 0x04, 32), (.ringEntryWrite t r data, 0x06, 16)],
      u.Writes r x 0x2200 p.2.1 data → data.length ≠ p.2.2 →
      ∃ s', exec p.1 s = .next s' ∧ u.TurnsAway s' (writeMsg r 0x2200 p.2.1 data) Abort.length.code) ∧
    (∀ (pages : Bool) (base n : Nat), u.Writes r x 0x2200 (if pages then 0x09 else 0x08) data →
      data.length = (if pages then 2 else 4) → base = (if pages then u.mem.bulkBase else leNat data) →
      n = (if pages then leNat data else u.mem.bulkPages) → base ≤ 49151 → n ≤ 16384 → base + n ≤ 49152 →
      (∀ q : Page, (∃ k, (k, q) ∈ u.mem.pages) → q.pass ≠ .device ∧ q.pass ≠ .reading ∧ q.closing = false) →
      u.streams none = false →
      ∃ s', exec (.bulkWindowWrite t r pages data) s = .next s' ∧
        u.Replies s' (writeMsg r 0x2200 (if pages then 0x09 else 0x08) data) 0 [] ∧
        s'.mem.bulkBase = base ∧ s'.mem.bulkPages = n ∧ (∀ q, q < 16384 → (s'.mem.page q).pass = .free ∧ (s'.mem.page q).pins = 0) ∧
        (∀ k, k < 256 → (s'.mem.ring k).valid = false) ∧ s'.mem.bytes = u.mem.bytes ∧ s'.mem.segs = u.mem.segs ∧
        { u.graftReply s' with mem := u.mem } = u)

/-- TT_GANG (R65), EVR_TAIL and EVR_ENABLE (R75). -/
def Obligations.GangAndEventRingWrites : Prop :=
  ∀ (s u : State) (t : Nat) (r : Req) (x : Session) (data : Bytes) (v : Nat), u = s.advance t → v = leNat data →
    (∀ i base mask, u.Writes r x 0x2300 0x0D data → data.length = 4 → i = x.sel.get 0x2300 0x04 → (u.tt i).runs = false →
      v = mask * 65536 + base → base < 64 → mask < 65536 →
      (∀ b, b < 16 → bitOf mask b = true → base + b ≤ 63 ∧ (u.chan (base + b)).leader = i) →
      ∃ s', exec (.ttGangWrite t r data) s = .next s' ∧ u.Replies s' (writeMsg r 0x2300 0x0D data) 0 [] ∧
        s'.tt i = { u.tt i with gangBase := base, gangMask := BitVec.ofNat 16 mask } ∧
        (∀ k, k ≠ i → s'.tt k = u.tt k) ∧ { u.graftReply s' with tts := u.tts } = u) ∧
    (∀ i base mask b, u.Writes r x 0x2300 0x0D data → data.length = 4 → i = x.sel.get 0x2300 0x04 → (u.tt i).runs = false →
      v = mask * 65536 + base → base < 64 → mask < 65536 → (∀ c, c < 16 → bitOf mask c = true → base + c ≤ 63) →
      b < 16 → bitOf mask b = true → (u.chan (base + b)).leader ≠ i →
      ∃ s', exec (.ttGangWrite t r data) s = .next s' ∧ u.TurnsAway s' (writeMsg r 0x2300 0x0D data) Abort.notLeader.code) ∧
    (∀ w : Word, u.Writes r x 0x2300 0x22 data → data.length = 4 → w = BitVec.ofNat 32 v → (u.evr.head - w).toNat ≤ 2048 →
      ∃ s', exec (.evrTailWrite t r data) s = .next s' ∧ u.Replies s' (writeMsg r 0x2300 0x22 data) 0 [] ∧
        s'.evr = { u.evr with tail := w, tailWas := some (u.cycle, u.evr.tailIn u.cycle) } ∧ { u.graftReply s' with evr := u.evr } = u) ∧
    (u.Writes r x 0x2300 0x22 data → data.length = 4 → 2048 < (u.evr.head - BitVec.ofNat 32 v).toNat →
      ∃ s', exec (.evrTailWrite t r data) s = .next s' ∧ u.TurnsAway s' (writeMsg r 0x2300 0x22 data) Abort.range.code) ∧
    (u.Writes r x 0x2300 0x25 data → data.length = 1 → v ≤ 1 →
      (v = 0 → (u.tts.any fun p => decide (p.2.state = .waiting ∧ p.2.wait = .evr)) = false) →
      ∃ s', exec (.evrEnableWrite t r data) s = .next s' ∧ u.Replies s' (writeMsg r 0x2300 0x25 data) 0 [] ∧
        s'.evr = { u.evr with enable := decide (v = 1) } ∧ { u.graftReply s' with evr := u.evr } = u) ∧
    (u.Writes r x 0x2300 0x25 data → data.length = 1 → v = 0 →
      (u.tts.any fun p => decide (p.2.state = .waiting ∧ p.2.wait = .evr)) = true →
      ∃ s', exec (.evrEnableWrite t r data) s = .next s' ∧ u.TurnsAway s' (writeMsg r 0x2300 0x25 data) Abort.blockRunning.code)

/-- CODE_DATA and SHARED_DATA (R83, R55, R292). -/
def Obligations.CodeAndSharedWindows : Prop :=
  ∀ (s u : State) (t : Nat) (r : Req) (x : Session) (data : Bytes) (j o : Nat), u = s.advance t → j = x.sel.get 0x2300 0x01 →
    (u.Writes r x 0x2300 0x03 data → 4 ≤ data.length → data.length ≤ 8960 → data.length % 4 = 0 →
      o = x.sel.get 0x2300 0x02 → o % 4 = 0 → u.sec.reqSigned = false →
      (o + data.length ≤ 131072 →
        ∃ s', exec (.codeDataWrite t r data) s = .next s' ∧ u.Replies s' (writeMsg r 0x2300 0x03 data) 0 [] ∧
          u.Selects s' r 0x2300 0x02 (o + data.length) ∧
          (∀ k, sget (fun _ => (0 : Word)) (s'.joiner j).code k =
            if o / 4 ≤ k ∧ k < o / 4 + data.length / 4 then wordAt data (k - o / 4)
            else sget (fun _ => 0) (u.joiner j).code k) ∧
          (∀ a, a ∈ (s'.joiner j).codeUe ↔ a ∈ (u.joiner j).codeUe ∧ ¬ (o / 4 ≤ a ∧ a < o / 4 + data.length / 4)) ∧
          { s'.joiner j with
            code := (u.joiner j).code, codeUe := (u.joiner j).codeUe, codeOld := (u.joiner j).codeOld
            codeUeOld := (u.joiner j).codeUeOld } = u.joiner j ∧
          (∀ k, k ≠ j → s'.joiner k = u.joiner k) ∧ { u.graftReply s' with joiners := u.joiners } = u) ∧
      (131072 < o + data.length →
        ∃ s', exec (.codeDataWrite t r data) s = .next s' ∧
          u.TurnsAway s' (writeMsg r 0x2300 0x03 data) Abort.range.code)) ∧
    (u.Writes r x 0x2300 0x03 data → 4 ≤ data.length → data.length ≤ 8960 → data.length % 4 = 0 →
      o = x.sel.get 0x2300 0x02 → o + data.length ≤ 131072 → u.sec.reqSigned = true →
        ∃ s', exec (.codeDataWrite t r data) s = .next s' ∧
          u.Replies s' (writeMsg r 0x2300 0x03 data) Abort.unsignedCode.code [] ∧ s'.oda.aborts = u.oda.aborts + 1 ∧
          s'.sec = { u.sec with refusals := u.sec.refusals + 1 } ∧ { u.graftRefusal s' with sec := u.sec } = u) ∧
    (u.Writes r x 0x2300 0x14 data → 4 ≤ data.length → data.length ≤ 8960 → data.length % 4 = 0 →
      o = x.sel.get 0x2300 0x13 → o % 4 = 0 →
      (o + data.length ≤ 16384 →
        ∃ s', exec (.sharedDataWrite t r data) s = .next s' ∧ u.Replies s' (writeMsg r 0x2300 0x14 data) 0 [] ∧
          u.Selects s' r 0x2300 0x13 (o + data.length) ∧
          (∀ k, sget (fun _ => (0 : Word)) (s'.joiner j).shared k =
            if o / 4 ≤ k ∧ k < o / 4 + data.length / 4 then wordAt data (k - o / 4)
            else sget (fun _ => 0) (u.joiner j).shared k) ∧
          (s'.joiner j).jobs.map (fun w => (w.tt, w.src, w.dst, w.units)) =
            (u.joiner j).jobs.map (fun w => (w.tt, w.src, w.dst, w.units)) ∧
          { s'.joiner j with
            shared := (u.joiner j).shared, sharedOld := (u.joiner j).sharedOld, jobs := (u.joiner j).jobs } = u.joiner j ∧
          (∀ k, k ≠ j → s'.joiner k = u.joiner k) ∧ { u.graftReply s' with joiners := u.joiners } = u) ∧
      (16384 < o + data.length →
        ∃ s', exec (.sharedDataWrite t r data) s = .next s' ∧
          u.TurnsAway s' (writeMsg r 0x2300 0x14 data) Abort.range.code)) ∧
    (u.Reads r x 0x2300 0x03 → o = x.sel.get 0x2300 0x02 →
      (131072 ≤ o → ∃ s', exec (.codeDataRead t r) s = .next s' ∧
        u.TurnsAway s' (readMsg r 0x10 0x2300 0x03) Abort.range.code) ∧
      (o < 131072 → ∃ s', exec (.codeDataRead t r) s = .next s' ∧
        u.Replies s' (readMsg r 0x10 0x2300 0x03) 0 (memBytes (u.joiner j).code o (min 8960 (131072 - o))) ∧
        u.Selects s' r 0x2300 0x02 (o + min 8960 (131072 - o)) ∧ u.graftReply s' = u)) ∧
    (u.Reads r x 0x2300 0x14 → o = x.sel.get 0x2300 0x13 →
      (16384 ≤ o → ∃ s', exec (.sharedDataRead t r) s = .next s' ∧
        u.TurnsAway s' (readMsg r 0x10 0x2300 0x14) Abort.range.code) ∧
      (o < 16384 → ∃ s', exec (.sharedDataRead t r) s = .next s' ∧
        u.Replies s' (readMsg r 0x10 0x2300 0x14) 0 (memBytes (u.joiner j).shared o (min 8960 (16384 - o))) ∧
        u.Selects s' r 0x2300 0x13 (o + min 8960 (16384 - o)) ∧ u.graftReply s' = u))

/-- Host writes of channel settings (R393, R124, R131). -/
def Obligations.ChannelSettingsWait : Prop :=
  ∀ (s u : State) (t : Nat) (r : Req) (x : Session) (n : Fin 64) (data : Bytes) (v : Nat) (c : Channel), u = s.advance t →
    v = leNat data → u.still = false → c = (u.upTo n).chan n →
    (∀ p ∈ ([(ChannelSetting.mode, 0x04, 1, v ≤ 3, SettingValue.mode (BitVec.ofNat 2 v)),
            (.phaseOfs, 0x07, 2, True, .phaseOfs (BitVec.ofNat 16 v)), (.ncoAmp, 0x08, 2, True, .ncoAmp (BitVec.ofNat 16 v)),
            (.gain, 0x09, 2, True, .gain (BitVec.ofNat 16 v)), (.offset, 0x0A, 2, True, .offset (BitVec.ofNat 16 v)),
            (.hold, 0x0B, 2, 1 ≤ v ∧ v ≤ 256, .hold v),
            (.parkCode, 0x0C, 2, v ≤ 2047 ∨ (63488 ≤ v ∧ v ≤ 65535), .park (BitVec.ofNat 12 v))] :
            List (ChannelSetting × Nat × Nat × Prop × SettingValue)),
      u.Writes r x (0x2400 + n) p.2.1 data → data.length = p.2.2.1 → p.2.2.2.1 →
      ∃ s', exec (.channelSettingWrite t r n p.1 data) s = .next s' ∧
        u.Replies s' (writeMsg r (0x2400 + n) p.2.1 data) 0 [] ∧ u.OnChan (u.graftReply s') n ∧
        s'.chan n = { c with pend := c.pend ++ [(u.now, p.2.2.2.2)] }) ∧
    (∀ i, i = x.sel.get 0x2300 0x28 → u.Writes r x 0x2300 0x2A data → data.length = 1 → v ≤ 1 →
      ∃ s', exec (.channelSettingWrite t r n .pbFill data) s = .next s' ∧
        u.Replies s' (writeMsg r 0x2300 0x2A data) 0 [] ∧ u.OnChan (u.graftReply s') i ∧
        s'.chan i = { u.chan i with pend := (u.chan i).pend ++ [(u.now, .fill (decide (v = 1)))] }) ∧
    (u.Writes r x (0x2400 + n) 0x06 data → data.length = 2 →
      ∃ s', exec (.ftwHiWrite t r n data) s = .next s' ∧ u.Replies s' (writeMsg r (0x2400 + n) 0x06 data) 0 [] ∧
        u.OnChan (u.graftReply s') n ∧
        s'.chan n = { c with pend := c.pend ++ [(u.now, .ftw (BitVec.ofNat 48 (v * 2 ^ 32 + c.ftwLo.toNat)))] }) ∧
    (u.Writes r x (0x2400 + n) 0x03 data → data.length = 1 →
      ∃ s', exec (.spanCfgWrite t r n data) s = .next s' ∧ u.Replies s' (writeMsg r (0x2400 + n) 0x03 data) 0 [] ∧
        u.OnChan (u.graftReply s') n ∧
        s'.chan n = { c with spanPending := some (BitVec.ofNat 3 v, u.now, none) }) ∧
    (∀ p ∈ ([(Instr.channelSettingWrite t r n .mode data, 0x2400 + n.val, 0x04, 1, 3 < v),
            (.channelSettingWrite t r n .hold data, 0x2400 + n.val, 0x0B, 2, v = 0 ∨ 256 < v),
            (.channelSettingWrite t r n .parkCode data, 0x2400 + n.val, 0x0C, 2, 2047 < v ∧ v < 63488),
            (.channelSettingWrite t r n .pbFill data, 0x2300, 0x2A, 1, 1 < v)] : List (Instr × Nat × Nat × Nat × Prop)),
      u.Writes r x p.2.1 p.2.2.1 data → data.length = p.2.2.2.1 → p.2.2.2.2 →
      ∃ s', exec p.1 s = .next s' ∧ u.TurnsAway s' (writeMsg r p.2.1 p.2.2.1 data) Abort.range.code)

/-- Channel states (R134 to R138, R319). -/
def Obligations.ChannelStates : Prop :=
  (∀ (s u : State) (t : Nat) (n : Fin 64) (c : Channel), u = s.advance t → u.still = false → c = (u.upTo n).chan n →
    (∀ (r : Req) (x : Session) (data : Bytes) (v : Nat), v = leNat data → u.Writes r x (0x2400 + n) 0x01 data →
      data.length = 4 →
      (bitOf v 0 = true → u.sys.state ≠ .faultSafe →
        ∃ s', exec (.channelEnable t r n data) s = .next s' ∧ u.OnChan (u.graftReply s') n ∧
          (c.state ≠ .fault ∨ bitOf v 15 = false → u.Replies s' (writeMsg r (0x2400 + n) 0x01 data) 0 []) ∧
          (c.state ≠ .fault → c.enable = false → c.disabling = none →
            s'.chan n = { c with
              detectEn := bitOf v 1, enable := true
              enabling := some (if (u.upTo n).clockRuns n = true then max u.now ((u.upTo n).boundaryFs n c.idleFrom)
                else u.now) }) ∧
          (∀ k b, c.state ≠ .fault → c.enable = false → c.disabling = some (k, b) →
            s'.chan n = { c with detectEn := bitOf v 1, enable := true, disabling := some (k, true) }) ∧
          (c.state ≠ .fault → c.enable = true → s'.chan n = { c with detectEn := bitOf v 1 }) ∧
          (c.state = .fault → bitOf v 15 = false → s'.chan n = { c with detectEn := bitOf v 1, enable := true })) ∧
      (bitOf v 0 = true → u.sys.state = .faultSafe →
        ∃ s', exec (.channelEnable t r n data) s = .next s' ∧ u.Replies s' (writeMsg r (0x2400 + n) 0x01 data)
          Abort.wrongState.code [] ∧ u.OnChan (u.graftRefusal s') n ∧ s'.chan n = c) ∧
      (bitOf v 0 = false → c.state ≠ .fault →
        ∃ s', exec (.channelDisable t r n data) s = .next s' ∧ u.Replies s' (writeMsg r (0x2400 + n) 0x01 data) 0 [] ∧
          u.OnChan (u.graftReply s') n ∧
          s'.chan n = if c.enable = true then { c with
              detectEn := bitOf v 1, enable := false, disabling := some ((u.upTo n).nextBoundary n, false) }
            else { c with detectEn := bitOf v 1 }) ∧
      (bitOf v 15 = true → c.state = .fault → (u.sys.state = .faultSafe → bitOf v 0 = false) →
        ∃ s', exec (.faultClr t r n data) s = .next s' ∧ u.Replies s' (writeMsg r (0x2400 + n) 0x01 data) 0 [] ∧
          u.OnChan (u.graftReply s') n ∧
          s'.chan n = { c with
            detectEn := bitOf v 1, state := .off, enable := false, enabling := none, disabling := none })) ∧
    (∀ x k, (u.chan n).enabling = some x → k = u.boundaryFrom n (max x (u.chan n).runsFrom + 2 * usFs) →
      u.clockRuns n = true → k ≤ u.boundaryNow n →
      ∃ s', exec (.enablingComplete t n) s = .next s' ∧ u.OnChan (u.graft s') n ∧
        (s'.chan n).state = .parked ∧ (s'.chan n).enabling = none ∧ (s'.chan n).idleFrom = k ∧
        (s'.chan n).queue = ((u.syncTo n k).chan n).queue) ∧
    (∀ legs : BitVec 6, u.tripFlags n legs ≠ 0 → (u.chan n).state.consumes = true → (u.chan n).detectEn = true →
      u.clockRuns n = true →
      ∃ s', exec (.detectorTrip t n legs) s = .next s' ∧ (s'.chan n).state = .fault ∧ (s'.chan n).act = .idle ∧
        (s'.chan n).marks = 0 ∧ (s'.chan n).complFaults = c.complFaults + 1 ∧
        (s'.chan n).flags = c.flags ||| BitVec.ofNat 8 (4 * (u.tripFlags n legs).toNat) ∧
        (∀ m, m < 64 → m ≠ n.val → { s'.chan m with broke := (u.chan m).broke } = u.chan m) ∧
        s'.mem.bytes = u.mem.bytes ∧ s'.tts = u.tts)) ∧
  (∀ (y : State) (n : Nat) (k : Nat) (again : Bool), (y.chan n).disabling = some (k, again) → y.reached n k = true →
    (y.chan n).resetK = none → (y.chan n).reloadK = none → (y.chan n).flushing = none →
    ((y.dueAt n).chan n).state = .off ∧ ((y.dueAt n).chan n).act = .idle ∧ ((y.dueAt n).chan n).marks = 0 ∧
      ((y.dueAt n).chan n).pulses = [] ∧ ((y.dueAt n).chan n).disabling = none ∧
      (∀ m, m ≠ n → (y.dueAt n).chan m = y.chan m) ∧ (y.dueAt n).mem.bytes = y.mem.bytes ∧ (y.dueAt n).tts = y.tts)

/-- Visibility, start, end and succession of descriptors (R67, R69, R90, R93, R94), and the pins they give up (R46,
R47). That the hold factor is taken once for each repetition is the model's reading (assumption log 24). -/
def Obligations.DescriptorsInOrder : Prop :=
  ∀ (s u : State) (t : Nat) (n : Fin 64), u = s.advance t →
    (∀ d pre post, u.still = false → (u.chan n).queue = pre ++ d :: post → (∀ e ∈ pre, e.visible = true) →
      d.visible = false → u.clockRuns n = true → u.crossed d = true → u.visibleFs n d ≤ u.now →
      ∃ s', exec (.descriptorVisible t n) s = .next s' ∧ u.OnChan (u.graft s') n ∧
        ∃ fill, (s'.chan n).queue = pre ++ { d with visible := true, visibleAt := u.visibleFs n d, fillAt := fill } :: post
          ∧ (d.arms = false → fill = none)) ∧
    (∀ d r k, u.Plays n k → (u.chan n).act = .idle → (u.chan n).queue = d :: r → d.kind = .play → d.underrunEsc = false →
      d.visible = true → k = u.idleStart n d → u.NoFiring n (u.boundaryNow n) →
      ∃ s', exec (.descriptorStart t n) s = .next s' ∧ u.OnChan (u.graft s') n ∧
        (s'.chan n).act = .play d k d.reps.toNat (u.chanAt n k).vals.hold ∧ (s'.chan n).queue = r ∧
        (s'.chan n).begun = true ∧ (s'.chan n).emptied = false ∧ (s'.chan n).events = d.activeEvents ∧ u.GivesUp s' []) ∧
    (∀ d k0 k, u.Plays n k → (u.chan n).act = .gap d k0 → k = k0 + d.reps.toNat → u.NoFiring n k →
      ((u.chan n).queue = [] →
        ∃ s', exec (.descriptorEnd t n) s = .next s' ∧ u.OnChan (u.graft s') n ∧ (s'.chan n).act = .idle ∧
          (s'.chan n).idleFrom = k ∧ (s'.chan n).emptied = true ∧ (s'.chan n).empties = (u.chan n).empties + 1 ∧
          (s'.chan n).queue = [] ∧ u.GivesUp s' d.allPins) ∧
      (∀ g r, (u.chan n).queue = g :: r → u.GapFollows n k g →
        ∃ s', exec (.descriptorEnd t n) s = .next s' ∧ u.OnChan (u.graft s') n ∧ (s'.chan n).act = .gap g k ∧
          (s'.chan n).queue = r ∧ u.GivesUp s' d.allPins)) ∧
    (∀ d k0 left h k g r, u.Plays n k → (u.chan n).act = .play d k0 left h → k = k0 + d.lenG.toNat * h →
      u.NoFiring n k →
      (left ≤ 1 → (u.chan n).queue = g :: r → u.GapFollows n k g →
        ∃ s', exec (.descriptorEnd t n) s = .next s' ∧ u.OnChan (u.graft s') n ∧ (s'.chan n).act = .gap g k ∧
          (s'.chan n).queue = r ∧ u.GivesUp s' d.allPins) ∧
      (1 < left →
        ∃ s', exec (.repetitionEnd t n) s = .next s' ∧ u.OnChan (u.graft s') n ∧
          (s'.chan n).act = .play d k (left - 1) (u.chanAt n k).vals.hold ∧ (s'.chan n).queue = (u.chan n).queue ∧
          (s'.chan n).events = d.activeEvents ∧ u.GivesUp s' [])) ∧
    (∀ d k0 k g r, u.Plays n k → (u.chan n).act = .gate d k0 → k = max k0 (u.boundaryOfTicks n d.gateTime) →
      u.NoFiring n k → (u.chan n).queue = g :: r → u.GapFollows n k g →
      ∃ s', exec (.timegateOpen t n) s = .next s' ∧ u.OnChan (u.graft s') n ∧ (s'.chan n).act = .gap g k ∧
        (s'.chan n).queue = r)

/-- Escapes (R97, R99, R100, R187). That a bell passed before an escape fires no later one, and that the end of an
escape counts as a boundary of R100, is the model's reading (assumption logs 30 and 113). -/
def Obligations.Escapes : Prop :=
  ∀ (s u : State) (t : Nat) (n : Fin 64), u = s.advance t →
    (∀ e, u.still = false → (u.chan n).arming = some e → u.clockRuns n = true → e.k ≤ u.boundaryNow n →
      ∃ s', exec (.escapeArmed t n) s = .next s' ∧ u.OnChan (u.graft s') n ∧ (s'.chan n).armed = some e ∧
        (s'.chan n).arming = none ∧ (s'.chan n).queue = (u.chan n).queue) ∧
    (∀ e k, u.Plays n k → u.firing n = some (k, e) → u.truss.broken = false ∨ (u.chan n).broke ≠ .pending →
      ∃ s', exec (.escapeFire t n) s = .next s' ∧ u.OnChan (u.graft s') n ∧
        (∃ v h, (s'.chan n).act = .escape { e.d with head := v } k h true) ∧
        (s'.chan n).escFires = (u.chan n).escFires + 1 ∧ (s'.chan n).begun = true ∧ (s'.chan n).events = e.d.activeEvents ∧
        (s'.chan n).pbFlags.getLsbD 4 = true ∧
        ((u.chan n).queue = [] → (s'.chan n).armed = none ∧ (s'.chan n).bells = []) ∧
        (∀ g r, (u.chan n).queue = g :: r → g.kind = .gap →
          ((u.chan n).act = .idle → (s'.chan n).queue = g :: r ∧
            (s'.chan n).pbFlags.getLsbD 5 = (u.chan n).pbFlags.getLsbD 5 ∧ u.GivesUp s' []) ∧
          ∀ d k0 left h, (u.chan n).act = .play d k0 left h →
            (k < k0 + d.lenG.toNat * h → (s'.chan n).queue = g :: r ∧
              (s'.chan n).pbFlags.getLsbD 5 = (u.chan n).pbFlags.getLsbD 5 ∧ u.GivesUp s' d.allPins) ∧
            (k = k0 + d.lenG.toNat * h → (s'.chan n).pbFlags.getLsbD 5 = true ∧
              (1 < left → (s'.chan n).queue = g :: r) ∧
              (left ≤ 1 → u.GapFollows n k g → (s'.chan n).queue = r)))) ∧
    (∀ d k0 h w k, u.Plays n k → (u.chan n).act = .escape d k0 h w → k = k0 + d.lenG.toNat * h → u.NoFiring n k →
      ((u.chan n).queue = [] →
        ∃ s', exec (.escapeEnd t n) s = .next s' ∧ u.OnChan (u.graft s') n ∧ (s'.chan n).act = .idle ∧
          (s'.chan n).idleFrom = k ∧ (s'.chan n).emptied = true ∧ (s'.chan n).empties = (u.chan n).empties + 1 ∧
          u.GivesUp s' d.allPins) ∧
      (∀ g r, (u.chan n).queue = g :: r → u.GapFollows n k g →
        ∃ s', exec (.escapeEnd t n) s = .next s' ∧ u.OnChan (u.graft s') n ∧ (s'.chan n).act = .gap g k ∧
          (s'.chan n).queue = r ∧ u.GivesUp s' d.allPins))

/-- Streams (R46, R49, R52, R53, R109 to R112). That the commands of one ECLK cycle stand in arbitration order, and
where a start that becomes fixed late is checked, is the model's reading (assumption logs 19 and 105). -/
def Obligations.StreamPages : Prop :=
  (∀ (s u : State) (t : Nat) (n : Fin 64), u = s.advance t → u.Plays n 0 →
    (∀ j x, u.streamDue n = some (j, x) → x ≤ u.now →
      (u.mem.checks.any fun v => decide (v.channel = n.val) && (v.again == false)) = false →
      ∃ s', exec (.streamCheck t n) s = .next s' ∧ u.graft s' = { u with mem := { u.mem with
        checks := u.mem.checks ++ [{ cycle := u.cycle, channel := n, again := false, k := j, at_ := x }] } }) ∧
    (∀ d b j len h, (u.chan n).latePage = some d → b = u.boundaryNow n → (j, len, h) = u.lateSlot n d →
      u.boundaryFs n (d.sched.getD 0) < u.boundaryFs n b + leadFs →
      d.lateKeep = false ∨ u.boundaryFrom n (u.boundaryFs n b + leadFs) < j + len →
      (u.mem.checks.any fun v => decide (v.channel = n.val) && (v.again == true)) = false →
      ∃ s', exec (.underrunRecheck t n) s = .next s' ∧ u.OnChan (u.graft s') n ∧ s'.mem.checks = u.mem.checks ++
        [{ cycle := u.cycle, channel := n, again := true, k := b, at_ := u.boundaryFs n b }]) ∧
    (∀ d pg k0 x h, (u.chan n).act = .stream d pg k0 x h → d.page = some pg →
      k0 + (u.mem.ring d.ringNo).granules h ≤ u.boundaryNow n →
      ∃ s', exec (.streamPageComplete t n) s = .next s' ∧ u.OnChan (u.graft s') n ∧
        (s'.chan n).act = .stream { d with page := none } pg k0 x h ∧ (∀ q, q ≠ pg → s'.mem.page q = u.mem.page q) ∧
        ((u.mem.page pg).pins ≤ 1 →
          s'.mem.page pg = { u.mem.page pg with pins := 0, pass := .free, played := false }) ∧
        (1 < (u.mem.page pg).pins →
          s'.mem.page pg = { u.mem.page pg with pins := (u.mem.page pg).pins - 1, played := true }))) ∧
  (∀ (s y u : State) (t : Nat) (v : PageCheck) (n : Fin 64) (d : Descriptor) (p pol : Nat), y = s.tick t → u = s.advance t →
    s.still = false → State.quiet { s with mem := { s.mem with checks := [] } } = true → s.mem.checks = [v] →
    s.cycle < y.cycle → v.channel = n → p = y.ringPage v.cycle d.ringNo d.serial → pol = (y.tt d.tt).underrun.toNat →
    (v.again = false → (y.chan n).queue.find? Descriptor.unchecked = some d →
      ((y.mem.page p).ready = true →
        y.OnChan u n ∧ u.mem.checks = [] ∧ u.chan n = { y.chan n with
          queue := onStream (fun d => { d with page := some p, sched := some v.k }) (y.chan n).queue } ∧
        u.mem.page p = { y.mem.page p with pass := .reading, pins := (y.mem.page p).pins + 1 } ∧
        (∀ q, q ≠ p → u.mem.page q = y.mem.page q) ∧ y.RingGoesOn u d v.cycle (some n.val)) ∧
      ((y.mem.page p).ready = false → pol % 4 ≠ 2 ∨ y.escapeUsable (bits pol 31 16) = false →
        y.OnChan u n ∧ u.mem = { y.mem with checks := [] } ∧
        (u.chan n).queue = onStream (fun e => { e with
          late := true, sched := some v.k, lateKeep := decide (pol % 4 ≠ 0), latePark := bitOf pol 2 }) (y.chan n).queue ∧
        (u.chan n).underruns = (y.chan n).underruns + 1 ∧ u.card.underruns = satInc 32 y.card.underruns) ∧
      ((y.mem.page p).ready = false → pol % 4 = 2 → y.escapeUsable (bits pol 31 16) = true →
        u.mem.checks = [] ∧ u.mem.pages = y.mem.pages ∧ y.RingGoesOn u d v.cycle none ∧
        (u.chan n).queue = onStream (fun d => d.toEscape y.mem (bits pol 31 16) v.k) (y.chan n).queue ∧
        (u.chan n).underruns = (y.chan n).underruns + 1 ∧ u.card.underruns = satInc 32 y.card.underruns ∧
        y.Raises u (y.bellWord 0 (bits pol 15 8) (BitVec.ofNat 8 d.ringNo) (y.trussAt v.at_) srcUnderrun n)
          (y.trussAt v.at_))) ∧
    (∀ k0 h, v.again = true → (y.chan n).act = .late d k0 h → d.missing = true →
      ((y.mem.page p).ready = true →
        y.OnChan u n ∧ u.mem.checks = [] ∧ u.chan n = { y.chan n with
          act := .late { d with
            page := some p, startAt := some (y.boundaryFrom n (y.boundaryFs n v.k + leadFs)) } k0 h } ∧
        u.mem.page p = { y.mem.page p with pass := .reading, pins := (y.mem.page p).pins + 1 } ∧
        (∀ q, q ≠ p → u.mem.page q = y.mem.page q) ∧ y.RingGoesOn u d v.cycle (some n.val)) ∧
      ((y.mem.page p).ready = false → d.lateKeep = true →
        k0 + (y.mem.ring d.ringNo).granules h ≤ y.boundaryFrom n (y.boundaryFs n (v.k + 1) + leadFs) →
        y.OnChan u n ∧ u.mem.checks = [] ∧ u.mem.pages = y.mem.pages ∧ y.RingGoesOn u d v.cycle none ∧ u.chan n = { y.chan n with
          act := .late { d with skipped := true } k0 h
          dropped := (y.chan n).dropped + (y.mem.ring d.ringNo).granules h })))

/-- Markers, pulses, ramp, span, mute and settings (R38, R39, R124, R126, R131, R132, R393). When MK levels and pulses
show at the ball is the model's reading (assumption log 82). -/
def Obligations.ChannelMoments : Prop :=
  ∀ (s u : State) (t : Nat) (n : Fin 64), u = s.advance t →
    (∀ (e : Fin 4) (x : Nat) (c : Channel) (d : Descriptor) (k0 left h : Nat), c = u.chan n → x = c.eventSample e →
      u.Plays n 0 → c.act = .play d k0 left h → c.events.Sublist [0, 1, 2, 3] → e.val ∈ c.events →
      x ≤ u.sampleNow n → u.clearTo n (x / 16) = true →
      ∃ s', exec (.markerEventFire t n e) s = .next s' ∧ u.OnChan (u.graft s') n ∧
        (∀ i, i ∈ (s'.chan n).events ↔ i ∈ c.events ∧ ¬ c.FiresBy e i) ∧
        (∀ p, p < 16 → (∀ i, c.FiresBy e i → (d.mprog[i]?.getD {}).mask.getLsbD p = false) →
          (s'.chan n).marks.getLsbD p = c.marks.getLsbD p) ∧
        ∀ p i, p < 16 → c.FiresBy e i → (d.mprog[i]?.getD {}).mask.getLsbD p = true →
          (∀ j, c.FiresBy e j → (d.mprog[j]?.getD {}).mask.getLsbD p = true → j = i ∨
            c.eventSample j < c.eventSample i ∨ c.eventSample j = c.eventSample i ∧ j < i) →
          (s'.chan n).marks.getLsbD p = (d.mprog[i]?.getD {}).level) ∧
    (u.still = false → u.clockRuns n = true →
      ∃ s', exec (.triggerPulseEnd t n) s = .next s' ∧ u.OnChan (u.graft s') n ∧
        s'.chan n = { u.chan n with
          pulses := (u.chan n).pulses.filter fun p => decide (u.ballSample n u.now < p.2.2) }) ∧
    (∀ p i k, u.still = false → u.clockRuns n = true → k ≤ u.boundaryNow n →
      (u.chan n).ramp = some (p, i, k) → u.clearTo n k = true → (u.chan n).pend = [] →
      ((u.chan n).act = .idle → ∀ d ∈ (u.chan n).queue.head?, d.kind ≠ .control) →
      ∃ s', exec (.ncoRampStep t n) s = .next s' ∧ u.OnChan (u.graft s') n ∧
        (s'.chan n).vals = { (u.chan n).vals with freq := (u.chan n).vals.freq + ((u.chan n).piece p).step } ∧
        (s'.chan n).ramp = if i + 1 < ((u.chan n).piece p).lenG then some (p, i + 1, k + 1)
          else if p < 15 ∧ ((u.chan n).piece (p + 1)).lenG ≠ 0 then some (p + 1, 0, k + 1) else none) ∧
    (∀ v x k, u.still = false → u.clockRuns n = true → k ≤ u.boundaryNow n →
      (u.chan n).spanPending = some (v, x, some k) → (u.chan n).state = .playing → v ≠ (u.chan n).span →
      ∃ s', exec (.spanApply t n) s = .next s' ∧ u.OnChan (u.graft s') n ∧ (s'.chan n).span = v ∧
        (s'.chan n).state = .muted ∧ (s'.chan n).under = .playing ∧
        (s'.chan n).muteEnd = k + u.muteGranules n ∧ (s'.chan n).spanPending = none) ∧
    (∀ st, u.still = false → u.clockRuns n = true → (u.chan n).state = .muted → (u.chan n).under = st →
      (u.chan n).muteEnd ≤ u.boundaryNow n → (u.chan n).broke = .none →
      ∃ s', exec (.muteEnd t n) s = .next s' ∧ u.OnChan (u.graft s') n ∧ (s'.chan n).state = st ∧
        (s'.chan n).under = .off) ∧
    (u.still = false → u.clockRuns n = true → (u.chan n).clkStopped = false → (u.chan n).ramp = none →
      (∀ k, u.activityEnd n (u.chan n).act = some k → u.boundaryNow n ≤ k) →
      (∀ p ∈ (u.chan n).pend, u.boundaryAfter n p.1 ≤ u.boundaryNow n) →
      ∃ s', exec (.channelSettingApply t n) s = .next s' ∧ u.OnChan (u.graft s') n ∧ (s'.chan n).pend = [] ∧
        (s'.chan n).vals = ((u.chan n).pend.foldl (fun c p => c.take (u.boundaryAfter n p.1) p.2) (u.chan n)).vals ∧
        (s'.chan n).queue = (u.chan n).queue)

/-- The phases of a handover (R141 to R143, R228). -/
def Obligations.HandoverPhases : Prop :=
  (∀ (s u : State) (t : Nat) (b : Fin 8) (v : Bay) (k : Nat), u = s.advance t → u.still = false → v = u.bay b →
    u.clockRuns v.channel = true → k ≤ u.boundaryNow v.channel →
    (v.phase = .settleIn → k = v.phaseK + u.settleGranules v.channel →
      ∃ s', exec (.settleInEnd t b) s = .next s' ∧ s'.bay b = { v with phase := .fadeIn, phaseK := k, fadeK := v.fadeG } ∧
        (∀ c, c ≠ b.val → s'.bay c = u.bay c) ∧ { u.graft s' with bays := u.bays } = u) ∧
    (v.phase = .settleOut → k = v.phaseK + u.settleGranules v.channel →
      ∃ s', exec (.settleOutEnd t b) s = .next s' ∧ s'.bay b = { v with phase := .fadeOut, phaseK := k, fadeK := v.fadeG } ∧
        (∀ c, c ≠ b.val → s'.bay c = u.bay c) ∧ { u.graft s' with bays := u.bays } = u) ∧
    (v.phase = .fadeIn → k = v.phaseK + v.fadeK →
      (u.measures v.channel = false →
        ∃ s', exec (.fadeInEnd t b) s = .next s' ∧ s'.bay b = { v with phase := .settleOut, phaseK := k } ∧
          (∀ c, c ≠ b.val → s'.bay c = u.bay c) ∧ { u.graft s' with bays := u.bays } = u) ∧
      (u.measures v.channel = true →
        ∃ s', exec (.fadeInEnd t b) s = .next s' ∧ s'.bay b = { v with phase := .cover, phaseK := k } ∧
          (∀ c, c ≠ b.val → s'.bay c = u.bay c) ∧
          (∀ c x, c < 16 → x < 16 → (u.slot x).src = v.channel + 1 → (u.slot c).measuring = true →
            (u.slot c).uses c x = true →
            { s'.slot c with
              starts := (u.slot c).starts, stops := (u.slot c).stops, resyncs := (u.slot c).resyncs
              skipA := (u.slot c).skipA, skipB := (u.slot c).skipB } =
              { u.slot c with flags := (u.slot c).flags ||| 8 }) ∧
          (∀ c, (u.slot c).measuring = false ∨
              (∀ x, x < 16 → (u.slot x).src = v.channel + 1 → (u.slot c).uses c x = false) → s'.slot c = u.slot c) ∧
          { u.graft s' with bays := u.bays, tiu := { s'.tiu with slots := u.tiu.slots } } = u)) ∧
    (∀ n, n = v.channel → v.phase = .fadeOut → k = v.phaseK + v.fadeK →
      (v.holdMode = true →
        ∃ s', exec (.fadeOutEnd t b) s = .next s' ∧ s'.bay b = { v with phase := .idle, channel := 0, holdMode := false } ∧
          (∀ c, c ≠ b.val → s'.bay c = u.bay c) ∧ s'.chan n = { u.chan n with returning := some (k + 1) } ∧
          (∀ m, m ≠ n → s'.chan m = u.chan m) ∧ { u.graft s' with bays := u.bays, chans := u.chans } = u) ∧
      (v.holdMode = false → (u.chan n).spanDeferred = none → (u.chan n).broke ≠ .deferred → (u.chan n).state ≠ .muted →
        ∃ s', exec (.fadeOutEnd t b) s = .next s' ∧
          s'.bay b = { v with phase := .idle, channel := 0, holdMode := false, handovers := v.handovers + 1 } ∧
          (∀ c, c ≠ b.val → s'.bay c = u.bay c) ∧
          (s'.chan n).state = (if (u.chan n).begun = true then .playing else .parked) ∧ (s'.chan n).stale = false ∧
          (∀ m, m ≠ n → s'.chan m = u.chan m) ∧ s'.tts = u.tts ∧ s'.mem.bytes = u.mem.bytes))) ∧
  (∀ (s : State) (t n : Nat), s.still = false → s.unsettled = false → s.laneWaits = false → s.net.traffic = 0 →
    s.upLanes = [] → s.waitingChans = [n] → s.advance t = (s.tick t).dueAt n) ∧
  (∀ (y u : State) (n k : Nat) (b : Bay), u = y.dueAt n → b = y.bay (n / 8) → y.reached n k = true →
    (y.chan n).resetK = none → (y.chan n).reloadK = none → (y.chan n).flushing = none → (y.chan n).disabling = none →
    (b.connecting = some k → b.channel = n → b.leaving = none → (y.chan n).returning = none →
      u.bay (n / 8) = { b with
        phase := .settleIn, holdMode := !y.sameDivider n, phaseK := k, connecting := none
        heldCode := (y.chanAt n k).lastCode.getD (y.chanAt n k).vals.park } ∧
      (y.sameDivider n = true → u.chan n = { y.chanAt n k with state := .substituted }) ∧
      (y.sameDivider n = false → u.chan n = { y.chanAt n k with state := .held, stale := true }) ∧
      (∀ c, c ≠ n / 8 → u.bay c = y.bay c) ∧ (∀ m, m ≠ n → u.chan m = y.chan m) ∧ u.tts = y.tts ∧
      u.mem.bytes = y.mem.bytes) ∧
    (b.leaving = some k → b.connecting = none → y.serves n = true → (y.chan n).returning = none →
      u.bay (n / 8) = { b with phase := .settleOut, phaseK := k, leaving := none } ∧
      (∀ c, c ≠ n / 8 → u.bay c = y.bay c) ∧ { u with bays := y.bays } = y) ∧
    (b.connecting = none → b.leaving = none → (y.chan n).returning = some k → (y.chan n).spanDeferred = none →
      (y.chan n).broke ≠ .deferred → (y.chan n).state ≠ .muted →
      u.bay (n / 8) = { b with holds := b.holds + 1 } ∧ (u.chan n).returning = none ∧ (u.chan n).stale = false ∧
      (u.chan n).state = (if (y.chan n).begun = true then .playing else .parked) ∧
      (∀ c, c ≠ n / 8 → u.bay c = y.bay c) ∧ (∀ m, m ≠ n → u.chan m = y.chan m) ∧ u.tts = y.tts ∧
      u.mem.bytes = y.mem.bytes))

/-- Reference, alignment source, enables and band tables (R145, R149, R153, R154, R161, R167). Which reference and
words an enable takes and keeps, that enabling twice changes nothing, and when the crystal offset is latched, is the
model's reading (assumption logs 40, 41, 44 and 96). -/
def Obligations.ReferenceAndSynthesizerWrites : Prop :=
  (∀ (s u : State) (t : Nat) (r : Req) (x : Session) (data : Bytes) (v d n : Nat), u = s.advance t → v = leNat data →
    u.Writes r x 0x2100 0x01 data → data.length = 4 → 10000000 ≤ v → v ≤ 500000000 → tbWords v = some (d, n) →
    (u.synM.en = false → u.synA.en = false →
      ∃ s', exec (.refFreqWrite t r data) s = .next s' ∧ u.Replies s' (writeMsg r 0x2100 0x01 data) 0 [] ∧
        s'.ref = { u.ref with freq := v, tbDiv := d, tbN := n } ∧ { u.graftReply s' with ref := u.ref } = u) ∧
    (u.synM.en = true ∨ u.synA.en = true →
      ∃ s', exec (.refFreqWrite t r data) s = .next s' ∧
        u.TurnsAway s' (writeMsg r 0x2100 0x01 data) Abort.blockRunning.code)) ∧
  (∀ (s u : State) (t : Nat) (r : Req) (x : Session) (data : Bytes) (v : Nat), u = s.advance t → v = leNat data →
    u.Writes r x 0x2100 0x0E data → data.length = 1 → v ≤ 1 →
    ∃ s', exec (.alignSrcWrite t r data) s = .next s' ∧ u.Replies s' (writeMsg r 0x2100 0x0E data) 0 [] ∧
      s'.ref = { u.ref with alignPps := decide (v = 1) } ∧
      (∀ y, s'.syn y = if v = 0 ∧ (u.syn y).phase = .alignWait then
        { u.syn y with phase := .aligning, since := u.now } else u.syn y) ∧
      { u.graftReply s' with ref := u.ref, synM := u.synM, synA := u.synA } = u) ∧
  (∀ (s u : State) (t : Nat) (r : Req) (x : Session) (y : Syn) (sub : Nat) (v : Synth), u = s.advance t → sub = (if y = .M then 0x10 else 0x30) →
    (u.Writes r x 0x2100 sub [1] → (u.syn y).en = false → v = u.enabled y → u.loopOk y v = true →
      (∀ i, u.selectBand v = some i →
        ∃ s', exec (.synEnable t r y) s = .next s' ∧ u.Replies s' (writeMsg r 0x2100 sub [1]) 0 [] ∧
          (s'.syn y).en = true ∧ (s'.syn y).phase = .acquiring ∧ (s'.syn y).gated = true ∧ (s'.syn y).locked = false ∧
          (s'.syn y).tbLocked = false ∧
          (s'.syn y).entry = some i ∧ (s'.syn y).since = u.now ∧ (s'.syn y).xtalY = v.xtalY ∧
          (s'.syn y).onXtal = (u.ref.xtalSrc || !(decide (u.ref.mode = .refin) && u.ref.present)) ∧
          (v.xtalY = if (s'.syn y).onXtal = true then some u.ref.y else none) ∧
          (∀ z, z ≠ y → s'.syn z = u.syn z) ∧
          { u.graftReply s' with
            synM := u.synM, synA := u.synA, chans := u.chans, ramp := u.ramp
            tiu := { s'.tiu with onXtal := u.tiu.onXtal } } = u ∧
          (y = .A → s'.chans = u.chans ∧ s'.tiu = u.tiu ∧ s'.ramp.running = false ∧ s'.ramp.waiting = false ∧ s'.ramp.shift = 0) ∧
          (y = .M → s'.ramp = u.ramp ∧ s'.tiu.onXtal = s'.synM.onXtal ∧ ∀ n, n < 64 → s'.chan n = { u.chan n with clkStopped := true })) ∧
      (u.selectBand v = none →
        ∃ s', exec (.synEnable t r y) s = .next s' ∧ u.Replies s' (writeMsg r 0x2100 sub [1]) Abort.noBand.code [] ∧
          s'.syn y = { u.syn y with phase := .noBand } ∧ (∀ z, z ≠ y → s'.syn z = u.syn z) ∧
          s'.oda.aborts = u.oda.aborts + 1 ∧ { u.graftRefusal s' with synM := u.synM, synA := u.synA } = u)) ∧
    (u.Writes r x 0x2100 sub [1] → (u.syn y).en = true →
      ∃ s', exec (.synEnable t r y) s = .next s' ∧ u.Replies s' (writeMsg r 0x2100 sub [1]) 0 [] ∧ u.graftReply s' = u) ∧
    (u.Writes r x 0x2100 sub [0] → (u.syn y).en = true ∨ u.synRuns y = false →
      ∃ s', exec (.synDisable t r y) s = .next s' ∧ u.Replies s' (writeMsg r 0x2100 sub [0]) 0 [] ∧
        s'.synRuns y = false ∧ (∀ z, z ≠ y → s'.syn z = u.syn z) ∧ s'.mem.bytes = u.mem.bytes ∧
        ((u.syn y).en = true → (s'.syn y).en = false ∧ (s'.syn y).phase = .disabled ∧ (s'.syn y).locked = false ∧
          (s'.syn y).tbLocked = false ∧ (s'.syn y).entry = none) ∧
        ((u.syn y).en = false → u.graftReply s' = u))) ∧
  (∀ (s u : State) (t : Nat) (r : Req) (x : Session) (y : Syn) (sub : Nat) (data : Bytes), u = s.advance t → sub = (if y = .M then 0x16 else 0x36) →
    u.Writes r x 0x2100 sub data → data.length = 1024 → (u.syn y).en = false → (∀ i, i < 64 → (bandOf data i).ok y = true) →
    ∃ s', exec (.bandTableWrite t r y data) s = .next s' ∧ u.Replies s' (writeMsg r 0x2100 sub data) 0 [] ∧
      (∀ i, i < 64 → (s'.syn y).band i = bandOf data i) ∧ s'.syn y = { u.syn y with bands := (s'.syn y).bands } ∧
      (∀ z, z ≠ y → s'.syn z = u.syn z) ∧ { u.graftReply s' with synM := u.synM, synA := u.synA } = u)

/-- OUT_CFG, OUT_DELAY and their CLKOUT entries (R155 to R158, R160); REF_CMD (R166); RAMP_CMD (R170, R171). What a
START does without live pieces, without a band, or while a ramp runs, is the model's choice (assumption logs 42 and
92); that MODE stays WAIT_HOST during the fresh measurement too (log 119). -/
def Obligations.OutputAndRampCommands : Prop :=
  (∀ (s u : State) (t : Nat) (r : Req) (x : Session) (y : Syn) (sub i v : Nat) (data : Bytes) (o : Output), u = s.advance t →
    sub = (if y = .M then 0x21 else 0x41) → u.Writes r x 0x2100 sub data → data.length = 4 → v = leNat data →
    i = (if y = .M then x.sel.get 0x2100 0x20 else 76 + x.sel.get 0x2100 0x40) → (y = .M → i < 72) → o = u.output i →
    bits v 27 24 ≠ 0 → (y = .M → bits v 11 0 ∈ coreDivs) → 2 ≤ bits v 11 0 → u.delayOk i (bits v 11 0) o.coarse o.fine = true →
    (bitOf v 31 = true → o.en = false →
      ∃ s', exec (.outputEnable t r y data) s = .next s' ∧ u.Replies s' (writeMsg r 0x2100 sub data) 0 [] ∧
        s'.output i = { o with en := true, ceil := bits v 27 24, div := bits v 11 0, ceilGated := false, pos := u.fineTarget i } ∧
        (∀ j, j ≠ i → s'.output j = u.output j) ∧ (∀ m, m ≠ i → s'.chan m = u.chan m) ∧ s'.mem.bytes = u.mem.bytes ∧
        (64 ≤ i ∨ u.synRuns .M = false → { u.graftReply s' with outs := u.outs } = u) ∧
        (i < 64 → u.synRuns .M = true → s'.clockRuns i = true ∧ (s'.chan i).clkStopped = false)) ∧
    (bitOf v 31 = false → (o.en = true → bits v 11 0 = o.div) →
      ((i < 64 → (u.chan i).state = .off) →
        (64 ≤ i → i < 72 → (u.bay (i - 64)).phase = .idle ∨ u.subUnavailable (i - 64) = true) →
        ∃ s', exec (.outputDisable t r y data) s = .next s' ∧ u.Replies s' (writeMsg r 0x2100 sub data) 0 [] ∧
          s'.output i = { o with
            en := false, ceil := bits v 27 24, div := bits v 11 0, ceilGated := false, pos := u.fineTarget i } ∧
          (∀ j, j ≠ i → s'.output j = u.output j) ∧ (∀ m, m ≠ i → s'.chan m = u.chan m) ∧ s'.mem.bytes = u.mem.bytes ∧
          (i < 64 → o.en = true → (s'.chan i).clkStopped = true)) ∧
      (i < 64 → (u.chan i).state ≠ .off →
        ∃ s', exec (.outputDisable t r y data) s = .next s' ∧
          u.TurnsAway s' (writeMsg r 0x2100 sub data) Abort.blockRunning.code))) ∧
  (∀ (s u : State) (t : Nat) (r : Req) (x : Session) (y : Syn) (sub i v : Nat) (data : Bytes) (o : Output) (coarse fine : Int), u = s.advance t →
    sub = (if y = .M then 0x22 else 0x42) → u.Writes r x 0x2100 sub data → data.length = 4 → v = leNat data →
    i = (if y = .M then x.sel.get 0x2100 0x20 else 76 + x.sel.get 0x2100 0x40) → (y = .M → i < 72) → o = u.output i →
    coarse = signed 6 (bits v 31 26) → fine = signed 17 (bits v 16 0) → u.delayOk i o.div coarse fine = true →
    (o.en = true → coarse = o.coarse) → (i < 72 → u.timingRun i = false) →
    ∃ s', exec (.outDelayWrite t r y data) s = .next s' ∧ u.Replies s' (writeMsg r 0x2100 sub data) 0 [] ∧
      s'.output i = { o with
        coarse := coarse, fine := fine
        pos := if u.fineAtOnce i = true then u.fineTarget i - o.fine + fine else o.pos } ∧
      (∀ j, j ≠ i → s'.output j = u.output j) ∧ { u.graftReply s' with outs := u.outs } = u) ∧
  (∀ (s u : State) (t : Nat) (r : Req) (x : Session) (hop : Bool) (data : Bytes) (c : Instr), u = s.advance t → data = (if hop = true then [2] else [1]) →
    c = (if hop = true then .refCmdHop t r else .refCmdSlew t r) → u.Writes r x 0x2100 0x09 data →
    (u.ref.mode = .waitHost →
      ∃ s', exec c s = .next s' ∧ u.Replies s' (writeMsg r 0x2100 0x09 data) 0 [] ∧
        { s'.ref with cmds := u.ref.cmds } = { u.ref with measuring := some (if hop = true then 4 else 3, u.now) } ∧
        (s'.slot 16).src = 93 ∧ (∀ c, c ≠ 16 → s'.slot c = u.slot c) ∧
        { u.graftReply s' with ref := u.ref, tiu := { s'.tiu with slots := u.tiu.slots } } = u) ∧
    (u.ref.mode ≠ .waitHost →
      ∃ s', exec c s = .next s' ∧ u.TurnsAway s' (writeMsg r 0x2100 0x09 data) Abort.wrongState.code)) ∧
  (∀ (s u : State) (t : Nat) (r : Req) (x : Session) (i a b : Nat) (e : Band) (xs : List Int), u = s.advance t → u.Writes r x 0x2100 0x48 [1] →
    (a, b) = u.fRef u.synA → xs = turnsFrom ((u.synA.words : Int) + u.ramp.shift) u.ramp.live →
    u.synA.entry = some i → e = u.synA.band i →
    (∀ z ∈ xs, 32 * 2 ^ 32 ≤ z ∧ z < 4092 * 2 ^ 32 ∧
      (e.lo : Int) * ((1000 * (b * u.synA.refDiv * 2 ^ 32) : Nat) : Int) ≤ z * (a : Int) ∧
      z * (a : Int) ≤ (e.hi : Int) * ((1000 * (b * u.synA.refDiv * 2 ^ 32) : Nat) : Int)) →
    (u.ramp.repeats = true → (u.ramp.live.map fun p => p.step.toInt * (p.count : Int)).foldl (· + ·) 0 = 0) →
    (∀ p ∈ u.ramp.live, p.dwell ≠ 0 ∧
      p.step.toInt.natAbs * a ^ 2 ≤ 10000000000000 * (2 ^ 32 * p.dwell * (b * u.synA.refDiv) ^ 2)) →
    ∃ s', exec (.synaRampStart t r) s = .next s' ∧ u.Replies s' (writeMsg r 0x2100 0x48 [1]) 0 [] ∧
      s'.ramp = (if u.ramp.bellEn = true then { u.ramp with waiting := true, startAt := none, top := topOf xs }
        else { u.ramp with
          running := decide (u.ramp.live ≠ []), waiting := false, startAt := none, piece := 0, made := 0, passes := 0
          from_ := u.loopFs u.now, cycles := (u.ramp.at_ 0).dwell, top := topOf xs }) ∧
      { u.graftReply s' with ramp := u.ramp } = u) ∧
  (∀ (s u : State) (t : Nat) (r : Req) (x : Session), u = s.advance t → u.Writes r x 0x2100 0x48 [2] →
    ∃ s', exec (.synaRampStop t r) s = .next s' ∧ u.Replies s' (writeMsg r 0x2100 0x48 [2]) 0 [] ∧
      s'.ramp = { u.ramp with running := false, waiting := false, startAt := none } ∧
      { u.graftReply s' with ramp := u.ramp } = u)

/-- Reference events (R146 to R148, R161, R164, R165). The reference under AUTO, the unit of a gate's count and the
slew's virtual time are the model's choice (assumption logs 40, 93 and 96). -/
def Obligations.ReferenceEvents : Prop :=
  ∀ (s u : State) (t x : Nat), u = s.advance t → u.still = false → x = u.now →
    (u.ref.present = true → ∀ c, (c = .refinLoss t ∨ ∃ (ok : Bool) (n : Nat), c = .refinGateEnd t ok n ∧
        (ok = true → u.ref.window * u.ref.freq < ((n : Int) - u.ref.freq).natAbs * 1000000)) →
      ∃ s', exec c s = .next s' ∧ s'.ref.present = false ∧ s'.ref.lost = true ∧ s'.sys.alert = u.sys.alert ||| 64 ∧
        (u.ref.xtalSrc = true → s'.ref.mode = u.ref.mode ∧ s'.ref.holdovers = u.ref.holdovers ∧ s'.synM = u.synM ∧
          s'.synA = u.synA ∧
          { s'.tiu with warps := u.tiu.warps, own := u.tiu.own } = u.tiu) ∧
        (u.ref.xtalSrc = false → s'.ref.mode = .holdover ∧ { s'.synM with mash := u.synM.mash } = { u.synM with onXtal := true } ∧
          { s'.synA with mash := u.synA.mash } = { u.synA with onXtal := true } ∧
          s'.ref.holdovers = (if u.ref.holdSince = none then u.ref.holdovers + 1 else u.ref.holdovers) ∧
          s'.ref.holdSince = some (u.ref.holdSince.getD x)) ∧
        s'.chans = u.chans ∧ s'.tts = u.tts ∧ s'.mem = u.mem ∧ s'.outs = u.outs) ∧
    (u.ref.present = false →
      (∃ s', exec (.refinLoss t) s = .next s' ∧ u.graft s' = { u with ref := { u.ref with ampOk := false } }) ∧
      ∀ (ok : Bool) (n : Nat), (ok = true → u.ref.window * u.ref.freq < ((n : Int) - u.ref.freq).natAbs * 1000000) →
        ∃ s', exec (.refinGateEnd t ok n) s = .next s' ∧ u.graft s' = { u with ref := { u.ref with
          ampOk := ok
          freqOk := decide (((n : Int) - u.ref.freq).natAbs * 1000000 ≤ u.ref.window * u.ref.freq) } }) ∧
    (∀ n : Nat, ((n : Int) - u.ref.freq).natAbs * 1000000 ≤ u.ref.window * u.ref.freq →
      ∃ s', exec (.refinGateEnd t true n) s = .next s' ∧ s'.ref.present = true ∧ s'.ref.ampOk = true ∧ s'.ref.freqOk = true ∧
        (u.ref.present = true → s'.ref = { u.ref with ampOk := true, freqOk := true }) ∧
        (u.ref.present = false → s'.ref.gateSince = some x ∧ (u.ref.xtalSrc = true → s'.ref.mode = .xtal) ∧
          (u.ref.xtalSrc = false → u.ref.mode = .holdover → s'.ref.mode = .qualifying ∧ s'.ref.presentSince = some x)) ∧
        { u.graft s' with ref := u.ref } = u) ∧
    (∀ z, u.ref.presentSince = some z → u.ref.mode = .qualifying → u.ref.measuring = none → z + u.ref.qual * msFs ≤ x →
      ∃ s', exec (.refinQualified t) s = .next s' ∧ s'.ref = { u.ref with
          measuring := some (0, z + u.ref.qual * msFs), qualAt := some (z + u.ref.qual * msFs), presentSince := none } ∧
        (s'.slot 16).src = 93 ∧ (∀ c, c ≠ 16 → s'.slot c = u.slot c) ∧
        { u.graft s' with ref := u.ref, tiu := { s'.tiu with slots := u.tiu.slots } } = u) ∧
    (∀ pol z mean d, u.ref.measuring = some (pol, z) → z + 65536 * secFs / u.ref.freq ≤ x → d = u.ref.wrapStep mean →
      (d.natAbs ≤ 1000 →
        ∃ s', exec (.refStepMeasured t mean) s = .next s' ∧ { s'.ref with warps := u.ref.warps } = { u.ref with
            step := d, returned := true, measuring := none, mode := .refin, holdSince := none, slewEnd := none } ∧
          { s'.synM with mash := u.synM.mash } = { u.synM with onXtal := false } ∧
          { s'.synA with mash := u.synA.mash } = { u.synA with onXtal := false } ∧
          s'.chans = u.chans ∧ s'.mem = u.mem) ∧
      (∀ span scale, 1000 < d.natAbs → (pol = 0 ∧ u.ref.ret = 0) ∨ pol = 3 → span = d.natAbs * 1000000000 / u.ref.slewRate →
        scale = (if 0 < d then 1000000000 - u.ref.slewRate else 1000000000 + u.ref.slewRate) →
        ∃ s', exec (.refStepMeasured t mean) s = .next s' ∧ s'.ref = { u.ref with
            step := d, returned := true, measuring := none, mode := .slewing, slewEnd := some (x + span)
            warps := { dev := x + span, syn := u.loopFs x + span * scale / 1000000000, scale := 1000000000 }
              :: { dev := x, syn := u.loopFs x, scale := scale } :: u.ref.warps } ∧
          s'.tiu = (if u.tiu.own = true then u.tiu else { u.tiu with
            warps := { dev := x + span, syn := warped u.tiu.warps x + span * scale / 1000000000, scale := 1000000000 }
              :: { dev := x, syn := warped u.tiu.warps x, scale := scale } :: u.tiu.warps }) ∧
          { u.graft s' with ref := u.ref, tiu := u.tiu } = u) ∧
      (1000 < d.natAbs → (pol = 0 ∧ u.ref.ret = 1) ∨ pol = 4 →
        ∃ s', exec (.refStepMeasured t mean) s = .next s' ∧ s'.ref.mode = .refin ∧ s'.ref.step = d ∧
          (∀ y, (u.syn y).en = true → (s'.syn y).phase = .acquiring ∧ (s'.syn y).gated = true ∧ (s'.syn y).locked = false ∧
            (s'.syn y).onXtal = false)) ∧
      (1000 < d.natAbs → pol = 0 → 2 ≤ u.ref.ret →
        ∃ s', exec (.refStepMeasured t mean) s = .next s' ∧ s'.ref = { u.ref with
            step := d, returned := true, measuring := none, mode := .waitHost } ∧
          { u.graft s' with ref := u.ref } = u)) ∧
    (∀ z, u.ref.slewEnd = some z → u.ref.mode = .slewing → z ≤ x →
      ∃ s', exec (.slewComplete t) s = .next s' ∧
        s'.ref = { u.ref with mode := .refin, holdSince := none, slewEnd := none, measuring := none } ∧
        { s'.synM with mash := u.synM.mash } = { u.synM with onXtal := false } ∧
        { s'.synA with mash := u.synA.mash } = { u.synA with onXtal := false } ∧
        s'.chans = u.chans ∧ s'.mem = u.mem) ∧
    (∀ z offset, u.ref.gateSince = some z → u.ref.present = true → z + secFs ≤ x →
      ∃ s', exec (.xtalGateEnd t offset) s = .next s' ∧ s'.ref.gates = (offset :: u.ref.gates).take 16 ∧
        s'.ref.gateSince = some (z + secFs) ∧ (u.ref.xtalRange = true → s'.ref.xtalRange = true) ∧
        { u.graft s' with ref := u.ref } = u) ∧
    (∀ disagree, u.truss.ppsDue = none →
      ∃ s', exec (.ppsEdge t disagree) s = .next s' ∧
        s'.ref = { u.ref with ppsAt := some x, ppsMargin := u.ref.ppsMargin || disagree } ∧
        (∀ y, s'.syn y = if (u.syn y).phase = .alignWait then { u.syn y with phase := .aligning, since := x } else u.syn y) ∧
        { u.graft s' with ref := u.ref, synM := u.synM, synA := u.synA } = u) ∧
    (∀ y, (u.syn y).phase = .alignWait → (u.syn y).since + 1100 * msFs ≤ x →
      ∃ s', exec (.alignTimeout t) s = .next s' ∧ s'.ref = { u.ref with alignTimeout := true } ∧
        { u.graft s' with ref := u.ref } = u)

/-- Synthesizer events (R157, R159 to R163, R180, R188, R236). A retry that finds no entry keeps the old one, the
model's choice (assumption log 91); the modulator's state is that of log 118. -/
def Obligations.SynthesizerEvents : Prop :=
  ∀ (s u : State) (t x : Nat), u = s.advance t → u.still = false → x = u.now →
    (∀ (y : Syn) (v : Synth), v = u.syn y →
      (∀ (l : Loop) (w : Synth), hasLoop y l = true → v.en = true → v.phase = .acquiring → v.parity = false →
        v.since + u.lockFs y l ≤ x →
        w = (match l with | .main => { v with locked := true } | .timeBase => { v with tbLocked := true }) →
        ((w.locked && (decide (y = .A) || w.tbLocked)) = false →
          ∃ s', exec (.lockDeclared t y l) s = .next s' ∧ s'.syn y = w ∧ (∀ z, z ≠ y → s'.syn z = u.syn z) ∧
            { u.graft s' with synM := u.synM, synA := u.synA } = u) ∧
        ((w.locked && (decide (y = .A) || w.tbLocked)) = true →
          ((decide (y = .M) && v.lost && v.onXtal && !u.ref.xtalSrc && u.ref.qualAt.isSome) = false →
            ∃ s', exec (.lockDeclared t y l) s = .next s' ∧ s'.syn y = { w with phase := .settling, since := x } ∧
              (∀ z, z ≠ y → s'.syn z = u.syn z) ∧ { u.graft s' with synM := u.synM, synA := u.synA } = u) ∧
          ((decide (y = .M) && v.lost && v.onXtal && !u.ref.xtalSrc && u.ref.qualAt.isSome) = true →
            ∃ s', exec (.lockDeclared t y l) s = .next s' ∧
              { s'.synM with mash := u.synM.mash } = { w with phase := .settling, since := x, onXtal := false, xtalY := none } ∧
              { s'.synA with mash := u.synA.mash } = { u.synA with onXtal := false } ∧ s'.ref.mode = .refin ∧ s'.ref.holdSince = none ∧
              s'.chans = u.chans ∧ s'.mem = u.mem))) ∧
      (v.phase = .settling → v.since + 20 * usFs ≤ x →
        ∃ s', exec (.settleComplete t y) s = .next s' ∧
          s'.syn y = { v with phase := if u.ref.alignPps = true then .alignWait else .aligning, since := x } ∧
          (∀ z, z ≠ y → s'.syn z = u.syn z) ∧ { u.graft s' with synM := u.synM, synA := u.synA } = u) ∧
      (v.phase = .aligning → v.alignEdge = none →
        ∃ s', exec (.alignmentEdge t y) s = .next s' ∧ s'.syn y = { v with
            alignEdge := some x, alignedXtal := v.onXtal
            mash := { at_ := u.loopFs x, known := decide (v.onXtal = v.xtalY.isSome) } } ∧
          (∀ z, z ≠ y → s'.syn z = u.syn z) ∧
          (∀ i, s'.output i = if i ∈ outsOf y then { u.output i with pos := u.fineTarget i } else u.output i) ∧
          { u.graft s' with synM := u.synM, synA := u.synA, outs := u.outs } = u) ∧
      (∀ e, v.phase = .aligning → v.alignEdge = some e → e + releaseFs ≤ x →
        ∃ s', exec (.outputRelease t y) s = .next s' ∧ (s'.syn y).phase = .running ∧ (s'.syn y).gated = false ∧
          (s'.syn y).releaseAt = u.loopFs (e + releaseFs) ∧ (s'.syn y).alignEdge = none ∧ s'.synRuns y = true ∧
          (∀ i, s'.output i = if i ∈ outsOf y then { u.output i with ceilGated := false } else u.output i) ∧
          (∀ z, z ≠ y → s'.syn z = u.syn z) ∧ s'.mem.bytes = u.mem.bytes ∧
          (y = .A → s'.chans = u.chans ∧ s'.time = u.time) ∧
          (y = .M → u.tiu.tb ≠ 3 → s'.time.running = true ∧ s'.time.at_ = u.tclkAt (e + releaseFs) ∧ s'.synM.anchor = s'.time.count ∧
            ∀ n, n < 64 → (u.output n).en = true → (s'.chan n).clkStopped = false)) ∧
      (∀ l, hasLoop y l = true → v.en = true → v.loopLocked l = true →
        ∃ s', exec (.lossOfLock t y l) s = .next s' ∧ (s'.syn y).phase = .acquiring ∧ (s'.syn y).gated = true ∧
          (s'.syn y).loopLocked l = false ∧ (s'.syn y).lol = true ∧ (s'.syn y).lols = v.lols + 1 ∧
          (s'.syn y).attempts = v.attempts + 1 ∧ (s'.syn y).since = x ∧ s'.synRuns y = false ∧
          s'.sys.alert &&& 128 = 128 ∧ s'.mem.bytes = u.mem.bytes ∧ (y = .M → s'.time.running = false)) ∧
      (v.en = true → v.phase = .acquiring → v.since + (if v.retried = true then 10 * msFs else msFs) ≤ x →
        ∃ s', exec (.lockRetry t y) s = .next s' ∧ s'.syn y = { v with
            entry := (u.selectBand v).or v.entry, attempts := v.attempts + 1, retried := true, since := x } ∧
          (∀ z, z ≠ y → s'.syn z = u.syn z) ∧ { u.graft s' with synM := u.synM, synA := u.synA } = u)) ∧
    (∀ i : Fin 80, u.guarded i = true → u.synRuns (synOf i) = true → (u.output i).ceilGated = false →
      ∃ s', exec (.ceilingTrip t i) s = .next s' ∧ s'.output i = { u.output i with
          ceilGated := true, pos := u.fineTarget i } ∧
        (∀ j, j ≠ i.val → s'.output j = u.output j) ∧ s'.syn (synOf i) = { u.syn (synOf i) with ceilTrip := true } ∧
        (∀ m, m ≠ i.val → s'.chan m = u.chan m) ∧ (i.val < 64 → s'.clockRuns i = false) ∧ s'.mem.bytes = u.mem.bytes) ∧
    (∀ i : Fin 80, u.fineAtOnce i = false →
      ∃ s', exec (.fineDelayStep t i) s = .next s' ∧
        s'.output i = { u.output i with
          pos := (u.output i).pos + max (-64) (min 64 (u.fineTarget i - (u.output i).pos)) } ∧
        (∀ j, j ≠ i.val → s'.output j = u.output j) ∧ { u.graft s' with outs := u.outs } = u) ∧
    (∀ z, u.ref.qualAt = some z → u.tiu.tb = 3 → u.synRuns .M = true → z + 20 * usFs ≤ x →
      ∃ s', exec (.tclkUngate t) s = .next s' ∧ s'.tiu.tb = 0 ∧ s'.tiu.onXtal = false ∧ s'.tiu.own = decide (u.ref.mode ≠ .refin) ∧
        { s'.tiu with tb := u.tiu.tb, onXtal := u.tiu.onXtal, own := u.tiu.own, warps := u.tiu.warps } = u.tiu ∧
        s'.time.running = true ∧ s'.time.at_ = s'.tclkAt x ∧ s'.mem = u.mem ∧ s'.tts = u.tts ∧ s'.joiners = u.joiners ∧
        s'.outs = u.outs ∧ s'.ref = u.ref ∧ s'.synM = u.synM ∧ s'.synA = u.synA)

/-- SYN-A's ramp (R169, R170). That passes count from 0 at START and a profile without live pieces ends at once is the
model's reading (assumption log 42). -/
def Obligations.SynARampRuns : Prop :=
  (∀ (s u : State) (t x n : Nat) (e : Ticks), u = s.advance t → u.still = false → u.ramp.startAt = some e →
    u.ramp.waiting = true → u.time.running = true → ticksGe u.trussNow e = true → x = u.loopFs (u.fsOfTicks e) →
    n = (u.pfdFs u.synA).1 / (u.pfdFs u.synA).2 →
    ∃ s' f, exec (.synaRampBellStart t) s = .next s' ∧
      s'.ramp = { u.ramp with
        running := decide (u.ramp.live ≠ []), waiting := false, startAt := none, piece := 0, made := 0, passes := 0
        from_ := f, cycles := (u.ramp.at_ 0).dwell } ∧
      (u.loopFs u.now ≤ x + n → f = u.loopFs u.now) ∧ (x + n < u.loopFs u.now → x ≤ f ∧ f ≤ x + n) ∧
      { u.graft s' with ramp := u.ramp } = u) ∧
  (∀ (s u : State) (t p : Nat) (q : SynPiece), u = s.advance t → u.still = false → u.ramp.running = true → u.synA.en = true →
    u.ramp.from_ + u.ramp.cycles * (u.pfdFs u.synA).1 / (u.pfdFs u.synA).2 ≤ u.loopFs u.now → p = u.ramp.piece → q = u.ramp.at_ p →
    ∃ s', exec (.synaRampStep t) s = .next s' ∧ s'.ramp.shift = u.ramp.shift + q.step.toInt ∧
      s'.ramp.profile = u.ramp.profile ∧ s'.ramp.cycles = u.ramp.cycles + (u.ramp.at_ s'.ramp.piece).dwell ∧
      (u.ramp.made + 1 < q.count → s'.ramp.piece = p ∧ s'.ramp.made = u.ramp.made + 1 ∧ s'.ramp.running = true ∧
        s'.ramp.passes = u.ramp.passes) ∧
      (q.count ≤ u.ramp.made + 1 → p < 31 → (u.ramp.at_ (p + 1)).count ≠ 0 →
        s'.ramp.piece = p + 1 ∧ s'.ramp.made = 0 ∧ s'.ramp.running = true ∧ s'.ramp.passes = u.ramp.passes) ∧
      (q.count ≤ u.ramp.made + 1 → (p = 31 ∨ (u.ramp.at_ (p + 1)).count = 0) →
        s'.ramp.made = 0 ∧ s'.ramp.passes = (u.ramp.passes + 1) % 65536 ∧ s'.ramp.running = u.ramp.repeats ∧
        s'.ramp.piece = if u.ramp.repeats = true then 0 else p) ∧
      s'.synA.mash = u.mashAt .A (u.ramp.from_ + u.ramp.cycles * (u.pfdFs u.synA).1 / (u.pfdFs u.synA).2) ∧
      { s'.synA with mash := u.synA.mash } = u.synA ∧
      { u.graft s' with ramp := u.ramp, synA := u.synA } = u)

/-- Bells raised by the host and by MK ports (R174 to R177, R193). An edge that is not selected leaves the state as it
is but for the time, the model's form (assumption log 85). -/
def Obligations.BellsAreRaised : Prop :=
  (∀ (s u : State) (t : Nat) (r : Req) (x : Session) (data : Bytes) (number : Nat) (payload : Byte) (now : Ticks) (w : BellWord),
    u = s.advance t → u.Writes r x 0x2500 0x09 data → data.length = 2 → number = leNat data % 256 →
    payload = BitVec.ofNat 8 (leNat data / 256) → now = u.trussNow → w = u.bellWord 0 number payload now srcOda 0 →
    (u.owns number = true → u.admissible number now = true →
      ∃ s' y, exec (.bellRing t r data) s = .next s' ∧ y.Replies s' (writeMsg r 0x2500 0x09 data) 0 [] ∧
        s'.truss = y.truss ∧ u.Raises y w now ∧ s'.mem = u.mem ∧ s'.tts = u.tts ∧
        ((u.punctual w now).isLate = false → { u.graftReply s' with truss := u.truss } = u)) ∧
    (u.owns number = true → u.admissible number now = false →
      ∃ s', exec (.bellRing t r data) s = .next s' ∧ s'.out = u.out ∧ s'.lanes = u.lanes ∧
        s'.truss = { u.truss with heldRings := u.truss.heldRings ++ [⟨r, number, payload⟩] } ∧
        { u.graftReply s' with truss := u.truss } = u) ∧
    (u.owns number = false →
      ∃ s', exec (.bellRing t r data) s = .next s' ∧ u.Replies s' (writeMsg r 0x2500 0x09 data) Abort.notOwner.code [] ∧
        s'.truss = { u.truss with refused := u.truss.refused + 1 } ∧ s'.oda.aborts = u.oda.aborts + 1 ∧
        { u.graftRefusal s' with truss := u.truss } = u)) ∧
  (∀ (s u v : State) (t : Nat) (h : HeldRing) (rest : List HeldRing) (now : Ticks) (w : BellWord), u = s.advance t →
    u.still = false → u.truss.heldRings = h :: rest → u.oda.waiting = [] → h.number < 256 → now = u.trussNow →
    v = { u with truss := { u.truss with heldRings := rest } } → w = u.bellWord 0 h.number h.payload now srcOda 0 →
    (u.owns h.number = true → u.admissible h.number now = true →
      ∃ s' y, exec (.bellRingAccept t) s = .next s' ∧
        y.Replies s' (writeMsg h.req 0x2500 0x09 [BitVec.ofNat 8 h.number, h.payload]) 0 [] ∧ s'.truss = y.truss ∧
        v.Raises y w now ∧ s'.mem = u.mem ∧ s'.tts = u.tts ∧
        ((u.punctual w now).isLate = false → { u.graftReply s' with truss := u.truss } = u)) ∧
    (u.owns h.number = false →
      ∃ s', exec (.bellRingAccept t) s = .next s' ∧
        u.Replies s' (writeMsg h.req 0x2500 0x09 [BitVec.ofNat 8 h.number, h.payload]) Abort.notOwner.code [] ∧
        s'.truss = { u.truss with heldRings := rest, refused := u.truss.refused + 1 } ∧
        s'.oda.aborts = u.oda.aborts + 1 ∧ { u.graftRefusal s' with truss := u.truss } = u)) ∧
  (∀ (s u : State) (t : Nat) (p : Fin 16) (rising : Bool) (code : BitVec 12) (levels : BitVec 16) (cfg number dead : Nat),
    u = s.advance t → u.still = false → cfg = u.mkCfgOf p → number = cfg % 256 →
    dead = (if u.tiu.cal = some p.val then 8 else 4) * nsFs →
    (u.time.running = false ∨ mkSelected cfg rising = false →
      exec (.mkEdge t p rising code levels) s = .next (u.close s.pending)) ∧
    (∀ z r, u.time.running = true → mkSelected cfg rising = true → (u.slot p).mkAt = z :: r → u.now < z + dead →
      ∃ s', exec (.mkEdge t p rising code levels) s = .next s' ∧
        s'.slot p = { u.slot p with mkMissed := (u.slot p).mkMissed + 1 } ∧ (∀ c, c ≠ p.val → s'.slot c = u.slot c) ∧
        { u.graft s' with tiu := { s'.tiu with slots := u.tiu.slots } } = u) ∧
    (u.time.running = true → mkSelected cfg rising = true → (∀ z r, (u.slot p).mkAt = z :: r → z + dead ≤ u.now) →
      ∃ s' i origin w, exec (.mkEdge t p rising code levels) s = .next s' ∧
        (u.tiu.cal ≠ some p.val → i = (u.slot p).mkRot) ∧ (u.tiu.cal = some p.val → i < 2) ∧
        origin = ticksUp (u.stampNow (64 + 2 * p + i) code) ∧
        w = u.bellWord 0 number (u.mkPayload p rising levels) origin srcMk p ∧
        (u.ownsAt number origin = true → u.admissible number origin = false →
          s'.truss = { u.truss with refused := u.truss.refused + 1, mkLost := u.truss.mkLost + 1 } ∧ s'.out = u.out) ∧
        (u.ownsAt number origin = false ∨ u.admissible number origin = true → u.Raises s' w u.trussNow) ∧
        (s'.slot p).mkMissed = (u.slot p).mkMissed ∧ s'.mem = u.mem ∧ s'.tts = u.tts))

/-- Arrival, release and passing of bells (R70, R186, R187, R189, R190, R193). That a bell passes only to channels
that take their queue, and counts as released either way, is the model's reading (assumption log 106). -/
def Obligations.BellsAreDelivered : Prop :=
  (∀ (s u : State) (t : Nat) (l : Fin 48) (b b' : BellWord) (now e : Ticks), u = s.advance t → u.still = false →
    u.linkIsUp l = true → b.kind = 0 → now = u.trussNow → e = u.effective b.origin →
    b' = (if (u.mixedAt b.origin || decide ((u.lane l).version = 1)) = true then { b with payload := 0 } else b) →
    ((u.punctual b' now).isLate = false → (u.punctual b' now).isSlow = false →
      (∀ c ∈ u.truss.bells, (c.late = true → c.released = true ∧ c.passed = true) ∧ (c.isSlow = true → c.released = true)) →
      ∃ s', exec (.bellArrival t l b) s = .next s' ∧ s'.out = u.out ++ u.bellMsgs (some l.val) b' ∧
        s'.truss = { u.truss with bells := u.truss.bells ++ [u.punctual b' now] } ∧ u.OnTruss (u.graft s')) ∧
    ((u.punctual b' now).isLate = true → u.truss.bells = [] → u.truss.latePolicy = 1 → u.eclk.stopped = false →
      u.truss.heardCycle ≤ u.cycle → (∀ p ∈ u.tts, p.2.state = .waiting → p.2.wait ≠ .bell) →
      ∃ s', exec (.bellArrival t l b) s = .next s' ∧ s'.out = u.out ++ u.bellMsgs (some l.val) b' ∧
        s'.truss.lateBells = u.truss.lateBells + 1 ∧ s'.card.lateBells = satInc 32 u.card.lateBells ∧
        s'.sys.alert = u.sys.alert ||| 256 ∧
        s'.truss.bells = (if ticksGe now e = true then [] else [{ u.punctual b' now with
          late := true, releaseAt := now, released := true, passed := true, heard := true }]) ∧
        s'.chans = u.chans ∧ s'.mem = u.mem ∧
        (∀ j, j < 96 → sget (fun _ => {}) (s'.joiner j).bells b.number.toNat = { payload := b'.payload, time := e }) ∧
        (∀ i, i < 6144 → (s'.tt i).arrivals = (u.tt i).arrivals ||| BitVec.ofNat 256 (2 ^ b.number.toNat)))) ∧
  (∀ (s u : State) (t : Nat) (b : PendingBell) (pre post : List PendingBell) (bit : BitVec 256), u = s.advance t →
    u.still = false → u.eclk.stopped = false → u.truss.heardCycle ≤ u.cycle →
    u.truss.bells = pre ++ b :: post → b.word.kind = 0 → bit = BitVec.ofNat 256 (2 ^ b.word.number.toNat) →
    (∀ c ∈ pre ++ post, (c.released = true ∧ c.heard = true ∨ c.released = false ∧ ticksGe u.trussNow c.releaseAt = false) ∧
      (c.released && c.passed && c.heard && ticksGe u.trussNow c.effective) = false) →
    b.released = false → b.late = false → ticksGe u.trussNow b.releaseAt = true →
    (∀ p ∈ u.tts, p.2.state = .waiting → p.2.wait ≠ .bell) →
    ∃ s', exec (.bellRelease t) s = .next s' ∧
      s'.truss.bells = pre ++ (if (b.passed && ticksGe u.trussNow b.effective) = true then []
        else [{ b with released := true, heard := true }]) ++ post ∧
      (∀ j, j < 96 → sget (fun _ => {}) (s'.joiner j).bells b.word.number.toNat =
        { payload := b.word.payload, time := b.effective }) ∧
      (∀ i, i < 6144 → s'.tt i = if (u.tt i).listen.getLsbD b.word.number.toNat = true then
          { u.tt i with
            arrivals := (u.tt i).arrivals ||| bit, latches := (u.tt i).latches ||| bit
            fresh := (u.cycle, if (u.tt i).fresh.1 = u.cycle then (u.tt i).fresh.2 ||| bit else bit) }
        else { u.tt i with arrivals := (u.tt i).arrivals ||| bit }) ∧
      s'.mem = u.mem ∧ s'.chans = u.chans ∧ s'.out = u.out) ∧
  (∀ (s u : State) (t : Nat) (b : PendingBell) (pre post : List PendingBell), u = s.advance t → u.still = false →
    u.eclk.stopped = false → u.synM.lost = false → u.truss.bells = pre ++ b :: post → b.word.kind ≠ 1 →
    (∀ c ∈ pre ++ post, (c.passed = true ∨ ticksGe u.trussNow (c.effective - nsTicks 160) = false) ∧
      (c.released && c.passed && c.heard && ticksGe u.trussNow c.effective) = false) →
    b.passed = false → ticksGe u.trussNow (b.effective - nsTicks 160) = true →
    ∃ s', exec (.bellPass t) s = .next s' ∧
      s'.truss = { u.truss with
        bells := pre ++ (if (b.released && b.heard && ticksGe u.trussNow b.effective) = true then []
          else [{ b with passed := true }]) ++ post } ∧
      (∀ n, n < 64 → s'.chan n =
        if ((u.chan n).state.consumes && (u.chan n).watches b.word.number.toNat) = true then
          { u.chan n with bells := (u.chan n).bells ++ [⟨b.word.number.toNat, b.word.payload, b.effective,
            if b.late = true then b.arrived else b.effective⟩] }
        else u.chan n) ∧
      { u.graft s' with truss := u.truss, chans := u.chans } = u)

/-- Settings and commands of the king post (R176, R179, R182, R185, R200, R201, R203). -/
def Obligations.KingPostCommands : Prop :=
  ∀ (s u : State) (t : Nat) (r : Req) (x : Session) (now : Ticks), u = s.advance t → now = u.trussNow →
    (∀ (c : Instr) (sub : Nat) (data : Bytes), u.ownKing = false → u.Writes r x 0x2500 sub data →
      (c = .horizonWrite t r data ∧ sub = 3 ∧ data.length = 2 ∨ c = .bellOwnerWrite t r data ∧ sub = 0x0A ∧ data.length = 256 ∨
        c = .epochCmdNow t r ∧ sub = 8 ∧ data = [1] ∨ c = .epochCmdPps t r ∧ sub = 8 ∧ data = [2] ∨
        c = .trussResume t r ∧ sub = 0x1A ∧ data = [1] ∨ c = .trussResetCmd t r ∧ sub = 0x1A ∧ data = [2]) →
      ∃ s', exec c s = .next s' ∧ u.TurnsAway s' (writeMsg r 0x2500 sub data) Abort.wrongState.code) ∧
    (∀ (data : Bytes) (v : Nat) (c : SettingChange), u.Writes r x 0x2500 3 data → data.length = 2 → v = leNat data →
      u.ownKing = true → u.truss.hMin ≤ v → v ≤ 16384 →
      (u.alone = true →
        ∃ s', exec (.horizonWrite t r data) s = .next s' ∧ u.Replies s' (writeMsg r 0x2500 3 data) 0 [] ∧
          s'.truss = { u.truss with horizons := (now, v) :: u.truss.horizons } ∧
          { u.graftReply s' with truss := u.truss } = u) ∧
      (u.alone = false → c = { setting := 1, item := 0, at_ := switchTime now, value := BitVec.ofNat 64 v } →
        ∃ s' y, exec (.horizonWrite t r data) s = .next s' ∧ u.Sends y (u.upMsgs none (.settings c)) ∧
          y.Replies s' (writeMsg r 0x2500 3 data) 0 [] ∧
          s'.truss = { u.truss with settings := insertSetting c u.truss.settings } ∧
          { u.graftReply s' with truss := u.truss } = u)) ∧
    (∀ data : Bytes, u.Writes r x 0x2500 0x0A data → data.length = 256 → u.alone = true → u.truss.settings = [] →
      (∀ b ∈ data, b.toNat ≤ 63) →
      ∃ s', exec (.bellOwnerWrite t r data) s = .next s' ∧ u.Replies s' (writeMsg r 0x2500 0x0A data) 0 [] ∧
        (∀ n, n < 256 → s'.owner n = (data.getD n 0).toNat) ∧ (∀ n, 256 ≤ n → s'.owner n = u.owner n) ∧
        s'.truss = { u.truss with owners := s'.truss.owners } ∧ { u.graftReply s' with truss := u.truss } = u) ∧
    (u.Writes r x 0x2500 8 [1] → u.ownKing = true →
      (u.epochTaken = false → u.alone = true →
        ∃ s', exec (.epochCmdNow t r) s = .next s' ∧ u.Replies s' (writeMsg r 0x2500 8 [1]) 0 [] ∧
          s'.trussNow = u.truss.epochValue ∧ s'.truss.epochSet = true ∧ s'.truss.timeApprox = false ∧
          s'.mem = u.mem ∧ s'.tts = u.tts) ∧
      (∀ c : SettingChange, u.epochTaken = false → u.alone = false →
        c = { setting := 3, item := 0, at_ := switchTime now, value := u.truss.epochValue } →
        ∃ s' y, exec (.epochCmdNow t r) s = .next s' ∧ u.Sends y (u.upMsgs none (.settings c)) ∧
          y.Replies s' (writeMsg r 0x2500 8 [1]) 0 [] ∧
          s'.truss = { u.truss with settings := insertSetting c u.truss.settings } ∧
          { u.graftReply s' with truss := u.truss } = u) ∧
      (u.epochTaken = true →
        ∃ s', exec (.epochCmdNow t r) s = .next s' ∧ u.TurnsAway s' (writeMsg r 0x2500 8 [1]) Abort.wrongState.code)) ∧
    (∀ (c : SettingChange) (e : Nat), u.Writes r x 0x2500 8 [2] → u.ownKing = true → u.epochTaken = false →
      u.ppsPresent = true → e = u.ppsPredicted →
      c = { setting := 3, item := 0, at_ := u.trussAt e, value := u.truss.epochValue } →
      ∃ s' y, exec (.epochCmdPps t r) s = .next s' ∧ u.Sends y (u.upMsgs none (.settings c)) ∧
        y.Replies s' (writeMsg r 0x2500 8 [2]) 0 [] ∧
        s'.truss = { u.truss with ppsDue := some e, settings := insertSetting c u.truss.settings } ∧
        { u.graftReply s' with truss := u.truss } = u) ∧
    (∀ c : SettingChange, u.Writes r x 0x2500 0x1A [1] → u.ownKing = true → u.trussUp = true →
      (u.alone = true →
        ∃ s', exec (.trussResume t r) s = .next s' ∧ u.Replies s' (writeMsg r 0x2500 0x1A [1]) 0 [] ∧ s'.truss.broken = false ∧
          (∀ n, n < 64 → u.truss.broken = true → (u.chan n).broke = .pending → (s'.chan n).broke = .none) ∧
          (u.truss.broken = false → u.graftReply s' = u) ∧ s'.mem.bytes = u.mem.bytes) ∧
      (u.alone = false → c = { setting := 4, item := 0, at_ := switchTime now, value := 0 } →
        ∃ s' y, exec (.trussResume t r) s = .next s' ∧ u.Sends y (u.upMsgs none (.settings c)) ∧
          y.Replies s' (writeMsg r 0x2500 0x1A [1]) 0 [] ∧
          s'.truss = { u.truss with settings := insertSetting c u.truss.settings } ∧
          { u.graftReply s' with truss := u.truss } = u)) ∧
    (∀ w : BellWord, u.Writes r x 0x2500 0x1A [2] → u.ownKing = true → w = u.bellWord 1 0 0 now srcTrussCmd 0 →
      ∃ s' y, exec (.trussResetCmd t r) s = .next s' ∧ u.Sends y (u.bellMsgs none w) ∧
        y.Replies s' (writeMsg r 0x2500 0x1A [2]) 0 [] ∧ s'.truss.resets = u.truss.resets ++ [u.effective now] ∧
        ((u.punctual w now).isLate = false → (u.punctual w now).isSlow = false →
          s'.truss = { u.truss with
            bells := u.truss.bells ++ [u.punctual w now], resets := u.truss.resets ++ [u.effective now] } ∧
          { u.graftReply s' with truss := u.truss } = u))

/-- Switches, TRUSS resets and recovery of truss time (R19, R179, R181, R183, R185, R323). Which boundary a reset of a
channel takes, what it clears, and that the local copies of truss time need no state, is the model's reading
(assumption logs 26, 46 and 52). -/
def Obligations.SettingsAndTrussResets : Prop :=
  ∀ (s u : State) (t : Nat) (now : Ticks), u = s.advance t → u.still = false → now = u.trussNow →
    (∀ c rest, u.truss.settings = c :: rest → ticksGe now c.at_ = true →
      (∀ d rest', rest = d :: rest' → ticksGe now d.at_ = false) →
      c.setting = 1 ∨ c.setting = 2 ∨ c.setting = 5 ∨ c.setting = 6 →
      ∃ s', exec (.settingSwitch t) s = .next s' ∧ s'.truss.settings = rest ∧
        (c.setting = 1 → s'.truss = { u.truss with
          settings := rest, horizons := (c.at_, c.value.toNat) :: u.truss.horizons }) ∧
        (c.setting = 2 → s'.truss = { u.truss with settings := rest, owners := s'.truss.owners } ∧
          ∀ n, sget (fun _ => []) s'.truss.owners n = if n = c.item.toNat
            then (c.at_, c.value.toNat % 64) :: sget (fun _ => []) u.truss.owners n else sget (fun _ => []) u.truss.owners n) ∧
        (c.setting = 5 → s'.truss = { u.truss with
          settings := rest, mixes := (c.at_, c.value.toNat % 2) :: u.truss.mixes
          hMin := hMinOf (u.tmaxAt c.at_) (decide (c.value.toNat = 1)) }) ∧
        (c.setting = 6 → s'.truss = { u.truss with
          settings := rest, tmaxes := (c.at_, c.value.toNat) :: u.truss.tmaxes
          hMin := hMinOf c.value.toNat (u.mixedAt c.at_) }) ∧
        { u.graft s' with truss := u.truss } = u) ∧
    (∀ (l : Fin 48) (c : SettingChange), u.upLane l = true → (u.lane l).link = .up ∨ (u.lane l).link = .join →
      (ticksGe now c.at_ = false ∨ c.setting = 1) →
      ∃ s', exec (.settingsBlockRx t l c) s = .next s' ∧ s'.out = u.out ++ u.upMsgs (some l.val) (.settings c) ∧
        s'.truss = (if ticksGe now c.at_ = true then { u.truss with horizons := (now, c.value.toNat) :: u.truss.horizons }
          else { u.truss with settings := insertSetting c u.truss.settings }) ∧ u.OnTruss (u.graft s')) ∧
    (∀ e, u.truss.resets = [e] → ticksGe now e = true →
      ∃ s', exec (.trussReset t) s = .next s' ∧ s'.truss.resets = [] ∧ s'.truss.epochSet = false ∧ s'.sys.cause = 5 ∧
        (∀ i, i < 6144 → s'.tt i = (u.tt i).clearRun) ∧ (∀ j, j < 96 → (s'.joiner j).bells = []) ∧
        s'.tiu.ring = [] ∧ s'.tiu.head = 0 ∧ s'.tiu.tail = 0 ∧
        (∀ c, c < 16 → s'.slot c = (u.slot c).clear) ∧
        (∀ n, n < 64 → (u.clockRuns n = false ∨ u.boundaryOfTicks n e ≤ u.boundaryNow n) →
          (s'.chan n).queue = [] ∧ (s'.chan n).act = .idle ∧ (s'.chan n).marks = 0 ∧ (s'.chan n).ramp = none) ∧
        (∀ n, n < 64 → u.clockRuns n = true → u.boundaryNow n < u.boundaryOfTicks n e →
          s'.chan n = { u.chan n with resetK := some (u.boundaryOfTicks n e, true) }) ∧
        s'.mem.bytes = u.mem.bytes) ∧
    (∀ (p : BitVec 80) (q : Int), u.truss.recover = true → u.time.running = true → u.timeLink.isSome = true →
      q = roundHalfEven ((p.toNat : Int) - (u.subTicks : Int)) 524288 →
      ∃ s', exec (.trussTimeRecovery t p) s = .next s' ∧ s'.trussNow = BitVec.ofInt 64 (q * 8) ∧
        s'.truss.timeValid = true ∧ s'.truss.recover = false ∧ s'.tts = u.tts ∧ s'.mem = u.mem) ∧
    (∀ core : Fin 72, ∃ s', exec (.timeSnapshot t core) s = .next s' ∧ u.graft s' = u)

/-- Heartbeats and breaks (R183, R184, R194, R195, R198, R199, R205). SEQ counts the heartbeats before this one, and
the REFUSED end of the parent goes back to SIGNAL, by the model's choice (assumption logs 97 and 98); at loss of the
link the boundary is that of log 26. -/
def Obligations.HeartbeatsAndBreaks : Prop :=
  ∀ (s u : State) (t : Nat) (now : Ticks), u = s.advance t → u.still = false → now = u.trussNow →
    (∀ (l : Fin 48) (v : Lane), v = u.lane l → u.ronzal l = true →
      (v.link = .up ∨ v.link = .refused → v.saidAt + usFs ≤ u.now →
        ∃ s', exec (.heartbeatSend t l) s = .next s' ∧
          s'.out = u.out ++ [linkMsg l (.heartbeat {
            seq := BitVec.ofNat 32 v.seq, lstate := BitVec.ofNat 4 v.link.code, time := now })] ∧
          v.SameButSlots { s'.lane l with saidAt := v.saidAt, seq := v.seq } ∧ (s'.lane l).seq = v.seq + 1 ∧
          (s'.lane l).saidAt = u.now ∧ u.OnLane (u.graft s') l) ∧
      (∀ (b : HeartbeatBlock) (off : Int), v.link = .up ∨ v.link = .refused →
        off = ticksDiff now b.time * 65536 + u.subTicks - v.delay →
        (v.role = 0 ∨ v.link = .refused ∨ u.time.running = false ∨ u.truss.recover = true →
          ∃ s', exec (.heartbeatRx t l b) s = .next s' ∧ s'.lane l = { v with heardAt := u.now } ∧
            s'.out = u.out ∧ u.OnLane (u.graft s') l) ∧
        (v.role ≠ 0 → v.link = .up → u.time.running = true → u.truss.recover = false →
          (off.natAbs ≤ 16 * 65536 →
            ∃ s', exec (.heartbeatRx t l b) s = .next s' ∧ s'.lane l = { v with heardAt := u.now, offBeats := 0 } ∧
              s'.out = u.out ∧ u.OnLane (u.graft s') l) ∧
          (16 * 65536 < off.natAbs → v.offBeats < 3 →
            ∃ s', exec (.heartbeatRx t l b) s = .next s' ∧
              s'.lane l = { v with heardAt := u.now, offBeats := v.offBeats + 1 } ∧
              s'.out = u.out ∧ u.OnLane (u.graft s') l) ∧
          (16 * 65536 < off.natAbs → 3 ≤ v.offBeats →
            ∃ s', exec (.heartbeatRx t l b) s = .next s' ∧ (s'.lane l).link = .signal ∧ (s'.lane l).refBad = true ∧
              s'.truss.broken = true ∧ s'.truss.linkLosses = u.truss.linkLosses + 1))) ∧
      (v.link = .up → v.heardAt + 4 * usFs ≤ u.now →
        (v.role = 0 →
          ∃ s', exec (.linkLost t l) s = .next s' ∧ (s'.lane l).link = .signal ∧ (s'.lane l).downs = v.downs + 1 ∧
            s'.truss = u.truss ∧ s'.out = u.out ∧ s'.chans = u.chans ∧ (∀ m, m ≠ l.val → s'.lane m = u.lane m)) ∧
        (v.role ≠ 0 → u.truss.broken = true →
          ∃ s', exec (.linkLost t l) s = .next s' ∧ (s'.lane l).link = .signal ∧ (s'.lane l).lost = true ∧
            s'.truss = { u.truss with linkLosses := u.truss.linkLosses + 1 } ∧ s'.out = u.out ∧ s'.chans = u.chans) ∧
        (v.role ≠ 0 → u.truss.broken = false →
          ∃ s', exec (.linkLost t l) s = .next s' ∧ (s'.lane l).link = .signal ∧ (s'.lane l).lost = true ∧
            { s'.truss with flagsWas := u.truss.flagsWas } = { u.truss with
              linkLosses := u.truss.linkLosses + 1, broken := true, breakTime := now, flags := u.truss.flags ||| 32
              bells := u.truss.bells ++ u.breakBells l (BitVec.ofNat 8 l) } ∧
            s'.out = u.out ++ u.upMsgs (some l.val)
              (.break_ { detector := BitVec.ofNat 6 u.deviceNum, lane := BitVec.ofNat 6 l.val, time := now }) ∧
            (∀ n, n < 64 → s'.chan n = { u.chan n with broke := .pending }) ∧ s'.tts = u.tts)) ∧
      (v.link = .refused → v.role = roleDown → max v.heardAt v.since + 4 * usFs ≤ u.now →
        ∃ s', exec (.linkLost t l) s = .next s' ∧ s'.lane l = { v with link := .signal, since := u.now } ∧
          s'.out = u.out ∧ u.OnLane (u.graft s') l)) ∧
    (∀ (l : Fin 48) (b : BreakBlock), u.linkIsUp l = true →
      (u.truss.broken = false →
        ∃ s', exec (.breakBlockRx t l b) s = .next s' ∧
          { s'.truss with flagsWas := u.truss.flagsWas } = { u.truss with
            broken := true, breakTime := now, flags := u.truss.flags ||| 32
            bells := u.truss.bells ++ u.breakBells b.lane.toNat 0xFF } ∧
          s'.out = u.out ++ u.upMsgs (some l.val)
            (.break_ { detector := BitVec.ofNat 6 u.deviceNum, lane := b.lane, time := now }) ∧
          (∀ n, n < 64 → s'.chan n = { u.chan n with broke := .pending }) ∧ s'.tts = u.tts ∧ s'.mem = u.mem) ∧
      (u.truss.broken = true → ∃ s', exec (.breakBlockRx t l b) s = .next s' ∧ u.graft s' = u)) ∧
    (∀ n : Fin 64, u.truss.broken = true → (u.chan n).broke = .pending → u.clockRuns n = true →
      u.boundaryOfTicks n u.truss.breakTime ≤ u.boundaryNow n → (u.chan n).state = .playing →
      (u.breakPolicy n = breakHold → u.serves n = false →
        ∃ s', exec (.breakPolicyApply t n) s = .next s' ∧ (s'.chan n).state = .held ∧ (s'.chan n).stale = true ∧
          (s'.chan n).broke = .held ∧ u.OnChan (u.graft s') n) ∧
      (u.breakPolicy n = breakPark → u.serves n = false →
        ∃ s', exec (.breakPolicyApply t n) s = .next s' ∧ (s'.chan n).state = .parked ∧ (s'.chan n).queue = [] ∧
          (s'.chan n).act = .idle ∧ (s'.chan n).broke = .parked ∧ u.OnChan (u.graft s') n) ∧
      (u.breakPolicy n = breakHighz →
        ∃ s', exec (.breakPolicyApply t n) s = .next s' ∧ (s'.chan n).state = .off ∧ (s'.chan n).act = .idle ∧
          (s'.chan n).broke = (if (u.chan n).enable = true then .highz else .none) ∧
          (∀ m, m ≠ n.val → s'.chan m = u.chan m) ∧ s'.mem.bytes = u.mem.bytes ∧ s'.tts = u.tts))

/-- Lane configuration and tests (R195, R197, R204, R222). `y` is the device before the reply leaves, which over a lane is in
data blocks. -/
def Obligations.LaneCommands : Prop :=
  ∀ (s u : State) (t : Nat) (r : Req) (x : Session) (data : Bytes) (v : Nat), u = s.advance t → v = leNat data →
    (u.Writes r x 0x2500 1 data → data.length = 1 → 1 ≤ v → v ≤ 63 →
      (∀ l, l < 48 → u.trussLane l = true → (u.lane l).link = .disabled ∨ (u.lane l).link = .refused) →
      ∃ s' y : State, exec (.deviceNumWrite t r data) s = .next s' ∧ y.Replies s' (writeMsg r 0x2500 1 data) 0 [] ∧
        s'.truss = { u.truss with num := v } ∧ { u.graftReply s' with truss := u.truss } = u ∧
        { y with truss := u.truss, lanes := u.lanes } = u ∧
        ∀ l, y.lane l = if l < 48 ∧ u.trussLane l = true ∧ (u.lane l).link = .refused then
          { u.lane l with link := .signal, since := u.now } else u.lane l) ∧
    (∀ l, u.Writes r x 0x2500 0x13 data → data.length = 1 → l = x.sel.get 0x2500 0x12 →
      ((u.laneQuad l).en = false → bits v 1 0 ≤ 2 → (bits v 1 0 = 1 → ∀ i, i < 48 → i ≠ l → (u.lane i).role ≠ 1) →
        ∃ s' y : State, exec (.linkCfgWrite t r data) s = .next s' ∧ y.Replies s' (writeMsg r 0x2500 0x13 data) 0 [] ∧
          y.lane l = { u.lane l with role := bits v 1 0 } ∧ (∀ m, m ≠ l → y.lane m = u.lane m) ∧
          { y with lanes := u.lanes } = u ∧ u.graftReply s' = u) ∧
      ((u.laneQuad l).en = true →
        ∃ s', exec (.linkCfgWrite t r data) s = .next s' ∧
          u.TurnsAway s' (writeMsg r 0x2500 0x13 data) Abort.blockRunning.code)) ∧
    (∀ q, u.Writes r x 0x2600 2 data → data.length = 4 → q = x.sel.get 0x2600 1 →
      (bitOf v 31 = true → (u.quad q).en = false → bits v 1 0 = 1 ∨ (bits v 1 0 = 2 ∧ q ≤ 3) →
        ∃ s' y : State, exec (.quadEnable t r data) s = .next s' ∧ y.Replies s' (writeMsg r 0x2600 2 data) 0 [] ∧
          s'.quad q = { en := true, mode := bits v 1 0 } ∧ (∀ p, p ≠ q → s'.quad p = u.quad p) ∧ y.quads = s'.quads ∧
          (∀ l, y.lane l = if l / 4 = q ∧ (u.lane l).test = 0 then
            { u.lane l with link := .signal, since := u.now } else u.lane l) ∧
          { y with quads := u.quads, lanes := u.lanes } = u ∧ { u.graftReply s' with quads := u.quads } = u) ∧
      (bitOf v 31 = false → (u.quad q).en = true → bits v 1 0 = (u.quad q).mode → bits v 1 0 ≠ 3 → q ≤ 3 ∨ bits v 1 0 ≠ 2 →
        ∃ s', exec (.quadDisable t r data) s = .next s' ∧ (s'.quad q).en = false ∧ (∀ p, p ≠ q → s'.quad p = u.quad p) ∧
          (∀ l, l / 4 = q → (s'.lane l).link = .disabled) ∧ (∀ l, l / 4 ≠ q → (s'.lane l).link = (u.lane l).link) ∧
          ((∀ l, l / 4 = q → (u.lane l).link ≠ .up) →
            { u.graftReply s' with quads := u.quads } = u ∧
            ∃ y : State, y.Replies s' (writeMsg r 0x2600 2 data) 0 [] ∧ y.quads = s'.quads ∧
              (∀ l, y.lane l = if l / 4 = q then { u.lane l with link := .disabled, since := u.now } else u.lane l) ∧
              { y with quads := u.quads, lanes := u.lanes } = u))) ∧
    (∀ l, u.Writes r x 0x2600 5 data → data.length = 1 → l = x.sel.get 0x2600 3 → v < 16 →
      (v ≠ 0 → bits v 3 2 ≠ 3 → bits v 1 0 ≠ 3 → (bits v 3 2 = 2 → bits v 1 0 = 0) → (u.lane l).link ≠ .up →
        ∃ s' y : State, exec (.laneTestStart t r data) s = .next s' ∧ y.Replies s' (writeMsg r 0x2600 5 data) 0 [] ∧
          y.lane l = { u.lane l with
            test := v, testSince := u.now, prbsBits := 0, prbsErrors := 0, prbsLock := false, prbsAt := u.now
            link := .disabled } ∧
          (∀ m, m ≠ l → y.lane m = u.lane m) ∧ { y with lanes := u.lanes } = u ∧ u.graftReply s' = u) ∧
      (v ≠ 0 → bits v 3 2 ≠ 3 → bits v 1 0 ≠ 3 → (bits v 3 2 = 2 → bits v 1 0 = 0) → (u.lane l).link = .up →
        ∃ s', exec (.laneTestStart t r data) s = .next s' ∧
          u.TurnsAway s' (writeMsg r 0x2600 5 data) Abort.blockRunning.code) ∧
      (data = [0] → (u.lane l).test ≠ 0 →
        ∃ s' y : State, exec (.laneTestEnd t r) s = .next s' ∧ y.Replies s' (writeMsg r 0x2600 5 data) 0 [] ∧
          { y.lane l with
            prbsBits := (u.lane l).prbsBits, prbsErrors := (u.lane l).prbsErrors, prbsLock := (u.lane l).prbsLock
            prbsAt := (u.lane l).prbsAt } =
            (let w : Lane := { u.lane l with test := 0 }
             if (u.laneQuad l).en = true ∧ (u.laneQuad l).mode ≠ 0 then { w with link := .signal, since := u.now } else w) ∧
          ((u.lane l).test % 4 = 0 → (y.lane l).prbsBits = (u.lane l).prbsBits ∧
            (y.lane l).prbsErrors = (u.lane l).prbsErrors) ∧
          ((u.lane l).prbsErrors ≤ (u.lane l).prbsBits → (y.lane l).prbsErrors ≤ (y.lane l).prbsBits) ∧
          (∀ m, m ≠ l → y.lane m = u.lane m) ∧ { y with lanes := u.lanes } = u ∧ u.graftReply s' = u))

/-- Link training and delay (R181, R183, R184, R192, R195, R196, R205). -/
def Obligations.LinkTraining : Prop :=
  ∀ (s u : State) (t z : Nat) (l : Fin 48) (v : Lane), u = s.advance t → u.still = false → v = u.lane l → z = u.now →
    (v.link = .signal → u.ronzal l = true →
      (∃ s', exec (.clockRecoveryLock t l) s = .next s' ∧ s'.lane l = { v with link := .blockLock, since := z } ∧
        (∀ m, m ≠ l.val → s'.lane m = u.lane m) ∧ { u.graft s' with lanes := u.lanes } = u) ∧
      (v.since + 100 * msFs ≤ z →
        ∃ s', exec (.signalTimeout t l) s = .next s' ∧ s'.lane l = { v with since := z } ∧
          (∀ m, m ≠ l.val → s'.lane m = u.lane m) ∧
          s'.truss = { u.truss with trainFails := if v.role = 0 then u.truss.trainFails else u.truss.trainFails + 1 } ∧
          { u.graft s' with lanes := u.lanes, truss := u.truss } = u)) ∧
    (v.link = .blockLock →
      ∃ s', exec (.codewordAligned t l) s = .next s' ∧
        ({ v with link := .capability, since := z } : Lane).SameButSlots (s'.lane l) ∧
        s'.out = u.out ++ [linkMsg l (.train (u.trainBlock l))] ∧ u.OnLane (u.graft s') l) ∧
    (v.link = .blockLock ∨ v.link = .rate → v.since + 10 * msFs ≤ z →
      ∃ s', exec (.blockLockTimeout t l) s = .next s' ∧ s'.lane l = { v with link := .signal, since := z } ∧
        (∀ m, m ≠ l.val → s'.lane m = u.lane m) ∧ { u.graft s' with lanes := u.lanes } = u) ∧
    (v.link = .capability →
      (v.since + 100 * msFs ≤ z →
        ∃ s', exec (.capabilityRetry t l) s = .next s' ∧ ({ v with since := z } : Lane).SameButSlots (s'.lane l) ∧
          s'.out = u.out ++ [linkMsg l (.train (u.trainBlock l))] ∧ u.OnLane (u.graft s') l) ∧
      ∀ (b : TrainBlock) (w : Lane),
        w = { v with partner := b.deviceNum.toNat, partnerOld := decide (v.role ≠ 0 ∧ b.part = 0x2412) } →
        (rolesFit v.role b.role.toNat = false →
          ∃ s', exec (.trainBlockRx t l b) s = .next s' ∧ s'.lane l = { v with roleBad := true, roleBadLane := true } ∧
            (∀ m, m ≠ l.val → s'.lane m = u.lane m) ∧ { u.graft s' with lanes := u.lanes } = u) ∧
        (rolesFit v.role b.role.toNat = true →
          (v.role ≠ 0 → b.refFreq ≠ (u.trainBlock l).refFreq ∨ b.tbWords ≠ (u.trainBlock l).tbWords →
            ∃ s', exec (.trainBlockRx t l b) s = .next s' ∧ s'.lane l = { w with refBad := true } ∧
              (∀ m, m ≠ l.val → s'.lane m = u.lane m) ∧
              { s'.truss with flagsWas := u.truss.flagsWas } = { u.truss with flags := u.truss.flags ||| 8 } ∧
              { u.graft s' with lanes := u.lanes, truss := u.truss } = u) ∧
          (v.role = 0 ∨ b.refFreq = (u.trainBlock l).refFreq ∧ b.tbWords = (u.trainBlock l).tbWords →
            (b.version = 2 →
              ∃ s', exec (.trainBlockRx t l b) s = .next s' ∧
                s'.lane l = { w with version := 2, link := .rate, since := z } ∧
                (∀ m, m ≠ l.val → s'.lane m = u.lane m) ∧ { u.graft s' with lanes := u.lanes } = u) ∧
            (b.version = 1 → v.role ≠ 0 →
              ∃ s', exec (.trainBlockRx t l b) s = .next s' ∧
                ({ w with
                  version := 1, link := .delay, since := z, trips := 0, exchanges := 0
                  requestTa := BitVec.ofNat 64 (u.departure 0) } : Lane).SameButSlots (s'.lane l) ∧
                s'.out = u.out ++ [linkMsg l (.time {
                  kind := 0, exchange := 0, ta := BitVec.ofNat 64 (u.departure 0), tb := 0 })] ∧
                u.OnLane (u.graft s') l)))) ∧
    (v.link = .rate →
      (v.role = 0 →
        ∃ s', exec (.rateLocked t l) s = .next s' ∧
          s'.lane l = { v with
            link := .up, since := z, heardAt := z, saidAt := z, seq := 0, offBeats := 0, sent := 0, outbox := []
            freed := 0, stale := v.held, partnerFreed := 0, rxDue := 0, discarding := false, bulkSeq := none
            superframe := (0, 0), dataSlots := 0 } ∧
          (∀ m, m ≠ l.val → s'.lane m = u.lane m) ∧ { u.graft s' with lanes := u.lanes } = u) ∧
      (v.role ≠ 0 →
        ∃ s', exec (.rateLocked t l) s = .next s' ∧
          ({ v with
            link := .delay, since := z, trips := 0, exchanges := 0
            requestTa := BitVec.ofNat 64 (u.departure 0) } : Lane).SameButSlots (s'.lane l) ∧
          s'.out = u.out ++ [linkMsg l (.time {
            kind := 0, exchange := 0, ta := BitVec.ofNat 64 (u.departure 0), tb := 0 })] ∧
          u.OnLane (u.graft s') l)) ∧
    (∀ (b : TimeBlock) (arrival own : BitVec 64) (x : Nat), u.trussLane l = true → x = u.departure 90 →
      (b.kind = 0 → v.link = .up → u.truss.timeValid = true → u.time.running = true →
        ∃ s', exec (.timeBlockRx t l b arrival own) s = .next s' ∧ v.SameButSlots (s'.lane l) ∧
          s'.out = u.out ++ [linkMsg l (.time {
            kind := 2, exchange := 0, ta := BitVec.ofNat 64 (x / 65536), tb := BitVec.ofNat 64 (x % 65536) })] ∧
          u.OnLane (u.graft s') l) ∧
      (b.kind = 0 → v.link = .delay ∨ v.link = .join →
        ∃ s', exec (.timeBlockRx t l b arrival own) s = .next s' ∧ v.SameButSlots (s'.lane l) ∧
          s'.out = u.out ++ [linkMsg l (.time { kind := 1, exchange := b.exchange, ta := arrival, tb := own })] ∧
          u.OnLane (u.graft s') l) ∧
      (b.kind = 1 → v.link = .delay → v.exchanges < 1024 → b.exchange.toNat = v.exchanges →
        ∃ s', exec (.timeBlockRx t l b arrival own) s = .next s' ∧
          ({ v with
            trips := v.trips + ((arrival - v.requestTa) - (b.tb - b.ta)).toNat, exchanges := v.exchanges + 1
            requestTa := if v.exchanges = 1023 then v.requestTa else BitVec.ofNat 64 (u.departure (v.exchanges + 1)) }
              : Lane).SameButSlots (s'.lane l) ∧
          s'.out = u.out ++ (if v.exchanges = 1023 then [] else [linkMsg l (.time {
            kind := 0, exchange := BitVec.ofNat 10 (v.exchanges + 1)
            ta := BitVec.ofNat 64 (u.departure (v.exchanges + 1)), tb := 0 })]) ∧
          u.OnLane (u.graft s') l)) ∧
    (∀ (x : Nat) (block : Nat → Nat → Nat → LinkBlock), x = u.departure 90 →
      (block = fun setting item value => .settings {
        setting := BitVec.ofNat 8 setting, item := BitVec.ofNat 8 item, at_ := u.trussNow
        value := BitVec.ofNat 64 value }) →
      v.link = .delay → v.exchanges = 1024 →
      ∃ s', exec (.delayComplete t l) s = .next s' ∧
        ({ v with link := .join, since := z, delay := (roundHalfEven v.trips 2048).toNat } : Lane).SameButSlots (s'.lane l) ∧
        (v.role ≠ 2 → s'.out = u.out) ∧
        (v.role = 2 → s'.out = u.out
          ++ linkMsg l (.time {
              kind := 2, exchange := 0, ta := BitVec.ofNat 64 (x / 65536), tb := BitVec.ofNat 64 (x % 65536) })
          :: linkMsg l (block 1 0 (u.horizonAt u.trussNow)) :: linkMsg l (block 6 0 (u.tmaxAt u.trussNow))
          :: linkMsg l (block 5 0 (if u.mixed = true then 1 else 0))
          :: (List.range 256).map fun n => linkMsg l (block 2 n (u.owner n))) ∧
        u.OnLane (u.graft s') l) ∧
    (∀ (b : TimeBlock) (q exact : Int), b.kind = 2 → u.time.running = true →
      u.upLane l = true ∧ v.link = .join ∨ u.truss.recover = true ∧ u.timeLink = some l.val →
      exact = ((b.ta.toNat * 65536 + b.tb.toNat % 65536 + v.delay : Nat) : Int) - (u.subTicks : Int) →
      q = roundHalfEven exact 524288 →
      ∃ s', exec (.timeTransferRx t l b) s = .next s' ∧ s'.trussNow = BitVec.ofInt 64 (q * 8) ∧
        s'.truss.timeValid = true ∧ s'.truss.recover = false ∧ v.SameButSlots (s'.lane l) ∧
        s'.out = u.out ++ (if v.link = .join then [linkMsg l (.join {
          kind := 0, device := BitVec.ofNat 6 u.truss.num, parent := BitVec.ofNat 6 v.partner, old := false, reason := 0
          delay := BitVec.ofNat 64 v.delayPs })] else []) ∧
        s'.tts = u.tts ∧ s'.mem = u.mem)

/-- Joining, credit and ETH ports (R191, R197, R208, R209, R212 to R214, R224, R284). What a stream lane's partner of
version 1 does, that ADMIT and REFUSE go on over every DOWN lane, and which row brings which frame in, is the model's
reading (assumption logs 48 and 56). -/
def Obligations.JoiningCreditAndEth : Prop :=
  ∀ (s u : State) (t z : Nat), u = s.advance t → u.still = false → z = u.now →
    (∀ (l : Fin 48) (v : Lane) (b : JoinBlock) (d : Nat), v = u.lane l → d = b.device.toNat →
      (b.kind = 0 → u.downLane l = true → v.link = .join ∨ v.link = .up →
        (u.king = false →
          ∃ s', exec (.joinReportRx t l b) s = .next s' ∧
            s'.out = u.out ++ ((allLanes.filter fun i => u.upLane i && decide ((u.lane i).link = .up)).map fun i =>
              linkMsg i (.join b)) ∧
            (∀ m, m < 48 → ({ u.lane m with
              below := if m = l.val then d :: (u.lane m).below.filter (· ≠ d) else (u.lane m).below.filter (· ≠ d) }
                : Lane).SameButSlots (s'.lane m)) ∧
            { u.graft s' with lanes := u.lanes, out := u.out } = u) ∧
        (u.king = true → u.joinReason b = 0 →
          ∃ s', exec (.joinReportRx t l b) s = .next s' ∧ (s'.lane l).link = .up ∧
            (∃ more, s'.out = u.out ++ linkMsg l (.join { b with kind := 1, reason := 0, delay := 0 }) :: more) ∧
            sget (fun _ => {}) s'.truss.map d = { present := true, old := b.old, parent := b.parent.toNat } ∧
            (∀ e, e ≠ d → sget (fun _ => {}) s'.truss.map e = sget (fun _ => ({} : Member)) u.truss.map e) ∧
            s'.mem = u.mem) ∧
        (u.king = true → u.joinReason b ≠ 0 →
          ∃ s', exec (.joinReportRx t l b) s = .next s' ∧
            (s'.lane l).link = (if v.link = .join then .refused else .up) ∧
            s'.out = u.out ++ [linkMsg l (.join { b with kind := 2, reason := BitVec.ofNat 8 (u.joinReason b), delay := 0 })] ∧
            { s'.truss with flagsWas := u.truss.flagsWas } = { u.truss with flags := u.truss.flags ||| 2 } ∧
            { u.graft s' with lanes := u.lanes, out := u.out, truss := u.truss } = u)) ∧
      (u.upLane l = true → v.link = .join → d = u.truss.num →
        (b.kind = 1 →
          ∃ s', exec (.joinAdmitRx t l b) s = .next s' ∧ (s'.lane l).link = .up ∧ (s'.lane l).since = z ∧
            s'.truss = { u.truss with joined := true } ∧ (∀ m, m ≠ l.val → s'.lane m = u.lane m) ∧
            { u.graft s' with truss := u.truss, lanes := u.lanes } = u) ∧
        (b.kind = 2 →
          ∃ s', exec (.joinRefuseRx t l b) s = .next s' ∧ s'.lane l = { v with link := .refused, since := z, idBad := true } ∧
            { s'.truss with flagsWas := u.truss.flagsWas } = { u.truss with flags := u.truss.flags ||| 2 } ∧ (∀ m, m ≠ l.val → s'.lane m = u.lane m) ∧
            { u.graft s' with truss := u.truss, lanes := u.lanes } = u)) ∧
      (u.upLane l = true → v.link = .up → ∀ (c : Instr) (to_ : LinkState),
        c = .joinAdmitRx t l b ∧ b.kind = 1 ∧ to_ = .up ∨ c = .joinRefuseRx t l b ∧ b.kind = 2 ∧ to_ = .refused →
        ∃ s', exec c s = .next s' ∧ s'.out = u.out ++ (u.laneTo d).map (fun i => linkMsg i (.join b)) ∧
          (∀ m, (s'.lane m).link = if u.joining d = some m then to_ else (u.lane m).link) ∧
          (∀ m, u.joining d ≠ some m → (u.lane m).SameButSlots (s'.lane m)) ∧
          { u.graft s' with lanes := u.lanes, out := u.out } = u)) ∧
    (∀ (l : Fin 48) (v : Lane), v = u.lane l → u.ronzal l = true →
      (∀ kind : BitVec 8, kind = 0 ∨ 8 < kind.toNat →
        ∃ s', exec (.badBlockRx t l kind) s = .next s' ∧ s'.truss = { u.truss with badBlocks := u.truss.badBlocks + 1 } ∧
          { u.graft s' with truss := u.truss } = u) ∧
      (v.link = .up →
        (∀ freed, ∃ s' y : State, exec (.creditBlockRx t l freed) s = .next s' ∧
          y.lane l = { v with partnerFreed := freed } ∧ (∀ m, m ≠ l.val → y.lane m = u.lane m) ∧
          { y with lanes := u.lanes } = u ∧ s'.lanes = (y.runLane l).lanes ∧ s'.out = (y.runLane l).out ∧
          { u.graft s' with lanes := u.lanes, out := u.out } = u ∧
          (v.outbox = [] → v.superNow z = v.superframe.2 →
            s'.lane l = { v with partnerFreed := freed } ∧ s'.out = u.out) ∧
          (∀ (m : OutMsg) (k : Nat) (rest : List (OutMsg × Nat)), v.outbox = (m, k) :: rest →
            v.superNow z = v.superframe.2 → k ≤ v.slotsLeft → k ≤ 512 - (BitVec.ofNat 32 v.sent - freed).toNat →
            m ∈ s'.out)) ∧
        (∀ b : BitVec 256, v.held < 512 → v.discarding = false ∨ v.rxDue = 0 →
          ∃ s', exec (.dataBlockRx t l b) s = .next s' ∧
            s'.lane l = { v with
              landing := v.landing ++ [some b], rxDue := v.dueAfter b, discarding := false
              fullSince := if v.held = 511 then some z else none } ∧
            (∀ m, m ≠ l.val → s'.lane m = u.lane m) ∧ { u.graft s' with lanes := u.lanes } = u) ∧
        (∀ b : BitVec 256, v.held < 512 → v.discarding = true → v.rxDue ≠ 0 →
          ∃ s', exec (.dataBlockRx t l b) s = .next s' ∧
            s'.lane l = { v with rxDue := v.rxDue - 1, discarding := decide (v.rxDue ≠ 1) } ∧
            (∀ m, m ≠ l.val → s'.lane m = u.lane m) ∧ { u.graft s' with lanes := u.lanes } = u) ∧
        (∀ b : BitVec 256, 512 ≤ v.held →
          ∃ s', exec (.dataBlockRx t l b) s = .next s' ∧
            s'.lane l = { v with
              violations := v.violations + 1, flags := v.flags ||| 4, rxDue := v.dueAfter b
              discarding := decide (v.dueAfter b ≠ 0)
              landing := if v.discarding = true ∧ v.rxDue ≠ 0 then v.landing else v.landing ++ [none] } ∧
            (∀ m, m ≠ l.val → s'.lane m = u.lane m) ∧ { u.graft s' with lanes := u.lanes } = u))) ∧
    (∀ (p : Fin 16) (v : Lane) (f : EthFrame), v = u.lane p → u.ethPort p = true →
      (v.link = .up → ∀ c : Instr,
        c = .ethFrameRx t p f ∨ c = .arpRequest t (.eth p) f ∨ c = .icmpEchoRequest t (.eth p) f →
        ∃ s', exec c s = .next s' ∧
          s'.lane p =
            (if f.fcsOk = false then { v with fcsErrors := v.fcsErrors + 1 }
             else if f.carries = .pause then { v with pauseRx := v.pauseRx + 1 }
             else if u.frameWanted (.eth p) f = false then { v with other := v.other + 1 }
             else if v.occupancy + f.length ≤ 4194304 then { v with
               ingress := v.ingress ++ [f.length], rxFrames := v.rxFrames + 1
               peak := max v.peak (v.occupancy + f.length) }
             else { v with
               flags := v.flags ||| 8, ethDropped := v.ethDropped + 1, dropBytes := v.dropBytes + f.length }) ∧
          (∀ m, m ≠ p.val → s'.lane m = u.lane m) ∧
          (c = .ethFrameRx t p f ∨ u.frameTaken (.eth p) f = false → s'.out = u.out) ∧
          { u.graft s' with lanes := u.lanes, out := u.out } = u) ∧
      (v.link ≠ .up → v.test = 0 →
        ∃ s', exec (.ethLinkUp t p) s = .next s' ∧
          s'.lane p = { v with
            link := .up, since := z, heardAt := z, saidAt := z, seq := 0, offBeats := 0, sent := 0, outbox := []
            freed := 0, stale := v.held, partnerFreed := 0, rxDue := 0, discarding := false, bulkSeq := none
            superframe := (0, 0), dataSlots := 0 } ∧
          (∀ m, m ≠ p.val → s'.lane m = u.lane m) ∧ { u.graft s' with lanes := u.lanes } = u) ∧
      (v.link = .up →
        ∃ s', exec (.ethLinkDown t p) s = .next s' ∧
          s'.lane p = { v with
            link := .signal, since := z, outbox := [], rxDue := 0, discarding := false, downs := v.downs + 1
            flags := v.flags ||| 1, landing := if v.incomplete = true then v.landing ++ [none] else v.landing } ∧
          (∀ m, m ≠ p.val → s'.lane m = u.lane m) ∧
          { u.graft s' with lanes := u.lanes, card := u.card, sys := u.sys } = u)) ∧
    (∀ (p : Port) (f : EthFrame) (a : Word), u.portUp p = true → u.frameTaken p f = true → a ≠ 0 →
      (f.carries = .arp a →
        ∃ s', exec (.arpRequest t p f) s = .next s' ∧
          s'.out = u.out ++ (if a = u.portAddr p then [.arpReply p f.src a (u.portMac p)] else []) ∧
          { u.graft s' with lanes := u.lanes, out := u.out } = u) ∧
      (f.carries = .echo a →
        ∃ s', exec (.icmpEchoRequest t p f) s = .next s' ∧ a = u.portAddr p ∧
          s'.out = u.out ++ [.echoReply p f.src a] ∧ { u.graft s' with lanes := u.lanes, out := u.out } = u)) ∧
    (∀ (f : EthFrame) (c : Instr), c = .arpRequest t .mgmt f ∨ c = .icmpEchoRequest t .mgmt f →
      u.frameTaken .mgmt f = false → exec c s = .next (u.close s.pending))

/-- Power and device states (R306, R309, R310, R317 to R319). When RAIL_STATUS is good again, and how rails, droop and
OVERTEMP act in RECESS, is the model's choice (assumption logs 12 and 60). -/
def Obligations.PowerAndDeviceStates : Prop :=
  ∀ (s u : State) (t : Nat), u = s.advance t → u.held = false →
    (∀ (rail : Fin 13) (bit : BitVec 13), bit = BitVec.ofNat 13 (2 ^ rail.val) →
      ∃ s', exec (.railWarning t rail) s = .next s' ∧ s'.sys.warn = u.sys.warn ||| bit ∧
        s'.sys.good = u.sys.good &&& ~~~bit ∧ s'.sys.alert = u.sys.alert ||| 8192 ∧ { u.graft s' with sys := u.sys } = u) ∧
    (∀ rail : Fin 13, rail ≠ 0 → rail ≠ 11 → rail ≠ 12 → rail ≠ 4 → rail ≠ 5 → rail ≠ 6 →
      u.sys.state = .ready ∨ u.sys.state = .run ∨ u.sys.state = .standby →
      ∃ s', exec (.railFault t rail) s = .next s' ∧ u.SafeFrom s' 1 ∧ s'.sys.alert &&& 16384 = 16384) ∧
    (∀ rail : Fin 13, rail = 4 ∨ rail = 5 ∨ rail = 6 →
      ∃ s', exec (.railFault t rail) s = .next s' ∧ s'.mem.bytes = [] ∧ s'.sys.alert &&& 16384 = 16384) ∧
    (∀ rail : Fin 13, rail = 0 ∨ rail = 11 →
      ∃ s', exec (.railFault t rail) s = .next s' ∧ u.Cleared s' 1 ∧ s'.sys.por = true ∧ s'.mem = {}) ∧
    (∃ s', exec (.railFault t 12) s = .next s' ∧ s'.plumb.holdupOk = false ∧ s'.sys.alert &&& 16384 = 16384 ∧
      (s'.plumb.holdupLost = (u.plumb.holdupLost || u.plumb.commit.isSome)) ∧
      { u.graft s' with plumb := u.plumb, sys := u.sys } = u) ∧
    (∀ (c : Instr) (cause : Nat) (rail : Fin 13),
      (c = .railFault t rail ∧ cause = 1 ∧ rail ≠ 0 ∧ rail ≠ 11 ∧ rail ≠ 12 ∧ rail ≠ 4 ∧ rail ≠ 5 ∧ rail ≠ 6) ∨
        c = .overtemp t ∧ cause = 2 →
      u.sys.state = .boot ∨ u.sys.state = .recess →
      ∃ s', exec c s = .next s' ∧ s'.sys.state = u.sys.state ∧
        s'.sys.fsCause = (if u.sys.fsCause = 0 then cause else u.sys.fsCause) ∧
        s'.recess = { u.recess with
          highz := u.recess.highz || decide (u.sys.state = .recess)
          faulted := u.recess.faulted || decide (u.sys.state = .recess) } ∧
        { u.graft s' with sys := u.sys, recess := u.recess } = u) ∧
    (u.sys.state = .ready ∨ u.sys.state = .run ∨ u.sys.state = .standby →
      ∃ s', exec (.overtemp t) s = .next s' ∧ u.SafeFrom s' 2 ∧ s'.sys.hot = true) ∧
    (u.eclk.stopped = false →
      (∀ c, ∃ s', exec (.droop t c) s = .next s' ∧
        s'.eclk = { u.eclk with
          base := (u.now, u.cycle), hz := min u.eclk.hz (stretchHz u.eclk.ceiling c)
          droop := some (deeper u.eclk.droop c), release := none, again := u.eclk.again || u.eclk.release.isSome } ∧
        (∀ n, { s'.chan n with queue := (u.chan n).queue } = u.chan n ∧
          (s'.chan n).queue.length = (u.chan n).queue.length) ∧
        { u.graft s' with eclk := u.eclk, chans := u.chans } = u.servePorts) ∧
      (∀ c, u.eclk.droop = some c → u.eclk.release = none →
        ∃ s', exec (.droopRelease t) s = .next s' ∧ s'.eclk = { u.eclk with release := some (u.now, u.eclk.hz, 0) } ∧
          s'.card.throttles = (if u.eclk.again = true then u.card.throttles else satInc 32 u.card.throttles) ∧
          { u.graft s' with eclk := u.eclk, card := u.card, sys := u.sys } = u) ∧
      (∀ z f0 k, u.eclk.release = some (z, f0, k) → z + 250 * nsFs * (k + 1) ≤ u.now →
        ∃ s', exec (.eclkReleaseStep t) s = .next s' ∧ s'.eclk.hz = stepHz f0 u.eclk.ceiling (k + 1) ∧
          (k < 3 → s'.eclk.release = some (z, f0, k + 1) ∧ s'.eclk.droop = u.eclk.droop) ∧
          (3 ≤ k → s'.eclk.release = none ∧ s'.eclk.droop = none ∧ s'.eclk.again = false) ∧
          (∀ n, { s'.chan n with queue := (u.chan n).queue } = u.chan n ∧
            (s'.chan n).queue.length = (u.chan n).queue.length) ∧
          { u.graft s' with eclk := u.eclk, chans := u.chans } = u.servePorts)) ∧
    (u.eclk.stopped = true → ∀ c,
      ∃ s', exec (.droop t c) s = .next s' ∧ s'.sys.warn = u.sys.warn ||| 1 ∧ s'.sys.alert = u.sys.alert ||| 8192 ∧
        { u.graft s' with sys := u.sys } = u) ∧
    (∀ (r : Req) (x : Session),
      (u.Writes r x 0x2000 2 [1] →
        (u.sys.state = .ready → u.standbyBlocked = false →
          ∃ s', exec (.sysStandby t r) s = .next s' ∧ u.Replies s' (writeMsg r 0x2000 2 [1]) 0 [] ∧
            s'.sys.state = .standby ∧ s'.eclk = { u.eclk with
              base := (u.now, u.cycle), stopped := true, droop := none, release := none, again := false } ∧
            (∀ c, u.eclk.droop = some c → u.eclk.release = none → u.eclk.again = false →
              s'.card.throttles = satInc 32 u.card.throttles) ∧
            (u.eclk.droop = none → s'.card = u.card) ∧
            (u.unsettled = false → (∀ j, (u.joiner j).jobs = []) →
              (∀ n, { s'.chan n with queue := (u.chan n).queue } = u.chan n ∧
                (s'.chan n).queue.length = (u.chan n).queue.length) ∧
              { u.graftReply s' with
                eclk := u.eclk, sys := u.sys, card := u.card, chans := u.chans
                net := { (u.graftReply s').net with portsFrom := u.net.portsFrom } } = u)) ∧
        (u.sys.state ≠ .ready →
          ∃ s', exec (.sysStandby t r) s = .next s' ∧ u.TurnsAway s' (writeMsg r 0x2000 2 [1]) Abort.wrongState.code) ∧
        (u.sys.state = .ready → u.standbyBlocked = true →
          ∃ s', exec (.sysStandby t r) s = .next s' ∧ u.TurnsAway s' (writeMsg r 0x2000 2 [1]) Abort.blockRunning.code)) ∧
      (u.Writes r x 0x2000 2 [2] → u.sys.state = .standby →
        ∃ s', exec (.sysWake t r) s = .next s' ∧ u.Replies s' (writeMsg r 0x2000 2 [2]) 0 [] ∧
          (u.busy = false → s'.sys.state = .ready) ∧ s'.sys.safeOff = false ∧
          s'.eclk = { u.eclk with
            base := (u.now, u.cycle + 1), stopped := false, hz := u.eclk.ceiling * 1000000, droop := none
            release := none, again := false } ∧
          (u.truss.inbound = [] → { u.graftReply s' with eclk := u.eclk, sys := u.sys } = u)) ∧
      (u.Writes r x 0x2000 2 [3] → u.standbyBlocked = false → u.sys.state = .standby ∨ u.sys.state = .ready →
        ∃ s', exec (.sysShutdown t r) s = .next s' ∧ u.Replies s' (writeMsg r 0x2000 2 [3]) 0 [] ∧
          s'.sys.state = .standby ∧ s'.sys.shutting = true ∧ s'.sec.job.isSome = true ∧
          (u.sec.job.isSome = true → s'.sec.saveDue = true) ∧
          (u.sys.state = .ready → s'.eclk.stopped = true) ∧
          (u.sys.state = .standby → s'.eclk = u.eclk ∧ s'.chans = u.chans ∧ s'.mem = u.mem)) ∧
      (u.Writes r x 0x2000 2 [3] → u.standbyBlocked = true → u.sys.state = .standby ∨ u.sys.state = .ready →
        ∃ s', exec (.sysShutdown t r) s = .next s' ∧
          u.TurnsAway s' (writeMsg r 0x2000 2 [3]) Abort.blockRunning.code) ∧
      (u.Writes r x 0x2000 2 [4] → u.sys.state = .ready ∨ u.sys.state = .run ∨ u.sys.state = .standby →
        ∃ s', exec (.sysSafe t r) s = .next s' ∧ u.Replies s' (writeMsg r 0x2000 2 [4]) 0 [] ∧ u.SafeFrom s' 7))

/-- Resets of the device and the end of boot (R308, R312, R313, R321, R322, R324, R335). -/
def Obligations.DeviceResets : Prop :=
  ∀ (s u : State) (t : Nat), u = s.advance t →
    (u.sys.por = false →
      ∃ s', exec (.por t) s = .next s' ∧ u.Cleared s' 1 ∧ s'.sys.por = true ∧ s'.mem = {} ∧ s'.joiners = [] ∧
        s'.sec.flash = u.sec.flash ∧ s'.recess.ir = 1 ∧ u.sec.rollback ≤ s'.sec.rollback ∧
        (u.sec.advancing = false → s'.sec.rollback = u.sec.rollback) ∧
        (u.plumb.commit = none → s'.plumb.slots = u.plumb.slots)) ∧
    (u.sys.por = true →
      ∃ s', exec (.porRelease t) s = .next s' ∧ s'.sys.por = false ∧ s'.sys.pin = u.sys.rstLow ∧ s'.sys.cause = 1 ∧
        s'.sys.bootAt = u.now ∧ { u.graft s' with sys := u.sys, eclk := u.eclk } = u) ∧
    (u.held = false →
      ∃ s', exec (.rstNAssert t) s = .next s' ∧ u.Cleared s' 2 ∧ s'.sys.pin = true ∧ s'.sys.rstLow = true ∧
        s'.mem.bytes = u.mem.bytes ∧ s'.joiners = [] ∧ s'.sec.flash = u.sec.flash) ∧
    (u.held = true →
      ∃ s', exec (.rstNAssert t) s = .next s' ∧ (u.graft s').sys = { u.sys with rstLow := true } ∧
        { u.graft s' with sys := u.sys } = u) ∧
    (u.sys.pin = false ∨ u.sys.por = true ∨ u.recess.pinControl = true →
      ∃ s', exec (.rstNRelease t) s = .next s' ∧ (u.graft s').sys = { u.sys with rstLow := false } ∧
        { u.graft s' with sys := u.sys } = u) ∧
    (u.sys.pin = true → u.sys.por = false → u.recess.pinControl = false →
      ∃ s', exec (.rstNRelease t) s = .next s' ∧ s'.sys.pin = false ∧ s'.sys.rstLow = false ∧ s'.sys.cause = 2 ∧
        s'.sys.bootAt = u.now ∧ { u.graft s' with sys := u.sys, eclk := u.eclk } = u) ∧
    (∀ (r : Req) (x : Session) (target : BitVec 8), u.Writes r x 0x2000 3 (resetBytes 1 target) →
      (target = 0 → u.plumb.commit = none → u.cfg.state = .idle →
        ∃ s', exec (.warmReset t r target) s = .next s' ∧
          u.Replies s' (writeMsg r 0x2000 3 (resetBytes 1 target)) 0 [] ∧
          s'.sys.warmAt = some (u.sys.warmAt.getD (u.now + msFs)) ∧ { u.graftReply s' with sys := u.sys } = u) ∧
      (target ≠ 0 → u.plumb.commit = none → u.cfg.state = .idle →
        ∃ s', exec (.warmReset t r target) s = .next s' ∧
          u.TurnsAway s' (writeMsg r 0x2000 3 (resetBytes 1 target)) Abort.range.code) ∧
      (target = 0 → u.plumb.commit.isSome = true ∨ u.cfg.state ≠ .idle →
        ∃ s', exec (.warmReset t r target) s = .next s' ∧
          u.TurnsAway s' (writeMsg r 0x2000 3 (resetBytes 1 target)) Abort.blockRunning.code)) ∧
    (∀ (c : Instr) (cause : Nat), u.held = false →
      (c = .warmResetBegin t ∧ cause = 3 ∧ (∃ z, u.sys.warmAt = some z ∧ z ≤ u.now) ∨
        c = .watchdogReset t ∧ cause = 4 ∧ u.sys.state ≠ .boot) →
      ∃ s', exec c s = .next s' ∧ u.Cleared s' cause ∧ s'.mem.segs = u.mem.segs ∧ s'.mem.events = u.mem.events ∧
        s'.mem.rings = u.mem.rings ∧ (∀ j, j < 96 → (s'.joiner j).code = (u.joiner j).code ∧ (s'.joiner j).jobs = []) ∧
        ((∀ j, (u.joiner j).jobs = []) → s'.mem.bytes = u.mem.bytes) ∧ s'.sys.warmAt = none ∧
        s'.sys.debugLock = u.sys.debugLock) ∧
    (∀ (f : BootFindings) (w : State), u.held = false → u.sys.state = .boot →
      w = { u with sec := { u.sec with bootRollback := u.sec.rollback } } →
      (w.takenCopy imFirmware = none →
        ∃ s', exec (.bootComplete t f) s = .next s' ∧ s'.sys.state = .faultSafe ∧ s'.sec.recovery = true ∧
          s'.sys.fsCause ≠ 0 ∧ s'.chans = u.chans ∧ s'.tts = u.tts ∧ s'.mem = u.mem) ∧
      (∀ (side : Nat) (c : FlashCopy), w.takenCopy imFirmware = some (side, c) → u.sys.stepsDone = false →
        ∃ s', exec (.bootComplete t f) s = .next s' ∧ s'.sys.stepsDone = true ∧ s'.sec.runLevel = manifestLevel c.payload ∧
          s'.sec.fwVersion = manifestVersion c.payload ∧ s'.sec.fwSlot = side + 1 ∧
          (u.sys.fsCause ≠ 0 → s'.sys.fsCause = u.sys.fsCause) ∧
          (f.hbmTrained = false → s'.sys.fsCause ≠ 0)) ∧
      ((w.takenCopy imFirmware).isSome = true → u.sys.stepsDone = true → u.bootWaits = true →
        exec (.bootComplete t f) s = .next (w.close s.pending)) ∧
      ((w.takenCopy imFirmware).isSome = true → u.sys.stepsDone = true → u.bootWaits = false →
        u.sys.fsCause = 0 → f.railFault = false → f.hot = false → f.frzLow = false → u.busy = false →
        ∃ s', exec (.bootComplete t f) s = .next s' ∧ s'.sys.state = .ready ∧ s'.sys.readyAt = some (u.now) ∧
          s'.sys.fsCause = 0 ∧ s'.card = { u.card with ageing := some [] } ∧ s'.recess = { u.recess with frzLow := false } ∧
          (∀ l, l < 48 → s'.lane l = if (u.lane l).link = .disabled ∧ (u.laneQuad l).en = true ∧ (u.laneQuad l).mode ≠ 0 ∧
            (u.lane l).test = 0 then { u.lane l with link := .signal, since := u.now } else u.lane l) ∧
          { w.graft s' with sys := u.sys, card := u.card, recess := u.recess, lanes := u.lanes } = w))

/-- Block resets (R322 to R324). `y` is the device before the reply leaves, which over a lane is in data blocks. Which
boundary a channel's reset takes and what run state is cleared is the model's reading (assumption logs 26 and 46). -/
def Obligations.BlockResets : Prop :=
  (∀ (s u : State) (t : Nat) (r : Req) (x : Session) (n : BitVec 8), u = s.advance t → u.sys.state ≠ .recess →
    (u.Writes r x 0x2000 3 (resetBytes 2 n) → n.toNat < 64 →
      ∃ s', exec (.channelReset t r n) s = .next s' ∧ u.Replies s' (writeMsg r 0x2000 3 (resetBytes 2 n)) 0 [] ∧
        s'.sys.cause = 6 ∧ (∀ m, m ≠ n.toNat → s'.chan m = u.chan m) ∧ s'.tts = u.tts ∧ s'.mem.bytes = u.mem.bytes ∧
        (u.clockRuns n.toNat = true → u.boundaryNow n.toNat < u.nextBoundary n.toNat →
          s'.chan n.toNat = { u.chan n.toNat with resetK := some (u.nextBoundary n.toNat, false) } ∧
          { u.graftReply s' with chans := u.chans, sys := u.sys } = u) ∧
        (u.clockRuns n.toNat = false → (u.chan n.toNat).spanDeferred = none →
          (s'.chan n.toNat).queue = [] ∧ (s'.chan n.toNat).act = .idle ∧ (s'.chan n.toNat).acc = 0 ∧
          (s'.chan n.toNat).ramp = none ∧ (s'.chan n.toNat).marks = 0 ∧
          ((u.chan n.toNat).state = .playing → (s'.chan n.toNat).state = .parked))) ∧
    (u.Writes r x 0x2000 3 (resetBytes 3 n) → n.toNat < 96 →
      ∃ s', exec (.joinerReset t r n) s = .next s' ∧ u.Replies s' (writeMsg r 0x2000 3 (resetBytes 3 n)) 0 [] ∧
        s'.sys.cause = 7 ∧ s'.joiner n.toNat = { u.joiner n.toNat with resetting := true } ∧
        (∀ j, j ≠ n.toNat → s'.joiner j = u.joiner j) ∧
        (∀ i, i < 6144 → s'.tt i = if i / 64 = n.toNat then
          { u.tt i with state := .halted, haltCause := 2, wait := .none, held := none } else u.tt i) ∧
        s'.chans = u.chans ∧ s'.mem = u.mem) ∧
    (u.Writes r x 0x2000 3 (resetBytes 4 n) → n.toNat < 48 →
      ∃ s' y : State, exec (.laneReset t r n) s = .next s' ∧ y.Replies s' (writeMsg r 0x2000 3 (resetBytes 4 n)) 0 [] ∧
        s'.sys.cause = 8 ∧ ((u.lane n.toNat).incomplete = false → ∀ l, l ≠ n.toNat → (u.lane l).SameButSlots (y.lane l)) ∧
        (y.lane n.toNat).landing = [] ∧ (y.lane n.toNat).ingress = [] ∧ (y.lane n.toNat).outbox = [] ∧
        (y.lane n.toNat).sent = 0 ∧ (y.lane n.toNat).freed = 0 ∧ (y.lane n.toNat).partnerFreed = 0 ∧
        ((u.laneQuad n.toNat).en = true → (u.laneQuad n.toNat).mode ≠ 0 → (u.lane n.toNat).test = 0 →
          (y.lane n.toNat).link = .signal) ∧
        ((u.laneQuad n.toNat).en = false → (u.lane n.toNat).incomplete = false →
          y.lane n.toNat = { (u.lane n.toNat).notFull u.now with
            landing := [], ingress := [], rxDue := 0, discarding := false, sent := 0, outbox := [], freed := 0, stale := 0
            partnerFreed := 0, inMsg := [], inDue := 0 } ∧
          { y with sys := u.sys, lanes := u.lanes } = u ∧ { u.graftReply s' with sys := u.sys } = u)) ∧
    (u.Writes r x 0x2000 3 (resetBytes 3 n) → 96 ≤ n.toNat →
      ∃ s', exec (.joinerReset t r n) s = .next s' ∧
        u.TurnsAway s' (writeMsg r 0x2000 3 (resetBytes 3 n)) Abort.range.code)) ∧
  (∀ (y u : State) (n k : Nat) (v : Channel) (truss : Bool), u = y.dueAt n → v = y.chan n → y.reached n k = true →
    v.resetK = some (k, truss) → v.reloadK = none → v.flushing = none → v.disabling = none → v.spanDeferred = none →
    (y.bay (n / 8)).connecting = none → (y.bay (n / 8)).leaving = none →
    (u.chan n).queue = [] ∧ (u.chan n).act = .idle ∧ (u.chan n).acc = 0 ∧ (u.chan n).ramp = none ∧
      (u.chan n).marks = 0 ∧ (u.chan n).resetK = none ∧ (v.state = .playing → (u.chan n).state = .parked) ∧
      (∀ m, m ≠ n → u.chan m = y.chan m) ∧ u.tts = y.tts ∧ u.mem.bytes = y.mem.bytes) ∧
  (∀ (s u : State) (t : Nat) (j : Fin 96), u = s.advance t → u.still = false → (u.joiner j).resetting = true → (u.joiner j).jobs = [] →
    ∃ s', exec (.joinerResetComplete t j) s = .next s' ∧
      s'.joiner j = { u.joiner j with resetting := false, bells := [], last := Vector.replicate 8 63 } ∧
      (∀ k, k ≠ j.val → s'.joiner k = u.joiner k) ∧
      (∀ i, i < 6144 → s'.tt i = if i / 64 = j.val then (u.tt i).clearRun else u.tt i) ∧
      { u.graft s' with tts := u.tts, joiners := u.joiners } = u)

/-- Sessions and requests (R282 to R284, R290, R292 to R295). That session numbers count up is the model's choice
(assumption log 10). -/
def Obligations.SessionsAndRequests : Prop :=
  (∀ (s u : State) (t : Nat) (r : Req) (versions : BitVec 8), u = s.advance t → u.portOpen r.port = true → u.fromKing r.port = false →
    (∀ v, chosenVersion r.ver versions = some v → u.sessionCount false < 16 →
      ∃ s', exec (.odaOpen t r versions) s = .next s' ∧
        s'.oda.sessions = u.oda.sessions ++ [{ id := u.oda.next, version := v, port := r.port, lastAt := u.now, sel := {}, cache := [], open_ := [], proxy := false }] ∧
        s'.oda.next = (if u.oda.next + 1 = 0 then 1 else u.oda.next + 1) ∧
        s'.out = u.out ++ [.reply r.port r.peer (replyWord r.ver false 0x01 u.deviceNum) r.seq r.session (versions.setWidth 32) 0
          u.oda.next (BitVec.ofNat 32 (versionMax v * 65536 + v)) []] ∧
        { u.graftReply s' with oda := u.oda } = u) ∧
    (∀ v, chosenVersion r.ver versions = some v → 16 ≤ u.sessionCount false →
      ∃ s', exec (.odaOpen t r versions) s = .next s' ∧ s'.oda.sessions = u.oda.sessions ∧
        u.TurnsAway s' (plainMsg r 0x01 (versions.setWidth 32) 0 0 []) Abort.busy.code) ∧
    (chosenVersion r.ver versions = none →
      ∃ s', exec (.odaOpen t r versions) s = .next s' ∧ s'.oda.sessions = u.oda.sessions ∧
        u.TurnsAway s' (plainMsg r 0x01 (versions.setWidth 32) 0 0 []) Abort.version.code)) ∧
  (∀ (s u : State) (t : Nat) (r : Req) (x : Session), u = s.advance t → u.Serves (plainMsg r 0x02 0 0 0 []) x →
    ∃ s', exec (.odaClose t r) s = .next s' ∧ u.Replies s' (plainMsg r 0x02 0 0 0 []) 0 [] ∧
      s'.session? (u.fromKing r.port) r.session = none ∧
      (∀ y ∈ u.oda.sessions, y.proxy ≠ u.fromKing r.port ∨ y.id ≠ r.session → y ∈ s'.oda.sessions)) ∧
  (∀ (s u : State) (t : Nat) (r : Req) (x : Session) (e : EntryRef) (ix sub : Nat) (data : Bytes), u = s.advance t → ix = e.index.toNat →
    sub = e.sub.toNat →
    (u.entry? ix sub = none →
      (u.Serves (readMsg r 0x10 ix sub) x →
        ∃ s', exec (.odaRead t r e) s = .next s' ∧ u.TurnsAway s' (readMsg r 0x10 ix sub) Abort.noEntry.code) ∧
      (u.Serves (writeMsg r ix sub data) x →
        ∃ s', exec (.odaWrite t r e data) s = .next s' ∧ u.TurnsAway s' (writeMsg r ix sub data) Abort.noEntry.code) ∧
      (u.Serves (readMsg r 0x12 ix sub) x →
        ∃ s', exec (.odaDescribe t r e) s = .next s' ∧ u.TurnsAway s' (readMsg r 0x12 ix sub) Abort.noEntry.code)) ∧
    (∀ en, u.entry? ix sub = some en →
      (u.Writes r x ix sub data → en.access = .ro → classOf ix ≠ 0x2400 →
        ∃ s', exec (.odaWrite t r e data) s = .next s' ∧ u.TurnsAway s' (writeMsg r ix sub data) Abort.access.code) ∧
      (∀ m, u.Writes r x ix sub data → selectorMax ix sub = some m → data.length = en.hi → en.access = .rw → en.lo = en.hi →
        (leNat data ≤ m →
          ∃ s', exec (.odaWrite t r e data) s = .next s' ∧ u.Replies s' (writeMsg r ix sub data) 0 [] ∧
            u.Selects s' r ix sub (leNat data) ∧ u.graftReply s' = u) ∧
        (m < leNat data →
          ∃ s', exec (.odaWrite t r e data) s = .next s' ∧ u.TurnsAway s' (writeMsg r ix sub data) Abort.range.code)) ∧
      (∀ m, u.Reads r x ix sub → selectorMax ix sub = some m →
        ∃ s', exec (.odaRead t r e) s = .next s' ∧
          u.Replies s' (readMsg r 0x10 ix sub) 0 (leBytes en.hi (x.sel.get ix sub)) ∧ u.graftReply s' = u) ∧
      (u.Reads r x ix sub → ix = 0x2100 → isSelector ix sub = false → en.access ≠ .wo → en.access ≠ .rc →
        ∃ s', exec (.odaRead t r e) s = .next s' ∧
          u.Replies s' (readMsg r 0x10 ix sub) 0 (u.valueBytes ix sub (x.sel.element en ix) en) ∧
          u.graftReply s' = u) ∧
      (u.Reads r x ix sub → rawIndex ix = false → isSelector ix sub = false → en.access ≠ .wo →
        (ix, sub) ∉ [(0x1200, 0x04), (0x2300, 0x03), (0x2300, 0x14), (0x2B00, 0x06)] →
        ∃ s', exec (.odaRead t r e) s = .next s' ∧
          u.Replies s' (readMsg r 0x10 ix sub) 0
            (((u.syncEntry ix sub (x.sel.element en ix)).rcAtRead ix sub).valueBytes ix sub (x.sel.element en ix) en) ∧
          (en.access ≠ .rc → u.graftReply s' = u.syncEntry ix sub (x.sel.element en ix))) ∧
      (∀ p ∈ ([(0x1100, 0x07, { u with oda := { u.oda with aborts := 0 } }),
            (0x1100, 0x08, { u with oda := { u.oda with duplicates := 0 } }),
            (0x1100, 0x09, { u with oda := { u.oda with bad := 0 } }),
            (0x1100, 0x0A, { u with oda := { u.oda with timeouts := 0 } }),
            (0x1100, 0x0B, { u with oda := { u.oda with routeTimeouts := 0 } })] : List (Nat × Nat × State)),
        u.Reads r x ix sub → ix = p.1 → sub = p.2.1 →
        ∃ s', exec (.odaRead t r e) s = .next s' ∧ u.graftReply s' = p.2.2) ∧
      (u.Serves (readMsg r 0x12 ix sub) x → u.outOfReach ix sub = false →
        ∃ s' d, exec (.odaDescribe t r e) s = .next s' ∧ u.Replies s' (readMsg r 0x12 ix sub) 0 d ∧ d.length = 24 ∧
          u.graftReply s' = u)) ∧
    (∀ v, v = leNat data →
      ∀ p ∈ ([(0x1100, 0x03, 2, 5 ≤ v ∧ v ≤ 3600, { u with oda := { u.oda with timeout := v } }),
          (0x1100, 0x04, 4, 100 ≤ v ∧ v ≤ 1000000, { u with oda := { u.oda with routeTimeout := v } }),
          (0x1100, 0x06, 4, True, { u with oda := { u.oda with ipv4 := BitVec.ofNat 32 v } }),
          (0x2000, 0x0B, 4, True, { u with sys := { u.sys with alertMask := BitVec.ofNat 32 v } }),
          (0x2100, 0x02, 2, 1 ≤ v ∧ v ≤ 10000, { u with ref := { u.ref with window := v } }),
          (0x2100, 0x05, 1, v ≤ 2, { u with ref := { u.ref with ret := v } }),
          (0x2100, 0x06, 2, 1 ≤ v ∧ v ≤ 10000, { u with ref := { u.ref with qual := v } }),
          (0x2100, 0x07, 2, 10 ≤ v ∧ v ≤ 1000, { u with ref := { u.ref with slewRate := v } }),
          (0x2300, 0x23, 1, v ≤ 1, { u with evr := { u.evr with waitPolicy := decide (v = 1) } }),
          (0x2500, 0x0B, 1, v ≤ 2, { u with truss := { u.truss with latePolicy := v } }),
          (0x2700, 0x02, 1, v ≤ 1, { u with tiu := { u.tiu with stop := decide (v = 1) } }),
          (0x2800, 0x02, 2, 4 ≤ v ∧ v ≤ 320, { u with plumb := { u.plumb with dt := v } }),
          (0x2800, 0x05, 4, v = 0 ∨ (1000000 ≤ v ∧ v ≤ 10000000), { u with plumb := { u.plumb with vrefNom := v } })] :
          List (Nat × Nat × Nat × Prop × State)),
      ix = p.1 → sub = p.2.1 → u.Writes r x ix sub data →
      (data.length = p.2.2.1 → p.2.2.2.1 →
        ∃ s', exec (.odaWrite t r e data) s = .next s' ∧ u.Replies s' (writeMsg r ix sub data) 0 [] ∧
          u.graftReply s' = p.2.2.2.2) ∧
      (data.length = p.2.2.1 → ¬ p.2.2.2.1 →
        ∃ s', exec (.odaWrite t r e data) s = .next s' ∧ u.TurnsAway s' (writeMsg r ix sub data) Abort.range.code) ∧
      (data.length ≠ p.2.2.1 →
        ∃ s', exec (.odaWrite t r e data) s = .next s' ∧ u.TurnsAway s' (writeMsg r ix sub data) Abort.length.code))) ∧
  (∀ (s u : State) (t : Nat) (r : Req) (x : Session) (addr : BitVec 37) (length : BitVec 32) (m : OdaMsg) (a n : Nat)
    (rs : List WordRead), u = s.advance t →
    m = plainMsg r 0x20 (addr.setWidth 32) ((addr >>> 32).setWidth 32) length [] → u.Serves m x →
    a = addr.toNat → n = length.toNat → u.sys.state ≠ .standby → u.sys.state ≠ .recess →
    rs = u.mem.readWords u.draws 0 a (n / 8) →
    (a % 8 = 0 → n % 8 = 0 → 8 ≤ n → n ≤ 8960 → a + n ≤ 103079215104 →
      (anyBad rs = false →
        ∃ s', exec (.memRead t r addr length) s = .next s' ∧ u.Replies s' m 0 (readBytes rs) ∧
          s'.mem = { u.mem with ceCount := u.mem.ceCount + countCorrected rs } ∧
          { u.graftReply s' with mem := u.mem, card := u.card } = u) ∧
      (anyBad rs = true →
        ∃ s', exec (.memRead t r addr length) s = .next s' ∧ u.Replies s' m Abort.memUe.code [] ∧
          s'.oda.aborts = u.oda.aborts + 1 ∧ s'.mem = { u.mem with ceCount := u.mem.ceCount + countCorrected rs })) ∧
    (a % 8 ≠ 0 ∨ n % 8 ≠ 0 ∨ n < 8 ∨ 8960 < n ∨ 103079215104 < a + n →
      ∃ s', exec (.memRead t r addr length) s = .next s' ∧ u.TurnsAway s' m Abort.range.code))

/-- Errors, timeouts, routing, raw and W1 writes, parity (R281 to R283, R287, R296, R301, R302, R312). Which word
backs an entry is an opaque map, and what a raw write of a selector does the model's choice (assumption log 18);
what a scrub finds beside a write of its cycle, and that LATE_BELLS of the cycle is kept, are logs 64 and 130. -/
def Obligations.ErrorsRoutesAndParity : Prop :=
  (∀ (s u : State) (t : Nat) (r : Req) (type : BitVec 8) (m : OdaMsg), u = s.advance t →
    m = plainMsg r type 0 (if type = 0x11 then 1 else 0) 0 (if typeDefined type && !decide (type = 0x11) then [0] else []) →
    u.portOpen r.port = true →
    (∀ x, u.session? (u.fromKing r.port) r.session = some x →
      (x.cache.find? fun c => decide (c.seq = r.seq)) = none ∧ x.open_.contains r.seq = false) →
    ∃ s', exec (.odaUndefinedType t r type) s = .next s' ∧ u.TurnsAway s' m Abort.badMessage.code) ∧
  (∀ (s u : State) (t : Nat), u = s.advance t → u.held = false → u.sys.state ≠ .boot →
    ∃ s', exec (.odaBadMessageDiscard t) s = .next s' ∧ s'.oda = { u.oda with bad := u.oda.bad + 1 } ∧
      { u.graft s' with oda := u.oda } = u) ∧
  (∀ (s u : State) (t : Nat) (x : Session) (pre post : List Session), u = s.advance t → u.oda.sessions = pre ++ x :: post →
    (∀ y ∈ pre ++ post, y.id ≠ x.id) →
    (x.lastAt + u.oda.timeout * secFs ≤ u.now →
      ∃ s', exec (.sessionTimeout t x.id) s = .next s' ∧ s'.oda.sessions = pre ++ post ∧
        s'.oda.timeouts = u.oda.timeouts + 1 ∧ { u.graft s' with oda := u.oda } = u) ∧
    (u.now < x.lastAt + u.oda.timeout * secFs →
      exec (.sessionTimeout t x.id) s = .next (u.close s.pending))) ∧
  (∀ (s u : State) (t : Nat) (abort : Word) (data : Bytes) (y : Routed) (rest : List Routed), u = s.advance t → u.oda.routed = y :: rest →
    (∀ z ∈ rest, z.session ≠ y.session ∨ z.seq ≠ y.seq) → u.fromKing y.port = false →
    (u.still = false → (u.session? false y.session).isSome = true →
      ∃ s', exec (.routedReplyRx t y.session y.seq abort data) s = .next s' ∧ s'.oda.routed = rest ∧
        (∀ z : State, z = u.sendPort y.port data.length (.reply y.port y.peer (replyWord 2 false y.type y.device) y.seq y.session
            y.field0 abort (BitVec.ofNat 32 data.length) 0 data) → s'.out = z.out ∧ s'.lanes = z.lanes) ∧
        { u.graftReply s' with oda := u.oda } = u) ∧
    (u.still = false → u.session? false y.session = none →
      ∃ s', exec (.routedReplyRx t y.session y.seq abort data) s = .next s' ∧ s'.oda.routed = rest ∧
        { u.graft s' with oda := u.oda } = u) ∧
    (y.sentAt + u.oda.routeTimeout * usFs ≤ u.now →
      ∃ s', exec (.routeTimeout t y.session y.seq) s = .next s' ∧ s'.oda.routed = rest ∧
        s'.oda.routeTimeouts = u.oda.routeTimeouts + 1 ∧ s'.oda.aborts = u.oda.aborts + 1 ∧
        (∀ z : State, z = u.sendPort y.port 0 (.reply y.port y.peer (replyWord 2 false y.type u.deviceNum) y.seq y.session
            y.field0 0x01000007 0 0 []) → s'.out = z.out ∧ s'.lanes = z.lanes) ∧
        { u.graftReply s' with oda := u.oda } = u) ∧
    (u.now < y.sentAt + u.oda.routeTimeout * usFs →
      exec (.routeTimeout t y.session y.seq) s = .next (u.close s.pending))) ∧
  (∀ (s u : State) (t : Nat) (r : Req) (x : Session) (block : Fin 4096) (word : Fin 256) (data : Bytes) (m : OdaMsg), u = s.advance t →
    m = writeMsg r (0x3000 + block) word data → u.Writes r x (0x3000 + block) word data →
    ∃ s', exec (.rawWrite t r block word data) s = .next s' ∧
      match Config.rawTarget block word with
      | none => u.TurnsAway s' m Abort.noEntry.code
      | some (k, i, off) =>
        (u.sys.rawEn = false ∨ u.sys.debugLock = true → u.TurnsAway s' m Abort.access.code) ∧
        (u.sys.rawEn = true → u.sys.debugLock = false → data.length ≠ 4 →
          u.find (k / 256) (k % 256) = none → u.TurnsAway s' m Abort.length.code) ∧
        (u.sys.rawEn = true → u.sys.debugLock = false → data.length = 4 →
          u.find (k / 256) (k % 256) = none → u.Replies s' m 0 [] ∧ u.graftReply s' = u) ∧
        (u.sys.rawEn = true → u.sys.debugLock = false → data.length = 4 →
          ∀ (en : Entry) (v : Bytes), u.find (k / 256) (k % 256) = some en →
            v = patch (u.valueBytes (k / 256) (k % 256) i en) off data →
            (en.access = .ro ∨ en.access = .rc → ∀ w y,
              w = leNat v + (if k / 256 = 0x2500 ∧ k % 256 = 0x0C then u.lateThisCycle else 0) →
              y = (u.putRc (k / 256) (k % 256) i w).putRo (k / 256) (k % 256) i w →
              y.Replies s' m 0 [] ∧ y.graftReply s' = y) ∧
            (en.access ≠ .ro → en.access ≠ .rc → isSelector (k / 256) (k % 256) = true →
              u.Replies s' m 0 [] ∧ u.graftReply s' = u))) ∧
  (∀ (s u : State) (t : Nat) (r : Req) (x : Session) (e : EntryRef), u = s.advance t → e = { index := 0x2B00, sub := 0x07 } →
    u.Writes r x 0x2B00 0x07 [1] →
    (u.sys.debugLock = false →
      ∃ s', exec (.w1Write t r e [1]) s = .next s' ∧ u.Replies s' (writeMsg r 0x2B00 0x07 [1]) 0 [] ∧
        s'.sys.debugLock = true ∧ { u.graftReply s' with sys := u.sys } = u) ∧
    (u.sys.debugLock = true →
      ∃ s', exec (.w1Write t r e [1]) s = .next s' ∧ u.Replies s' (writeMsg r 0x2B00 0x07 [1]) Abort.locked.code [] ∧
        s'.sys.debugLock = true ∧ s'.sys.lockViolation = true ∧ s'.sys.lockViolations = u.sys.lockViolations + 1 ∧
        s'.oda.aborts = u.oda.aborts + 1)) ∧
  (∀ (s u : State) (t : Nat) (e : EntryRef) (element : Fin 65536) (stands : Bool), u = s.advance t → u.still = false →
    stands = u.sys.parity.any (fun p => decide (p.1.index.toNat = e.index.toNat ∧ p.1.sub.toNat = e.sub.toNat ∧ p.2 = element)) →
    (u.hasParity e.index.toNat e.sub.toNat = true → stands = false →
      ∃ s', exec (.parityScrub t e element true) s = .next s' ∧ s'.sys.parity = u.sys.parity ++ [(e, element.val)] ∧
        s'.sys.parityFaults = u.sys.parityFaults + 1 ∧ s'.sys.cfgParity = true ∧ s'.sys.alert &&& 2048 = 2048) ∧
    (u.hasParity e.index.toNat e.sub.toNat = true → stands = true → ∀ mismatch,
      ∃ s', exec (.parityScrub t e element mismatch) s = .next s' ∧ s'.sys.parity = u.sys.parity ∧
        s'.sys.parityFaults = u.sys.parityFaults) ∧
    (stands = false → exec (.parityScrub t e element false) s = .next (u.close s.pending)))

/-- The configuration copy (R292, R298, R300, R315, R331, R337). When BUILD and SAVE take the image, and that a write
past the end of the buffer is RANGE, is the model's reading (assumption logs 22 and 66). -/
def Obligations.ConfigurationCommands : Prop :=
  (∀ (s u : State) (t : Nat) (r : Req) (x : Session), u = s.advance t →
    (u.Writes r x 0x1200 0x01 [2] → u.cfg.state = .idle →
      ∃ s' img, exec (.cfgBuild t r) s = .next s' ∧ u.Replies s' (writeMsg r 0x1200 0x01 [2]) 0 [] ∧
        img.signed = false ∧ img.seq = u.nextSeq imConfig ∧
        s'.cfg = { u.cfg with state := .building, job := some (2, 0, some img) } ∧
        { u.graftReply s' with cfg := u.cfg } = u) ∧
    (u.Writes r x 0x1200 0x01 [1] → u.cfg.state = .idle → u.ownerSet = false →
      ∃ s' img, exec (.cfgSave t r) s = .next s' ∧ u.Replies s' (writeMsg r 0x1200 0x01 [1]) 0 [] ∧
        img.signed = false ∧ img.seq = u.nextSeq imConfig ∧
        s'.cfg = { u.cfg with state := .building, job := some (1, 0, some img) } ∧
        (u.sec.job = none → s'.sec.job = some { kind := imConfig, copy := img } ∧
          s'.flashCopy (flashBase imConfig + u.targetSide imConfig) = none) ∧
        (u.sec.job.isSome = true → s'.sec = u.sec) ∧ { u.graftReply s' with cfg := u.cfg, sec := u.sec } = u) ∧
    (u.Writes r x 0x1200 0x01 [1] → u.cfg.state = .idle → u.ownerSet = true →
      ∃ s', exec (.cfgSave t r) s = .next s' ∧ u.Replies s' (writeMsg r 0x1200 0x01 [1]) Abort.unsignedCfg.code [] ∧
        s'.oda.aborts = u.oda.aborts + 1 ∧ s'.sec = { u.sec with refusals := u.sec.refusals + 1 } ∧ s'.cfg = u.cfg) ∧
    (u.Writes r x 0x1200 0x01 [3] → u.cfg.state = .idle →
      ∃ s' c, exec (.cfgInstall t r) s = .next s' ∧ u.Replies s' (writeMsg r 0x1200 0x01 [3]) 0 [] ∧
        s'.cfg = { u.cfg with
          state := .checking
          job := some (3, verdictWord (u.cfgChecks u.staged), if verdictWord (u.cfgChecks u.staged) = 0 then some c else none) } ∧
        c.payload = stagedPayload u.staged ∧ c.signed = stagedSigned u.staged ∧
        (verdictWord (u.cfgChecks u.staged) ≠ 0 → s'.sec = u.sec) ∧
        { u.graftReply s' with cfg := u.cfg, sec := u.sec } = u) ∧
    (∀ c v, c = .cfgSave t r ∧ v = 1 ∨ c = .cfgBuild t r ∧ v = 2 ∨ c = .cfgInstall t r ∧ v = 3 →
      u.Writes r x 0x1200 0x01 [v] → u.cfg.state ≠ .idle →
      ∃ s', exec c s = .next s' ∧ u.TurnsAway s' (writeMsg r 0x1200 0x01 [v]) Abort.blockRunning.code) ∧
    (∀ (data : Bytes) (o : Nat), u.Writes r x 0x1200 0x04 data → 4 ≤ data.length → data.length ≤ 8960 →
      o = x.sel.get 0x1200 0x03 →
      (o + data.length ≤ 1048576 →
        ∃ s', exec (.cfgDataWrite t r data) s = .next s' ∧ u.Replies s' (writeMsg r 0x1200 0x04 data) 0 [] ∧
          (∀ i, sget (fun _ => 0) s'.cfg.staging i =
            if o ≤ i ∧ i < o + data.length then data.getD (i - o) 0 else sget (fun _ => 0) u.cfg.staging i) ∧
          u.Selects s' r 0x1200 0x03 (o + data.length) ∧ { s'.cfg with staging := u.cfg.staging } = u.cfg ∧
          { u.graftReply s' with cfg := u.cfg } = u) ∧
      (1048576 < o + data.length →
        ∃ s', exec (.cfgDataWrite t r data) s = .next s' ∧
          u.TurnsAway s' (writeMsg r 0x1200 0x04 data) Abort.range.code)) ∧
    (∀ o : Nat, u.Reads r x 0x1200 0x04 → o = x.sel.get 0x1200 0x03 →
      (o < u.cfg.length →
        ∃ s', exec (.cfgDataRead t r) s = .next s' ∧
          u.Replies s' (readMsg r 0x10 0x1200 0x04) 0
            ((List.range (min 8960 (u.cfg.length - o))).map fun i => sget (fun _ => 0) u.cfg.staging (o + i)) ∧
          u.Selects s' r 0x1200 0x03 (o + min 8960 (u.cfg.length - o)) ∧ u.graftReply s' = u) ∧
      (u.cfg.length ≤ o →
        ∃ s', exec (.cfgDataRead t r) s = .next s' ∧
          u.TurnsAway s' (readMsg r 0x10 0x1200 0x04) Abort.range.code))) ∧
  (∀ (s u : State) (t : Nat), u = s.advance t → u.still = false →
    (∀ k x, u.cfg.job = some (k, x, none) → x ≠ 0 →
      ∃ s', exec (.cfgCmdComplete t) s = .next s' ∧
        s'.cfg = { u.cfg with state := .idle, job := none, failed := true, abort := x &&& 0x07FFFFFF } ∧
        s'.sec = { u.sec with refusals := u.sec.refusals + (if 0x09000000 ≤ x.toNat then 1 else 0) } ∧
        { u.graft s' with cfg := u.cfg, sec := u.sec } = u) ∧
    (∀ img, u.cfg.job = some (2, 0, some img) →
      ∃ s', exec (.cfgCmdComplete t) s = .next s' ∧ s'.cfg.state = .idle ∧ s'.cfg.job = none ∧ s'.cfg.done = true ∧
        s'.cfg.length = (imageBytes imConfig img).length ∧ s'.staged = imageBytes imConfig img ∧
        { u.graft s' with cfg := u.cfg } = u) ∧
    (∀ k img j, u.cfg.job = some (k, 0, some img) → k ≠ 2 → u.sec.job = some j → j.kind = imConfig →
      ∃ s', exec (.cfgCmdComplete t) s = .next s' ∧ s'.cfg = { u.cfg with state := .idle, job := none, done := true, abort := 0 } ∧
        s'.flashCopy (flashBase imConfig + u.targetSide imConfig)
          = some { img with seq := u.nextSeq imConfig, good := true } ∧
        (u.sec.saveDue = false → s'.sec.job = none)))

/-- Firmware, rollback, owner entries and recovery (R331 to R336, R338). That images are read, erased and fuses blown
as the command is accepted is the model's reading (assumption log 71). -/
def Obligations.FirmwareAndOwner : Prop :=
  (∀ (s u : State) (t : Nat) (r : Req) (x : Session), u = s.advance t →
    (∀ (n : Nat) (rs : List WordRead), n = u.sec.fwLen → u.Writes r x 0x2900 0x0F [1] → u.sec.fwSrc % 8 = 0 → 272 ≤ n →
      u.sec.fwSrc + n ≤ 103079215104 → rs = u.mem.readWords u.draws 0 u.sec.fwSrc (ceilDiv n 8) →
      (∀ (bs : Bytes) (v : Word) (c : FlashCopy), u.fwBlocked = false → anyBad rs = false → bs = (readBytes rs).take n →
        v = verdictWord (u.firmwareChecks (bs.take (n - 208)) (bs.drop (n - 208))) →
        c = { seq := 0, signed := true, payload := bs.take (n - 208), sig := bs.drop (n - 208), good := true } →
        ∃ s', exec (.fwInstall t r) s = .next s' ∧ u.Replies s' (writeMsg r 0x2900 0x0F [1]) 0 [] ∧
          s'.sec.fwJob = some (v, c) ∧ (v ≠ 0 → s'.sec = { u.sec with fwJob := some (v, c) }) ∧
          (v = 0 → s'.sec.job = some { kind := imFirmware, copy := c } ∧ s'.flashCopy (u.targetSide imFirmware) = none) ∧
          { u.graftReply s' with mem := u.mem, card := u.card, sec := u.sec } = u ∧ s'.mem.bytes = u.mem.bytes) ∧
      (u.fwBlocked = true →
        ∃ s', exec (.fwInstall t r) s = .next s' ∧
          u.TurnsAway s' (writeMsg r 0x2900 0x0F [1]) Abort.blockRunning.code)) ∧
    (u.Writes r x 0x2900 0x0F [2] → u.plumb.commit = none → u.sec.fwJob = none → u.sec.advancing = false →
      (u.plumb.holdupOk = true →
        ∃ s', exec (.advanceRollback t r) s = .next s' ∧ u.Replies s' (writeMsg r 0x2900 0x0F [2]) 0 [] ∧
          s'.sec = { u.sec with advancing := decide (u.sec.rollback < u.sec.runLevel) } ∧
          { u.graftReply s' with sec := u.sec } = u) ∧
      (u.plumb.holdupOk = false →
        ∃ s', exec (.advanceRollback t r) s = .next s' ∧
          u.TurnsAway s' (writeMsg r 0x2900 0x0F [2]) Abort.fuseHoldup.code)) ∧
    (∀ data : Bytes, u.Writes r x 0x2900 0x06 data → data.length = 48 →
      (u.ownerSet = false → (data.all fun b => decide (b = 0)) = false → u.plumb.holdupOk = true → u.plumb.commit = none →
        u.cfg.state = .idle → u.sec.advancing = false →
        ∃ s', exec (.ownerKeyDigestWrite t r data) s = .next s' ∧ u.Replies s' (writeMsg r 0x2900 0x06 data) 0 [] ∧
          s'.sec = { u.sec with ownerDigest := data } ∧ { u.graftReply s' with sec := u.sec } = u) ∧
      (u.ownerSet = true →
        ∃ s', exec (.ownerKeyDigestWrite t r data) s = .next s' ∧
          u.Replies s' (writeMsg r 0x2900 0x06 data) Abort.locked.code [] ∧ s'.sec = u.sec ∧
          s'.sys.lockViolation = true ∧ s'.sys.lockViolations = u.sys.lockViolations + 1)) ∧
    (∀ (data : Bytes) (b : Bool), u.Writes r x 0x2900 0x07 data → data.length = 4 → b = bitOf (leNat data) 0 →
      (b = true ∧ u.ownerSet = true ∨ b = false ∧ (u.ownerSet = false ∨ u.sec.reqSigned = false) →
        ∃ s', exec (.ownerPolicyWrite t r data) s = .next s' ∧ u.Replies s' (writeMsg r 0x2900 0x07 data) 0 [] ∧
          s'.sec = { u.sec with reqSigned := b } ∧ { u.graftReply s' with sec := u.sec } = u) ∧
      (b = true → u.ownerSet = false →
        ∃ s', exec (.ownerPolicyWrite t r data) s = .next s' ∧
          u.TurnsAway s' (writeMsg r 0x2900 0x07 data) Abort.wrongState.code) ∧
      (b = false → u.ownerSet = true → u.sec.reqSigned = true →
        ∃ s', exec (.ownerPolicyWrite t r data) s = .next s' ∧
          u.Replies s' (writeMsg r 0x2900 0x07 data) Abort.policyLocked.code [] ∧ s'.oda.aborts = u.oda.aborts + 1 ∧
          s'.sec = { u.sec with refusals := u.sec.refusals + 1 })) ∧
    (u.sec.recovery = true → x.version = 2 → u.sys.parity = [] → u.outOfReach 0x2900 0x17 = false →
      u.outOfReach 0x2900 0x16 = false →
      (({ u with sec := { u.sec with recovery := false } } : State).Serves (writeMsg r 0x2900 0x17 [1]) x →
        ∃ s', exec (.recErase t r) s = .next s' ∧ u.Replies s' (writeMsg r 0x2900 0x17 [1]) 0 [] ∧
          s'.flashCopy (u.targetSide imFirmware) = none ∧ s'.sec.recBytes = [] ∧ s'.sec.erased = true ∧
          { u.graftReply s' with sec := u.sec } = u) ∧
      (∀ (data : Bytes) (o : Nat), ({ u with sec := { u.sec with recovery := false } } : State).Serves (writeMsg r 0x2900 0x16 data) x →
        16 ≤ data.length → data.length ≤ 8960 → data.length % 8 = 0 → o = leAt data 0 4 →
        (o % 8 = 0 → leAt data 4 4 = 0 → o + (data.length - 8) ≤ 16777152 →
          ∃ s', exec (.recWrite t r data) s = .next s' ∧ u.Replies s' (writeMsg r 0x2900 0x16 data) 0 [] ∧
            (∀ i, i < o ∨ o + (data.length - 8) ≤ i →
              sget (fun _ => none) s'.sec.recBytes i = sget (fun _ => none) u.sec.recBytes i) ∧
            (∀ i, o ≤ i → i < o + (data.length - 8) → u.sec.erased = true →
              sget (fun _ => none) u.sec.recBytes i = none →
              sget (fun _ => none) s'.sec.recBytes i = some (data.getD (8 + (i - o)) 0)) ∧
            { s'.sec with recBytes := u.sec.recBytes } = u.sec ∧ { u.graftReply s' with sec := u.sec } = u) ∧
        (o % 8 ≠ 0 →
          ∃ s', exec (.recWrite t r data) s = .next s' ∧ u.TurnsAway s' (writeMsg r 0x2900 0x16 data) Abort.range.code)) ∧
      (∀ (p b : Bytes) (v : Word), ({ u with sec := { u.sec with recovery := false } } : State).Serves (writeMsg r 0x2900 0x17 [2]) x →
        p = u.recImage 0 u.sec.recLength → b = u.recImage u.sec.recLength 208 →
        v = verdictWord (u.firmwareChecks p b) →
        ∃ s', exec (.recVerify t r) s = .next s' ∧ u.Replies s' (writeMsg r 0x2900 0x17 [2]) 0 [] ∧
          s'.flashCopy (u.targetSide imFirmware) = (if v = 0 then
            some { seq := u.nextSeq imFirmware, signed := true, payload := p, sig := b, good := true } else none) ∧
          s'.sec.lastFailed = decide (v ≠ 0) ∧ (v ≠ 0 → s'.sec.lastAbort = v) ∧
          { u.graftReply s' with sec := u.sec } = u))) ∧
  (∀ (s u : State) (t : Nat), u = s.advance t →
    (∀ v c, u.sec.fwJob = some (v, c) →
      (v = 0 → ∃ s', exec (.fwInstallComplete t) s = .next s' ∧ s'.sec.fwJob = none ∧ s'.sec.lastFailed = false ∧
        s'.flashCopy (u.targetSide imFirmware) = some { c with seq := u.nextSeq imFirmware, good := true }) ∧
      (v ≠ 0 → ∃ s', exec (.fwInstallComplete t) s = .next s' ∧
        s'.sec = { u.sec with
          fwJob := none, lastFailed := true, lastAbort := v
          refusals := u.sec.refusals + (if 0x09000000 ≤ v.toNat then 1 else 0) } ∧
        { u.graft s' with sec := u.sec } = u)) ∧
    (u.sec.advancing = true →
      ∃ s', exec (.advanceRollbackComplete t) s = .next s' ∧
        s'.sec = { u.sec with
          advancing := false, rollback := max u.sec.rollback u.sec.runLevel, lastFailed := false } ∧
        { u.graft s' with sec := u.sec } = u))

/-- Code images (R339) and attestation (R341, R342). That an image is read as its command is accepted, and RANGE past
96 GiB, is the model's reading (assumption logs 71 and 72). -/
def Obligations.CodeImagesAndAttestation : Prop :=
  (∀ (s u : State) (t : Nat) (r : Req) (x : Session), u = s.advance t →
    (∀ (n : Nat) (rs : List WordRead), n = u.sec.codeLen → u.Writes r x 0x2900 0x12 [1] →
      u.sec.codeSrc + n ≤ 103079215104 → rs = u.mem.readWords u.draws 0 u.sec.codeSrc (ceilDiv n 8) →
      (∀ bs p : Bytes, u.sec.codeJob = none → anyBad rs = false → bs = (readBytes rs).take n →
        p = (bs.drop 64).take (leAt bs 8 4) →
        ∃ s', exec (.codeLoad t r) s = .next s' ∧ u.Replies s' (writeMsg r 0x2900 0x12 [1]) 0 [] ∧
          s'.sec = { u.sec with
            codeJob := some (verdictWord (u.codeChecks bs n), leAt p 0 12, leAt p 12 2, bytesWords (p.drop 16)) } ∧
          { u.graftReply s' with mem := u.mem, card := u.card, sec := u.sec } = u ∧ s'.mem.bytes = u.mem.bytes) ∧
      (u.sec.codeJob.isSome = true →
        ∃ s', exec (.codeLoad t r) s = .next s' ∧
          u.TurnsAway s' (writeMsg r 0x2900 0x12 [1]) Abort.blockRunning.code)) ∧
    (∀ (c : Instr) (kind : Byte), c = .attestStatementReq t r ∧ kind = 1 ∨ c = .attestTrimsReq t r ∧ kind = 2 →
      u.Writes r x 0x2900 0x09 [kind] →
      (((u.sec.nonceIn u.cycle).all fun b => decide (b = 0)) = false → u.sec.building = none →
        ∃ s' b, exec c s = .next s' ∧ u.Replies s' (writeMsg r 0x2900 0x09 [kind]) 0 [] ∧
          s'.sec = { u.sec with
            stmts := (u.sec.stmts + 1) % 2 ^ 32, building := some b, nonce := List.replicate 32 0, nonceWas := none
            stmtAt := some u.cycle } ∧
          b.take 4 = leBytes 4 (0x01004154 + kind.toNat * 65536) ∧ { u.graftReply s' with sec := u.sec } = u) ∧
      (((u.sec.nonceIn u.cycle).all fun b => decide (b = 0)) = true → u.sec.building = none →
        ∃ s', exec c s = .next s' ∧ u.Replies s' (writeMsg r 0x2900 0x09 [kind]) Abort.nonceUnset.code [] ∧
          s'.oda.aborts = u.oda.aborts + 1 ∧ s'.sec = { u.sec with refusals := u.sec.refusals + 1 }) ∧
      (((u.sec.nonceIn u.cycle).all fun b => decide (b = 0)) = false → u.sec.building.isSome = true →
        ∃ s', exec c s = .next s' ∧ u.TurnsAway s' (writeMsg r 0x2900 0x09 [kind]) Abort.blockRunning.code))) ∧
  (∀ (s u : State) (t : Nat), u = s.advance t → u.still = false →
    (∀ v mask o ws, u.sec.codeJob = some (v, mask, o, ws) →
      (v = 0 → ∃ s', exec (.codeLoadComplete t) s = .next s' ∧
        s'.sec = { u.sec with codeJob := none, lastFailed := false } ∧
        (∀ j, j < 96 → bitOf mask j = true → (∀ a, sget (fun _ => 0) (s'.joiner j).code a =
          if o ≤ a ∧ a < o + ws.length then ws.getD (a - o) 0 else sget (fun _ => 0) (u.joiner j).code a) ∧
          (s'.joiner j).jobs = (u.joiner j).jobs) ∧
        (∀ j, bitOf mask j = false → s'.joiner j = u.joiner j) ∧
        { u.graft s' with sec := u.sec, joiners := u.joiners } = u) ∧
      (v ≠ 0 → ∃ s', exec (.codeLoadComplete t) s = .next s' ∧ s'.sec.codeJob = none ∧ s'.sec.lastFailed = true ∧
        s'.sec.lastAbort = v ∧ { u.graft s' with sec := u.sec } = u)) ∧
    (∀ b, u.sec.building = some b →
      ∃ s', exec (.attestComplete t) s = .next s' ∧
        s'.sec = { u.sec with
          building := none, statement := b ++ digest b ++ (leBytes 96 (Config.ecdsaSign b).toNat).reverse } ∧
        { u.graft s' with sec := u.sec } = u))

/-- Report card and ageing (R331, R348 to R351, R353). That a save is due at every multiple of 900 s is the model's
reading (assumption log 72); the factory pair ratios are log 7. -/
def Obligations.ReportCard : Prop :=
  (∀ (s u : State) (t : Nat), u = s.advance t → u.held = false →
    (∀ (c : Instr) (savedAt : Nat),
      (c = .rcSavePeriodic t ∧ u.sys.state ≠ .boot ∧ u.card.loaded = true ∧ u.card.savedAt + 900 ≤ u.powerOnSeconds ∧
          savedAt = u.powerOnSeconds / 900 * 900 ∨
        c = .rcSaveAfterBoot t ∧ savedAt = u.card.savedAt ∧ (∃ z, u.sys.readyAt = some z ∧ z + 10 * secFs ≤ u.now)) →
      (u.sec.job = none → ∀ x, x = u.catchUpAll →
        ∃ s' j, exec c s = .next s' ∧ u.OnOutput x ∧ s'.sec.job = some { kind := imCard, copy := j } ∧
          s'.flashCopy (flashBase imCard + u.targetSide imCard) = none ∧ s'.card.savedAt = savedAt ∧
          s'.card.saving = some u.trussNow ∧
          { x.graft s' with sec := x.sec, card := x.card, sys := x.sys } = x) ∧
      (u.sec.job.isSome = true →
        ∃ s', exec c s = .next s' ∧ s'.sec = { u.sec with saveDue := true } ∧ s'.card = { u.card with savedAt := savedAt } ∧
          { u.graft s' with sec := u.sec, card := u.card, sys := u.sys } = u)) ∧
    (u.powerOnSeconds < u.card.savedAt + 900 →
      exec (.rcSavePeriodic t) s = .next (u.close s.pending)) ∧
    (∀ temps : Vector Int 10,
      ∃ s', exec (.tempHistTick t temps) s = .next s' ∧
        (∀ d k, d < 10 → k < 16 → sget (fun _ => 0) s'.card.hist (16 * d + k) =
          if u.card.ticks < (u.now - u.sys.porAt) / secFs ∧ k = tempBin (temps.toList.getD d 0) then satInc 32 (sget (fun _ => 0) u.card.hist (16 * d + k))
          else sget (fun _ => 0) u.card.hist (16 * d + k)) ∧
        (u.card.ticks < (u.now - u.sys.porAt) / secFs → s'.sys.hot = temps.toList.any (fun x => decide (2000 < x)) ∧
          s'.sys.alert = (if s'.sys.hot = true then u.sys.alert ||| 4096 else u.sys.alert)) ∧
        { u.graft s' with card := u.card, sys := u.sys } = u)) ∧
  (∀ (s u : State) (t : Nat) (r : Req) (x : Session), u = s.advance t → u.Writes r x 0x2A00 0x0A [1] →
    (u.card.saving = none → u.sec.job = none → ∀ y, y = u.catchUpAll →
      ∃ s' j, exec (.rcSaveCmd t r) s = .next s' ∧ u.Replies s' (writeMsg r 0x2A00 0x0A [1]) 0 [] ∧ u.OnOutput y ∧
        s'.sec.job = some { kind := imCard, copy := j } ∧ s'.card = { y.card with saving := some u.trussNow } ∧
        { y.graftReply s' with sec := y.sec, card := y.card } = y) ∧
    (u.card.saving = none → u.sec.job.isSome = true →
      ∃ s', exec (.rcSaveCmd t r) s = .next s' ∧ u.Replies s' (writeMsg r 0x2A00 0x0A [1]) 0 [] ∧
        s'.sec = { u.sec with saveDue := true } ∧ { u.graftReply s' with sec := u.sec } = u) ∧
    (u.card.saving.isSome = true →
      ∃ s', exec (.rcSaveCmd t r) s = .next s' ∧
        u.TurnsAway s' (writeMsg r 0x2A00 0x0A [1]) Abort.blockRunning.code)) ∧
  (∀ (s u : State) (t : Nat) (j : FlashJob), u = s.advance t → u.sec.job = some j → j.kind = imCard → u.sec.saveDue = false →
    ∃ s', exec (.rcSaveComplete t) s = .next s' ∧
      s'.flashCopy (flashBase imCard + u.targetSide imCard) = some { j.copy with seq := u.nextSeq imCard, good := true } ∧
      s'.card = { u.card with saving := none, lastSave := u.card.saving.getD u.card.lastSave } ∧
      s'.chans = u.chans ∧ s'.mem = u.mem ∧ s'.plumb = u.plumb ∧ s'.cfg = u.cfg) ∧
  (∀ (s u : State) (t : Nat) (die : Fin 6), u = s.advance t → u.still = false →
    (∀ (a b : Nat × Nat) (x y : Int × Nat), x = degradation die 0 a → y = degradation die 1 b → die ≠ 0 →
      u.ageingDue die = true →
      u.card.excluded.contains (4 * die.val) = false → u.card.excluded.contains (4 * die.val + 1) = false →
      pairBad y = false →
      (pairBad x = false →
        ∃ s' up, exec (.ageingMeasurement t die [a, b]) s = .next s' ∧
          sget (fun _ => (0, 0)) s'.card.monitors die.val = (max (wholePpm x up) (wholePpm y up), u.powerOnHours) ∧
          (∀ d, d ≠ die.val → sget (fun _ => (0, 0)) s'.card.monitors d = sget (fun _ => (0, 0)) u.card.monitors d) ∧
          { s'.card with monitors := u.card.monitors, ageing := u.card.ageing } = u.card ∧
          s'.ageingDue die = false ∧ { u.graft s' with card := u.card } = u) ∧
      (pairBad x = true →
        ∃ s' up, exec (.ageingMeasurement t die [a, b]) s = .next s' ∧
          s'.card.excluded = 4 * die.val :: u.card.excluded ∧
          sget (fun _ => (0, 0)) s'.card.monitors die.val = (wholePpm y up, u.powerOnHours) ∧
          s'.card.flags = u.card.flags ||| 1 ∧ { u.graft s' with card := u.card, sys := u.sys } = u)) ∧
    (∀ (a b c d : Nat × Nat) (w : Bool → Int), w = (fun up => max (max (max (wholePpm (degradation 0 0 a) up)
          (wholePpm (degradation 0 1 b) up)) (wholePpm (degradation 0 2 c) up)) (wholePpm (degradation 0 3 d) up)) →
      die = 0 → u.ageingDue die = true → (∀ k, k < 4 → u.card.excluded.contains k = false) →
      pairBad (degradation 0 0 a) = false → pairBad (degradation 0 1 b) = false → pairBad (degradation 0 2 c) = false →
      pairBad (degradation 0 3 d) = false → u.eclk.stopped = false → u.eclk.droop = none → u.eclk.release = none →
      ∃ s' up, exec (.ageingMeasurement t die [a, b, c, d]) s = .next s' ∧
        sget (fun _ => (0, 0)) s'.card.monitors 0 = (w up, u.powerOnHours) ∧
        (stepsFor (w up) ≤ u.card.steps → s'.card.steps = u.card.steps ∧ { u.graft s' with card := u.card } = u) ∧
        (u.card.steps < stepsFor (w up) → s'.card.steps = stepsFor (w up) ∧ s'.card.flags &&& 16 = 16 ∧
          s'.eclk = { u.eclk with
            base := (u.now, u.cycle), ceiling := 1200 - 25 * stepsFor (w up)
            hz := (1200 - 25 * stepsFor (w up)) * 1000000 } ∧
          (∀ m, { s'.chan m with queue := (u.chan m).queue } = u.chan m ∧
            (s'.chan m).queue.length = (u.chan m).queue.length) ∧
          (∀ m, s'.joiner m = u.servePorts.joiner m) ∧
          { u.graft s' with
            card := u.card, sys := u.sys, eclk := u.eclk, chans := u.chans, joiners := u.joiners, net := u.net } = u)) ∧
    (∀ pairs, u.ageingDue die = false → exec (.ageingMeasurement t die pairs) s = .next (u.close s.pending)))

/-- Recess and capture (R354, R356, R357, R359) and the TAP (R372 to R374). What one cycle of the recess logic is, is
the model's reading (assumption log 59); what EXTEST shifts in, and FRZ_N's release, are in no row (logs 54 and 128).
-/
def Obligations.RecessAndTap : Prop :=
  (∀ (s u : State) (t : Nat), u = s.advance t → u.canFreeze = true →
    (∀ (c : Instr) (cause : Nat),
      (c = .frzNLow t ∧ cause = 1 ∧ u.recess.ignore = false ∨
        c = .recessBell t ∧ cause = 2 ∧ u.recess.bellEn = true ∧
          (∃ p ∈ u.recess.dues, p.1 = u.recess.bell ∧ (p.2.2 = true ∨ ticksGe u.trussNow p.2.1 = true)) ∨
        (∃ r x, c = .recessCmd t r ∧ cause = 3 ∧ u.Writes r x 0x2B00 0x01 [1])) →
      ∃ s', exec c s = .next s' ∧ s'.sys.state = .recess ∧ s'.eclk.stopped = true ∧ s'.time.running = false ∧
        s'.recess.capture = 1 ∧ s'.recess.cause = cause ∧ s'.recess.freeze = u.trussNow ∧
        s'.tts = u.tts ∧ s'.joiners = u.servePorts.joiners ∧ s'.mem.bytes = u.mem.bytes) ∧
    (u.recess.ignore = true →
      ∃ s', exec (.frzNLow t) s = .next s' ∧ s'.recess = { u.recess with frzLow := true } ∧
        { u.graft s' with recess := u.recess } = u)) ∧
  (∀ (s u : State) (t : Nat), u = s.advance t → u.sys.state = .recess → u.now < u.recess.cycleEnd →
    1 < u.recess.cause → u.recess.ignore = false → u.sys.por = false → u.sys.pin = false →
    ∃ s', exec (.frzNLow t) s = .next s' ∧ s'.recess.cause = 1 ∧ s'.sys.state = .recess ∧
      { u.graft s' with recess := u.recess } = u) ∧
  (∀ (s u : State) (t : Nat), u = s.advance t →
    (u.sys.state = .recess → u.recess.capture = 1 →
      ∃ s', exec (.captureReady t) s = .next s' ∧ s'.recess = { u.recess with capture := 2 } ∧
        { u.graft s' with recess := u.recess } = u) ∧
    (∀ (r : Req) (x : Session) (o : Nat), u.Reads r x 0x2B00 0x06 → o = x.sel.get 0x2B00 0x05 →
      (u.sys.debugLock = false → u.recess.capture = 2 → o < u.captureLength →
        ∃ s' d, exec (.captureDataRead t r) s = .next s' ∧ u.Replies s' (readMsg r 0x10 0x2B00 0x06) 0 d ∧
          d.length = min 8960 (u.captureLength - o) ∧ u.Selects s' r 0x2B00 0x05 (o + d.length) ∧ u.graftReply s' = u) ∧
      (u.sys.debugLock = false → u.recess.capture = 2 → u.captureLength ≤ o →
        ∃ s', exec (.captureDataRead t r) s = .next s' ∧
          u.TurnsAway s' (readMsg r 0x10 0x2B00 0x06) Abort.range.code) ∧
      (u.sys.debugLock = false → u.recess.capture ≠ 2 →
        ∃ s', exec (.captureDataRead t r) s = .next s' ∧
          u.TurnsAway s' (readMsg r 0x10 0x2B00 0x06) Abort.wrongState.code) ∧
      (u.sys.debugLock = true → u.recess.capture = 2 → o < u.captureLength →
        ∃ s', exec (.captureDataRead t r) s = .next s' ∧
          u.Replies s' (readMsg r 0x10 0x2B00 0x06) Abort.access.code [] ∧ s'.recess = { u.recess with readLocked := true })) ∧
    (u.sys.por = true → ∀ ir, exec (.tapInstructionUpdate t ir) s = .next (u.close s.pending)) ∧
    (u.sys.por = false → ∀ ir : BitVec 8,
      ((ir = 0 ∨ ir = 3 ∨ ir = 4 ∨ ir = 5 ∨ ir = 6) → u.sys.pin = false →
        ∃ s', exec (.tapInstructionUpdate t ir) s = .next s' ∧ u.Cleared s' 2 ∧ s'.sys.pin = true ∧ s'.recess.ir = ir ∧
          s'.mem.bytes = u.mem.bytes) ∧
      ((ir = 0 ∨ ir = 3 ∨ ir = 4 ∨ ir = 5 ∨ ir = 6) ∨ u.sys.rstLow = true → u.sys.pin = true →
        ∃ s', exec (.tapInstructionUpdate t ir) s = .next s' ∧
          s'.recess = { u.recess with
            ir := ir, scan := s'.recess.scan, word := if ir = 0x20 then 0 else u.recess.word } ∧
          { u.graft s' with recess := u.recess } = u) ∧
      (ir ≠ 0 → ir ≠ 3 → ir ≠ 4 → ir ≠ 5 → ir ≠ 6 →
        (u.sys.pin = false →
          ∃ s', exec (.tapInstructionUpdate t ir) s = .next s' ∧
            s'.recess = { u.recess with
              ir := ir, scan := s'.recess.scan, word := if ir = 0x20 then 0 else u.recess.word } ∧
            { u.graft s' with recess := u.recess } = u) ∧
        (u.sys.pin = true → u.sys.rstLow = false →
          ∃ s', exec (.tapInstructionUpdate t ir) s = .next s' ∧ s'.sys.pin = false ∧ s'.sys.cause = 2 ∧
            s'.sys.bootAt = u.now ∧ s'.recess.ir = ir))) ∧
    (u.sys.pin = false ∨ u.sys.por = true ∨ u.sys.rstLow = true →
      ∃ s', exec (.tapReset t) s = .next s' ∧ s'.recess = { u.recess with ir := 1, scan := s'.recess.scan } ∧
        { u.graft s' with recess := u.recess } = u) ∧
    (u.sys.pin = true → u.sys.por = false → u.sys.rstLow = false →
      ∃ s', exec (.tapReset t) s = .next s' ∧ s'.recess = { u.recess with ir := 1, scan := s'.recess.scan } ∧
        s'.sys.pin = false ∧
        s'.sys.cause = 2 ∧ s'.sys.bootAt = u.now ∧ { u.graft s' with recess := u.recess, sys := u.sys, eclk := u.eclk } = u) ∧
    (u.recess.ir = 0x20 →
      (∀ w v, w = u.recess.word → v = (if 4 * w < u.captureLength then u.captureWord w else 0) →
        u.captureShut = false →
        ∃ s', exec (.tapCaptureRead t) s = .next s' ∧ s'.out = u.out ++ [.tapWord v] ∧
          s'.recess = { u.recess with shift := v, word := w + 1 } ∧
          { u.graft s' with recess := u.recess, out := u.out } = u) ∧
      (u.captureShut = true →
        ∃ s', exec (.tapCaptureRead t) s = .next s' ∧ s'.out = u.out ++ [.tapWord 0] ∧
          s'.recess = { u.recess with shift := 0, readLocked := u.recess.readLocked || u.sys.debugLock } ∧
          { u.graft s' with recess := u.recess, out := u.out } = u)) ∧
    (u.recess.ir ≠ 0x20 → exec (.tapCaptureRead t) s = .next (u.close s.pending)))

/-- Stamps and results (R225 to R227, R231, R232, R237 to R239, R242, R244). That no edge is stamped while TCLK
stands, and that SEQ counts the edge itself, is the model's reading (assumption log 75). -/
def Obligations.StampsAndResults : Prop :=
  (∀ (s u : State) (t : Nat) (c : Fin 17) (rising : Bool) (code : BitVec 12) (v : TiuSlot), u = s.advance t → u.still = false →
    v = u.slot c → (∀ k, k < 16 → (u.slot k).state ≠ .armed) →
    (v.qualifies rising = false ∨ u.sourceMute c = true ∨ u.tiu.cal = some c.val →
      exec (.tiuEdge t c rising code) s = .next (u.close s.pending)) ∧
    (v.qualifies rising = true → u.sourceMute c = false → u.tiu.cal ≠ some c.val →
      (u.time.running = true → (∀ x ∈ v.stampedAt, x + 32 * nsFs ≤ u.now) → v.queue.length < 256 →
        ∃ s', exec (.tiuEdge t c rising code) s = .next s' ∧
          s'.slot c = { v with
            seq := v.seq + 1, rot := (v.rot + 1) % 4, stampedAt := (u.now :: v.stampedAt).take 4, gap := false
            queue := v.queue ++ [{
              fu := u.stampNow (if c.val < 16 then 4 * c.val + v.rot else 96 + v.rot) code - u.ballFu v
              rising := rising, tbXtal := u.tclkXtal, src := v.src, seq := v.seq + 1, channel := c.val
              gap := v.gap }] } ∧
          (∀ k, k ≠ c.val → s'.slot k = u.slot k) ∧ { s'.tiu with slots := u.tiu.slots } = u.tiu ∧
          { u.graft s' with tiu := u.tiu } = u) ∧
      ((∀ k, k < 16 → (u.slot k).state ≠ .running) →
        (u.time.running = true → (∀ x ∈ v.stampedAt, x + 32 * nsFs ≤ u.now) → 256 ≤ v.queue.length →
          ∃ s', exec (.tiuEdge t c rising code) s = .next s' ∧ (s'.slot c).missed = v.missed + 1 ∧
            (s'.slot c).missedFull = v.missedFull + 1 ∧ (s'.slot c).queue = v.queue ∧ (s'.slot c).seq = v.seq + 1 ∧
            (s'.slot c).gap = true ∧
            (∀ k, k ≠ c.val → s'.slot k = u.slot k) ∧ { u.graft s' with tiu := u.tiu } = u) ∧
        (u.time.running = false ∨ (∃ y ys, v.stampedAt = y :: ys ∧ (u.now - y) * 10 < 19 * nsFs) →
          ∃ s', exec (.tiuEdge t c rising code) s = .next s' ∧
            s'.slot c = { v with seq := v.seq + 1, missed := v.missed + 1, gap := true } ∧
            (∀ k, k ≠ c.val → s'.slot k = u.slot k) ∧ { u.graft s' with tiu := u.tiu } = u)) ∧
      (u.time.running = false →
        ∃ s', exec (.tiuEdge t c rising code) s = .next s' ∧ { u.graft s' with tiu := u.tiu } = u ∧
          ∀ k, k < 16 → (s'.slot k).flags = if (u.slot k).state = .running ∧ (u.slot k).uses k c = true then
            (u.slot k).flags ||| 64 else (u.slot k).flags))) ∧
  (∀ (s u : State) (t : Nat), u = s.advance t → u.still = false → (∀ k, k < 16 → (u.slot k).state ≠ .armed) →
    (u.eclk.stopped = true ∨ u.now < u.tiu.drainNext →
      exec (.stampDrain t) s = .next (u.close s.pending)) ∧
    (∀ (c : Nat) (v : TiuSlot) (a : Stamp) (r : List Stamp) (y : Int), u.eclk.stopped = false → u.tiu.drainNext ≤ u.now →
      c = u.tiu.drainAt → c < 16 → v = u.slot c → v.queue = a :: r → (∀ k, k < 16 → k ≠ c → (u.slot k).takes k c = false) →
      v.state = .running → v.skipA = 0 → v.armAt = some y → 0 ≤ fuDiff a.fu y → a.tbXtal = false →
      (∀ b ∈ u.truss.bells, b.late = false ∧ b.isSlow = false) →
      (v.kind = 5 → (u.tiu.head - u.tiu.tail).toNat < 65536 →
        ∃ s', exec (.stampDrain t) s = .next s' ∧ sget (fun _ => none) s'.tiu.ring (u.tiu.head.toNat % 65536) = some a ∧
          s'.tiu.head = u.tiu.head + 1 ∧ s'.tiu.drainAt = (c + 1) % 17 ∧
          s'.tiu.drainNext = u.now + max (ceilDiv secFs u.eclk.hz) nsFs ∧ (s'.slot c).queue = r ∧
          (s'.slot c).made = v.made + 1 ∧ (s'.slot c).state = (if v.total ≤ v.made + 1 then .done else .running) ∧
          (∀ k, k ≠ c → s'.slot k = u.slot k) ∧ { u.graft s' with tiu := u.tiu } = u) ∧
      (∀ (b : Stamp) (d : Int),
        (v.kind = 2 ∧ v.starts = [b] ∧ a.gap = false ∧ d = fuDiff a.fu b.fu ∨
          v.kind = 1 ∧ v.starts = [] ∧ v.stops.head? = some b ∧ d = fuDiff b.fu a.fu) →
        bitOf v.meas.toNat 16 = false → d.natAbs < 2 ^ 48 →
        ∃ s', exec (.stampDrain t) s = .next s' ∧ (s'.slot c).queue = r ∧ (s'.slot c).last = d ∧
          (s'.slot c).count = v.count + 1 ∧ (s'.slot c).s1 = v.s1 + d ∧ (s'.slot c).s2 = v.s2 + d.natAbs ^ 2 ∧
          (s'.slot c).made = v.made + 1 ∧ (s'.slot c).state = (if v.total ≤ v.made + 1 then .done else .running) ∧
          (∀ k, k ≠ c → s'.slot k = u.slot k) ∧ { u.graft s' with tiu := u.tiu } = u)))

/-- TIU commands (R235, R237, R238, R242, R252). What a STOP of an ARMED slot leaves, and when a missed stamp acts, is
the model's reading (assumption logs 75 and 76). -/
def Obligations.TiuCommands : Prop :=
  (∀ (s u : State) (t : Nat) (r : Req) (x : Session) (c : Nat) (v : TiuSlot), u = s.advance t → c = x.sel.get 0x2700 0x04 → v = u.slot c →
    (u.Writes r x 0x2700 0x0C [1] →
      (v.kind ≠ 0 → v.active = false → u.calBlocks c = false → u.tbCode ≠ 3 →
        ∃ s', exec (.tiuStart t r) s = .next s' ∧ u.Replies s' (writeMsg r 0x2700 0x0C [1]) 0 [] ∧
          (v.armKind ≠ 0 → s'.slot c = { v with
            state := .armed, armAt := none, skipA := 0, skipB := 0, made := 0, count := 0, s1 := 0, s2 := 0, xmin := 0
            xmax := 0, last := 0, starts := [], stops := [], gateN := 0
            flags := if u.tapGap c = true then v.flags ||| 8 else v.flags }) ∧
          (v.armKind = 0 → s'.slot c = { v with
            state := .running, armAt := some ((u.trussNow.toNat * tickFu : Nat) : Int), skipA := 0, skipB := 0
            made := 0, count := 0, s1 := 0, s2 := 0, xmin := 0, xmax := 0, last := 0, starts := [], stops := [], gateN := 0
            flags := if u.tapGap c = true then v.flags ||| 8 else v.flags }) ∧
          (∀ k, k ≠ c → s'.slot k = u.slot k) ∧ { u.graftReply s' with tiu := u.tiu } = u) ∧
      (v.kind = 0 → v.active = false → u.calBlocks c = false → u.tbCode ≠ 3 →
        ∃ s', exec (.tiuStart t r) s = .next s' ∧ u.TurnsAway s' (writeMsg r 0x2700 0x0C [1]) Abort.range.code) ∧
      (v.active = true ∨ u.calBlocks c = true → u.tbCode ≠ 3 →
        ∃ s', exec (.tiuStart t r) s = .next s' ∧
          u.TurnsAway s' (writeMsg r 0x2700 0x0C [1]) Abort.blockRunning.code) ∧
      (u.tbCode = 3 →
        ∃ s', exec (.tiuStart t r) s = .next s' ∧
          u.TurnsAway s' (writeMsg r 0x2700 0x0C [1]) Abort.wrongState.code)) ∧
    (u.Writes r x 0x2700 0x0C [2] → (∀ k, k < 16 → (u.slot k).state ≠ .armed) →
      (v.state = .running → v.kind ≠ 4 →
        ∃ s', exec (.tiuStop t r) s = .next s' ∧ u.Replies s' (writeMsg r 0x2700 0x0C [2]) 0 [] ∧
          s'.slot c = { v with
            state := .stopped, armAt := none, starts := [], stops := [], gateN := 0
            stopped := some { cycle := u.cycle, armAt := v.armAt, starts := v.starts, stops := v.stops, gateN := v.gateN } } ∧
          (∀ k, k ≠ c → s'.slot k = u.slot k) ∧ { u.graftReply s' with tiu := u.tiu } = u) ∧
      (v.state ≠ .running → v.state ≠ .armed →
        ∃ s', exec (.tiuStop t r) s = .next s' ∧ u.Replies s' (writeMsg r 0x2700 0x0C [2]) 0 [] ∧ u.graftReply s' = u)) ∧
    (u.Writes r x 0x2700 0x0C [3] →
      (v.state ≠ .running → v.state ≠ .armed →
        ∃ s', exec (.tiuClear t r) s = .next s' ∧ u.Replies s' (writeMsg r 0x2700 0x0C [3]) 0 [] ∧
          s'.slot c = { v with
            made := 0, count := 0, s1 := 0, s2 := 0, xmin := 0, xmax := 0, last := 0, starts := [], stops := []
            gateN := 0 } ∧
          (∀ k, k ≠ c → s'.slot k = u.slot k) ∧ { u.graftReply s' with tiu := u.tiu } = u) ∧
      (v.state = .running ∨ v.state = .armed →
        ∃ s', exec (.tiuClear t r) s = .next s' ∧
          u.TurnsAway s' (writeMsg r 0x2700 0x0C [3]) Abort.blockRunning.code)) ∧
    (∀ (data : Bytes) (w : Word), u.Writes r x 0x2700 0x19 data → data.length = 4 → w = BitVec.ofNat 32 (leNat data) →
      ((u.tiu.head - w).toNat ≤ 65536 →
        ∃ s', exec (.streamTailWrite t r data) s = .next s' ∧ u.Replies s' (writeMsg r 0x2700 0x19 data) 0 [] ∧
          s'.tiu = { u.tiu with tail := w } ∧ { u.graftReply s' with tiu := u.tiu } = u) ∧
      (65536 < (u.tiu.head - w).toNat →
        ∃ s', exec (.streamTailWrite t r data) s = .next s' ∧
          u.TurnsAway s' (writeMsg r 0x2700 0x19 data) Abort.range.code))) ∧
  (∀ (s u : State) (t : Nat) (c : Fin 16) (y : Int), u = s.advance t → u.still = false → (u.slot c).state = .armed → (u.slot c).armAt = some y →
    (0 ≤ fuDiff u.nowFu y →
      ∃ s', exec (.tiuArm t c) s = .next s' ∧ s'.slot c = { u.slot c with state := .running } ∧
        (∀ k, k ≠ c.val → s'.slot k = u.slot k) ∧ { u.graft s' with tiu := u.tiu } = u) ∧
    (fuDiff u.nowFu y < 0 → exec (.tiuArm t c) s = .next (u.close s.pending)))

/-- Code-density runs (R247, R248, R256, R263, R265, R266). That a failed check counts as a disagreement, and when
preconditions are checked, is the model's reading (assumption log 78). -/
def Obligations.CodeDensityRuns : Prop :=
  ∀ (s u : State) (t : Nat) (c : Fin 17) (e : PlumbConditions), u = s.advance t → u.still = false →
    (u.tiu.cal = none → u.calFree c = true → (c ≠ 16 ∨ u.timing = false) →
      (u.plumb.tiuRun = some c.val ∨ u.plumb.tiuRun = none ∧ u.plumb.tiuFlag.isSome = true ∧ c = 0 ∧ u.plumb.mode ≠ 2 ∧
        u.plumb.parity = false) →
      (u.tiuPrecondition e = true →
        ∃ s', exec (.codeDensityStart t c e) s = .next s' ∧
          s'.slot c = { u.slot c with state := .calibrating, before := (u.slot c).state } ∧
          (∀ k, k ≠ c.val → s'.slot k = u.slot k) ∧ s'.tiu.cal = some c.val ∧
          s'.plumb = { u.plumb with
            tiuRun := some c.val, tiuFirst := none, tiuRetries := 0
            tiuInstalled := u.plumb.tiuRun.isSome && u.plumb.tiuInstalled } ∧
          { u.graft s' with tiu := u.tiu, plumb := u.plumb } = u) ∧
      (u.tiuPrecondition e = false → u.plumb.tiuHeld = false ∨ u.plumb.tiuRun.isSome = true →
        ∃ s', exec (.codeDensityStart t c e) s = .next s' ∧
          s'.plumb = { u.plumb with tiuRun := none, tiuFlag := none, tiuHeld := false, flags := u.plumb.flags ||| 4 } ∧
          { u.graft s' with plumb := u.plumb } = u) ∧
      (u.tiuPrecondition e = false → u.plumb.tiuHeld = true → u.plumb.tiuRun = none →
        exec (.codeDensityStart t c e) s = .next (u.close s.pending))) ∧
    (∀ hits : List (Fin 100 × Sparse Nat), u.tiu.cal = some c.val →
      (u.tiuPrecondition e = false →
        ∃ s', exec (.codeDensityComplete t c hits e) s = .next s' ∧ s'.tiu.cal = none ∧ s'.plumb.tiuRun = none ∧
          s'.tiu.tables = u.tiu.tables ∧
          (u.plumb.tiuFlag = some .commanded → s'.plumb.tiuFlag = none) ∧
          (u.plumb.tiuFlag ≠ some .commanded → s'.plumb.tiuFlag = u.plumb.tiuFlag ∧ s'.plumb.tiuHeld = true) ∧
          { u.graft s' with tiu := u.tiu, plumb := u.plumb } = u) ∧
      (u.tiuPrecondition e = true → u.plumb.tiuFirst = none →
        ∃ s', exec (.codeDensityComplete t c hits e) s = .next s' ∧ s'.plumb = { u.plumb with tiuFirst := some hits } ∧
          { u.graft s' with plumb := u.plumb } = u) ∧
      (∀ (one : List (Fin 100 × Sparse Nat)) (ok : Bool), u.tiuPrecondition e = true → u.plumb.tiuFirst = some one →
        ok = (calInterps c.val).all (fun i =>
          hitsPass (hitsOf one i) && hitsPass (hitsOf hits i) && tablesAgree (hitsOf one i) (hitsOf hits i)) →
        (ok = true →
          ∃ s', exec (.codeDensityComplete t c hits e) s = .next s' ∧
            (∀ i, s'.table i = if i ∈ calInterps c.val then .counted (hitsOf hits i) else u.table i) ∧ s'.tiu.cal = none ∧
            ((u.slot c).state = .calibrating → s'.slot c = { u.slot c with state := (u.slot c).before }) ∧
            (c ≠ 16 → s'.plumb.tiuRun = some (c.val + 1) ∧ s'.plumb.tiuFlag = u.plumb.tiuFlag) ∧
            (c = 16 → s'.plumb.tiuRun = none ∧ s'.plumb.tiuFlag = none ∧ s'.plumb.tiuTemp = some e.temp) ∧
            { u.graft s' with tiu := u.tiu, plumb := u.plumb } = u) ∧
        (ok = false → u.plumb.tiuRetries < 3 →
          ∃ s', exec (.codeDensityComplete t c hits e) s = .next s' ∧
            s'.plumb = { u.plumb with
              tiuFirst := none, tiuRetries := u.plumb.tiuRetries + 1, flags := u.plumb.flags ||| 16 } ∧
            { u.graft s' with plumb := u.plumb } = u) ∧
        (ok = false → 3 ≤ u.plumb.tiuRetries →
          ∃ s', exec (.codeDensityComplete t c hits e) s = .next s' ∧ s'.tiu.tables = u.tiu.tables ∧ s'.tiu.cal = none ∧
            s'.plumb.tiuFailed = u.plumb.tiuFailed ||| BitVec.ofNat 17 (2 ^ c.val) ∧ s'.sys.alert &&& 16 = 16)))

/-- Triggers and commands of Plumb (R259, R260, R266, R268, R269, R352). The TIU's trigger, CLEAR_FAILED of 0xFF, the
start of a run and the rank of a flag set again are the model's reading (assumption logs 79 and 41); the factory bands
are log 8. -/
def Obligations.PlumbTriggersAndCommands : Prop :=
  (∀ (s u : State) (t : Nat) (r : Req) (x : Session), u = s.advance t →
    (∀ (kinds : BitVec 3) (target : BitVec 8) (i : Nat) (data : Bytes), i = target.toNat → data = plumbBytes 1 kinds.toNat target →
      u.Writes r x 0x2800 0x07 data →
      (i < 72 → kinds.toNat < 4 → kinds ≠ 0 → u.flagAllowed i = true → u.measures i = false →
        ∃ s', exec (.plumbRunCmd t r kinds target) s = .next s' ∧ u.Replies s' (writeMsg r 0x2800 0x07 data) 0 [] ∧
          s'.core i = { u.core i with
            amp := if kinds.getLsbD 0 = true then (u.core i).amp.or (some .commanded) else (u.core i).amp
            time := if kinds.getLsbD 1 = true then (u.core i).time.or (some .commanded) else (u.core i).time } ∧
          (∀ k, k ≠ i → s'.core k = u.core k) ∧ { u.graftReply s' with cores := u.cores } = u) ∧
      (i < 72 → kinds.toNat < 4 → kinds ≠ 0 → u.flagAllowed i = true → u.measures i = true →
        ∃ s', exec (.plumbRunCmd t r kinds target) s = .next s' ∧ u.Replies s' (writeMsg r 0x2800 0x07 data) 0 [] ∧
          s'.core i = { u.core i with
            ampNext := if kinds.getLsbD 0 = true then (u.core i).ampNext.or (some .commanded) else (u.core i).ampNext
            timeNext := if kinds.getLsbD 1 = true then (u.core i).timeNext.or (some .commanded) else (u.core i).timeNext } ∧
          (∀ k, k ≠ i → s'.core k = u.core k) ∧ { u.graftReply s' with cores := u.cores } = u) ∧
      (i < 72 → kinds.toNat < 4 → kinds ≠ 0 → u.flagAllowed i = false → (u.core i).failed = false → u.plumb.mode ≠ 2 →
        ∃ s', exec (.plumbRunCmd t r kinds target) s = .next s' ∧ u.Replies s' (writeMsg r 0x2800 0x07 data) 0 [] ∧
          (∀ k, s'.core k = u.core k) ∧ { u.graftReply s' with cores := u.cores } = u) ∧
      (i = 255 → kinds.toNat < 4 → kinds ≠ 0 → u.plumb.mode ≠ 2 →
        ∃ s', exec (.plumbRunCmd t r kinds target) s = .next s' ∧ u.Replies s' (writeMsg r 0x2800 0x07 data) 0 [] ∧
          (∀ k, k < 72 → u.flagAllowed k = true → u.measures k = false → s'.core k = { u.core k with
            amp := if kinds.getLsbD 0 = true then (u.core k).amp.or (some .commanded) else (u.core k).amp
            time := if kinds.getLsbD 1 = true then (u.core k).time.or (some .commanded) else (u.core k).time }) ∧
          (∀ k, u.flagAllowed k = false → s'.core k = u.core k) ∧ { u.graftReply s' with cores := u.cores } = u) ∧
      (kinds = 4 → u.plumb.mode ≠ 2 → u.plumb.parity = false →
        ∃ s', exec (.plumbRunCmd t r kinds target) s = .next s' ∧ u.Replies s' (writeMsg r 0x2800 0x07 data) 0 [] ∧
          s'.plumb = { u.plumb with tiuFlag := u.plumb.tiuFlag.or (some .commanded) } ∧
          { u.graftReply s' with plumb := u.plumb } = u) ∧
      (kinds = 0 → u.plumb.mode ≠ 2 →
        ∃ s', exec (.plumbRunCmd t r kinds target) s = .next s' ∧
          u.TurnsAway s' (writeMsg r 0x2800 0x07 data) Abort.range.code) ∧
      (u.plumb.mode = 2 ∨ i < 72 ∧ kinds.toNat % 4 ≠ 0 ∧ (u.core i).failed = true →
        ∃ s', exec (.plumbRunCmd t r kinds target) s = .next s' ∧
          u.TurnsAway s' (writeMsg r 0x2800 0x07 data) Abort.wrongState.code)) ∧
    (∀ (target : BitVec 8) (i : Nat) (data : Bytes), i = target.toNat → data = plumbBytes 2 0 target →
      u.Writes r x 0x2800 0x07 data →
      (i < 72 →
        ∃ s', exec (.plumbClearFailed t r target) s = .next s' ∧ u.Replies s' (writeMsg r 0x2800 0x07 data) 0 [] ∧
          s'.core i = { u.core i with failed := false } ∧ (∀ k, k ≠ i → s'.core k = u.core k) ∧
          { u.graftReply s' with cores := u.cores } = u) ∧
      (i = 255 →
        ∃ s', exec (.plumbClearFailed t r target) s = .next s' ∧ u.Replies s' (writeMsg r 0x2800 0x07 data) 0 [] ∧
          (∀ k, k < 72 → s'.core k = { u.core k with failed := false }) ∧
          s'.plumb = { u.plumb with tiuFailed := 0 } ∧ { u.graftReply s' with cores := u.cores, plumb := u.plumb } = u) ∧
      (72 ≤ i → i ≠ 255 →
        ∃ s', exec (.plumbClearFailed t r target) s = .next s' ∧
          u.TurnsAway s' (writeMsg r 0x2800 0x07 data) Abort.range.code)) ∧
    (u.Writes r x 0x2800 0x07 (plumbBytes 3 0 0) →
      (u.plumb.run = none → u.plumb.tiuRun = none →
        ∃ s', exec (.plumbCancel t r) s = .next s' ∧ u.Replies s' (writeMsg r 0x2800 0x07 (plumbBytes 3 0 0)) 0 [] ∧
          (∀ k, k < 72 → s'.core k = { u.core k with
            amp := none, time := none, ampNext := none, timeNext := none, ampHeld := false, timeHeld := false }) ∧
          s'.plumb = { u.plumb with tiuFlag := none, tiuHeld := false } ∧ { u.graftReply s' with cores := u.cores, plumb := u.plumb } = u) ∧
      (∀ v, u.plumb.run = some v → v.core < 72 → u.plumb.tiuRun = none →
        ∃ s', exec (.plumbCancel t r) s = .next s' ∧ u.Replies s' (writeMsg r 0x2800 0x07 (plumbBytes 3 0 0)) 0 [] ∧
          s'.plumb = { u.plumb with tiuFlag := none, tiuHeld := false, run := none, flags := u.plumb.flags ||| 1 } ∧
          (s'.core v.core).reason = 0x0C ∧ (s'.core v.core).trims = (u.core v.core).trims) ∧
      (u.plumb.run = none → u.plumb.tiuRun.isSome = true →
        ∃ s', exec (.plumbCancel t r) s = .next s' ∧ u.Replies s' (writeMsg r 0x2800 0x07 (plumbBytes 3 0 0)) 0 [] ∧
          s'.plumb.tiuRun = none ∧ s'.plumb.tiuFlag = none ∧ s'.plumb.flags = u.plumb.flags ||| 1 ∧ s'.tiu.cal = none ∧
          s'.tiu.tables = u.tiu.tables)) ∧
    (∀ (data : Bytes) (v : Nat), u.Writes r x 0x2800 0x01 data → data.length = 1 → v = leNat data → v ≤ 2 →
      (u.coreBusy = true ∨ u.plumb.tiuRun.isSome = true ∨ u.plumb.commit.isSome = true →
        ∃ s', exec (.plumbModeWrite t r data) s = .next s' ∧
          u.TurnsAway s' (writeMsg r 0x2800 0x01 data) Abort.blockRunning.code) ∧
      (u.coreBusy = false → u.plumb.tiuRun = none → u.plumb.commit = none → v ≠ u.plumb.mode →
        ∃ s', exec (.plumbModeWrite t r data) s = .next s' ∧ u.Replies s' (writeMsg r 0x2800 0x01 data) 0 [] ∧
          s'.plumb.mode = v ∧ s'.plumb.slots = u.plumb.slots ∧ (v ≠ 2 → s'.chans = u.chans) ∧
          (v = 0 → { u.graftReply s' with plumb := u.plumb } = u) ∧
          (v = 1 → ∀ k, k < 72 → s'.core k = { u.core k with
            amp := if (u.core k).amp = some .commanded then some .commanded else none
            time := if (u.core k).time = some .commanded then some .commanded else none }) ∧
          (v = 2 → s'.plumb.inForce = 0 ∧ s'.plumb.tiuFlag = none ∧
            ∀ k, k < 72 → (s'.core k).amp = none ∧ (s'.core k).time = none ∧ (s'.core k).failed = (u.core k).failed ∧
              (k < 64 ∧ u.clockRuns k = true → (s'.core k).trims = (u.core k).trims ∧
                s'.chan k = { u.chan k with reloadK := some (u.nextBoundary k) }) ∧
              (64 ≤ k ∨ u.clockRuns k = false → (s'.core k).trims = (factoryRecord.core k).1))))) ∧
  (∀ (y u : State) (n k : Nat), u = y.dueAt n → y.reached n k = true → (y.chan n).reloadK = some k →
    (y.chan n).resetK = none → (y.chan n).flushing = none → (y.chan n).disabling = none → (y.chan n).returning = none →
    (y.bay (n / 8)).connecting = none → (y.bay (n / 8)).leaving = none →
    (u.core n).trims = (factoryRecord.core n).1 ∧ (u.chan n).reloadK = none ∧ (∀ j, j ≠ n → u.core j = y.core j) ∧
      (∀ m, m ≠ n → u.chan m = y.chan m) ∧ u.plumb = y.plumb) ∧
  (∀ (s u : State) (t : Nat), u = s.advance t → u.still = false → u.plumb.mode = 0 →
    (∀ (i : Fin 72) (temp : BitVec 16), u.flagAllowed i = true → u.measures i = false →
      ∃ s', exec (.plumbTempTrigger t (some i) temp) s = .next s' ∧
        s'.core i = (if u.dtEff < (temp.toInt - (u.core i).tempAtAmp.toInt).natAbs then
            { u.core i with
              temp := temp, amp := (u.core i).amp.or (some .temperature), time := (u.core i).time.or (some .temperature) }
          else { u.core i with temp := temp }) ∧
        (∀ k, k ≠ i.val → s'.core k = u.core k) ∧ { u.graft s' with cores := u.cores } = u) ∧
    (∀ temp last : BitVec 16, u.plumb.tiuTemp = some last → u.plumb.parity = false →
      ∃ s', exec (.plumbTempTrigger t none temp) s = .next s' ∧
        s'.plumb = { u.plumb with
          tiuFlag := (if u.dtEff < (temp.toInt - last.toInt).natAbs then u.plumb.tiuFlag.or (some .temperature)
            else u.plumb.tiuFlag) } ∧ { u.graft s' with plumb := u.plumb } = u) ∧
    (u.plumb.period ≠ 0 → u.plumb.periodAt + u.plumb.period * secFs ≤ u.now → u.plumb.parity = false →
      ∃ s', exec (.plumbPeriodicTrigger t) s = .next s' ∧
        s'.plumb = { u.plumb with periodAt := u.now, tiuFlag := u.plumb.tiuFlag.or (some .periodic) } ∧
        (∀ k, k < 72 → u.flagAllowed k = true → u.measures k = false → s'.core k = { u.core k with
          amp := (u.core k).amp.or (some .periodic), time := (u.core k).time.or (some .periodic) }) ∧
        (∀ k, k < 72 → u.flagAllowed k = false → s'.core k = u.core k) ∧
        { u.graft s' with plumb := u.plumb, cores := u.cores } = u) ∧
    (u.plumb.period = 0 ∨ u.now < u.plumb.periodAt + u.plumb.period * secFs →
      exec (.plumbPeriodicTrigger t) s = .next (u.close s.pending)))

/-- Runs of Plumb (R260, R262 to R267). -/
def Obligations.PlumbRuns : Prop :=
  (∀ (s u : State) (t : Nat) (e : PlumbConditions), u = s.advance t → u.still = false →
    (u.coreBusy = true ∨ u.plumb.mode = 2 ∨ u.plumb.parity = true ∨ u.nextCore (u.passesOver e) = none →
      exec (.plumbStart t e) s = .next (u.close s.pending)) ∧
    (∀ (i : Nat) (k : RunKind) (vref : Nat), u.coreBusy = false → u.plumb.mode ≠ 2 → u.plumb.parity = false →
      u.nextCore (u.passesOver e) = some i → k = (u.core i).nextRun → (k = .amp ∨ u.calStep = false) →
      vref = (if k = .amp then e.vref else u.plumb.vrefMeas) →
      (∀ reason, ((u.core i).failed = true ∧ reason = 0x09 ∨ (u.core i).failed = false ∧ u.precondition i k e = some reason) →
        ∃ s', exec (.plumbStart t e) s = .next s' ∧ s'.plumb.run = none ∧ s'.plumb.flags = u.plumb.flags ||| 4 ∧
          (s'.core i).reason = reason ∧ (s'.core i).refused = (u.core i).refused + 1 ∧
          (k = .amp → (s'.core i).amp = none ∧ (s'.core i).time = (u.core i).time) ∧
          (k = .time → (s'.core i).time = none ∧ (s'.core i).amp = (u.core i).amp) ∧
          (s'.core i).trims = (u.core i).trims ∧ (∀ j, j ≠ i → s'.core j = u.core j) ∧
          { u.graft s' with plumb := u.plumb, cores := u.cores } = u) ∧
      ((u.core i).failed = false → u.precondition i k e = none →
        (i < 64 → (u.chan i).state = .off → (u.chan i).enable = false →
          ∃ s', exec (.plumbStart t e) s = .next s' ∧
            s'.plumb = { u.plumb with
              vrefMeas := vref, run := some { core := i, kind := k, first := none, handed := false, retries := 0 } } ∧
            s'.core i = { u.core i with retries := 0 } ∧ (∀ j, j ≠ i → s'.core j = u.core j) ∧
            (k = .amp → s'.tiu = u.tiu) ∧ (∀ c, c < 16 → s'.slot c = u.slot c) ∧
            { u.graft s' with plumb := u.plumb, cores := u.cores, tiu := u.tiu } = u) ∧
        (64 ≤ i →
          ∃ s', exec (.plumbStart t e) s = .next s' ∧
            s'.plumb = { u.plumb with
              vrefMeas := vref, run := some { core := i, kind := k, first := none, handed := false, retries := 0 } } ∧
            s'.bay (i - 64) = { u.bay (i - 64) with phase := .ownPlumb, channel := 0 } ∧
            (∀ b, b ≠ i - 64 → s'.bay b = u.bay b) ∧ s'.chans = u.chans) ∧
        (i < 64 → ¬((u.chan i).state = .off ∧ (u.chan i).enable = false) → u.canHandOver i = true →
          ∃ s', exec (.plumbStart t e) s = .next s' ∧
            s'.plumb.run = some { core := i, kind := k, first := none, handed := true, retries := 0 } ∧
            s'.bays = (u.connect i).bays ∧ s'.chans = (u.connect i).chans) ∧
        (i < 64 → ¬((u.chan i).state = .off ∧ (u.chan i).enable = false) → u.canHandOver i = false →
          ∃ s', exec (.plumbStart t e) s = .next s' ∧ s'.plumb.run = none ∧ s'.plumb.flags = u.plumb.flags ||| 4 ∧
            (s'.core i).amp = none ∧ (s'.core i).time = none ∧ (s'.core i).reason = 0x07 ∧
            (∀ j, j ≠ i → s'.core j = u.core j) ∧ { u.graft s' with plumb := u.plumb, cores := u.cores } = u)))) ∧
  (∀ (s u : State) (t : Nat) (e : PlumbConditions) (m : PlumbResult) (v : CoreRun) (c : Core) (vref : Nat), u = s.advance t →
    u.still = false → u.plumb.run = some v → c = u.core v.core → v.core < 72 →
    (v.handed = false ∨ (u.bay (v.core / 8)).phase = .cover ∧ (u.bay (v.core / 8)).channel = v.core) →
    resultFits m v.kind = true → (v.kind = .amp ∨ u.calStep = false) →
    vref = (if v.kind = .amp then e.vref else u.plumb.vrefMeas) →
    (∀ reason, u.precondition v.core v.kind e = some reason →
      ∃ s', exec (.plumbRunComplete t e m) s = .next s' ∧ s'.plumb.run = none ∧ (s'.core v.core).reason = reason ∧
        (s'.core v.core).trims = c.trims ∧
        (v.kind = .amp → c.amp = some .commanded → (s'.core v.core).amp = c.ampNext) ∧
        (v.kind = .amp → ∀ k, k ≠ .commanded → c.amp = some k →
          (s'.core v.core).amp = some k ∧ (s'.core v.core).ampHeld = true) ∧
        (v.kind = .time → c.time = some .commanded → (s'.core v.core).time = c.timeNext) ∧
        (v.kind = .time → ∀ k, k ≠ .commanded → c.time = some k →
          (s'.core v.core).time = some k ∧ (s'.core v.core).timeHeld = true) ∧
        (∀ j, j ≠ v.core → s'.core j = u.core j)) ∧
    (u.precondition v.core v.kind e = none →
      (v.first = none →
        ∃ s', exec (.plumbRunComplete t e m) s = .next s' ∧
          s'.plumb = { u.plumb with vrefMeas := vref, run := some { v with first := some m } } ∧
          { u.graft s' with plumb := u.plumb } = u) ∧
      (∀ m1, v.first = some m1 →
        (∀ cells g o, v.kind = .amp → m = .amp cells g o → resultsAgree m1 m = true → c.failed = false →
          ((∀ x ∈ cells, 0 ≤ x ∧ x ≤ 255) → -2048 ≤ g → g ≤ 2047 → -2048 ≤ o → o ≤ 2047 →
            ∃ s', exec (.plumbRunComplete t e m) s = .next s' ∧
              (s'.core v.core).trims = { c.trims with
                cells := cells.map fun x => BitVec.ofInt 8 x, gain := BitVec.ofInt 12 g, offset := BitVec.ofInt 12 o } ∧
              (s'.core v.core).count = c.count + 1 ∧ (s'.core v.core).ampFactory = false ∧
              (s'.core v.core).tempAtAmp = e.temp ∧ (s'.core v.core).lastAt = some (u.now) ∧
              (c.time = none → s'.plumb.run = none ∧ (s'.core v.core).reason = 0) ∧
              (c.time.isSome = true → u.precondition v.core .time e = none →
                s'.plumb.run = some { v with kind := .time, first := none, retries := 0 }) ∧
              (∀ j, j ≠ v.core → s'.core j = u.core j)) ∧
          (g < -2048 ∨ 2047 < g →
            ∃ s', exec (.plumbRunComplete t e m) s = .next s' ∧ s'.plumb.run = none ∧ (s'.core v.core).failed = true ∧
              (s'.core v.core).reason = 0x0A ∧ (s'.core v.core).trims = c.trims ∧ (s'.core v.core).tempAtAmp = e.temp ∧
              s'.sys.alert &&& 16 = 16 ∧ (∀ j, j ≠ v.core → s'.core j = u.core j))) ∧
        (∀ (pad fine : Int) (ok : Bool), v.kind = .time → m = .time pad → resultsAgree m1 m = true →
          fine = u.fineFrom v.core (u.runError v.core pad) →
          ok = (decide (-8388608 ≤ fine ∧ fine < 8388608)
            && (u.modCore v.core fun c => { c with trims := { c.trims with fine := fine } }).delayOk v.core
              (u.output v.core).div (u.output v.core).coarse (u.output v.core).fine) →
          ∃ s', exec (.plumbRunComplete t e m) s = .next s' ∧ s'.plumb.run = none ∧ (s'.core v.core).time = c.timeNext ∧
            (ok = true → (s'.core v.core).trims = { c.trims with fine := fine } ∧ (s'.core v.core).timeFactory = false ∧
              (s'.core v.core).count = c.count + 1 ∧ (s'.core v.core).reason = 0) ∧
            (ok = false → (s'.core v.core).trims = c.trims ∧ (s'.core v.core).reason = 0x0A ∧
              (s'.core v.core).count = c.count) ∧
            (∀ j, j ≠ v.core → s'.core j = u.core j)) ∧
        (resultsAgree m1 m = false →
          (v.retries < 3 →
            ∃ s', exec (.plumbRunComplete t e m) s = .next s' ∧
              s'.plumb = { u.plumb with
                vrefMeas := vref, run := some { v with first := none, retries := v.retries + 1 }
                flags := u.plumb.flags ||| 16 } ∧
              s'.core v.core = { c with disagrees := c.disagrees + 1, retries := v.retries + 1 } ∧
              (∀ j, j ≠ v.core → s'.core j = u.core j) ∧
              { u.graft s' with plumb := u.plumb, cores := u.cores, card := u.card } = u) ∧
          (3 ≤ v.retries →
            ∃ s', exec (.plumbRunComplete t e m) s = .next s' ∧ s'.plumb.run = none ∧ (s'.core v.core).failed = true ∧
              (s'.core v.core).reason = 0x0B ∧ (s'.core v.core).trims = c.trims ∧
              (s'.core v.core).disagrees = c.disagrees + 1 ∧ s'.sys.alert &&& 16 = 16 ∧
              (∀ j, j ≠ v.core → s'.core j = u.core j))))))

/-- The Yearbook (R270, R277 to R279) and the hold-up test (R382). What stands of a commit cut short, and the outcome of a
test that waits, is the model's choice (assumption logs 102 and 129). -/
def Obligations.YearbookCommits : Prop :=
  (∀ (s u : State) (t : Nat) (r : Req) (x : Session), u = s.advance t → u.Writes r x 0x2800 0x18 [1] →
    (u.plumb.mode ≠ 2 → u.plumb.commit = none → u.ybFree ≠ 0 → u.plumb.holdupOk = true →
      ∃ s' v, exec (.ybCommit t r) s = .next s' ∧ u.Replies s' (writeMsg r 0x2800 0x18 [1]) 0 [] ∧
        s'.plumb = { u.plumb with commit := some (u.ybTop + 1, v), commitAt := (u.now, u.draws) } ∧ v.sealed = false ∧ v.utc = u.plumb.utc ∧
        v.vrefNom = u.plumb.vrefNom ∧ v.refFreq = u.ref.freq ∧ v.bandsM = u.synM.bands ∧ v.bandsA = u.synA.bands ∧
        (∀ i, i < 72 → v.core i = u.coreBefore i) ∧
        (u.plumb.trimsOld.1 ≠ u.cycle → ∀ i, i < 72 → v.core i = ((u.core i).trims, (u.core i).flags)) ∧
        { u.graftReply s' with plumb := u.plumb } = u) ∧
    (∀ code, (u.plumb.mode = 2 ∧ code = Abort.wrongState.code ∨
        u.plumb.mode ≠ 2 ∧ u.plumb.commit.isSome = true ∧ code = Abort.blockRunning.code ∨
        u.plumb.mode ≠ 2 ∧ u.plumb.commit = none ∧ u.ybFree = 0 ∧ code = Abort.yearbookFull.code ∨
        u.plumb.mode ≠ 2 ∧ u.plumb.commit = none ∧ u.ybFree ≠ 0 ∧ u.plumb.holdupOk = false ∧ code = Abort.fuseHoldup.code) →
      ∃ s', exec (.ybCommit t r) s = .next s' ∧ u.TurnsAway s' (writeMsg r 0x2800 0x18 [1]) code)) ∧
  (∀ (s u : State) (t k : Nat) (v : YbRecord), u = s.advance t → u.plumb.commit = some (k, v) →
    (u.ybSealAt ≤ u.now → u.plumb.utcAt ≠ some u.moment →
      ∃ s', exec (.commitComplete t true) s = .next s' ∧ s'.ybSlot k = some { v with sealed := true, words := 981 } ∧
        (∀ j, j ≠ k → s'.ybSlot j = u.ybSlot j) ∧ s'.plumb.commit = none ∧ s'.plumb.inForce = k ∧
        s'.plumb.commits = u.plumb.commits + 1 ∧ s'.plumb.lastUtc = v.utc ∧ s'.plumb.utc = BitVec.allOnes 64 ∧
        s'.plumb.done = true ∧ { u.graft s' with plumb := u.plumb, sys := u.sys } = u) ∧
    (u.ybProgramAt + ybWordFs ≤ u.now →
      ∃ s', exec (.commitComplete t false) s = .next s' ∧
        s'.ybSlot k = some { v with intact := false, words := max 1 u.ybWords } ∧
        (∀ j, j ≠ k → s'.ybSlot j = u.ybSlot j) ∧ s'.plumb.commit = none ∧ s'.plumb.inForce = u.plumb.inForce ∧
        s'.plumb.programFail = true ∧ s'.plumb.holdupLost = u.plumb.holdupLost ∧
        { u.graft s' with plumb := u.plumb, sys := u.sys } = u) ∧
    (u.now < u.ybProgramAt + ybWordFs → exec (.commitComplete t false) s = .next (u.close s.pending)) ∧
    (u.now < u.ybSealAt → exec (.commitComplete t true) s = .next (u.close s.pending)) ∧
    (∃ s', exec (.fuseHoldupLost t) s = .next s' ∧
      s'.ybSlot k = some { v with intact := true, words := max 1 u.ybWords } ∧
      (∀ j, j ≠ k → s'.ybSlot j = u.ybSlot j) ∧ s'.plumb.commit = none ∧ s'.plumb.inForce = u.plumb.inForce ∧
      s'.plumb.holdupLost = true ∧ s'.plumb.programFail = u.plumb.programFail ∧
      { u.graft s' with plumb := u.plumb, sys := u.sys } = u)) ∧
  (∀ (s u : State) (t : Nat) (held : Bool), u = s.advance t →
    (u.held = false → u.plumb.holdupDue = none → (∀ z ∈ u.plumb.holdupAt, z + 10 * secFs ≤ u.now) →
      (u.programming = false →
        ∃ s', exec (.holdupTest t held) s = .next s' ∧
          s'.plumb = { u.plumb with holdupOk := held, holdupAt := some u.now } ∧ { u.graft s' with plumb := u.plumb } = u) ∧
      (u.programming = true →
        ∃ s', exec (.holdupTest t held) s = .next s' ∧ s'.plumb = { u.plumb with holdupDue := some held } ∧
          { u.graft s' with plumb := u.plumb } = u)) ∧
    (∀ z, u.plumb.holdupAt = some z → u.now < z + 10 * secFs →
      exec (.holdupTest t held) s = .next (u.close s.pending)))
end

