-- ==== Sys2Proof/Laws/State.lean ====
section
/-! SUPPORT. What each update of State leaves alone: one lemma for each field and each accessor, true by `rfl`. -/

namespace Sys2Proof.Machine

/-! ### tick -/

@[simp] theorem State.tick_time (s : State) (t : Nat) : (s.tick t).time = s.time := rfl
@[simp] theorem State.tick_eclk (s : State) (t : Nat) : (s.tick t).eclk = s.eclk := rfl
@[simp] theorem State.tick_sys (s : State) (t : Nat) : (s.tick t).sys = s.sys := rfl
@[simp] theorem State.tick_oda (s : State) (t : Nat) : (s.tick t).oda = s.oda := rfl
@[simp] theorem State.tick_cfg (s : State) (t : Nat) : (s.tick t).cfg = s.cfg := rfl
@[simp] theorem State.tick_mem (s : State) (t : Nat) : (s.tick t).mem = s.mem := rfl
@[simp] theorem State.tick_net (s : State) (t : Nat) : (s.tick t).net = s.net := rfl
@[simp] theorem State.tick_joiners (s : State) (t : Nat) : (s.tick t).joiners = s.joiners := rfl
@[simp] theorem State.tick_tts (s : State) (t : Nat) : (s.tick t).tts = s.tts := rfl
@[simp] theorem State.tick_stops (s : State) (t : Nat) : (s.tick t).stops = s.stops := rfl
@[simp] theorem State.tick_woken (s : State) (t : Nat) : (s.tick t).woken = s.woken := rfl
@[simp] theorem State.tick_evr (s : State) (t : Nat) : (s.tick t).evr = s.evr := rfl
@[simp] theorem State.tick_chans (s : State) (t : Nat) : (s.tick t).chans = s.chans := rfl
@[simp] theorem State.tick_bays (s : State) (t : Nat) : (s.tick t).bays = s.bays := rfl
@[simp] theorem State.tick_cores (s : State) (t : Nat) : (s.tick t).cores = s.cores := rfl
@[simp] theorem State.tick_ref (s : State) (t : Nat) : (s.tick t).ref = s.ref := rfl
@[simp] theorem State.tick_synM (s : State) (t : Nat) : (s.tick t).synM = s.synM := rfl
@[simp] theorem State.tick_synA (s : State) (t : Nat) : (s.tick t).synA = s.synA := rfl
@[simp] theorem State.tick_outs (s : State) (t : Nat) : (s.tick t).outs = s.outs := rfl
@[simp] theorem State.tick_ramp (s : State) (t : Nat) : (s.tick t).ramp = s.ramp := rfl
@[simp] theorem State.tick_truss (s : State) (t : Nat) : (s.tick t).truss = s.truss := rfl
@[simp] theorem State.tick_quads (s : State) (t : Nat) : (s.tick t).quads = s.quads := rfl
@[simp] theorem State.tick_lanes (s : State) (t : Nat) : (s.tick t).lanes = s.lanes := rfl
@[simp] theorem State.tick_mgmt (s : State) (t : Nat) : (s.tick t).mgmt = s.mgmt := rfl
@[simp] theorem State.tick_tiu (s : State) (t : Nat) : (s.tick t).tiu = s.tiu := rfl
@[simp] theorem State.tick_plumb (s : State) (t : Nat) : (s.tick t).plumb = s.plumb := rfl
@[simp] theorem State.tick_sec (s : State) (t : Nat) : (s.tick t).sec = s.sec := rfl
@[simp] theorem State.tick_card (s : State) (t : Nat) : (s.tick t).card = s.card := rfl
@[simp] theorem State.tick_recess (s : State) (t : Nat) : (s.tick t).recess = s.recess := rfl
@[simp] theorem State.tick_out (s : State) (t : Nat) : (s.tick t).out = s.out := rfl
@[simp] theorem State.tick_serial (s : State) (t : Nat) : (s.tick t).serial = s.serial := rfl
@[simp] theorem State.tick_pending (s : State) (t : Nat) : (s.tick t).pending = s.pending := rfl
@[simp] theorem State.tick_chan (s : State) (t : Nat) (n : Nat) : (s.tick t).chan n = s.chan n := rfl
@[simp] theorem State.tick_tt (s : State) (t : Nat) (n : Nat) : (s.tick t).tt n = s.tt n := rfl
@[simp] theorem State.tick_joiner (s : State) (t : Nat) (n : Nat) : (s.tick t).joiner n = s.joiner n := rfl
@[simp] theorem State.tick_bay (s : State) (t : Nat) (n : Nat) : (s.tick t).bay n = s.bay n := rfl
@[simp] theorem State.tick_core (s : State) (t : Nat) (n : Nat) : (s.tick t).core n = s.core n := rfl
@[simp] theorem State.tick_output (s : State) (t : Nat) (n : Nat) : (s.tick t).output n = s.output n := rfl
@[simp] theorem State.tick_quad (s : State) (t : Nat) (n : Nat) : (s.tick t).quad n = s.quad n := rfl
@[simp] theorem State.tick_lane (s : State) (t : Nat) (n : Nat) : (s.tick t).lane n = s.lane n := rfl
@[simp] theorem State.tick_slot (s : State) (t : Nat) (n : Nat) : (s.tick t).slot n = s.slot n := rfl

/-! ### setChan -/

@[simp] theorem State.setChan_now (s : State) (i : Nat) (v : Channel) : (s.setChan i v).now = s.now := rfl
@[simp] theorem State.setChan_time (s : State) (i : Nat) (v : Channel) : (s.setChan i v).time = s.time := rfl
@[simp] theorem State.setChan_eclk (s : State) (i : Nat) (v : Channel) : (s.setChan i v).eclk = s.eclk := rfl
@[simp] theorem State.setChan_sys (s : State) (i : Nat) (v : Channel) : (s.setChan i v).sys = s.sys := rfl
@[simp] theorem State.setChan_oda (s : State) (i : Nat) (v : Channel) : (s.setChan i v).oda = s.oda := rfl
@[simp] theorem State.setChan_cfg (s : State) (i : Nat) (v : Channel) : (s.setChan i v).cfg = s.cfg := rfl
@[simp] theorem State.setChan_mem (s : State) (i : Nat) (v : Channel) : (s.setChan i v).mem = s.mem := rfl
@[simp] theorem State.setChan_net (s : State) (i : Nat) (v : Channel) : (s.setChan i v).net = s.net := rfl
@[simp] theorem State.setChan_joiners (s : State) (i : Nat) (v : Channel) : (s.setChan i v).joiners = s.joiners := rfl
@[simp] theorem State.setChan_tts (s : State) (i : Nat) (v : Channel) : (s.setChan i v).tts = s.tts := rfl
@[simp] theorem State.setChan_stops (s : State) (i : Nat) (v : Channel) : (s.setChan i v).stops = s.stops := rfl
@[simp] theorem State.setChan_woken (s : State) (i : Nat) (v : Channel) : (s.setChan i v).woken = s.woken := rfl
@[simp] theorem State.setChan_evr (s : State) (i : Nat) (v : Channel) : (s.setChan i v).evr = s.evr := rfl
@[simp] theorem State.setChan_bays (s : State) (i : Nat) (v : Channel) : (s.setChan i v).bays = s.bays := rfl
@[simp] theorem State.setChan_cores (s : State) (i : Nat) (v : Channel) : (s.setChan i v).cores = s.cores := rfl
@[simp] theorem State.setChan_ref (s : State) (i : Nat) (v : Channel) : (s.setChan i v).ref = s.ref := rfl
@[simp] theorem State.setChan_synM (s : State) (i : Nat) (v : Channel) : (s.setChan i v).synM = s.synM := rfl
@[simp] theorem State.setChan_synA (s : State) (i : Nat) (v : Channel) : (s.setChan i v).synA = s.synA := rfl
@[simp] theorem State.setChan_outs (s : State) (i : Nat) (v : Channel) : (s.setChan i v).outs = s.outs := rfl
@[simp] theorem State.setChan_ramp (s : State) (i : Nat) (v : Channel) : (s.setChan i v).ramp = s.ramp := rfl
@[simp] theorem State.setChan_truss (s : State) (i : Nat) (v : Channel) : (s.setChan i v).truss = s.truss := rfl
@[simp] theorem State.setChan_quads (s : State) (i : Nat) (v : Channel) : (s.setChan i v).quads = s.quads := rfl
@[simp] theorem State.setChan_lanes (s : State) (i : Nat) (v : Channel) : (s.setChan i v).lanes = s.lanes := rfl
@[simp] theorem State.setChan_mgmt (s : State) (i : Nat) (v : Channel) : (s.setChan i v).mgmt = s.mgmt := rfl
@[simp] theorem State.setChan_tiu (s : State) (i : Nat) (v : Channel) : (s.setChan i v).tiu = s.tiu := rfl
@[simp] theorem State.setChan_plumb (s : State) (i : Nat) (v : Channel) : (s.setChan i v).plumb = s.plumb := rfl
@[simp] theorem State.setChan_sec (s : State) (i : Nat) (v : Channel) : (s.setChan i v).sec = s.sec := rfl
@[simp] theorem State.setChan_card (s : State) (i : Nat) (v : Channel) : (s.setChan i v).card = s.card := rfl
@[simp] theorem State.setChan_recess (s : State) (i : Nat) (v : Channel) : (s.setChan i v).recess = s.recess := rfl
@[simp] theorem State.setChan_out (s : State) (i : Nat) (v : Channel) : (s.setChan i v).out = s.out := rfl
@[simp] theorem State.setChan_draws (s : State) (i : Nat) (v : Channel) : (s.setChan i v).draws = s.draws := rfl
@[simp] theorem State.setChan_serial (s : State) (i : Nat) (v : Channel) : (s.setChan i v).serial = s.serial := rfl
@[simp] theorem State.setChan_pending (s : State) (i : Nat) (v : Channel) : (s.setChan i v).pending = s.pending := rfl
@[simp] theorem State.setChan_tt (s : State) (i : Nat) (v : Channel) (n : Nat) : (s.setChan i v).tt n = s.tt n := rfl
@[simp] theorem State.setChan_joiner (s : State) (i : Nat) (v : Channel) (n : Nat) : (s.setChan i v).joiner n = s.joiner n := rfl
@[simp] theorem State.setChan_bay (s : State) (i : Nat) (v : Channel) (n : Nat) : (s.setChan i v).bay n = s.bay n := rfl
@[simp] theorem State.setChan_core (s : State) (i : Nat) (v : Channel) (n : Nat) : (s.setChan i v).core n = s.core n := rfl
@[simp] theorem State.setChan_output (s : State) (i : Nat) (v : Channel) (n : Nat) : (s.setChan i v).output n = s.output n := rfl
@[simp] theorem State.setChan_quad (s : State) (i : Nat) (v : Channel) (n : Nat) : (s.setChan i v).quad n = s.quad n := rfl
@[simp] theorem State.setChan_lane (s : State) (i : Nat) (v : Channel) (n : Nat) : (s.setChan i v).lane n = s.lane n := rfl
@[simp] theorem State.setChan_slot (s : State) (i : Nat) (v : Channel) (n : Nat) : (s.setChan i v).slot n = s.slot n := rfl

/-! ### allChans -/

@[simp] theorem State.allChans_now (s : State) (f : Nat → Channel → Channel) : (s.allChans f).now = s.now := rfl
@[simp] theorem State.allChans_time (s : State) (f : Nat → Channel → Channel) : (s.allChans f).time = s.time := rfl
@[simp] theorem State.allChans_eclk (s : State) (f : Nat → Channel → Channel) : (s.allChans f).eclk = s.eclk := rfl
@[simp] theorem State.allChans_sys (s : State) (f : Nat → Channel → Channel) : (s.allChans f).sys = s.sys := rfl
@[simp] theorem State.allChans_oda (s : State) (f : Nat → Channel → Channel) : (s.allChans f).oda = s.oda := rfl
@[simp] theorem State.allChans_cfg (s : State) (f : Nat → Channel → Channel) : (s.allChans f).cfg = s.cfg := rfl
@[simp] theorem State.allChans_mem (s : State) (f : Nat → Channel → Channel) : (s.allChans f).mem = s.mem := rfl
@[simp] theorem State.allChans_net (s : State) (f : Nat → Channel → Channel) : (s.allChans f).net = s.net := rfl
@[simp] theorem State.allChans_joiners (s : State) (f : Nat → Channel → Channel) : (s.allChans f).joiners = s.joiners := rfl
@[simp] theorem State.allChans_tts (s : State) (f : Nat → Channel → Channel) : (s.allChans f).tts = s.tts := rfl
@[simp] theorem State.allChans_stops (s : State) (f : Nat → Channel → Channel) : (s.allChans f).stops = s.stops := rfl
@[simp] theorem State.allChans_woken (s : State) (f : Nat → Channel → Channel) : (s.allChans f).woken = s.woken := rfl
@[simp] theorem State.allChans_evr (s : State) (f : Nat → Channel → Channel) : (s.allChans f).evr = s.evr := rfl
@[simp] theorem State.allChans_bays (s : State) (f : Nat → Channel → Channel) : (s.allChans f).bays = s.bays := rfl
@[simp] theorem State.allChans_cores (s : State) (f : Nat → Channel → Channel) : (s.allChans f).cores = s.cores := rfl
@[simp] theorem State.allChans_ref (s : State) (f : Nat → Channel → Channel) : (s.allChans f).ref = s.ref := rfl
@[simp] theorem State.allChans_synM (s : State) (f : Nat → Channel → Channel) : (s.allChans f).synM = s.synM := rfl
@[simp] theorem State.allChans_synA (s : State) (f : Nat → Channel → Channel) : (s.allChans f).synA = s.synA := rfl
@[simp] theorem State.allChans_outs (s : State) (f : Nat → Channel → Channel) : (s.allChans f).outs = s.outs := rfl
@[simp] theorem State.allChans_ramp (s : State) (f : Nat → Channel → Channel) : (s.allChans f).ramp = s.ramp := rfl
@[simp] theorem State.allChans_truss (s : State) (f : Nat → Channel → Channel) : (s.allChans f).truss = s.truss := rfl
@[simp] theorem State.allChans_quads (s : State) (f : Nat → Channel → Channel) : (s.allChans f).quads = s.quads := rfl
@[simp] theorem State.allChans_lanes (s : State) (f : Nat → Channel → Channel) : (s.allChans f).lanes = s.lanes := rfl
@[simp] theorem State.allChans_mgmt (s : State) (f : Nat → Channel → Channel) : (s.allChans f).mgmt = s.mgmt := rfl
@[simp] theorem State.allChans_tiu (s : State) (f : Nat → Channel → Channel) : (s.allChans f).tiu = s.tiu := rfl
@[simp] theorem State.allChans_plumb (s : State) (f : Nat → Channel → Channel) : (s.allChans f).plumb = s.plumb := rfl
@[simp] theorem State.allChans_sec (s : State) (f : Nat → Channel → Channel) : (s.allChans f).sec = s.sec := rfl
@[simp] theorem State.allChans_card (s : State) (f : Nat → Channel → Channel) : (s.allChans f).card = s.card := rfl
@[simp] theorem State.allChans_recess (s : State) (f : Nat → Channel → Channel) : (s.allChans f).recess = s.recess := rfl
@[simp] theorem State.allChans_out (s : State) (f : Nat → Channel → Channel) : (s.allChans f).out = s.out := rfl
@[simp] theorem State.allChans_draws (s : State) (f : Nat → Channel → Channel) : (s.allChans f).draws = s.draws := rfl
@[simp] theorem State.allChans_serial (s : State) (f : Nat → Channel → Channel) : (s.allChans f).serial = s.serial := rfl
@[simp] theorem State.allChans_pending (s : State) (f : Nat → Channel → Channel) : (s.allChans f).pending = s.pending := rfl
@[simp] theorem State.allChans_tt (s : State) (f : Nat → Channel → Channel) (n : Nat) : (s.allChans f).tt n = s.tt n := rfl
@[simp] theorem State.allChans_joiner (s : State) (f : Nat → Channel → Channel) (n : Nat) : (s.allChans f).joiner n = s.joiner n := rfl
@[simp] theorem State.allChans_bay (s : State) (f : Nat → Channel → Channel) (n : Nat) : (s.allChans f).bay n = s.bay n := rfl
@[simp] theorem State.allChans_core (s : State) (f : Nat → Channel → Channel) (n : Nat) : (s.allChans f).core n = s.core n := rfl
@[simp] theorem State.allChans_output (s : State) (f : Nat → Channel → Channel) (n : Nat) : (s.allChans f).output n = s.output n := rfl
@[simp] theorem State.allChans_quad (s : State) (f : Nat → Channel → Channel) (n : Nat) : (s.allChans f).quad n = s.quad n := rfl
@[simp] theorem State.allChans_lane (s : State) (f : Nat → Channel → Channel) (n : Nat) : (s.allChans f).lane n = s.lane n := rfl
@[simp] theorem State.allChans_slot (s : State) (f : Nat → Channel → Channel) (n : Nat) : (s.allChans f).slot n = s.slot n := rfl

/-! ### setTt -/

@[simp] theorem State.setTt_now (s : State) (i : Nat) (v : Timetable) : (s.setTt i v).now = s.now := rfl
@[simp] theorem State.setTt_time (s : State) (i : Nat) (v : Timetable) : (s.setTt i v).time = s.time := rfl
@[simp] theorem State.setTt_eclk (s : State) (i : Nat) (v : Timetable) : (s.setTt i v).eclk = s.eclk := rfl
@[simp] theorem State.setTt_sys (s : State) (i : Nat) (v : Timetable) : (s.setTt i v).sys = s.sys := rfl
@[simp] theorem State.setTt_oda (s : State) (i : Nat) (v : Timetable) : (s.setTt i v).oda = s.oda := rfl
@[simp] theorem State.setTt_cfg (s : State) (i : Nat) (v : Timetable) : (s.setTt i v).cfg = s.cfg := rfl
@[simp] theorem State.setTt_mem (s : State) (i : Nat) (v : Timetable) : (s.setTt i v).mem = s.mem := rfl
@[simp] theorem State.setTt_net (s : State) (i : Nat) (v : Timetable) : (s.setTt i v).net = s.net := rfl
@[simp] theorem State.setTt_joiners (s : State) (i : Nat) (v : Timetable) : (s.setTt i v).joiners = s.joiners := rfl
@[simp] theorem State.setTt_stops (s : State) (i : Nat) (v : Timetable) : (s.setTt i v).stops = s.stops := rfl
@[simp] theorem State.setTt_woken (s : State) (i : Nat) (v : Timetable) : (s.setTt i v).woken = s.woken := rfl
@[simp] theorem State.setTt_evr (s : State) (i : Nat) (v : Timetable) : (s.setTt i v).evr = s.evr := rfl
@[simp] theorem State.setTt_chans (s : State) (i : Nat) (v : Timetable) : (s.setTt i v).chans = s.chans := rfl
@[simp] theorem State.setTt_bays (s : State) (i : Nat) (v : Timetable) : (s.setTt i v).bays = s.bays := rfl
@[simp] theorem State.setTt_cores (s : State) (i : Nat) (v : Timetable) : (s.setTt i v).cores = s.cores := rfl
@[simp] theorem State.setTt_ref (s : State) (i : Nat) (v : Timetable) : (s.setTt i v).ref = s.ref := rfl
@[simp] theorem State.setTt_synM (s : State) (i : Nat) (v : Timetable) : (s.setTt i v).synM = s.synM := rfl
@[simp] theorem State.setTt_synA (s : State) (i : Nat) (v : Timetable) : (s.setTt i v).synA = s.synA := rfl
@[simp] theorem State.setTt_outs (s : State) (i : Nat) (v : Timetable) : (s.setTt i v).outs = s.outs := rfl
@[simp] theorem State.setTt_ramp (s : State) (i : Nat) (v : Timetable) : (s.setTt i v).ramp = s.ramp := rfl
@[simp] theorem State.setTt_truss (s : State) (i : Nat) (v : Timetable) : (s.setTt i v).truss = s.truss := rfl
@[simp] theorem State.setTt_quads (s : State) (i : Nat) (v : Timetable) : (s.setTt i v).quads = s.quads := rfl
@[simp] theorem State.setTt_lanes (s : State) (i : Nat) (v : Timetable) : (s.setTt i v).lanes = s.lanes := rfl
@[simp] theorem State.setTt_mgmt (s : State) (i : Nat) (v : Timetable) : (s.setTt i v).mgmt = s.mgmt := rfl
@[simp] theorem State.setTt_tiu (s : State) (i : Nat) (v : Timetable) : (s.setTt i v).tiu = s.tiu := rfl
@[simp] theorem State.setTt_plumb (s : State) (i : Nat) (v : Timetable) : (s.setTt i v).plumb = s.plumb := rfl
@[simp] theorem State.setTt_sec (s : State) (i : Nat) (v : Timetable) : (s.setTt i v).sec = s.sec := rfl
@[simp] theorem State.setTt_card (s : State) (i : Nat) (v : Timetable) : (s.setTt i v).card = s.card := rfl
@[simp] theorem State.setTt_recess (s : State) (i : Nat) (v : Timetable) : (s.setTt i v).recess = s.recess := rfl
@[simp] theorem State.setTt_out (s : State) (i : Nat) (v : Timetable) : (s.setTt i v).out = s.out := rfl
@[simp] theorem State.setTt_draws (s : State) (i : Nat) (v : Timetable) : (s.setTt i v).draws = s.draws := rfl
@[simp] theorem State.setTt_serial (s : State) (i : Nat) (v : Timetable) : (s.setTt i v).serial = s.serial := rfl
@[simp] theorem State.setTt_pending (s : State) (i : Nat) (v : Timetable) : (s.setTt i v).pending = s.pending := rfl
@[simp] theorem State.setTt_chan (s : State) (i : Nat) (v : Timetable) (n : Nat) : (s.setTt i v).chan n = s.chan n := rfl
@[simp] theorem State.setTt_joiner (s : State) (i : Nat) (v : Timetable) (n : Nat) : (s.setTt i v).joiner n = s.joiner n := rfl
@[simp] theorem State.setTt_bay (s : State) (i : Nat) (v : Timetable) (n : Nat) : (s.setTt i v).bay n = s.bay n := rfl
@[simp] theorem State.setTt_core (s : State) (i : Nat) (v : Timetable) (n : Nat) : (s.setTt i v).core n = s.core n := rfl
@[simp] theorem State.setTt_output (s : State) (i : Nat) (v : Timetable) (n : Nat) : (s.setTt i v).output n = s.output n := rfl
@[simp] theorem State.setTt_quad (s : State) (i : Nat) (v : Timetable) (n : Nat) : (s.setTt i v).quad n = s.quad n := rfl
@[simp] theorem State.setTt_lane (s : State) (i : Nat) (v : Timetable) (n : Nat) : (s.setTt i v).lane n = s.lane n := rfl
@[simp] theorem State.setTt_slot (s : State) (i : Nat) (v : Timetable) (n : Nat) : (s.setTt i v).slot n = s.slot n := rfl

/-! ### allTts -/

@[simp] theorem State.allTts_now (s : State) (f : Nat → Timetable → Timetable) : (s.allTts f).now = s.now := rfl
@[simp] theorem State.allTts_time (s : State) (f : Nat → Timetable → Timetable) : (s.allTts f).time = s.time := rfl
@[simp] theorem State.allTts_eclk (s : State) (f : Nat → Timetable → Timetable) : (s.allTts f).eclk = s.eclk := rfl
@[simp] theorem State.allTts_sys (s : State) (f : Nat → Timetable → Timetable) : (s.allTts f).sys = s.sys := rfl
@[simp] theorem State.allTts_oda (s : State) (f : Nat → Timetable → Timetable) : (s.allTts f).oda = s.oda := rfl
@[simp] theorem State.allTts_cfg (s : State) (f : Nat → Timetable → Timetable) : (s.allTts f).cfg = s.cfg := rfl
@[simp] theorem State.allTts_mem (s : State) (f : Nat → Timetable → Timetable) : (s.allTts f).mem = s.mem := rfl
@[simp] theorem State.allTts_net (s : State) (f : Nat → Timetable → Timetable) : (s.allTts f).net = s.net := rfl
@[simp] theorem State.allTts_joiners (s : State) (f : Nat → Timetable → Timetable) : (s.allTts f).joiners = s.joiners := rfl
@[simp] theorem State.allTts_stops (s : State) (f : Nat → Timetable → Timetable) : (s.allTts f).stops = s.stops := rfl
@[simp] theorem State.allTts_woken (s : State) (f : Nat → Timetable → Timetable) : (s.allTts f).woken = s.woken := rfl
@[simp] theorem State.allTts_evr (s : State) (f : Nat → Timetable → Timetable) : (s.allTts f).evr = s.evr := rfl
@[simp] theorem State.allTts_chans (s : State) (f : Nat → Timetable → Timetable) : (s.allTts f).chans = s.chans := rfl
@[simp] theorem State.allTts_bays (s : State) (f : Nat → Timetable → Timetable) : (s.allTts f).bays = s.bays := rfl
@[simp] theorem State.allTts_cores (s : State) (f : Nat → Timetable → Timetable) : (s.allTts f).cores = s.cores := rfl
@[simp] theorem State.allTts_ref (s : State) (f : Nat → Timetable → Timetable) : (s.allTts f).ref = s.ref := rfl
@[simp] theorem State.allTts_synM (s : State) (f : Nat → Timetable → Timetable) : (s.allTts f).synM = s.synM := rfl
@[simp] theorem State.allTts_synA (s : State) (f : Nat → Timetable → Timetable) : (s.allTts f).synA = s.synA := rfl
@[simp] theorem State.allTts_outs (s : State) (f : Nat → Timetable → Timetable) : (s.allTts f).outs = s.outs := rfl
@[simp] theorem State.allTts_ramp (s : State) (f : Nat → Timetable → Timetable) : (s.allTts f).ramp = s.ramp := rfl
@[simp] theorem State.allTts_truss (s : State) (f : Nat → Timetable → Timetable) : (s.allTts f).truss = s.truss := rfl
@[simp] theorem State.allTts_quads (s : State) (f : Nat → Timetable → Timetable) : (s.allTts f).quads = s.quads := rfl
@[simp] theorem State.allTts_lanes (s : State) (f : Nat → Timetable → Timetable) : (s.allTts f).lanes = s.lanes := rfl
@[simp] theorem State.allTts_mgmt (s : State) (f : Nat → Timetable → Timetable) : (s.allTts f).mgmt = s.mgmt := rfl
@[simp] theorem State.allTts_tiu (s : State) (f : Nat → Timetable → Timetable) : (s.allTts f).tiu = s.tiu := rfl
@[simp] theorem State.allTts_plumb (s : State) (f : Nat → Timetable → Timetable) : (s.allTts f).plumb = s.plumb := rfl
@[simp] theorem State.allTts_sec (s : State) (f : Nat → Timetable → Timetable) : (s.allTts f).sec = s.sec := rfl
@[simp] theorem State.allTts_card (s : State) (f : Nat → Timetable → Timetable) : (s.allTts f).card = s.card := rfl
@[simp] theorem State.allTts_recess (s : State) (f : Nat → Timetable → Timetable) : (s.allTts f).recess = s.recess := rfl
@[simp] theorem State.allTts_out (s : State) (f : Nat → Timetable → Timetable) : (s.allTts f).out = s.out := rfl
@[simp] theorem State.allTts_draws (s : State) (f : Nat → Timetable → Timetable) : (s.allTts f).draws = s.draws := rfl
@[simp] theorem State.allTts_serial (s : State) (f : Nat → Timetable → Timetable) : (s.allTts f).serial = s.serial := rfl
@[simp] theorem State.allTts_pending (s : State) (f : Nat → Timetable → Timetable) : (s.allTts f).pending = s.pending := rfl
@[simp] theorem State.allTts_chan (s : State) (f : Nat → Timetable → Timetable) (n : Nat) : (s.allTts f).chan n = s.chan n := rfl
@[simp] theorem State.allTts_joiner (s : State) (f : Nat → Timetable → Timetable) (n : Nat) : (s.allTts f).joiner n = s.joiner n := rfl
@[simp] theorem State.allTts_bay (s : State) (f : Nat → Timetable → Timetable) (n : Nat) : (s.allTts f).bay n = s.bay n := rfl
@[simp] theorem State.allTts_core (s : State) (f : Nat → Timetable → Timetable) (n : Nat) : (s.allTts f).core n = s.core n := rfl
@[simp] theorem State.allTts_output (s : State) (f : Nat → Timetable → Timetable) (n : Nat) : (s.allTts f).output n = s.output n := rfl
@[simp] theorem State.allTts_quad (s : State) (f : Nat → Timetable → Timetable) (n : Nat) : (s.allTts f).quad n = s.quad n := rfl
@[simp] theorem State.allTts_lane (s : State) (f : Nat → Timetable → Timetable) (n : Nat) : (s.allTts f).lane n = s.lane n := rfl
@[simp] theorem State.allTts_slot (s : State) (f : Nat → Timetable → Timetable) (n : Nat) : (s.allTts f).slot n = s.slot n := rfl

/-! ### setJoiner -/

@[simp] theorem State.setJoiner_now (s : State) (i : Nat) (v : Joiner) : (s.setJoiner i v).now = s.now := rfl
@[simp] theorem State.setJoiner_time (s : State) (i : Nat) (v : Joiner) : (s.setJoiner i v).time = s.time := rfl
@[simp] theorem State.setJoiner_eclk (s : State) (i : Nat) (v : Joiner) : (s.setJoiner i v).eclk = s.eclk := rfl
@[simp] theorem State.setJoiner_sys (s : State) (i : Nat) (v : Joiner) : (s.setJoiner i v).sys = s.sys := rfl
@[simp] theorem State.setJoiner_oda (s : State) (i : Nat) (v : Joiner) : (s.setJoiner i v).oda = s.oda := rfl
@[simp] theorem State.setJoiner_cfg (s : State) (i : Nat) (v : Joiner) : (s.setJoiner i v).cfg = s.cfg := rfl
@[simp] theorem State.setJoiner_mem (s : State) (i : Nat) (v : Joiner) : (s.setJoiner i v).mem = s.mem := rfl
@[simp] theorem State.setJoiner_net (s : State) (i : Nat) (v : Joiner) : (s.setJoiner i v).net = s.net := rfl
@[simp] theorem State.setJoiner_tts (s : State) (i : Nat) (v : Joiner) : (s.setJoiner i v).tts = s.tts := rfl
@[simp] theorem State.setJoiner_stops (s : State) (i : Nat) (v : Joiner) : (s.setJoiner i v).stops = s.stops := rfl
@[simp] theorem State.setJoiner_woken (s : State) (i : Nat) (v : Joiner) : (s.setJoiner i v).woken = s.woken := rfl
@[simp] theorem State.setJoiner_evr (s : State) (i : Nat) (v : Joiner) : (s.setJoiner i v).evr = s.evr := rfl
@[simp] theorem State.setJoiner_chans (s : State) (i : Nat) (v : Joiner) : (s.setJoiner i v).chans = s.chans := rfl
@[simp] theorem State.setJoiner_bays (s : State) (i : Nat) (v : Joiner) : (s.setJoiner i v).bays = s.bays := rfl
@[simp] theorem State.setJoiner_cores (s : State) (i : Nat) (v : Joiner) : (s.setJoiner i v).cores = s.cores := rfl
@[simp] theorem State.setJoiner_ref (s : State) (i : Nat) (v : Joiner) : (s.setJoiner i v).ref = s.ref := rfl
@[simp] theorem State.setJoiner_synM (s : State) (i : Nat) (v : Joiner) : (s.setJoiner i v).synM = s.synM := rfl
@[simp] theorem State.setJoiner_synA (s : State) (i : Nat) (v : Joiner) : (s.setJoiner i v).synA = s.synA := rfl
@[simp] theorem State.setJoiner_outs (s : State) (i : Nat) (v : Joiner) : (s.setJoiner i v).outs = s.outs := rfl
@[simp] theorem State.setJoiner_ramp (s : State) (i : Nat) (v : Joiner) : (s.setJoiner i v).ramp = s.ramp := rfl
@[simp] theorem State.setJoiner_truss (s : State) (i : Nat) (v : Joiner) : (s.setJoiner i v).truss = s.truss := rfl
@[simp] theorem State.setJoiner_quads (s : State) (i : Nat) (v : Joiner) : (s.setJoiner i v).quads = s.quads := rfl
@[simp] theorem State.setJoiner_lanes (s : State) (i : Nat) (v : Joiner) : (s.setJoiner i v).lanes = s.lanes := rfl
@[simp] theorem State.setJoiner_mgmt (s : State) (i : Nat) (v : Joiner) : (s.setJoiner i v).mgmt = s.mgmt := rfl
@[simp] theorem State.setJoiner_tiu (s : State) (i : Nat) (v : Joiner) : (s.setJoiner i v).tiu = s.tiu := rfl
@[simp] theorem State.setJoiner_plumb (s : State) (i : Nat) (v : Joiner) : (s.setJoiner i v).plumb = s.plumb := rfl
@[simp] theorem State.setJoiner_sec (s : State) (i : Nat) (v : Joiner) : (s.setJoiner i v).sec = s.sec := rfl
@[simp] theorem State.setJoiner_card (s : State) (i : Nat) (v : Joiner) : (s.setJoiner i v).card = s.card := rfl
@[simp] theorem State.setJoiner_recess (s : State) (i : Nat) (v : Joiner) : (s.setJoiner i v).recess = s.recess := rfl
@[simp] theorem State.setJoiner_out (s : State) (i : Nat) (v : Joiner) : (s.setJoiner i v).out = s.out := rfl
@[simp] theorem State.setJoiner_draws (s : State) (i : Nat) (v : Joiner) : (s.setJoiner i v).draws = s.draws := rfl
@[simp] theorem State.setJoiner_serial (s : State) (i : Nat) (v : Joiner) : (s.setJoiner i v).serial = s.serial := rfl
@[simp] theorem State.setJoiner_pending (s : State) (i : Nat) (v : Joiner) : (s.setJoiner i v).pending = s.pending := rfl
@[simp] theorem State.setJoiner_chan (s : State) (i : Nat) (v : Joiner) (n : Nat) : (s.setJoiner i v).chan n = s.chan n := rfl
@[simp] theorem State.setJoiner_tt (s : State) (i : Nat) (v : Joiner) (n : Nat) : (s.setJoiner i v).tt n = s.tt n := rfl
@[simp] theorem State.setJoiner_bay (s : State) (i : Nat) (v : Joiner) (n : Nat) : (s.setJoiner i v).bay n = s.bay n := rfl
@[simp] theorem State.setJoiner_core (s : State) (i : Nat) (v : Joiner) (n : Nat) : (s.setJoiner i v).core n = s.core n := rfl
@[simp] theorem State.setJoiner_output (s : State) (i : Nat) (v : Joiner) (n : Nat) : (s.setJoiner i v).output n = s.output n := rfl
@[simp] theorem State.setJoiner_quad (s : State) (i : Nat) (v : Joiner) (n : Nat) : (s.setJoiner i v).quad n = s.quad n := rfl
@[simp] theorem State.setJoiner_lane (s : State) (i : Nat) (v : Joiner) (n : Nat) : (s.setJoiner i v).lane n = s.lane n := rfl
@[simp] theorem State.setJoiner_slot (s : State) (i : Nat) (v : Joiner) (n : Nat) : (s.setJoiner i v).slot n = s.slot n := rfl

/-! ### setBay -/

@[simp] theorem State.setBay_now (s : State) (i : Nat) (v : Bay) : (s.setBay i v).now = s.now := rfl
@[simp] theorem State.setBay_time (s : State) (i : Nat) (v : Bay) : (s.setBay i v).time = s.time := rfl
@[simp] theorem State.setBay_eclk (s : State) (i : Nat) (v : Bay) : (s.setBay i v).eclk = s.eclk := rfl
@[simp] theorem State.setBay_sys (s : State) (i : Nat) (v : Bay) : (s.setBay i v).sys = s.sys := rfl
@[simp] theorem State.setBay_oda (s : State) (i : Nat) (v : Bay) : (s.setBay i v).oda = s.oda := rfl
@[simp] theorem State.setBay_cfg (s : State) (i : Nat) (v : Bay) : (s.setBay i v).cfg = s.cfg := rfl
@[simp] theorem State.setBay_mem (s : State) (i : Nat) (v : Bay) : (s.setBay i v).mem = s.mem := rfl
@[simp] theorem State.setBay_net (s : State) (i : Nat) (v : Bay) : (s.setBay i v).net = s.net := rfl
@[simp] theorem State.setBay_joiners (s : State) (i : Nat) (v : Bay) : (s.setBay i v).joiners = s.joiners := rfl
@[simp] theorem State.setBay_tts (s : State) (i : Nat) (v : Bay) : (s.setBay i v).tts = s.tts := rfl
@[simp] theorem State.setBay_stops (s : State) (i : Nat) (v : Bay) : (s.setBay i v).stops = s.stops := rfl
@[simp] theorem State.setBay_woken (s : State) (i : Nat) (v : Bay) : (s.setBay i v).woken = s.woken := rfl
@[simp] theorem State.setBay_evr (s : State) (i : Nat) (v : Bay) : (s.setBay i v).evr = s.evr := rfl
@[simp] theorem State.setBay_chans (s : State) (i : Nat) (v : Bay) : (s.setBay i v).chans = s.chans := rfl
@[simp] theorem State.setBay_cores (s : State) (i : Nat) (v : Bay) : (s.setBay i v).cores = s.cores := rfl
@[simp] theorem State.setBay_ref (s : State) (i : Nat) (v : Bay) : (s.setBay i v).ref = s.ref := rfl
@[simp] theorem State.setBay_synM (s : State) (i : Nat) (v : Bay) : (s.setBay i v).synM = s.synM := rfl
@[simp] theorem State.setBay_synA (s : State) (i : Nat) (v : Bay) : (s.setBay i v).synA = s.synA := rfl
@[simp] theorem State.setBay_outs (s : State) (i : Nat) (v : Bay) : (s.setBay i v).outs = s.outs := rfl
@[simp] theorem State.setBay_ramp (s : State) (i : Nat) (v : Bay) : (s.setBay i v).ramp = s.ramp := rfl
@[simp] theorem State.setBay_truss (s : State) (i : Nat) (v : Bay) : (s.setBay i v).truss = s.truss := rfl
@[simp] theorem State.setBay_quads (s : State) (i : Nat) (v : Bay) : (s.setBay i v).quads = s.quads := rfl
@[simp] theorem State.setBay_lanes (s : State) (i : Nat) (v : Bay) : (s.setBay i v).lanes = s.lanes := rfl
@[simp] theorem State.setBay_mgmt (s : State) (i : Nat) (v : Bay) : (s.setBay i v).mgmt = s.mgmt := rfl
@[simp] theorem State.setBay_tiu (s : State) (i : Nat) (v : Bay) : (s.setBay i v).tiu = s.tiu := rfl
@[simp] theorem State.setBay_plumb (s : State) (i : Nat) (v : Bay) : (s.setBay i v).plumb = s.plumb := rfl
@[simp] theorem State.setBay_sec (s : State) (i : Nat) (v : Bay) : (s.setBay i v).sec = s.sec := rfl
@[simp] theorem State.setBay_card (s : State) (i : Nat) (v : Bay) : (s.setBay i v).card = s.card := rfl
@[simp] theorem State.setBay_recess (s : State) (i : Nat) (v : Bay) : (s.setBay i v).recess = s.recess := rfl
@[simp] theorem State.setBay_out (s : State) (i : Nat) (v : Bay) : (s.setBay i v).out = s.out := rfl
@[simp] theorem State.setBay_draws (s : State) (i : Nat) (v : Bay) : (s.setBay i v).draws = s.draws := rfl
@[simp] theorem State.setBay_serial (s : State) (i : Nat) (v : Bay) : (s.setBay i v).serial = s.serial := rfl
@[simp] theorem State.setBay_pending (s : State) (i : Nat) (v : Bay) : (s.setBay i v).pending = s.pending := rfl
@[simp] theorem State.setBay_chan (s : State) (i : Nat) (v : Bay) (n : Nat) : (s.setBay i v).chan n = s.chan n := rfl
@[simp] theorem State.setBay_tt (s : State) (i : Nat) (v : Bay) (n : Nat) : (s.setBay i v).tt n = s.tt n := rfl
@[simp] theorem State.setBay_joiner (s : State) (i : Nat) (v : Bay) (n : Nat) : (s.setBay i v).joiner n = s.joiner n := rfl
@[simp] theorem State.setBay_core (s : State) (i : Nat) (v : Bay) (n : Nat) : (s.setBay i v).core n = s.core n := rfl
@[simp] theorem State.setBay_output (s : State) (i : Nat) (v : Bay) (n : Nat) : (s.setBay i v).output n = s.output n := rfl
@[simp] theorem State.setBay_quad (s : State) (i : Nat) (v : Bay) (n : Nat) : (s.setBay i v).quad n = s.quad n := rfl
@[simp] theorem State.setBay_lane (s : State) (i : Nat) (v : Bay) (n : Nat) : (s.setBay i v).lane n = s.lane n := rfl
@[simp] theorem State.setBay_slot (s : State) (i : Nat) (v : Bay) (n : Nat) : (s.setBay i v).slot n = s.slot n := rfl

/-! ### setCore -/

@[simp] theorem State.setCore_now (s : State) (i : Nat) (v : Core) : (s.setCore i v).now = s.now := rfl
@[simp] theorem State.setCore_time (s : State) (i : Nat) (v : Core) : (s.setCore i v).time = s.time := rfl
@[simp] theorem State.setCore_eclk (s : State) (i : Nat) (v : Core) : (s.setCore i v).eclk = s.eclk := rfl
@[simp] theorem State.setCore_sys (s : State) (i : Nat) (v : Core) : (s.setCore i v).sys = s.sys := rfl
@[simp] theorem State.setCore_oda (s : State) (i : Nat) (v : Core) : (s.setCore i v).oda = s.oda := rfl
@[simp] theorem State.setCore_cfg (s : State) (i : Nat) (v : Core) : (s.setCore i v).cfg = s.cfg := rfl
@[simp] theorem State.setCore_mem (s : State) (i : Nat) (v : Core) : (s.setCore i v).mem = s.mem := rfl
@[simp] theorem State.setCore_net (s : State) (i : Nat) (v : Core) : (s.setCore i v).net = s.net := rfl
@[simp] theorem State.setCore_joiners (s : State) (i : Nat) (v : Core) : (s.setCore i v).joiners = s.joiners := rfl
@[simp] theorem State.setCore_tts (s : State) (i : Nat) (v : Core) : (s.setCore i v).tts = s.tts := rfl
@[simp] theorem State.setCore_stops (s : State) (i : Nat) (v : Core) : (s.setCore i v).stops = s.stops := rfl
@[simp] theorem State.setCore_woken (s : State) (i : Nat) (v : Core) : (s.setCore i v).woken = s.woken := rfl
@[simp] theorem State.setCore_evr (s : State) (i : Nat) (v : Core) : (s.setCore i v).evr = s.evr := rfl
@[simp] theorem State.setCore_chans (s : State) (i : Nat) (v : Core) : (s.setCore i v).chans = s.chans := rfl
@[simp] theorem State.setCore_bays (s : State) (i : Nat) (v : Core) : (s.setCore i v).bays = s.bays := rfl
@[simp] theorem State.setCore_ref (s : State) (i : Nat) (v : Core) : (s.setCore i v).ref = s.ref := rfl
@[simp] theorem State.setCore_synM (s : State) (i : Nat) (v : Core) : (s.setCore i v).synM = s.synM := rfl
@[simp] theorem State.setCore_synA (s : State) (i : Nat) (v : Core) : (s.setCore i v).synA = s.synA := rfl
@[simp] theorem State.setCore_outs (s : State) (i : Nat) (v : Core) : (s.setCore i v).outs = s.outs := rfl
@[simp] theorem State.setCore_ramp (s : State) (i : Nat) (v : Core) : (s.setCore i v).ramp = s.ramp := rfl
@[simp] theorem State.setCore_truss (s : State) (i : Nat) (v : Core) : (s.setCore i v).truss = s.truss := rfl
@[simp] theorem State.setCore_quads (s : State) (i : Nat) (v : Core) : (s.setCore i v).quads = s.quads := rfl
@[simp] theorem State.setCore_lanes (s : State) (i : Nat) (v : Core) : (s.setCore i v).lanes = s.lanes := rfl
@[simp] theorem State.setCore_mgmt (s : State) (i : Nat) (v : Core) : (s.setCore i v).mgmt = s.mgmt := rfl
@[simp] theorem State.setCore_tiu (s : State) (i : Nat) (v : Core) : (s.setCore i v).tiu = s.tiu := rfl
@[simp] theorem State.setCore_plumb (s : State) (i : Nat) (v : Core) : (s.setCore i v).plumb = s.plumb := rfl
@[simp] theorem State.setCore_sec (s : State) (i : Nat) (v : Core) : (s.setCore i v).sec = s.sec := rfl
@[simp] theorem State.setCore_card (s : State) (i : Nat) (v : Core) : (s.setCore i v).card = s.card := rfl
@[simp] theorem State.setCore_recess (s : State) (i : Nat) (v : Core) : (s.setCore i v).recess = s.recess := rfl
@[simp] theorem State.setCore_out (s : State) (i : Nat) (v : Core) : (s.setCore i v).out = s.out := rfl
@[simp] theorem State.setCore_draws (s : State) (i : Nat) (v : Core) : (s.setCore i v).draws = s.draws := rfl
@[simp] theorem State.setCore_serial (s : State) (i : Nat) (v : Core) : (s.setCore i v).serial = s.serial := rfl
@[simp] theorem State.setCore_pending (s : State) (i : Nat) (v : Core) : (s.setCore i v).pending = s.pending := rfl
@[simp] theorem State.setCore_chan (s : State) (i : Nat) (v : Core) (n : Nat) : (s.setCore i v).chan n = s.chan n := rfl
@[simp] theorem State.setCore_tt (s : State) (i : Nat) (v : Core) (n : Nat) : (s.setCore i v).tt n = s.tt n := rfl
@[simp] theorem State.setCore_joiner (s : State) (i : Nat) (v : Core) (n : Nat) : (s.setCore i v).joiner n = s.joiner n := rfl
@[simp] theorem State.setCore_bay (s : State) (i : Nat) (v : Core) (n : Nat) : (s.setCore i v).bay n = s.bay n := rfl
@[simp] theorem State.setCore_output (s : State) (i : Nat) (v : Core) (n : Nat) : (s.setCore i v).output n = s.output n := rfl
@[simp] theorem State.setCore_quad (s : State) (i : Nat) (v : Core) (n : Nat) : (s.setCore i v).quad n = s.quad n := rfl
@[simp] theorem State.setCore_lane (s : State) (i : Nat) (v : Core) (n : Nat) : (s.setCore i v).lane n = s.lane n := rfl
@[simp] theorem State.setCore_slot (s : State) (i : Nat) (v : Core) (n : Nat) : (s.setCore i v).slot n = s.slot n := rfl

/-! ### setOutput -/

@[simp] theorem State.setOutput_now (s : State) (i : Nat) (v : Output) : (s.setOutput i v).now = s.now := rfl
@[simp] theorem State.setOutput_time (s : State) (i : Nat) (v : Output) : (s.setOutput i v).time = s.time := rfl
@[simp] theorem State.setOutput_eclk (s : State) (i : Nat) (v : Output) : (s.setOutput i v).eclk = s.eclk := rfl
@[simp] theorem State.setOutput_sys (s : State) (i : Nat) (v : Output) : (s.setOutput i v).sys = s.sys := rfl
@[simp] theorem State.setOutput_oda (s : State) (i : Nat) (v : Output) : (s.setOutput i v).oda = s.oda := rfl
@[simp] theorem State.setOutput_cfg (s : State) (i : Nat) (v : Output) : (s.setOutput i v).cfg = s.cfg := rfl
@[simp] theorem State.setOutput_mem (s : State) (i : Nat) (v : Output) : (s.setOutput i v).mem = s.mem := rfl
@[simp] theorem State.setOutput_net (s : State) (i : Nat) (v : Output) : (s.setOutput i v).net = s.net := rfl
@[simp] theorem State.setOutput_joiners (s : State) (i : Nat) (v : Output) : (s.setOutput i v).joiners = s.joiners := rfl
@[simp] theorem State.setOutput_tts (s : State) (i : Nat) (v : Output) : (s.setOutput i v).tts = s.tts := rfl
@[simp] theorem State.setOutput_stops (s : State) (i : Nat) (v : Output) : (s.setOutput i v).stops = s.stops := rfl
@[simp] theorem State.setOutput_woken (s : State) (i : Nat) (v : Output) : (s.setOutput i v).woken = s.woken := rfl
@[simp] theorem State.setOutput_evr (s : State) (i : Nat) (v : Output) : (s.setOutput i v).evr = s.evr := rfl
@[simp] theorem State.setOutput_chans (s : State) (i : Nat) (v : Output) : (s.setOutput i v).chans = s.chans := rfl
@[simp] theorem State.setOutput_bays (s : State) (i : Nat) (v : Output) : (s.setOutput i v).bays = s.bays := rfl
@[simp] theorem State.setOutput_cores (s : State) (i : Nat) (v : Output) : (s.setOutput i v).cores = s.cores := rfl
@[simp] theorem State.setOutput_ref (s : State) (i : Nat) (v : Output) : (s.setOutput i v).ref = s.ref := rfl
@[simp] theorem State.setOutput_synM (s : State) (i : Nat) (v : Output) : (s.setOutput i v).synM = s.synM := rfl
@[simp] theorem State.setOutput_synA (s : State) (i : Nat) (v : Output) : (s.setOutput i v).synA = s.synA := rfl
@[simp] theorem State.setOutput_ramp (s : State) (i : Nat) (v : Output) : (s.setOutput i v).ramp = s.ramp := rfl
@[simp] theorem State.setOutput_truss (s : State) (i : Nat) (v : Output) : (s.setOutput i v).truss = s.truss := rfl
@[simp] theorem State.setOutput_quads (s : State) (i : Nat) (v : Output) : (s.setOutput i v).quads = s.quads := rfl
@[simp] theorem State.setOutput_lanes (s : State) (i : Nat) (v : Output) : (s.setOutput i v).lanes = s.lanes := rfl
@[simp] theorem State.setOutput_mgmt (s : State) (i : Nat) (v : Output) : (s.setOutput i v).mgmt = s.mgmt := rfl
@[simp] theorem State.setOutput_tiu (s : State) (i : Nat) (v : Output) : (s.setOutput i v).tiu = s.tiu := rfl
@[simp] theorem State.setOutput_plumb (s : State) (i : Nat) (v : Output) : (s.setOutput i v).plumb = s.plumb := rfl
@[simp] theorem State.setOutput_sec (s : State) (i : Nat) (v : Output) : (s.setOutput i v).sec = s.sec := rfl
@[simp] theorem State.setOutput_card (s : State) (i : Nat) (v : Output) : (s.setOutput i v).card = s.card := rfl
@[simp] theorem State.setOutput_recess (s : State) (i : Nat) (v : Output) : (s.setOutput i v).recess = s.recess := rfl
@[simp] theorem State.setOutput_out (s : State) (i : Nat) (v : Output) : (s.setOutput i v).out = s.out := rfl
@[simp] theorem State.setOutput_draws (s : State) (i : Nat) (v : Output) : (s.setOutput i v).draws = s.draws := rfl
@[simp] theorem State.setOutput_serial (s : State) (i : Nat) (v : Output) : (s.setOutput i v).serial = s.serial := rfl
@[simp] theorem State.setOutput_pending (s : State) (i : Nat) (v : Output) : (s.setOutput i v).pending = s.pending := rfl
@[simp] theorem State.setOutput_chan (s : State) (i : Nat) (v : Output) (n : Nat) : (s.setOutput i v).chan n = s.chan n := rfl
@[simp] theorem State.setOutput_tt (s : State) (i : Nat) (v : Output) (n : Nat) : (s.setOutput i v).tt n = s.tt n := rfl
@[simp] theorem State.setOutput_joiner (s : State) (i : Nat) (v : Output) (n : Nat) : (s.setOutput i v).joiner n = s.joiner n := rfl
@[simp] theorem State.setOutput_bay (s : State) (i : Nat) (v : Output) (n : Nat) : (s.setOutput i v).bay n = s.bay n := rfl
@[simp] theorem State.setOutput_core (s : State) (i : Nat) (v : Output) (n : Nat) : (s.setOutput i v).core n = s.core n := rfl
@[simp] theorem State.setOutput_quad (s : State) (i : Nat) (v : Output) (n : Nat) : (s.setOutput i v).quad n = s.quad n := rfl
@[simp] theorem State.setOutput_lane (s : State) (i : Nat) (v : Output) (n : Nat) : (s.setOutput i v).lane n = s.lane n := rfl
@[simp] theorem State.setOutput_slot (s : State) (i : Nat) (v : Output) (n : Nat) : (s.setOutput i v).slot n = s.slot n := rfl

/-! ### setQuad -/

@[simp] theorem State.setQuad_now (s : State) (i : Nat) (v : Quad) : (s.setQuad i v).now = s.now := rfl
@[simp] theorem State.setQuad_time (s : State) (i : Nat) (v : Quad) : (s.setQuad i v).time = s.time := rfl
@[simp] theorem State.setQuad_eclk (s : State) (i : Nat) (v : Quad) : (s.setQuad i v).eclk = s.eclk := rfl
@[simp] theorem State.setQuad_sys (s : State) (i : Nat) (v : Quad) : (s.setQuad i v).sys = s.sys := rfl
@[simp] theorem State.setQuad_oda (s : State) (i : Nat) (v : Quad) : (s.setQuad i v).oda = s.oda := rfl
@[simp] theorem State.setQuad_cfg (s : State) (i : Nat) (v : Quad) : (s.setQuad i v).cfg = s.cfg := rfl
@[simp] theorem State.setQuad_mem (s : State) (i : Nat) (v : Quad) : (s.setQuad i v).mem = s.mem := rfl
@[simp] theorem State.setQuad_net (s : State) (i : Nat) (v : Quad) : (s.setQuad i v).net = s.net := rfl
@[simp] theorem State.setQuad_joiners (s : State) (i : Nat) (v : Quad) : (s.setQuad i v).joiners = s.joiners := rfl
@[simp] theorem State.setQuad_tts (s : State) (i : Nat) (v : Quad) : (s.setQuad i v).tts = s.tts := rfl
@[simp] theorem State.setQuad_stops (s : State) (i : Nat) (v : Quad) : (s.setQuad i v).stops = s.stops := rfl
@[simp] theorem State.setQuad_woken (s : State) (i : Nat) (v : Quad) : (s.setQuad i v).woken = s.woken := rfl
@[simp] theorem State.setQuad_evr (s : State) (i : Nat) (v : Quad) : (s.setQuad i v).evr = s.evr := rfl
@[simp] theorem State.setQuad_chans (s : State) (i : Nat) (v : Quad) : (s.setQuad i v).chans = s.chans := rfl
@[simp] theorem State.setQuad_bays (s : State) (i : Nat) (v : Quad) : (s.setQuad i v).bays = s.bays := rfl
@[simp] theorem State.setQuad_cores (s : State) (i : Nat) (v : Quad) : (s.setQuad i v).cores = s.cores := rfl
@[simp] theorem State.setQuad_ref (s : State) (i : Nat) (v : Quad) : (s.setQuad i v).ref = s.ref := rfl
@[simp] theorem State.setQuad_synM (s : State) (i : Nat) (v : Quad) : (s.setQuad i v).synM = s.synM := rfl
@[simp] theorem State.setQuad_synA (s : State) (i : Nat) (v : Quad) : (s.setQuad i v).synA = s.synA := rfl
@[simp] theorem State.setQuad_outs (s : State) (i : Nat) (v : Quad) : (s.setQuad i v).outs = s.outs := rfl
@[simp] theorem State.setQuad_ramp (s : State) (i : Nat) (v : Quad) : (s.setQuad i v).ramp = s.ramp := rfl
@[simp] theorem State.setQuad_truss (s : State) (i : Nat) (v : Quad) : (s.setQuad i v).truss = s.truss := rfl
@[simp] theorem State.setQuad_lanes (s : State) (i : Nat) (v : Quad) : (s.setQuad i v).lanes = s.lanes := rfl
@[simp] theorem State.setQuad_mgmt (s : State) (i : Nat) (v : Quad) : (s.setQuad i v).mgmt = s.mgmt := rfl
@[simp] theorem State.setQuad_tiu (s : State) (i : Nat) (v : Quad) : (s.setQuad i v).tiu = s.tiu := rfl
@[simp] theorem State.setQuad_plumb (s : State) (i : Nat) (v : Quad) : (s.setQuad i v).plumb = s.plumb := rfl
@[simp] theorem State.setQuad_sec (s : State) (i : Nat) (v : Quad) : (s.setQuad i v).sec = s.sec := rfl
@[simp] theorem State.setQuad_card (s : State) (i : Nat) (v : Quad) : (s.setQuad i v).card = s.card := rfl
@[simp] theorem State.setQuad_recess (s : State) (i : Nat) (v : Quad) : (s.setQuad i v).recess = s.recess := rfl
@[simp] theorem State.setQuad_out (s : State) (i : Nat) (v : Quad) : (s.setQuad i v).out = s.out := rfl
@[simp] theorem State.setQuad_draws (s : State) (i : Nat) (v : Quad) : (s.setQuad i v).draws = s.draws := rfl
@[simp] theorem State.setQuad_serial (s : State) (i : Nat) (v : Quad) : (s.setQuad i v).serial = s.serial := rfl
@[simp] theorem State.setQuad_pending (s : State) (i : Nat) (v : Quad) : (s.setQuad i v).pending = s.pending := rfl
@[simp] theorem State.setQuad_chan (s : State) (i : Nat) (v : Quad) (n : Nat) : (s.setQuad i v).chan n = s.chan n := rfl
@[simp] theorem State.setQuad_tt (s : State) (i : Nat) (v : Quad) (n : Nat) : (s.setQuad i v).tt n = s.tt n := rfl
@[simp] theorem State.setQuad_joiner (s : State) (i : Nat) (v : Quad) (n : Nat) : (s.setQuad i v).joiner n = s.joiner n := rfl
@[simp] theorem State.setQuad_bay (s : State) (i : Nat) (v : Quad) (n : Nat) : (s.setQuad i v).bay n = s.bay n := rfl
@[simp] theorem State.setQuad_core (s : State) (i : Nat) (v : Quad) (n : Nat) : (s.setQuad i v).core n = s.core n := rfl
@[simp] theorem State.setQuad_output (s : State) (i : Nat) (v : Quad) (n : Nat) : (s.setQuad i v).output n = s.output n := rfl
@[simp] theorem State.setQuad_lane (s : State) (i : Nat) (v : Quad) (n : Nat) : (s.setQuad i v).lane n = s.lane n := rfl
@[simp] theorem State.setQuad_slot (s : State) (i : Nat) (v : Quad) (n : Nat) : (s.setQuad i v).slot n = s.slot n := rfl

/-! ### setLane -/

@[simp] theorem State.setLane_now (s : State) (i : Nat) (v : Lane) : (s.setLane i v).now = s.now := rfl
@[simp] theorem State.setLane_time (s : State) (i : Nat) (v : Lane) : (s.setLane i v).time = s.time := rfl
@[simp] theorem State.setLane_eclk (s : State) (i : Nat) (v : Lane) : (s.setLane i v).eclk = s.eclk := rfl
@[simp] theorem State.setLane_sys (s : State) (i : Nat) (v : Lane) : (s.setLane i v).sys = s.sys := rfl
@[simp] theorem State.setLane_oda (s : State) (i : Nat) (v : Lane) : (s.setLane i v).oda = s.oda := rfl
@[simp] theorem State.setLane_cfg (s : State) (i : Nat) (v : Lane) : (s.setLane i v).cfg = s.cfg := rfl
@[simp] theorem State.setLane_mem (s : State) (i : Nat) (v : Lane) : (s.setLane i v).mem = s.mem := rfl
@[simp] theorem State.setLane_net (s : State) (i : Nat) (v : Lane) : (s.setLane i v).net = s.net := rfl
@[simp] theorem State.setLane_joiners (s : State) (i : Nat) (v : Lane) : (s.setLane i v).joiners = s.joiners := rfl
@[simp] theorem State.setLane_tts (s : State) (i : Nat) (v : Lane) : (s.setLane i v).tts = s.tts := rfl
@[simp] theorem State.setLane_stops (s : State) (i : Nat) (v : Lane) : (s.setLane i v).stops = s.stops := rfl
@[simp] theorem State.setLane_woken (s : State) (i : Nat) (v : Lane) : (s.setLane i v).woken = s.woken := rfl
@[simp] theorem State.setLane_evr (s : State) (i : Nat) (v : Lane) : (s.setLane i v).evr = s.evr := rfl
@[simp] theorem State.setLane_chans (s : State) (i : Nat) (v : Lane) : (s.setLane i v).chans = s.chans := rfl
@[simp] theorem State.setLane_bays (s : State) (i : Nat) (v : Lane) : (s.setLane i v).bays = s.bays := rfl
@[simp] theorem State.setLane_cores (s : State) (i : Nat) (v : Lane) : (s.setLane i v).cores = s.cores := rfl
@[simp] theorem State.setLane_ref (s : State) (i : Nat) (v : Lane) : (s.setLane i v).ref = s.ref := rfl
@[simp] theorem State.setLane_synM (s : State) (i : Nat) (v : Lane) : (s.setLane i v).synM = s.synM := rfl
@[simp] theorem State.setLane_synA (s : State) (i : Nat) (v : Lane) : (s.setLane i v).synA = s.synA := rfl
@[simp] theorem State.setLane_outs (s : State) (i : Nat) (v : Lane) : (s.setLane i v).outs = s.outs := rfl
@[simp] theorem State.setLane_ramp (s : State) (i : Nat) (v : Lane) : (s.setLane i v).ramp = s.ramp := rfl
@[simp] theorem State.setLane_truss (s : State) (i : Nat) (v : Lane) : (s.setLane i v).truss = s.truss := rfl
@[simp] theorem State.setLane_quads (s : State) (i : Nat) (v : Lane) : (s.setLane i v).quads = s.quads := rfl
@[simp] theorem State.setLane_mgmt (s : State) (i : Nat) (v : Lane) : (s.setLane i v).mgmt = s.mgmt := rfl
@[simp] theorem State.setLane_tiu (s : State) (i : Nat) (v : Lane) : (s.setLane i v).tiu = s.tiu := rfl
@[simp] theorem State.setLane_plumb (s : State) (i : Nat) (v : Lane) : (s.setLane i v).plumb = s.plumb := rfl
@[simp] theorem State.setLane_sec (s : State) (i : Nat) (v : Lane) : (s.setLane i v).sec = s.sec := rfl
@[simp] theorem State.setLane_card (s : State) (i : Nat) (v : Lane) : (s.setLane i v).card = s.card := rfl
@[simp] theorem State.setLane_recess (s : State) (i : Nat) (v : Lane) : (s.setLane i v).recess = s.recess := rfl
@[simp] theorem State.setLane_out (s : State) (i : Nat) (v : Lane) : (s.setLane i v).out = s.out := rfl
@[simp] theorem State.setLane_draws (s : State) (i : Nat) (v : Lane) : (s.setLane i v).draws = s.draws := rfl
@[simp] theorem State.setLane_serial (s : State) (i : Nat) (v : Lane) : (s.setLane i v).serial = s.serial := rfl
@[simp] theorem State.setLane_pending (s : State) (i : Nat) (v : Lane) : (s.setLane i v).pending = s.pending := rfl
@[simp] theorem State.setLane_chan (s : State) (i : Nat) (v : Lane) (n : Nat) : (s.setLane i v).chan n = s.chan n := rfl
@[simp] theorem State.setLane_tt (s : State) (i : Nat) (v : Lane) (n : Nat) : (s.setLane i v).tt n = s.tt n := rfl
@[simp] theorem State.setLane_joiner (s : State) (i : Nat) (v : Lane) (n : Nat) : (s.setLane i v).joiner n = s.joiner n := rfl
@[simp] theorem State.setLane_bay (s : State) (i : Nat) (v : Lane) (n : Nat) : (s.setLane i v).bay n = s.bay n := rfl
@[simp] theorem State.setLane_core (s : State) (i : Nat) (v : Lane) (n : Nat) : (s.setLane i v).core n = s.core n := rfl
@[simp] theorem State.setLane_output (s : State) (i : Nat) (v : Lane) (n : Nat) : (s.setLane i v).output n = s.output n := rfl
@[simp] theorem State.setLane_quad (s : State) (i : Nat) (v : Lane) (n : Nat) : (s.setLane i v).quad n = s.quad n := rfl
@[simp] theorem State.setLane_slot (s : State) (i : Nat) (v : Lane) (n : Nat) : (s.setLane i v).slot n = s.slot n := rfl

/-! ### setSlot -/

@[simp] theorem State.setSlot_now (s : State) (i : Nat) (v : TiuSlot) : (s.setSlot i v).now = s.now := rfl
@[simp] theorem State.setSlot_time (s : State) (i : Nat) (v : TiuSlot) : (s.setSlot i v).time = s.time := rfl
@[simp] theorem State.setSlot_eclk (s : State) (i : Nat) (v : TiuSlot) : (s.setSlot i v).eclk = s.eclk := rfl
@[simp] theorem State.setSlot_sys (s : State) (i : Nat) (v : TiuSlot) : (s.setSlot i v).sys = s.sys := rfl
@[simp] theorem State.setSlot_oda (s : State) (i : Nat) (v : TiuSlot) : (s.setSlot i v).oda = s.oda := rfl
@[simp] theorem State.setSlot_cfg (s : State) (i : Nat) (v : TiuSlot) : (s.setSlot i v).cfg = s.cfg := rfl
@[simp] theorem State.setSlot_mem (s : State) (i : Nat) (v : TiuSlot) : (s.setSlot i v).mem = s.mem := rfl
@[simp] theorem State.setSlot_net (s : State) (i : Nat) (v : TiuSlot) : (s.setSlot i v).net = s.net := rfl
@[simp] theorem State.setSlot_joiners (s : State) (i : Nat) (v : TiuSlot) : (s.setSlot i v).joiners = s.joiners := rfl
@[simp] theorem State.setSlot_tts (s : State) (i : Nat) (v : TiuSlot) : (s.setSlot i v).tts = s.tts := rfl
@[simp] theorem State.setSlot_stops (s : State) (i : Nat) (v : TiuSlot) : (s.setSlot i v).stops = s.stops := rfl
@[simp] theorem State.setSlot_woken (s : State) (i : Nat) (v : TiuSlot) : (s.setSlot i v).woken = s.woken := rfl
@[simp] theorem State.setSlot_evr (s : State) (i : Nat) (v : TiuSlot) : (s.setSlot i v).evr = s.evr := rfl
@[simp] theorem State.setSlot_chans (s : State) (i : Nat) (v : TiuSlot) : (s.setSlot i v).chans = s.chans := rfl
@[simp] theorem State.setSlot_bays (s : State) (i : Nat) (v : TiuSlot) : (s.setSlot i v).bays = s.bays := rfl
@[simp] theorem State.setSlot_cores (s : State) (i : Nat) (v : TiuSlot) : (s.setSlot i v).cores = s.cores := rfl
@[simp] theorem State.setSlot_ref (s : State) (i : Nat) (v : TiuSlot) : (s.setSlot i v).ref = s.ref := rfl
@[simp] theorem State.setSlot_synM (s : State) (i : Nat) (v : TiuSlot) : (s.setSlot i v).synM = s.synM := rfl
@[simp] theorem State.setSlot_synA (s : State) (i : Nat) (v : TiuSlot) : (s.setSlot i v).synA = s.synA := rfl
@[simp] theorem State.setSlot_outs (s : State) (i : Nat) (v : TiuSlot) : (s.setSlot i v).outs = s.outs := rfl
@[simp] theorem State.setSlot_ramp (s : State) (i : Nat) (v : TiuSlot) : (s.setSlot i v).ramp = s.ramp := rfl
@[simp] theorem State.setSlot_truss (s : State) (i : Nat) (v : TiuSlot) : (s.setSlot i v).truss = s.truss := rfl
@[simp] theorem State.setSlot_quads (s : State) (i : Nat) (v : TiuSlot) : (s.setSlot i v).quads = s.quads := rfl
@[simp] theorem State.setSlot_lanes (s : State) (i : Nat) (v : TiuSlot) : (s.setSlot i v).lanes = s.lanes := rfl
@[simp] theorem State.setSlot_mgmt (s : State) (i : Nat) (v : TiuSlot) : (s.setSlot i v).mgmt = s.mgmt := rfl
@[simp] theorem State.setSlot_plumb (s : State) (i : Nat) (v : TiuSlot) : (s.setSlot i v).plumb = s.plumb := rfl
@[simp] theorem State.setSlot_sec (s : State) (i : Nat) (v : TiuSlot) : (s.setSlot i v).sec = s.sec := rfl
@[simp] theorem State.setSlot_card (s : State) (i : Nat) (v : TiuSlot) : (s.setSlot i v).card = s.card := rfl
@[simp] theorem State.setSlot_recess (s : State) (i : Nat) (v : TiuSlot) : (s.setSlot i v).recess = s.recess := rfl
@[simp] theorem State.setSlot_out (s : State) (i : Nat) (v : TiuSlot) : (s.setSlot i v).out = s.out := rfl
@[simp] theorem State.setSlot_draws (s : State) (i : Nat) (v : TiuSlot) : (s.setSlot i v).draws = s.draws := rfl
@[simp] theorem State.setSlot_serial (s : State) (i : Nat) (v : TiuSlot) : (s.setSlot i v).serial = s.serial := rfl
@[simp] theorem State.setSlot_pending (s : State) (i : Nat) (v : TiuSlot) : (s.setSlot i v).pending = s.pending := rfl
@[simp] theorem State.setSlot_chan (s : State) (i : Nat) (v : TiuSlot) (n : Nat) : (s.setSlot i v).chan n = s.chan n := rfl
@[simp] theorem State.setSlot_tt (s : State) (i : Nat) (v : TiuSlot) (n : Nat) : (s.setSlot i v).tt n = s.tt n := rfl
@[simp] theorem State.setSlot_joiner (s : State) (i : Nat) (v : TiuSlot) (n : Nat) : (s.setSlot i v).joiner n = s.joiner n := rfl
@[simp] theorem State.setSlot_bay (s : State) (i : Nat) (v : TiuSlot) (n : Nat) : (s.setSlot i v).bay n = s.bay n := rfl
@[simp] theorem State.setSlot_core (s : State) (i : Nat) (v : TiuSlot) (n : Nat) : (s.setSlot i v).core n = s.core n := rfl
@[simp] theorem State.setSlot_output (s : State) (i : Nat) (v : TiuSlot) (n : Nat) : (s.setSlot i v).output n = s.output n := rfl
@[simp] theorem State.setSlot_quad (s : State) (i : Nat) (v : TiuSlot) (n : Nat) : (s.setSlot i v).quad n = s.quad n := rfl
@[simp] theorem State.setSlot_lane (s : State) (i : Nat) (v : TiuSlot) (n : Nat) : (s.setSlot i v).lane n = s.lane n := rfl

/-! ### setMem -/

@[simp] theorem State.setMem_now (s : State) (v : SegMem) : (s.setMem v).now = s.now := rfl
@[simp] theorem State.setMem_time (s : State) (v : SegMem) : (s.setMem v).time = s.time := rfl
@[simp] theorem State.setMem_eclk (s : State) (v : SegMem) : (s.setMem v).eclk = s.eclk := rfl
@[simp] theorem State.setMem_sys (s : State) (v : SegMem) : (s.setMem v).sys = s.sys := rfl
@[simp] theorem State.setMem_oda (s : State) (v : SegMem) : (s.setMem v).oda = s.oda := rfl
@[simp] theorem State.setMem_cfg (s : State) (v : SegMem) : (s.setMem v).cfg = s.cfg := rfl
@[simp] theorem State.setMem_net (s : State) (v : SegMem) : (s.setMem v).net = s.net := rfl
@[simp] theorem State.setMem_joiners (s : State) (v : SegMem) : (s.setMem v).joiners = s.joiners := rfl
@[simp] theorem State.setMem_tts (s : State) (v : SegMem) : (s.setMem v).tts = s.tts := rfl
@[simp] theorem State.setMem_stops (s : State) (v : SegMem) : (s.setMem v).stops = s.stops := rfl
@[simp] theorem State.setMem_woken (s : State) (v : SegMem) : (s.setMem v).woken = s.woken := rfl
@[simp] theorem State.setMem_evr (s : State) (v : SegMem) : (s.setMem v).evr = s.evr := rfl
@[simp] theorem State.setMem_chans (s : State) (v : SegMem) : (s.setMem v).chans = s.chans := rfl
@[simp] theorem State.setMem_bays (s : State) (v : SegMem) : (s.setMem v).bays = s.bays := rfl
@[simp] theorem State.setMem_cores (s : State) (v : SegMem) : (s.setMem v).cores = s.cores := rfl
@[simp] theorem State.setMem_ref (s : State) (v : SegMem) : (s.setMem v).ref = s.ref := rfl
@[simp] theorem State.setMem_synM (s : State) (v : SegMem) : (s.setMem v).synM = s.synM := rfl
@[simp] theorem State.setMem_synA (s : State) (v : SegMem) : (s.setMem v).synA = s.synA := rfl
@[simp] theorem State.setMem_outs (s : State) (v : SegMem) : (s.setMem v).outs = s.outs := rfl
@[simp] theorem State.setMem_ramp (s : State) (v : SegMem) : (s.setMem v).ramp = s.ramp := rfl
@[simp] theorem State.setMem_truss (s : State) (v : SegMem) : (s.setMem v).truss = s.truss := rfl
@[simp] theorem State.setMem_quads (s : State) (v : SegMem) : (s.setMem v).quads = s.quads := rfl
@[simp] theorem State.setMem_lanes (s : State) (v : SegMem) : (s.setMem v).lanes = s.lanes := rfl
@[simp] theorem State.setMem_mgmt (s : State) (v : SegMem) : (s.setMem v).mgmt = s.mgmt := rfl
@[simp] theorem State.setMem_tiu (s : State) (v : SegMem) : (s.setMem v).tiu = s.tiu := rfl
@[simp] theorem State.setMem_plumb (s : State) (v : SegMem) : (s.setMem v).plumb = s.plumb := rfl
@[simp] theorem State.setMem_sec (s : State) (v : SegMem) : (s.setMem v).sec = s.sec := rfl
@[simp] theorem State.setMem_card (s : State) (v : SegMem) : (s.setMem v).card = s.card := rfl
@[simp] theorem State.setMem_recess (s : State) (v : SegMem) : (s.setMem v).recess = s.recess := rfl
@[simp] theorem State.setMem_out (s : State) (v : SegMem) : (s.setMem v).out = s.out := rfl
@[simp] theorem State.setMem_draws (s : State) (v : SegMem) : (s.setMem v).draws = s.draws := rfl
@[simp] theorem State.setMem_serial (s : State) (v : SegMem) : (s.setMem v).serial = s.serial := rfl
@[simp] theorem State.setMem_pending (s : State) (v : SegMem) : (s.setMem v).pending = s.pending := rfl
@[simp] theorem State.setMem_chan (s : State) (v : SegMem) (n : Nat) : (s.setMem v).chan n = s.chan n := rfl
@[simp] theorem State.setMem_tt (s : State) (v : SegMem) (n : Nat) : (s.setMem v).tt n = s.tt n := rfl
@[simp] theorem State.setMem_joiner (s : State) (v : SegMem) (n : Nat) : (s.setMem v).joiner n = s.joiner n := rfl
@[simp] theorem State.setMem_bay (s : State) (v : SegMem) (n : Nat) : (s.setMem v).bay n = s.bay n := rfl
@[simp] theorem State.setMem_core (s : State) (v : SegMem) (n : Nat) : (s.setMem v).core n = s.core n := rfl
@[simp] theorem State.setMem_output (s : State) (v : SegMem) (n : Nat) : (s.setMem v).output n = s.output n := rfl
@[simp] theorem State.setMem_quad (s : State) (v : SegMem) (n : Nat) : (s.setMem v).quad n = s.quad n := rfl
@[simp] theorem State.setMem_lane (s : State) (v : SegMem) (n : Nat) : (s.setMem v).lane n = s.lane n := rfl
@[simp] theorem State.setMem_slot (s : State) (v : SegMem) (n : Nat) : (s.setMem v).slot n = s.slot n := rfl

/-! ### send -/

@[simp] theorem State.send_now (s : State) (v : OutMsg) : (s.send v).now = s.now := rfl
@[simp] theorem State.send_time (s : State) (v : OutMsg) : (s.send v).time = s.time := rfl
@[simp] theorem State.send_eclk (s : State) (v : OutMsg) : (s.send v).eclk = s.eclk := rfl
@[simp] theorem State.send_sys (s : State) (v : OutMsg) : (s.send v).sys = s.sys := rfl
@[simp] theorem State.send_oda (s : State) (v : OutMsg) : (s.send v).oda = s.oda := rfl
@[simp] theorem State.send_cfg (s : State) (v : OutMsg) : (s.send v).cfg = s.cfg := rfl
@[simp] theorem State.send_mem (s : State) (v : OutMsg) : (s.send v).mem = s.mem := rfl
@[simp] theorem State.send_net (s : State) (v : OutMsg) : (s.send v).net = s.net := rfl
@[simp] theorem State.send_joiners (s : State) (v : OutMsg) : (s.send v).joiners = s.joiners := rfl
@[simp] theorem State.send_tts (s : State) (v : OutMsg) : (s.send v).tts = s.tts := rfl
@[simp] theorem State.send_stops (s : State) (v : OutMsg) : (s.send v).stops = s.stops := rfl
@[simp] theorem State.send_woken (s : State) (v : OutMsg) : (s.send v).woken = s.woken := rfl
@[simp] theorem State.send_evr (s : State) (v : OutMsg) : (s.send v).evr = s.evr := rfl
@[simp] theorem State.send_chans (s : State) (v : OutMsg) : (s.send v).chans = s.chans := rfl
@[simp] theorem State.send_bays (s : State) (v : OutMsg) : (s.send v).bays = s.bays := rfl
@[simp] theorem State.send_cores (s : State) (v : OutMsg) : (s.send v).cores = s.cores := rfl
@[simp] theorem State.send_ref (s : State) (v : OutMsg) : (s.send v).ref = s.ref := rfl
@[simp] theorem State.send_synM (s : State) (v : OutMsg) : (s.send v).synM = s.synM := rfl
@[simp] theorem State.send_synA (s : State) (v : OutMsg) : (s.send v).synA = s.synA := rfl
@[simp] theorem State.send_outs (s : State) (v : OutMsg) : (s.send v).outs = s.outs := rfl
@[simp] theorem State.send_ramp (s : State) (v : OutMsg) : (s.send v).ramp = s.ramp := rfl
@[simp] theorem State.send_truss (s : State) (v : OutMsg) : (s.send v).truss = s.truss := rfl
@[simp] theorem State.send_quads (s : State) (v : OutMsg) : (s.send v).quads = s.quads := rfl
@[simp] theorem State.send_lanes (s : State) (v : OutMsg) : (s.send v).lanes = s.lanes := rfl
@[simp] theorem State.send_mgmt (s : State) (v : OutMsg) : (s.send v).mgmt = s.mgmt := rfl
@[simp] theorem State.send_tiu (s : State) (v : OutMsg) : (s.send v).tiu = s.tiu := rfl
@[simp] theorem State.send_plumb (s : State) (v : OutMsg) : (s.send v).plumb = s.plumb := rfl
@[simp] theorem State.send_sec (s : State) (v : OutMsg) : (s.send v).sec = s.sec := rfl
@[simp] theorem State.send_card (s : State) (v : OutMsg) : (s.send v).card = s.card := rfl
@[simp] theorem State.send_recess (s : State) (v : OutMsg) : (s.send v).recess = s.recess := rfl
@[simp] theorem State.send_draws (s : State) (v : OutMsg) : (s.send v).draws = s.draws := rfl
@[simp] theorem State.send_serial (s : State) (v : OutMsg) : (s.send v).serial = s.serial := rfl
@[simp] theorem State.send_pending (s : State) (v : OutMsg) : (s.send v).pending = s.pending := rfl
@[simp] theorem State.send_chan (s : State) (v : OutMsg) (n : Nat) : (s.send v).chan n = s.chan n := rfl
@[simp] theorem State.send_tt (s : State) (v : OutMsg) (n : Nat) : (s.send v).tt n = s.tt n := rfl
@[simp] theorem State.send_joiner (s : State) (v : OutMsg) (n : Nat) : (s.send v).joiner n = s.joiner n := rfl
@[simp] theorem State.send_bay (s : State) (v : OutMsg) (n : Nat) : (s.send v).bay n = s.bay n := rfl
@[simp] theorem State.send_core (s : State) (v : OutMsg) (n : Nat) : (s.send v).core n = s.core n := rfl
@[simp] theorem State.send_output (s : State) (v : OutMsg) (n : Nat) : (s.send v).output n = s.output n := rfl
@[simp] theorem State.send_quad (s : State) (v : OutMsg) (n : Nat) : (s.send v).quad n = s.quad n := rfl
@[simp] theorem State.send_lane (s : State) (v : OutMsg) (n : Nat) : (s.send v).lane n = s.lane n := rfl
@[simp] theorem State.send_slot (s : State) (v : OutMsg) (n : Nat) : (s.send v).slot n = s.slot n := rfl

/-! ### addTraffic -/

@[simp] theorem State.addTraffic_now (s : State) (b : Nat) : (s.addTraffic b).now = s.now := rfl
@[simp] theorem State.addTraffic_time (s : State) (b : Nat) : (s.addTraffic b).time = s.time := rfl
@[simp] theorem State.addTraffic_eclk (s : State) (b : Nat) : (s.addTraffic b).eclk = s.eclk := rfl
@[simp] theorem State.addTraffic_sys (s : State) (b : Nat) : (s.addTraffic b).sys = s.sys := rfl
@[simp] theorem State.addTraffic_oda (s : State) (b : Nat) : (s.addTraffic b).oda = s.oda := rfl
@[simp] theorem State.addTraffic_cfg (s : State) (b : Nat) : (s.addTraffic b).cfg = s.cfg := rfl
@[simp] theorem State.addTraffic_mem (s : State) (b : Nat) : (s.addTraffic b).mem = s.mem := rfl
@[simp] theorem State.addTraffic_joiners (s : State) (b : Nat) : (s.addTraffic b).joiners = s.joiners := rfl
@[simp] theorem State.addTraffic_tts (s : State) (b : Nat) : (s.addTraffic b).tts = s.tts := rfl
@[simp] theorem State.addTraffic_stops (s : State) (b : Nat) : (s.addTraffic b).stops = s.stops := rfl
@[simp] theorem State.addTraffic_woken (s : State) (b : Nat) : (s.addTraffic b).woken = s.woken := rfl
@[simp] theorem State.addTraffic_evr (s : State) (b : Nat) : (s.addTraffic b).evr = s.evr := rfl
@[simp] theorem State.addTraffic_chans (s : State) (b : Nat) : (s.addTraffic b).chans = s.chans := rfl
@[simp] theorem State.addTraffic_bays (s : State) (b : Nat) : (s.addTraffic b).bays = s.bays := rfl
@[simp] theorem State.addTraffic_cores (s : State) (b : Nat) : (s.addTraffic b).cores = s.cores := rfl
@[simp] theorem State.addTraffic_ref (s : State) (b : Nat) : (s.addTraffic b).ref = s.ref := rfl
@[simp] theorem State.addTraffic_synM (s : State) (b : Nat) : (s.addTraffic b).synM = s.synM := rfl
@[simp] theorem State.addTraffic_synA (s : State) (b : Nat) : (s.addTraffic b).synA = s.synA := rfl
@[simp] theorem State.addTraffic_outs (s : State) (b : Nat) : (s.addTraffic b).outs = s.outs := rfl
@[simp] theorem State.addTraffic_ramp (s : State) (b : Nat) : (s.addTraffic b).ramp = s.ramp := rfl
@[simp] theorem State.addTraffic_truss (s : State) (b : Nat) : (s.addTraffic b).truss = s.truss := rfl
@[simp] theorem State.addTraffic_quads (s : State) (b : Nat) : (s.addTraffic b).quads = s.quads := rfl
@[simp] theorem State.addTraffic_lanes (s : State) (b : Nat) : (s.addTraffic b).lanes = s.lanes := rfl
@[simp] theorem State.addTraffic_mgmt (s : State) (b : Nat) : (s.addTraffic b).mgmt = s.mgmt := rfl
@[simp] theorem State.addTraffic_tiu (s : State) (b : Nat) : (s.addTraffic b).tiu = s.tiu := rfl
@[simp] theorem State.addTraffic_plumb (s : State) (b : Nat) : (s.addTraffic b).plumb = s.plumb := rfl
@[simp] theorem State.addTraffic_sec (s : State) (b : Nat) : (s.addTraffic b).sec = s.sec := rfl
@[simp] theorem State.addTraffic_card (s : State) (b : Nat) : (s.addTraffic b).card = s.card := rfl
@[simp] theorem State.addTraffic_recess (s : State) (b : Nat) : (s.addTraffic b).recess = s.recess := rfl
@[simp] theorem State.addTraffic_out (s : State) (b : Nat) : (s.addTraffic b).out = s.out := rfl
@[simp] theorem State.addTraffic_draws (s : State) (b : Nat) : (s.addTraffic b).draws = s.draws := rfl
@[simp] theorem State.addTraffic_serial (s : State) (b : Nat) : (s.addTraffic b).serial = s.serial := rfl
@[simp] theorem State.addTraffic_pending (s : State) (b : Nat) : (s.addTraffic b).pending = s.pending := rfl
@[simp] theorem State.addTraffic_chan (s : State) (b : Nat) (n : Nat) : (s.addTraffic b).chan n = s.chan n := rfl
@[simp] theorem State.addTraffic_tt (s : State) (b : Nat) (n : Nat) : (s.addTraffic b).tt n = s.tt n := rfl
@[simp] theorem State.addTraffic_joiner (s : State) (b : Nat) (n : Nat) : (s.addTraffic b).joiner n = s.joiner n := rfl
@[simp] theorem State.addTraffic_bay (s : State) (b : Nat) (n : Nat) : (s.addTraffic b).bay n = s.bay n := rfl
@[simp] theorem State.addTraffic_core (s : State) (b : Nat) (n : Nat) : (s.addTraffic b).core n = s.core n := rfl
@[simp] theorem State.addTraffic_output (s : State) (b : Nat) (n : Nat) : (s.addTraffic b).output n = s.output n := rfl
@[simp] theorem State.addTraffic_quad (s : State) (b : Nat) (n : Nat) : (s.addTraffic b).quad n = s.quad n := rfl
@[simp] theorem State.addTraffic_lane (s : State) (b : Nat) (n : Nat) : (s.addTraffic b).lane n = s.lane n := rfl
@[simp] theorem State.addTraffic_slot (s : State) (b : Nat) (n : Nat) : (s.addTraffic b).slot n = s.slot n := rfl

/-! ### alert -/

@[simp] theorem State.alert_now (s : State) (i : Nat) : (s.alert i).now = s.now := rfl
@[simp] theorem State.alert_time (s : State) (i : Nat) : (s.alert i).time = s.time := rfl
@[simp] theorem State.alert_eclk (s : State) (i : Nat) : (s.alert i).eclk = s.eclk := rfl
@[simp] theorem State.alert_oda (s : State) (i : Nat) : (s.alert i).oda = s.oda := rfl
@[simp] theorem State.alert_cfg (s : State) (i : Nat) : (s.alert i).cfg = s.cfg := rfl
@[simp] theorem State.alert_mem (s : State) (i : Nat) : (s.alert i).mem = s.mem := rfl
@[simp] theorem State.alert_net (s : State) (i : Nat) : (s.alert i).net = s.net := rfl
@[simp] theorem State.alert_joiners (s : State) (i : Nat) : (s.alert i).joiners = s.joiners := rfl
@[simp] theorem State.alert_tts (s : State) (i : Nat) : (s.alert i).tts = s.tts := rfl
@[simp] theorem State.alert_stops (s : State) (i : Nat) : (s.alert i).stops = s.stops := rfl
@[simp] theorem State.alert_woken (s : State) (i : Nat) : (s.alert i).woken = s.woken := rfl
@[simp] theorem State.alert_evr (s : State) (i : Nat) : (s.alert i).evr = s.evr := rfl
@[simp] theorem State.alert_chans (s : State) (i : Nat) : (s.alert i).chans = s.chans := rfl
@[simp] theorem State.alert_bays (s : State) (i : Nat) : (s.alert i).bays = s.bays := rfl
@[simp] theorem State.alert_cores (s : State) (i : Nat) : (s.alert i).cores = s.cores := rfl
@[simp] theorem State.alert_ref (s : State) (i : Nat) : (s.alert i).ref = s.ref := rfl
@[simp] theorem State.alert_synM (s : State) (i : Nat) : (s.alert i).synM = s.synM := rfl
@[simp] theorem State.alert_synA (s : State) (i : Nat) : (s.alert i).synA = s.synA := rfl
@[simp] theorem State.alert_outs (s : State) (i : Nat) : (s.alert i).outs = s.outs := rfl
@[simp] theorem State.alert_ramp (s : State) (i : Nat) : (s.alert i).ramp = s.ramp := rfl
@[simp] theorem State.alert_truss (s : State) (i : Nat) : (s.alert i).truss = s.truss := rfl
@[simp] theorem State.alert_quads (s : State) (i : Nat) : (s.alert i).quads = s.quads := rfl
@[simp] theorem State.alert_lanes (s : State) (i : Nat) : (s.alert i).lanes = s.lanes := rfl
@[simp] theorem State.alert_mgmt (s : State) (i : Nat) : (s.alert i).mgmt = s.mgmt := rfl
@[simp] theorem State.alert_tiu (s : State) (i : Nat) : (s.alert i).tiu = s.tiu := rfl
@[simp] theorem State.alert_plumb (s : State) (i : Nat) : (s.alert i).plumb = s.plumb := rfl
@[simp] theorem State.alert_sec (s : State) (i : Nat) : (s.alert i).sec = s.sec := rfl
@[simp] theorem State.alert_card (s : State) (i : Nat) : (s.alert i).card = s.card := rfl
@[simp] theorem State.alert_recess (s : State) (i : Nat) : (s.alert i).recess = s.recess := rfl
@[simp] theorem State.alert_out (s : State) (i : Nat) : (s.alert i).out = s.out := rfl
@[simp] theorem State.alert_draws (s : State) (i : Nat) : (s.alert i).draws = s.draws := rfl
@[simp] theorem State.alert_serial (s : State) (i : Nat) : (s.alert i).serial = s.serial := rfl
@[simp] theorem State.alert_pending (s : State) (i : Nat) : (s.alert i).pending = s.pending := rfl
@[simp] theorem State.alert_chan (s : State) (i : Nat) (n : Nat) : (s.alert i).chan n = s.chan n := rfl
@[simp] theorem State.alert_tt (s : State) (i : Nat) (n : Nat) : (s.alert i).tt n = s.tt n := rfl
@[simp] theorem State.alert_joiner (s : State) (i : Nat) (n : Nat) : (s.alert i).joiner n = s.joiner n := rfl
@[simp] theorem State.alert_bay (s : State) (i : Nat) (n : Nat) : (s.alert i).bay n = s.bay n := rfl
@[simp] theorem State.alert_core (s : State) (i : Nat) (n : Nat) : (s.alert i).core n = s.core n := rfl
@[simp] theorem State.alert_output (s : State) (i : Nat) (n : Nat) : (s.alert i).output n = s.output n := rfl
@[simp] theorem State.alert_quad (s : State) (i : Nat) (n : Nat) : (s.alert i).quad n = s.quad n := rfl
@[simp] theorem State.alert_lane (s : State) (i : Nat) (n : Nat) : (s.alert i).lane n = s.lane n := rfl
@[simp] theorem State.alert_slot (s : State) (i : Nat) (n : Nat) : (s.alert i).slot n = s.slot n := rfl

/-! ### What an update writes -/

@[simp] theorem State.setMem_mem (s : State) (v : SegMem) : (s.setMem v).mem = v := rfl
@[simp] theorem State.send_out (s : State) (v : OutMsg) : (s.send v).out = s.out ++ [v] := rfl
@[simp] theorem State.tick_draws (s : State) (t : Nat) : (s.tick t).draws = s.draws + 1 := rfl
@[simp] theorem State.tick_now (s : State) (t : Nat) : (s.tick t).now = max s.now t := rfl

/-! ### Changes by a function are updates with its result -/

@[simp] theorem State.modChan_eq (s : State) (i : Nat) (f : Channel → Channel) : s.modChan i f = s.setChan i (f (s.chan i)) := rfl
@[simp] theorem State.modTt_eq (s : State) (i : Nat) (f : Timetable → Timetable) : s.modTt i f = s.setTt i (f (s.tt i)) := rfl
@[simp] theorem State.modJoiner_eq (s : State) (i : Nat) (f : Joiner → Joiner) : s.modJoiner i f = s.setJoiner i (f (s.joiner i)) := rfl
@[simp] theorem State.modBay_eq (s : State) (i : Nat) (f : Bay → Bay) : s.modBay i f = s.setBay i (f (s.bay i)) := rfl
@[simp] theorem State.modCore_eq (s : State) (i : Nat) (f : Core → Core) : s.modCore i f = s.setCore i (f (s.core i)) := rfl
@[simp] theorem State.modOutput_eq (s : State) (i : Nat) (f : Output → Output) : s.modOutput i f = s.setOutput i (f (s.output i)) := rfl
@[simp] theorem State.modLane_eq (s : State) (i : Nat) (f : Lane → Lane) : s.modLane i f = s.setLane i (f (s.lane i)) := rfl
@[simp] theorem State.modSlot_eq (s : State) (i : Nat) (f : TiuSlot → TiuSlot) : s.modSlot i f = s.setSlot i (f (s.slot i)) := rfl
@[simp] theorem State.modMem_eq (s : State) (f : SegMem → SegMem) : s.modMem f = s.setMem (f s.mem) := rfl
@[simp] theorem State.modPage_eq (s : State) (i : Nat) (f : Page → Page) :
    s.modPage i f = s.setMem (s.mem.setPage i (f (s.mem.page i))) := rfl

end Sys2Proof.Machine
end

