-- ==== Sys2Proof/Laws/Tables.lean ====
section
/-! SUPPORT. What the shared table operations do: reading after writing, and that each keeps the canonical form. -/

namespace Sys2Proof.Machine

/-! ## Reading after writing -/

theorem sget_sput {α : Type} (d : Nat → α) (xs : Sparse α) (k i : Nat) (v : α) :
    sget d (sput xs k v) i = if k = i then v else sget d xs i := by
  induction xs with
  | nil => simp [sput, sget]
  | cons p r ih =>
    obtain ⟨j, w⟩ := p
    simp only [sput]
    split
    · simp [sget]
    · split
      · subst_vars; simp only [sget]; split <;> rfl
      · simp only [sget, ih]; split
        · rw [if_neg]; omega
        · rfl

theorem sget_sdrop {α : Type} (d : Nat → α) (xs : Sparse α) (k i : Nat) :
    sget d (sdrop xs k) i = if k = i then d i else sget d xs i := by
  induction xs with
  | nil => simp [sdrop, sget]
  | cons p r ih =>
    obtain ⟨j, w⟩ := p
    simp only [sdrop, List.filter_cons] at ih ⊢
    by_cases h : j = k
    · subst h; simp only [ne_eq, not_true_eq_false, decide_false, Bool.false_eq_true, if_false]
      rw [ih]; simp only [sget]; split <;> rfl
    · simp only [ne_eq, h, not_false_eq_true, decide_true, if_true, sget]
      rw [ih]; split
      · rw [if_neg]; omega
      · rfl

/-- A table read after a write of one entry. -/
theorem sget_sset {α : Type} [DecidableEq α] (d : Nat → α) (xs : Sparse α) (k i : Nat) (v : α) :
    sget d (sset d xs k v) i = if k = i then v else sget d xs i := by
  simp only [sset]
  split
  · rw [sget_sdrop]; split <;> simp_all
  · exact sget_sput d xs k i v

@[simp] theorem sget_sset_self {α : Type} [DecidableEq α] (d : Nat → α) (xs : Sparse α) (k : Nat) (v : α) :
    sget d (sset d xs k v) k = v := by simp [sget_sset]

/-- A table read after a change of its first `n` entries. -/
theorem sget_smap {α : Type} [DecidableEq α] (d : Nat → α) (f : Nat → α → α) (n : Nat) (xs : Sparse α) (i : Nat) :
    sget d (smap d f n xs) i = if i < n then f i (sget d xs i) else sget d xs i := by
  induction n with
  | zero => simp [smap]
  | succ n ih =>
    simp only [smap, sget_sset, ih]
    by_cases h : n = i
    · subst h; simp
    · by_cases h2 : i < n
      · simp [h, h2, Nat.lt_succ_of_lt h2]
      · rw [if_neg h, if_neg h2, if_neg]; omega

/-! ## The canonical form is kept -/

theorem swfFrom_mono {α : Type} [DecidableEq α] (d : Nat → α) (xs : Sparse α) :
    ∀ {a b : Nat}, a ≤ b → swfFrom d b xs = true → swfFrom d a xs = true := by
  cases xs with
  | nil => intros; rfl
  | cons p r =>
    obtain ⟨j, v⟩ := p
    simp only [swfFrom, Bool.and_eq_true, decide_eq_true_eq]
    exact fun h w => ⟨⟨Nat.le_trans h w.1.1, w.1.2⟩, w.2⟩

theorem swfFrom_sput {α : Type} [DecidableEq α] (d : Nat → α) (k : Nat) (v : α) (hv : v ≠ d k) (xs : Sparse α) :
    ∀ lo, lo ≤ k → swfFrom d lo xs = true → swfFrom d lo (sput xs k v) = true := by
  induction xs with
  | nil => intro lo h _; simp [sput, swfFrom, h, hv]
  | cons p r ih =>
    obtain ⟨j, w⟩ := p
    intro lo h hw
    simp only [swfFrom, Bool.and_eq_true, decide_eq_true_eq, Bool.not_eq_true', decide_eq_false_iff_not] at hw
    simp only [sput]
    split
    · simp [swfFrom, h, hv, hw.1.2, hw.2]; omega
    · split
      · subst_vars; simp [swfFrom, h, hv, hw.2]
      · simp only [swfFrom, Bool.and_eq_true, decide_eq_true_eq, Bool.not_eq_true', decide_eq_false_iff_not]
        exact ⟨hw.1, ih (j + 1) (by omega) hw.2⟩

theorem swfFrom_sdrop {α : Type} [DecidableEq α] (d : Nat → α) (k : Nat) (xs : Sparse α) :
    ∀ lo, swfFrom d lo xs = true → swfFrom d lo (sdrop xs k) = true := by
  induction xs with
  | nil => intro _ _; rfl
  | cons p r ih =>
    obtain ⟨j, w⟩ := p
    intro lo hw
    simp only [swfFrom, Bool.and_eq_true, decide_eq_true_eq, Bool.not_eq_true', decide_eq_false_iff_not] at hw
    have hr := ih (j + 1) hw.2
    simp only [sdrop, List.filter_cons] at hr ⊢
    split
    · simp only [swfFrom, Bool.and_eq_true, decide_eq_true_eq, Bool.not_eq_true', decide_eq_false_iff_not]
      exact ⟨hw.1, hr⟩
    · exact swfFrom_mono d _ (by omega) hr

/-- A write of one entry keeps a table canonical. -/
theorem swf_sset {α : Type} [DecidableEq α] (d : Nat → α) (xs : Sparse α) (k : Nat) (v : α) (h : swf d xs = true) :
    swf d (sset d xs k v) = true := by
  unfold swf sset at *
  split
  · exact swfFrom_sdrop d k xs 0 h
  · exact swfFrom_sput d k v ‹_› xs 0 (Nat.zero_le _) h

/-- A change of the first entries keeps a table canonical. -/
theorem swf_smap {α : Type} [DecidableEq α] (d : Nat → α) (f : Nat → α → α) (n : Nat) (xs : Sparse α)
    (h : swf d xs = true) : swf d (smap d f n xs) = true := by
  induction n with
  | zero => exact h
  | succ n ih => exact swf_sset d _ n _ ih

/-! ## Accessors after updates -/

theorem State.chan_setChan (s : State) (i n : Nat) (c : Channel) :
    (s.setChan i c).chan n = if i = n then c else s.chan n := sget_sset ..
theorem State.tt_setTt (s : State) (i n : Nat) (c : Timetable) :
    (s.setTt i c).tt n = if i = n then c else s.tt n := sget_sset ..
theorem State.joiner_setJoiner (s : State) (i n : Nat) (c : Joiner) :
    (s.setJoiner i c).joiner n = if i = n then c else s.joiner n := sget_sset ..
theorem State.bay_setBay (s : State) (i n : Nat) (c : Bay) :
    (s.setBay i c).bay n = if i = n then c else s.bay n := sget_sset ..
theorem State.core_setCore (s : State) (i n : Nat) (c : Core) :
    (s.setCore i c).core n = if i = n then c else s.core n := sget_sset ..
theorem State.output_setOutput (s : State) (i n : Nat) (c : Output) :
    (s.setOutput i c).output n = if i = n then c else s.output n := sget_sset ..
theorem State.quad_setQuad (s : State) (i n : Nat) (c : Quad) :
    (s.setQuad i c).quad n = if i = n then c else s.quad n := sget_sset ..
theorem State.lane_setLane (s : State) (i n : Nat) (c : Lane) :
    (s.setLane i c).lane n = if i = n then c else s.lane n := sget_sset ..
theorem State.slot_setSlot (s : State) (i n : Nat) (c : TiuSlot) :
    (s.setSlot i c).slot n = if i = n then c else s.slot n := sget_sset ..
theorem State.chan_allChans (s : State) (f : Nat → Channel → Channel) (n : Nat) :
    (s.allChans f).chan n = if n < 64 then f n (s.chan n) else s.chan n := sget_smap ..
theorem State.tt_allTts (s : State) (f : Nat → Timetable → Timetable) (n : Nat) :
    (s.allTts f).tt n = if n < 6144 then f n (s.tt n) else s.tt n := sget_smap ..

@[simp] theorem State.chan_setChan_self (s : State) (i : Nat) (c : Channel) : (s.setChan i c).chan i = c := by
  simp [State.chan_setChan]
@[simp] theorem State.tt_setTt_self (s : State) (i : Nat) (c : Timetable) : (s.setTt i c).tt i = c := by
  simp [State.tt_setTt]
@[simp] theorem State.joiner_setJoiner_self (s : State) (i : Nat) (c : Joiner) : (s.setJoiner i c).joiner i = c := by
  simp [State.joiner_setJoiner]
@[simp] theorem State.bay_setBay_self (s : State) (i : Nat) (c : Bay) : (s.setBay i c).bay i = c := by
  simp [State.bay_setBay]
@[simp] theorem State.core_setCore_self (s : State) (i : Nat) (c : Core) : (s.setCore i c).core i = c := by
  simp [State.core_setCore]
@[simp] theorem State.output_setOutput_self (s : State) (i : Nat) (c : Output) : (s.setOutput i c).output i = c := by
  simp [State.output_setOutput]
@[simp] theorem State.quad_setQuad_self (s : State) (i : Nat) (c : Quad) : (s.setQuad i c).quad i = c := by
  simp [State.quad_setQuad]
@[simp] theorem State.lane_setLane_self (s : State) (i : Nat) (c : Lane) : (s.setLane i c).lane i = c := by
  simp [State.lane_setLane]
@[simp] theorem State.slot_setSlot_self (s : State) (i : Nat) (c : TiuSlot) : (s.setSlot i c).slot i = c := by
  simp [State.slot_setSlot]

/-! ## Segment memory: the list of written bytes -/

theorem cellAt_cellPut (m : List Host.Cell) (a i : Nat) (v : Byte) :
    cellAt (cellPut m a v) i = if a = i then some v else cellAt m i := by
  induction m with
  | nil => simp only [cellPut, cellAt]; split <;> simp
  | cons p r ih =>
    obtain ⟨j, w⟩ := p
    simp only [cellPut]
    split
    · simp only [cellAt]
      split
      · rfl
      · split
        · rw [if_neg (by omega), if_pos (by omega)]
        · rfl
    · split
      · subst_vars; simp only [cellAt]; split <;> rfl
      · simp only [cellAt, ih]
        split
        · rw [if_neg (by omega)]
        · split
          · rw [if_neg (by omega)]
          · rfl

/-- A byte of memory after a write of bytes from address `a` on. -/
theorem cellAt_cellPuts (bs : Bytes) : ∀ (m : List Host.Cell) (a i : Nat),
    cellAt (cellPuts m a bs) i = if a ≤ i ∧ i < a + bs.length then bs[i - a]? else cellAt m i := by
  induction bs with
  | nil => intro m a i; rw [cellPuts, if_neg]; simp
  | cons b r ih =>
    intro m a i
    rw [cellPuts, ih, cellAt_cellPut]
    by_cases h : a = i
    · subst h; simp
    · by_cases h2 : a + 1 ≤ i ∧ i < a + 1 + r.length
      · rw [if_pos h2, if_pos (by simp; omega)]
        obtain ⟨d, rfl⟩ : ∃ d, i = a + 1 + d := ⟨i - (a + 1), by omega⟩
        rw [show a + 1 + d - a = d + 1 by omega]; simp
      · rw [if_neg h2, if_neg h, if_neg]; simp; omega

theorem cellsFrom_cellPut (a : Nat) (v : Byte) (m : List Host.Cell) :
    ∀ lo, lo ≤ a → cellsFrom lo m = true → cellsFrom lo (cellPut m a v) = true := by
  induction m with
  | nil => intro lo h _; simp [cellPut, cellsFrom, h]
  | cons p r ih =>
    obtain ⟨j, w⟩ := p
    intro lo h hw
    simp only [cellsFrom, Bool.and_eq_true, decide_eq_true_eq] at hw
    simp only [cellPut]
    split
    · simp [cellsFrom, h, hw.2]; omega
    · split
      · subst_vars; simp [cellsFrom, h, hw.2]
      · simp only [cellsFrom, Bool.and_eq_true, decide_eq_true_eq]
        exact ⟨hw.1, ih (j + 1) (by omega) hw.2⟩

theorem cellsFrom_cellPuts (bs : Bytes) : ∀ (m : List Host.Cell) (a : Nat),
    cellsFrom 0 m = true → cellsFrom 0 (cellPuts m a bs) = true := by
  induction bs with
  | nil => intro m a h; exact h
  | cons b r ih => intro m a h; exact ih _ _ (cellsFrom_cellPut a b m 0 (Nat.zero_le _) h)

/-- A write keeps segment memory canonical. -/
theorem SegMem.wf_write (m : SegMem) (a : Nat) (bs : Bytes) (h : m.wf = true) : (m.write a bs).wf = true :=
  cellsFrom_cellPuts bs _ a h

theorem SegMem.wf_setPage (m : SegMem) (i : Nat) (p : Page) : (m.setPage i p).wf = m.wf := rfl
theorem SegMem.wf_setRing (m : SegMem) (i : Nat) (p : Ring) : (m.setRing i p).wf = m.wf := rfl

end Sys2Proof.Machine
end

