-- ==== Sys2Proof/Laws/Steps.lean ====
section
/-! SUPPORT. What every command does around its own effect: device time moves on, READY and RUN follow what is busy, the
queue stays; and what a Joiner's issue comes to. -/

namespace Sys2Proof.Machine

/-! ## READY and RUN (R316) -/

/-- `judge` changes the device state alone. -/
theorem State.judge_eq (s : State) : ∃ d, s.judge = { s with sys := { s.sys with state := d } } := by
  unfold State.judge
  split
  · exact ⟨_, rfl⟩
  · split
    · exact ⟨_, rfl⟩
    · exact ⟨s.sys.state, rfl⟩

@[simp] theorem State.judge_now (s : State) : s.judge.now = s.now := by
  unfold State.judge; repeat' split
  all_goals rfl
@[simp] theorem State.judge_draws (s : State) : s.judge.draws = s.draws := by
  unfold State.judge; repeat' split
  all_goals rfl
@[simp] theorem State.judge_serial (s : State) : s.judge.serial = s.serial := by
  unfold State.judge; repeat' split
  all_goals rfl
@[simp] theorem State.judge_pending (s : State) : s.judge.pending = s.pending := by
  unfold State.judge; repeat' split
  all_goals rfl
@[simp] theorem State.judge_out (s : State) : s.judge.out = s.out := by
  unfold State.judge; repeat' split
  all_goals rfl
@[simp] theorem State.judge_eclk (s : State) : s.judge.eclk = s.eclk := by
  unfold State.judge; repeat' split
  all_goals rfl
@[simp] theorem State.judge_time (s : State) : s.judge.time = s.time := by
  unfold State.judge; repeat' split
  all_goals rfl
@[simp] theorem State.judge_oda (s : State) : s.judge.oda = s.oda := by
  unfold State.judge; repeat' split
  all_goals rfl
@[simp] theorem State.judge_cfg (s : State) : s.judge.cfg = s.cfg := by
  unfold State.judge; repeat' split
  all_goals rfl
@[simp] theorem State.judge_mem (s : State) : s.judge.mem = s.mem := by
  unfold State.judge; repeat' split
  all_goals rfl
@[simp] theorem State.judge_joiners (s : State) : s.judge.joiners = s.joiners := by
  unfold State.judge; repeat' split
  all_goals rfl
@[simp] theorem State.judge_tts (s : State) : s.judge.tts = s.tts := by
  unfold State.judge; repeat' split
  all_goals rfl
@[simp] theorem State.judge_evr (s : State) : s.judge.evr = s.evr := by
  unfold State.judge; repeat' split
  all_goals rfl
@[simp] theorem State.judge_chans (s : State) : s.judge.chans = s.chans := by
  unfold State.judge; repeat' split
  all_goals rfl
@[simp] theorem State.judge_bays (s : State) : s.judge.bays = s.bays := by
  unfold State.judge; repeat' split
  all_goals rfl
@[simp] theorem State.judge_cores (s : State) : s.judge.cores = s.cores := by
  unfold State.judge; repeat' split
  all_goals rfl
@[simp] theorem State.judge_ref (s : State) : s.judge.ref = s.ref := by
  unfold State.judge; repeat' split
  all_goals rfl
@[simp] theorem State.judge_synM (s : State) : s.judge.synM = s.synM := by
  unfold State.judge; repeat' split
  all_goals rfl
@[simp] theorem State.judge_synA (s : State) : s.judge.synA = s.synA := by
  unfold State.judge; repeat' split
  all_goals rfl
@[simp] theorem State.judge_outs (s : State) : s.judge.outs = s.outs := by
  unfold State.judge; repeat' split
  all_goals rfl
@[simp] theorem State.judge_ramp (s : State) : s.judge.ramp = s.ramp := by
  unfold State.judge; repeat' split
  all_goals rfl
@[simp] theorem State.judge_truss (s : State) : s.judge.truss = s.truss := by
  unfold State.judge; repeat' split
  all_goals rfl
@[simp] theorem State.judge_quads (s : State) : s.judge.quads = s.quads := by
  unfold State.judge; repeat' split
  all_goals rfl
@[simp] theorem State.judge_lanes (s : State) : s.judge.lanes = s.lanes := by
  unfold State.judge; repeat' split
  all_goals rfl
@[simp] theorem State.judge_mgmt (s : State) : s.judge.mgmt = s.mgmt := by
  unfold State.judge; repeat' split
  all_goals rfl
@[simp] theorem State.judge_tiu (s : State) : s.judge.tiu = s.tiu := by
  unfold State.judge; repeat' split
  all_goals rfl
@[simp] theorem State.judge_plumb (s : State) : s.judge.plumb = s.plumb := by
  unfold State.judge; repeat' split
  all_goals rfl
@[simp] theorem State.judge_sec (s : State) : s.judge.sec = s.sec := by
  unfold State.judge; repeat' split
  all_goals rfl
@[simp] theorem State.judge_card (s : State) : s.judge.card = s.card := by
  unfold State.judge; repeat' split
  all_goals rfl
@[simp] theorem State.judge_recess (s : State) : s.judge.recess = s.recess := by
  unfold State.judge; repeat' split
  all_goals rfl
@[simp] theorem State.judge_chan (s : State) (n : Nat) : s.judge.chan n = s.chan n := by
  unfold State.judge; repeat' split
  all_goals rfl
@[simp] theorem State.judge_tt (s : State) (n : Nat) : s.judge.tt n = s.tt n := by
  unfold State.judge; repeat' split
  all_goals rfl
@[simp] theorem State.judge_joiner (s : State) (n : Nat) : s.judge.joiner n = s.joiner n := by
  unfold State.judge; repeat' split
  all_goals rfl
@[simp] theorem State.judge_bay (s : State) (n : Nat) : s.judge.bay n = s.bay n := by
  unfold State.judge; repeat' split
  all_goals rfl
@[simp] theorem State.judge_core (s : State) (n : Nat) : s.judge.core n = s.core n := by
  unfold State.judge; repeat' split
  all_goals rfl
@[simp] theorem State.judge_output (s : State) (n : Nat) : s.judge.output n = s.output n := by
  unfold State.judge; repeat' split
  all_goals rfl
@[simp] theorem State.judge_quad (s : State) (n : Nat) : s.judge.quad n = s.quad n := by
  unfold State.judge; repeat' split
  all_goals rfl
@[simp] theorem State.judge_lane (s : State) (n : Nat) : s.judge.lane n = s.lane n := by
  unfold State.judge; repeat' split
  all_goals rfl
@[simp] theorem State.judge_slot (s : State) (n : Nat) : s.judge.slot n = s.slot n := by
  unfold State.judge; repeat' split
  all_goals rfl

/-! ## The end of a command -/

/-- The end of a command changes the device state, between READY and RUN, and sets the queue. -/
theorem State.close_eq (s : State) (q : List Instr) :
    ∃ d, s.close q = { s with sys := { s.sys with state := d }, pending := q } := by
  obtain ⟨d, hd⟩ := s.judge_eq
  exact ⟨d, by unfold State.close; rw [hd]⟩

@[simp] theorem State.close_pending (s : State) (q : List Instr) : (s.close q).pending = q := rfl
@[simp] theorem State.close_now (s : State) (q : List Instr) : (s.close q).now = s.now := s.judge_now
@[simp] theorem State.close_draws (s : State) (q : List Instr) : (s.close q).draws = s.draws := s.judge_draws
@[simp] theorem State.close_serial (s : State) (q : List Instr) : (s.close q).serial = s.serial := s.judge_serial
@[simp] theorem State.close_out (s : State) (q : List Instr) : (s.close q).out = s.out := s.judge_out
@[simp] theorem State.close_eclk (s : State) (q : List Instr) : (s.close q).eclk = s.eclk := s.judge_eclk
@[simp] theorem State.close_time (s : State) (q : List Instr) : (s.close q).time = s.time := s.judge_time
@[simp] theorem State.close_oda (s : State) (q : List Instr) : (s.close q).oda = s.oda := s.judge_oda
@[simp] theorem State.close_cfg (s : State) (q : List Instr) : (s.close q).cfg = s.cfg := s.judge_cfg
@[simp] theorem State.close_mem (s : State) (q : List Instr) : (s.close q).mem = s.mem := s.judge_mem
@[simp] theorem State.close_joiners (s : State) (q : List Instr) : (s.close q).joiners = s.joiners := s.judge_joiners
@[simp] theorem State.close_tts (s : State) (q : List Instr) : (s.close q).tts = s.tts := s.judge_tts
@[simp] theorem State.close_evr (s : State) (q : List Instr) : (s.close q).evr = s.evr := s.judge_evr
@[simp] theorem State.close_chans (s : State) (q : List Instr) : (s.close q).chans = s.chans := s.judge_chans
@[simp] theorem State.close_bays (s : State) (q : List Instr) : (s.close q).bays = s.bays := s.judge_bays
@[simp] theorem State.close_cores (s : State) (q : List Instr) : (s.close q).cores = s.cores := s.judge_cores
@[simp] theorem State.close_ref (s : State) (q : List Instr) : (s.close q).ref = s.ref := s.judge_ref
@[simp] theorem State.close_synM (s : State) (q : List Instr) : (s.close q).synM = s.synM := s.judge_synM
@[simp] theorem State.close_synA (s : State) (q : List Instr) : (s.close q).synA = s.synA := s.judge_synA
@[simp] theorem State.close_outs (s : State) (q : List Instr) : (s.close q).outs = s.outs := s.judge_outs
@[simp] theorem State.close_ramp (s : State) (q : List Instr) : (s.close q).ramp = s.ramp := s.judge_ramp
@[simp] theorem State.close_truss (s : State) (q : List Instr) : (s.close q).truss = s.truss := s.judge_truss
@[simp] theorem State.close_quads (s : State) (q : List Instr) : (s.close q).quads = s.quads := s.judge_quads
@[simp] theorem State.close_lanes (s : State) (q : List Instr) : (s.close q).lanes = s.lanes := s.judge_lanes
@[simp] theorem State.close_mgmt (s : State) (q : List Instr) : (s.close q).mgmt = s.mgmt := s.judge_mgmt
@[simp] theorem State.close_tiu (s : State) (q : List Instr) : (s.close q).tiu = s.tiu := s.judge_tiu
@[simp] theorem State.close_plumb (s : State) (q : List Instr) : (s.close q).plumb = s.plumb := s.judge_plumb
@[simp] theorem State.close_sec (s : State) (q : List Instr) : (s.close q).sec = s.sec := s.judge_sec
@[simp] theorem State.close_card (s : State) (q : List Instr) : (s.close q).card = s.card := s.judge_card
@[simp] theorem State.close_recess (s : State) (q : List Instr) : (s.close q).recess = s.recess := s.judge_recess
@[simp] theorem State.close_chan (s : State) (q : List Instr) (n : Nat) : (s.close q).chan n = s.chan n := s.judge_chan n
@[simp] theorem State.close_tt (s : State) (q : List Instr) (n : Nat) : (s.close q).tt n = s.tt n := s.judge_tt n
@[simp] theorem State.close_joiner (s : State) (q : List Instr) (n : Nat) : (s.close q).joiner n = s.joiner n := s.judge_joiner n
@[simp] theorem State.close_bay (s : State) (q : List Instr) (n : Nat) : (s.close q).bay n = s.bay n := s.judge_bay n
@[simp] theorem State.close_core (s : State) (q : List Instr) (n : Nat) : (s.close q).core n = s.core n := s.judge_core n
@[simp] theorem State.close_output (s : State) (q : List Instr) (n : Nat) : (s.close q).output n = s.output n := s.judge_output n
@[simp] theorem State.close_quad (s : State) (q : List Instr) (n : Nat) : (s.close q).quad n = s.quad n := s.judge_quad n
@[simp] theorem State.close_lane (s : State) (q : List Instr) (n : Nat) : (s.close q).lane n = s.lane n := s.judge_lane n
@[simp] theorem State.close_slot (s : State) (q : List Instr) (n : Nat) : (s.close q).slot n = s.slot n := s.judge_slot n

/-- `judge` leaves the device's system record alone but for its state. -/
theorem State.judge_sys (s : State) : { s.judge.sys with state := s.sys.state } = s.sys := by
  unfold State.judge; repeat' split
  all_goals rfl

/-- A device neither READY nor RUN stays as it is. -/
theorem State.judge_id (s : State) (h : s.sys.state ≠ .ready) (h' : s.sys.state ≠ .run) : s.judge = s := by
  unfold State.judge; rw [if_neg (fun x => h x.1), if_neg (fun x => h' x.1)]

/-- After `judge` the device is in RUN exactly while something is busy. -/
theorem State.judge_runFollows (s : State) : s.judge.RunFollows := by
  unfold State.judge State.RunFollows
  split
  · next h => exact ⟨fun x => by simp at x, fun _ => h.2⟩
  · next h =>
    split
    · next h' => exact ⟨fun _ => h'.2, fun x => by simp at x⟩
    · next h' =>
      refine ⟨fun x => ?_, fun x => ?_⟩
      · cases hb : s.busy
        · rfl
        · exact absurd ⟨x, hb⟩ h
      · cases hb : s.busy
        · exact absurd ⟨x, hb⟩ h'
        · rfl

/-- The end of a command leaves the device's system record alone but for its state. -/
theorem State.close_sys (s : State) (q : List Instr) : { (s.close q).sys with state := s.sys.state } = s.sys := s.judge_sys

/-- A command that ends in a state neither READY nor RUN ends in it as it is. -/
theorem State.close_id (s : State) (q : List Instr) (h : s.sys.state ≠ .ready) (h' : s.sys.state ≠ .run) :
    s.close q = { s with pending := q } := by unfold State.close; rw [s.judge_id h h']

/-- A command ends in RUN exactly while something is busy. -/
theorem State.close_runFollows (s : State) (q : List Instr) : (s.close q).RunFollows := s.judge_runFollows

/-! ## Time alone -/

/-- With nothing waiting for it, time alone changes nothing but the time. -/
theorem State.moveTo_quiet (s : State) (t : Nat) (h : s.quiet = true) : s.moveTo t = s.tick t := by
  simp only [State.quiet, Bool.and_eq_true, Bool.not_eq_true', List.isEmpty_iff, decide_eq_true_eq] at h
  obtain ⟨⟨⟨⟨hu, hw⟩, _⟩, hl⟩, ht⟩ := h
  have hu' : (s.tick t).unsettled = false := hu
  have hw' : (s.tick t).waitingChans = [] := hw
  unfold State.moveTo
  simp only [hu', Bool.false_and, Bool.false_eq_true, if_false, hw']
  split
  · rfl
  · unfold State.serveTraffic
    have he : ({ (s.tick t) with net := { (s.tick t).net with traffic := (s.tick t).net.traffic - microIn 16 (t - s.now) } } : State)
        = s.tick t := by
      have hz : (s.tick t).net.traffic = 0 := ht
      have : ({ (s.tick t).net with traffic := (s.tick t).net.traffic - microIn 16 (t - s.now) } : Net) = (s.tick t).net := by
        rw [hz, Nat.zero_sub, ← hz]
      rw [this]
    have hl' : (s.tick t).upLanes = [] := hl
    have hf (x : State) (f : State → Nat → State) : x.forAll ([] : List Nat) f = x := rfl
    simp only [hf, he, ite_self, hl']

/-- With nothing waiting for it, time alone changes nothing but the time. -/
theorem State.advance_quiet (s : State) (t : Nat) (h : s.quiet = true) : s.advance t = s.tick t := by
  have hw : s.laneWaits = false := by
    simp only [State.quiet, Bool.and_eq_true, Bool.not_eq_true'] at h
    exact h.1.1.2
  unfold State.advance
  cases s.eclk.cycleAt t - s.cycle with
  | zero => exact s.moveTo_quiet t h
  | succ n =>
    rw [State.drain]
    simp only [hw, Bool.false_and, Bool.false_eq_true, if_false]
    exact s.moveTo_quiet t h

/-! ## Commands -/

/-- A command of the clocked part of the device while the clocks run. -/
theorem event_next (s : State) (t : Nat) (f : State → State) (h : (s.advance t).still = false) :
    event s t f = .next ((f (s.advance t)).close s.pending) := by
  simp only [event, always, h, Bool.false_eq_true, if_false]

/-- A command of the clocked part of the device while the clocks stand does nothing but let time pass. -/
theorem event_still (s : State) (t : Nat) (f : State → State) (h : (s.advance t).still = true) :
    event s t f = .next ((s.advance t).close s.pending) := by
  simp only [event, always, h, if_true]

/-- Every command answers a next state. -/
theorem always_next (s : State) (t : Nat) (f : State → State) :
    always s t f = .next ((f (s.advance t)).close s.pending) := rfl

/-! ## Issue (R60, R61) -/

/-- What the issue of an instruction comes to, `u` being the state of the moment. -/
theorem event_issue (s u : State) (t i : Nat) (f : Fetched) (row : Nat → Bool) (eff : State → Nat → Fetched → Effect)
    (hu : u = s.advance t) (h : u.Issues i f) (hr : row f.opcode = true) :
    event s t (fun s => s.issue i row eff) =
      .next (((u.takeSlot i).carryOut i u.cycle f false (eff (u.takeSlot i) i f)).close s.pending) := by
  subst hu
  rw [event_next _ _ _ h.clocked]
  simp only [State.issue, h.turn, if_true, h.fetched, hr]
  rfl

/-- What the waking of a waiting instruction comes to that waits for neither a bell nor room in a queue, `u` being the
state of the moment. -/
theorem event_wake (s u : State) (t i : Nat) (k : WaitKind) (f : Fetched) (hu : u = s.advance t) (h : u.Waits i k f)
    (hk : k ≠ .bell) (hq : k ≠ .queue) :
    event s t (fun s => s.wake i k effOf) =
      .next ((u.carryOut i u.cycle f true (effOf f.opcode u i f)).close s.pending) := by
  subst hu
  rw [event_next _ _ _ h.clocked]
  unfold State.wake
  simp only [h.held, h.state, h.kind, h.eclk, h.joiner, h.stays, true_or, and_self, if_true, hk, hq, or_self, if_false]

@[simp] theorem State.takeSlot_tt (s : State) (i k : Nat) : (s.takeSlot i).tt k = s.tt k := rfl
@[simp] theorem State.takeSlot_chan (s : State) (i k : Nat) : (s.takeSlot i).chan k = s.chan k := rfl
@[simp] theorem State.takeSlot_mem (s : State) (i : Nat) : (s.takeSlot i).mem = s.mem := rfl
@[simp] theorem State.takeSlot_evr (s : State) (i : Nat) : (s.takeSlot i).evr = s.evr := rfl
@[simp] theorem State.takeSlot_truss (s : State) (i : Nat) : (s.takeSlot i).truss = s.truss := rfl
@[simp] theorem State.takeSlot_now (s : State) (i : Nat) : (s.takeSlot i).now = s.now := rfl
@[simp] theorem State.takeSlot_cycle (s : State) (i : Nat) : (s.takeSlot i).cycle = s.cycle := rfl
@[simp] theorem State.takeSlot_serial (s : State) (i : Nat) : (s.takeSlot i).serial = s.serial := rfl
@[simp] theorem State.takeSlot_trussNow (s : State) (i : Nat) : (s.takeSlot i).trussNow = s.trussNow := rfl

/-- An issue leaves the memories, bells and jobs of every Joiner alone. -/
theorem State.takeSlot_joiner (s : State) (i j : Nat) : (s.joiner j).SameStores ((s.takeSlot i).joiner j) := by
  unfold State.takeSlot
  simp only [State.modJoiner_eq, State.joiner_setJoiner]
  split
  · next h => subst h; rfl
  · rfl

@[simp] theorem State.takeSlot_bellEntry (s : State) (i n k : Nat) : (s.takeSlot i).bellEntry n k = s.bellEntry n k := by
  unfold State.bellEntry
  have h := s.takeSlot_joiner i (n / 64)
  unfold Joiner.SameStores at h
  have e := congrArg Joiner.bells h
  exact congrArg (fun b => sget (fun _ => ({} : BellEntry)) b k) e

/-- Every other timetable than `i` stands in `x` as in `s`, and so does everything outside the timetables. -/
def State.OnlyTt (s x : State) (i : Nat) : Prop := { x with tts := s.tts } = s ∧ ∀ k, k ≠ i → x.tt k = s.tt k

theorem State.onlyTt_refl (s : State) (i : Nat) : s.OnlyTt s i := ⟨rfl, fun _ _ => rfl⟩

theorem State.onlyTt_setTt {s x : State} {i : Nat} (h : s.OnlyTt x i) (v : Timetable) : s.OnlyTt (x.setTt i v) i :=
  ⟨h.1, fun k hk => (State.tt_setTt x i k v).trans ((if_neg (Ne.symm hk)).trans (h.2 k hk))⟩

/-- What an issue that only changes timetable `i` leaves alone. -/
theorem State.sameButTt_of {u x : State} {i : Nat} (q : List Instr) (h : (u.takeSlot i).OnlyTt x i) :
    u.SameButTt (x.close q) i := by
  obtain ⟨d, hd⟩ := x.close_eq q
  rw [hd]
  refine ⟨?_, h.2, fun j => ?_⟩
  · exact congrArg (fun y : State => { u.graft y with tts := u.tts, joiners := u.joiners }) h.1
  · have e := congrArg (fun y : State => (u.joiner j).SameStores (y.joiner j)) h.1
    exact e.mpr (u.takeSlot_joiner i j)

end Sys2Proof.Machine
end

