-- ==== Sys2Proof/Laws/Playback.lean ====
section
/-! SUPPORT. What the playback operations leave alone: each works on one channel, with the passes, rings and error
counts of segment memory (`State.OnChan`). -/

namespace Sys2Proof.Machine

theorem State.onChan_refl (s : State) (n : Nat) : s.OnChan s n := ⟨rfl, fun _ _ => rfl, rfl, rfl, rfl⟩

theorem State.OnChan.trans {s x y : State} {n : Nat} (h : s.OnChan x n) (g : x.OnChan y n) : s.OnChan y n := by
  refine ⟨?_, fun m hm => (g.2.1 m hm).trans (h.2.1 m hm), g.2.2.1.trans h.2.2.1, g.2.2.2.1.trans h.2.2.2.1,
    g.2.2.2.2.trans h.2.2.2.2⟩
  have e := congrArg (fun z : State => ({ z with chans := s.chans, mem := s.mem, card := s.card, sys := s.sys } : State)) g.1
  exact e.trans h.1

theorem State.onChan_setChan (s : State) (n : Nat) (c : Channel) : s.OnChan (s.setChan n c) n :=
  ⟨rfl, fun m hm => (State.chan_setChan s n m c).trans (if_neg (Ne.symm hm)), rfl, rfl, rfl⟩

theorem State.OnChan.setChan {s x : State} {n : Nat} (h : s.OnChan x n) (c : Channel) : s.OnChan (x.setChan n c) n :=
  h.trans (x.onChan_setChan n c)

theorem State.OnChan.modChan {s x : State} {n : Nat} (h : s.OnChan x n) (f : Channel → Channel) :
    s.OnChan (x.modChan n f) n := h.setChan _

theorem State.onChan_modChan (s : State) (n : Nat) (f : Channel → Channel) : s.OnChan (s.modChan n f) n :=
  s.onChan_setChan n _

theorem State.onChan_setPage (s : State) (n p : Nat) (v : Page) : s.OnChan (s.setMem (s.mem.setPage p v)) n :=
  ⟨rfl, fun _ _ => rfl, rfl, rfl, rfl⟩

theorem State.onChan_setRing (s : State) (n p : Nat) (v : Ring) : s.OnChan (s.setMem (s.mem.setRing p v)) n :=
  ⟨rfl, fun _ _ => rfl, rfl, rfl, rfl⟩

theorem State.onChan_forAll {α : Type} (n : Nat) (f : State → α → State) (h : ∀ (s : State) (a : α), s.OnChan (f s a) n) (xs : List α) :
    ∀ s : State, s.OnChan (s.forAll xs f) n := by
  induction xs with
  | nil => intro s; exact s.onChan_refl n
  | cons a r ih => intro s; exact (h s a).trans (ih (f s a))

theorem State.onChan_unpinAll (s : State) (n : Nat) (ps : List Nat) (b : Bool) : s.OnChan (s.unpinAll ps b) n :=
  State.onChan_forAll n _ (fun s p => s.onChan_setPage n p _) ps s

theorem State.onChan_pinAll (s : State) (n : Nat) (ps : List Nat) : s.OnChan (s.pinAll ps) n :=
  State.onChan_forAll n _ (fun s p => s.onChan_setPage n p _) ps s

theorem State.onChan_when (s : State) (n : Nat) (b : Bool) (f : State → State) (h : ∀ s : State, s.OnChan (f s) n) :
    s.OnChan (s.when b f) n := by
  unfold State.when; split
  · exact h s
  · exact s.onChan_refl n

theorem State.onChan_alert (s : State) (n i : Nat) : s.OnChan (s.alert i) n := ⟨rfl, fun _ _ => rfl, rfl, rfl, rfl⟩

theorem State.onChan_countCe (s : State) (n k : Nat) : s.OnChan (s.countCe k) n := ⟨rfl, fun _ _ => rfl, rfl, rfl, rfl⟩

theorem State.onChan_loseWrite (s : State) (n : Nat) : s.OnChan s.loseWrite n := ⟨rfl, fun _ _ => rfl, rfl, rfl, rfl⟩

theorem State.onChan_render (s : State) (n k : Nat) : s.OnChan (s.render n k) n := by
  unfold State.render
  split
  next c ce ue _ =>
  have h := (s.onChan_setChan n c).trans (State.onChan_countCe _ n ce)
  extract_lets s1
  split
  · exact h
  · exact State.OnChan.trans (x := s1) h ⟨rfl, fun _ _ => rfl, rfl, rfl, rfl⟩

theorem State.onChan_takeSettings (n k : Nat) (xs : List (Nat × SettingValue)) :
    ∀ s : State, s.OnChan (s.takeSettings n k xs) n := by
  induction xs with
  | nil => intro s; exact s.onChan_refl n
  | cons a r ih =>
    obtain ⟨x, v⟩ := a
    intro s
    simp only [State.takeSettings]
    split
    · exact ((s.onChan_render n _).modChan _).trans (ih _)
    · exact s.onChan_refl n

theorem State.onChan_settle (s : State) (n k : Nat) : s.OnChan (s.settle n k) n := by
  unfold State.settle
  extract_lets s1
  have h1 : s.OnChan s1 n := by
    unfold s1
    split
    · exact s.onChan_refl n
    · exact State.onChan_takeSettings n k _ s
  exact (h1.trans (State.onChan_render _ n k)).modChan _

theorem State.onChan_syncGo (n k : Nat) (fuel : Nat) : ∀ s : State, s.OnChan (s.syncGo fuel n k) n := by
  induction fuel with
  | zero => intro s; exact s.onChan_settle n k
  | succ m ih =>
    intro s
    simp only [State.syncGo]
    split
    · exact s.onChan_settle n k
    · exact ((s.onChan_settle n _).modChan _).trans (ih _)
    · exact ((s.onChan_settle n _).modChan _).trans (ih _)
    · split
      · exact ((s.onChan_settle n _).modChan _).trans (ih _)
      · exact ((s.onChan_settle n _).modChan _).trans (ih _)

theorem State.onChan_syncTo (s : State) (n k : Nat) : s.OnChan (s.syncTo n k) n := State.onChan_syncGo n _ _ s

theorem State.onChan_popHead (s : State) (n k : Nat) : s.OnChan (s.popHead n k) n := s.onChan_modChan n _

theorem State.onChan_disarm (s : State) (n : Nat) : s.OnChan (s.disarm n) n :=
  (s.onChan_modChan n _).trans (State.onChan_unpinAll _ n _ _)

theorem State.onChan_fillHead (s : State) (n : Nat) (d : Descriptor) (x : Nat) : s.OnChan (s.fillHead n d x) n :=
  (s.onChan_modChan n _).trans (State.onChan_countCe _ n _)

theorem State.onChan_applyEsc (s : State) (n k : Nat) (d : Descriptor) : s.OnChan (s.applyEsc n k d) n := by
  unfold State.applyEsc
  extract_lets s1
  have h1 : s.OnChan s1 n := s.onChan_disarm n
  split
  · exact h1
  · refine h1.trans (State.OnChan.modChan ?_ _)
    split
    · exact State.onChan_refl _ n
    · exact State.onChan_fillHead _ n _ _

theorem State.onChan_applySpan (s : State) (n k : Nat) (v : BitVec 3) (b : Bool) : s.OnChan (s.applySpan n k v b) n :=
  s.onChan_modChan n _

theorem State.onChan_meetHost (s : State) (n k : Nat) (d : Descriptor) : s.OnChan (s.meetHost n k d) n := by
  unfold State.meetHost
  exact (s.onChan_when n _ _ fun s => s.onChan_loseWrite n).trans
    (State.onChan_when _ n _ _ fun s => (s.onChan_modChan n _).trans (State.onChan_loseWrite _ n))

theorem State.onChan_applyControl (s : State) (n k : Nat) (d : Descriptor) : s.OnChan (s.applyControl n k d) n := by
  unfold State.applyControl
  refine (s.onChan_meetHost n k d).trans ?_
  simp only
  split <;> first
    | exact State.onChan_modChan _ n _
    | exact State.onChan_applyEsc _ n k d
    | exact State.onChan_refl _ n

theorem State.onChan_applyControls (n k : Nat) (fuel : Nat) : ∀ s : State, s.OnChan (s.applyControls fuel n k) n := by
  induction fuel with
  | zero => intro s; exact s.onChan_refl n
  | succ m ih =>
    intro s
    simp only [State.applyControls]
    split
    · split
      · exact ((s.onChan_popHead n k).trans (State.onChan_applyControl _ n k _)).trans (ih _)
      · exact s.onChan_refl n
    · exact s.onChan_refl n

theorem State.onChan_controlsAt (s : State) (n k : Nat) : s.OnChan (s.controlsAt n k) n := State.onChan_applyControls n k _ s

theorem State.onChan_segmentEdge (s : State) (n k : Nat) : s.OnChan (s.segmentEdge n k) n := by
  unfold State.segmentEdge
  exact State.onChan_modChan _ n _

theorem State.onChan_beginEscape (s : State) (n k : Nat) (d : Descriptor) (w : Bool) : s.OnChan (s.beginEscape n k d w) n :=
  (s.onChan_modChan n _).trans (State.onChan_segmentEdge _ n k)

theorem State.onChan_beginHead (s : State) (n k : Nat) (d : Descriptor) : s.OnChan (s.beginHead n k d) n := by
  unfold State.beginHead
  extract_lets late s1
  have h1 : s.OnChan s1 n := (s.onChan_popHead n k).modChan _
  refine h1.trans ?_
  split
  · split
    · exact State.onChan_beginEscape _ n k d _
    · exact (State.onChan_modChan _ n _).trans (State.onChan_segmentEdge _ n k)
  · split
    · exact State.onChan_modChan _ n _
    · exact (State.onChan_modChan _ n _).trans (State.onChan_segmentEdge _ n k)
  all_goals first
    | exact State.onChan_modChan _ n _
    | exact State.onChan_refl _ n

theorem State.onChan_follow (n k : Nat) (fuel : Nat) : ∀ (s : State) (g : Bool), s.OnChan (s.follow fuel n k g) n := by
  induction fuel with
  | zero => intro s g; exact s.onChan_refl n
  | succ m ih =>
    intro s g
    unfold State.follow
    extract_lets s1
    have h1 : s.OnChan s1 n := (s.onChan_modChan n _).trans (State.onChan_controlsAt _ n k)
    refine h1.trans ?_
    clear_value s1
    split
    · exact State.onChan_modChan _ n _
    · split
      · split
        · extract_lets ko s2
          have h2 : s1.OnChan s2 n := (State.onChan_popHead s1 n k).modChan _
          clear_value s2
          split
          · exact State.onChan_beginHead _ n k _
          · exact h2.trans (ih s2 (decide (ko = k)))
        · exact State.onChan_beginHead _ n k _
      · repeat' split
        all_goals first
          | exact State.onChan_modChan _ n _
          | exact State.onChan_refl _ n

theorem State.onChan_followAt (s : State) (n k : Nat) (g : Bool) : s.OnChan (s.followAt n k g) n :=
  State.onChan_follow n k 65 s g

theorem State.onChan_release (s : State) (n : Nat) (a : Activity) : s.OnChan (s.release a) n := by
  unfold State.release
  split
  · exact (s.onChan_unpinAll n _ _).trans (State.onChan_unpinAll _ n _ _)
  · exact s.onChan_unpinAll n _ _

theorem State.onChan_cut (s : State) (n k : Nat) (e : Bool) : s.OnChan (s.cut n k e) n := by
  unfold State.cut
  extract_lets s1 a ended s2 s3
  have h1 : s.OnChan s1 n := s.onChan_syncTo n k
  have h2 : s1.OnChan s2 n := by
    refine State.OnChan.trans (x := if ended = true then s1.release a else s1.unpinAll a.pins false) ?_
      (State.onChan_when _ n _ _ fun s => s.onChan_segmentEdge n k)
    split
    · exact s1.onChan_release n a
    · exact s1.onChan_unpinAll n _ _
  have h : s.OnChan s3 n := (h1.trans h2).modChan _
  split
  · exact h.trans (State.onChan_disarm _ n)
  · exact h

theorem State.onChan_emptyQueue (s : State) (n : Nat) : s.OnChan (s.emptyQueue n) n :=
  (s.onChan_modChan n _).trans (State.onChan_unpinAll _ n _ _)

theorem State.onChan_flushChannel (s : State) (n : Nat) : s.OnChan (s.flushChannel n) n := by
  unfold State.flushChannel
  extract_lets s1 k
  have h : s.OnChan s1 n := s.onChan_emptyQueue n
  split
  · exact h.modChan _
  · exact h.trans (State.onChan_cut _ n _ _)

/-! ## The channel's own events (R67 to R133) -/

theorem State.onChan_idleControls (n k : Nat) (fuel : Nat) : ∀ s : State, s.OnChan (s.idleControls fuel n k) n := by
  induction fuel with
  | zero => intro s; exact s.onChan_refl n
  | succ m ih =>
    intro s
    simp only [State.idleControls]
    split
    · split
      · exact (((s.onChan_syncTo n _).trans (State.onChan_popHead _ n _)).trans (State.onChan_applyControl _ n _ _)).trans (ih _)
      · exact s.onChan_refl n
    · exact s.onChan_refl n

theorem State.onChan_passGate (s : State) (n k : Nat) (d : Descriptor) : s.OnChan (s.passGate n k d) n :=
  (s.onChan_popHead n k).modChan _

theorem State.onChan_ringAdvance (s : State) (n c i x p : Nat) : s.OnChan (s.ringAdvance c i x p) n := by
  unfold State.ringAdvance
  simp only
  split
  · exact s.onChan_refl n
  · exact s.onChan_setRing n i _

theorem State.onChan_ringTake (s : State) (n c i x p m : Nat) : s.OnChan (s.ringTake c i x p m) n :=
  (s.onChan_setRing n i _).trans (State.onChan_setPage _ n p _)

theorem State.onChan_skipPage (s : State) (c n : Nat) (d : Descriptor) (h : Nat) : s.OnChan (s.skipPage c n d h) n :=
  (s.onChan_ringAdvance n c _ _ _).modChan _

theorem onChan_descriptorVisible (s : State) (n : Nat) : s.OnChan (opDescriptorVisible s n) n := by
  unfold opDescriptorVisible
  split
  · split
    · extract_lets x q s1
      have h1 : s.OnChan s1 n := s.onChan_modChan n _
      refine h1.trans ?_
      split
      · exact State.onChan_fillHead _ n _ _
      · exact State.onChan_refl _ n
    · exact s.onChan_refl n
  · exact s.onChan_refl n

theorem onChan_startDescriptor (s : State) (n : Nat) : s.OnChan (startDescriptor s n) n := by
  unfold startDescriptor
  split
  · refine (State.onChan_idleControls n (s.boundaryNow n) 64 s).trans ?_
    simp only
    split
    · split
      · split
        · exact ((State.onChan_syncTo _ n _).trans (State.onChan_passGate _ n _ _)).trans (State.onChan_followAt _ n _ _)
        · exact (State.onChan_syncTo _ n _).trans (State.onChan_beginHead _ n _ _)
      · exact State.onChan_refl _ n
    · exact State.onChan_refl _ n
  · exact s.onChan_refl n

theorem onChan_endRepetition (s : State) (n : Nat) : s.OnChan (endRepetition s n) n := by
  unfold endRepetition
  split
  · simp only
    split
    · exact ((s.onChan_syncTo n _).modChan _).trans (State.onChan_segmentEdge _ n _)
    · exact s.onChan_refl n
  · exact s.onChan_refl n

theorem onChan_openGate (s : State) (n : Nat) : s.OnChan (openGate s n) n := by
  unfold openGate
  split
  · simp only
    split
    · exact (s.onChan_syncTo n _).trans (State.onChan_followAt _ n _ _)
    · exact s.onChan_refl n
  · exact s.onChan_refl n

/-- A page that KEEPTIME skips whole at the end of its descriptor. -/
theorem State.onChan_skipLate (s : State) (c n : Nat) (a : Activity) :
    s.OnChan (match a with
      | .late d _ h => if d.lateKeep && !d.skipped && d.startAt.isNone then s.skipPage c n d h else s
      | _ => s) n := by
  cases a
  case late d k h =>
    simp only
    split
    · exact s.onChan_skipPage c n d h
    · exact s.onChan_refl n
  all_goals exact s.onChan_refl n

theorem onChan_endDescriptor (s : State) (n : Nat) : s.OnChan (endDescriptor s n) n := by
  unfold endDescriptor
  extract_lets a whole
  split
  · next k _ =>
    split
    · extract_lets s1 b s2 s3
      have h1 : s.OnChan s1 n := s.onChan_syncTo n k
      have h2 : s1.OnChan s2 n := s1.onChan_skipLate s1.cycle n b
      have h3 : s2.OnChan s3 n := (State.onChan_release s2 n b).trans
        (State.onChan_when _ n _ _ fun s => s.onChan_segmentEdge n k)
      exact ((h1.trans h2).trans h3).trans (State.onChan_followAt _ n k false)
    · exact s.onChan_refl n
  · exact s.onChan_refl n

theorem onChan_escapeArmed (s : State) (n : Nat) : s.OnChan (opEscapeArmed s n) n := by
  unfold opEscapeArmed
  repeat' split
  all_goals first
    | exact (s.onChan_syncTo n _).modChan _
    | exact s.onChan_refl n

theorem State.onChan_replaceHead (n k : Nat) (fuel : Nat) : ∀ s : State, s.OnChan (s.replaceHead fuel n k) n := by
  induction fuel with
  | zero => intro s; exact s.onChan_refl n
  | succ m ih =>
    intro s
    unfold State.replaceHead
    extract_lets s1
    have h1 : s.OnChan s1 n := s.onChan_controlsAt n k
    refine h1.trans ?_
    split
    · split
      · exact State.onChan_refl _ n
      · split
        · exact (State.onChan_passGate _ n k _).trans (ih _)
        · exact (State.onChan_popHead _ n k).trans (State.onChan_unpinAll _ n _ _)
    · exact State.onChan_refl _ n

theorem State.onChan_fireEscape (s : State) (n k : Nat) (e : Escape) : s.OnChan (s.fireEscape n k e) n := by
  unfold State.fireEscape
  extract_lets s1 a ends repeats s2 s3 skip s5 s4
  have h1 : s.OnChan s1 n := s.onChan_syncTo n k
  have h2 : s1.OnChan s2 n := State.onChan_modChan _ n _
  have h3 : s2.OnChan s3 n := State.onChan_when _ n _ _ fun s => s.onChan_modChan n _
  have h4 : s3.OnChan s4 n := by
    unfold s4
    split
    · exact (((s3.onChan_skipLate _ n a).trans (State.onChan_release _ n a)).modChan _).trans
        (State.onChan_replaceHead n k 65 s5)
    · split
      · exact State.onChan_idleControls n k 64 _
      · exact (State.onChan_unpinAll _ n _ _).modChan _
  exact ((((h1.trans h2).trans h3).trans h4).modChan fun c => { c with idleFrom := k }).trans
    (State.onChan_beginEscape _ n k e.d true)

/-- No break waits on the channel: none comes before an escape of its boundary (R202). -/
theorem State.breakFirst_eq {s : State} {n : Nat} (hb : (s.chan n).broke ≠ .pending) (k : Nat) : s.breakFirst n k = s := by
  unfold State.breakFirst
  simp [hb]

/-- A firing leaves alone what is not the channel's, where no break comes first. -/
theorem State.onChan_fireDue {s : State} {n : Nat} (hb : (s.chan n).broke ≠ .pending) (k : Nat) :
    s.OnChan (s.fireDue n k) n := by
  unfold State.fireDue
  split
  · rw [State.breakFirst_eq hb]
    dsimp only
    repeat' split
    all_goals first
      | exact s.onChan_fireEscape n _ _
      | exact s.onChan_refl n
  · exact s.onChan_refl n

/-- What an escape that fires first leaves alone, where what it comes before leaves it alone (R116). -/
theorem State.onChan_afterFiring {s : State} {n : Nat} (hb : (s.chan n).broke ≠ .pending) (k : Nat) (f : State → State)
    (h : s.OnChan (f s) n) : s.OnChan (s.afterFiring n k f) n := by
  unfold State.afterFiring
  split
  · exact State.onChan_fireDue hb k
  · exact h

theorem State.onChan_atEnd {s : State} {n : Nat} (hb : (s.chan n).broke ≠ .pending) (f : State → State)
    (h : s.OnChan (f s) n) : s.OnChan (s.atEnd n f) n := by
  unfold State.atEnd
  split
  · exact State.onChan_afterFiring hb _ f h
  · exact s.onChan_refl n

theorem onChan_endEscape (s : State) (n : Nat) : s.OnChan (endEscape s n) n := by
  unfold endEscape
  split
  · simp only
    split
    · exact (((s.onChan_syncTo n _).trans (State.onChan_unpinAll _ n _ _)).trans (State.onChan_segmentEdge _ n _)).trans
        (State.onChan_followAt _ n _ _)
    · exact s.onChan_refl n
  · exact s.onChan_refl n

theorem onChan_descriptorStart {s : State} {n : Nat} (hb : (s.chan n).broke ≠ .pending) :
    s.OnChan (opDescriptorStart s n) n := by
  unfold opDescriptorStart
  split
  · exact State.onChan_afterFiring hb _ _ (onChan_startDescriptor s n)
  · exact s.onChan_refl n

theorem onChan_descriptorEnd {s : State} {n : Nat} (hb : (s.chan n).broke ≠ .pending) : s.OnChan (opDescriptorEnd s n) n :=
  State.onChan_atEnd hb _ (onChan_endDescriptor s n)

theorem onChan_repetitionEnd {s : State} {n : Nat} (hb : (s.chan n).broke ≠ .pending) : s.OnChan (opRepetitionEnd s n) n :=
  State.onChan_atEnd hb _ (onChan_endRepetition s n)

theorem onChan_timegateOpen {s : State} {n : Nat} (hb : (s.chan n).broke ≠ .pending) : s.OnChan (opTimegateOpen s n) n :=
  State.onChan_atEnd hb _ (onChan_openGate s n)

theorem onChan_escapeEnd {s : State} {n : Nat} (hb : (s.chan n).broke ≠ .pending) : s.OnChan (opEscapeEnd s n) n :=
  State.onChan_atEnd hb _ (onChan_endEscape s n)

theorem State.onChan_noteCheck (s : State) (n : Nat) (a : Bool) (k x : Nat) : s.OnChan (s.noteCheck n a k x) n := by
  unfold State.noteCheck
  split
  · exact s.onChan_refl n
  · exact ⟨rfl, fun _ _ => rfl, rfl, rfl, rfl⟩

theorem onChan_streamCheck (s : State) (n : Nat) : s.OnChan (opStreamCheck s n) n := by
  unfold opStreamCheck
  repeat' split
  all_goals first
    | exact s.onChan_noteCheck n _ _ _
    | exact s.onChan_refl n

theorem onChan_underrunRecheck (s : State) (n : Nat) : s.OnChan (opUnderrunRecheck s n) n := by
  unfold opUnderrunRecheck
  split
  · next d _ =>
    extract_lets b
    split
    split
    · exact (s.onChan_syncTo n b).trans (State.onChan_noteCheck _ n _ _ _)
    · exact s.onChan_refl n
  · exact s.onChan_refl n

theorem onChan_streamPageComplete (s : State) (n : Nat) : s.OnChan (opStreamPageComplete s n) n := by
  unfold opStreamPageComplete
  split
  · split
    · extract_lets s1
      have h1 : s.OnChan s1 n := s.onChan_syncTo n _
      refine h1.trans ?_
      split
      · exact (State.onChan_unpinAll _ n _ _).modChan _
      · exact State.onChan_refl _ n
    · exact s.onChan_refl n
  · exact s.onChan_refl n

theorem onChan_markerEventFire (s : State) (n e : Nat) : s.OnChan (opMarkerEventFire s n e) n := by
  unfold opMarkerEventFire
  simp only
  split
  · exact ((s.onChan_syncTo n _).modChan _).modChan _
  · exact s.onChan_refl n

theorem onChan_triggerPulseEnd (s : State) (n : Nat) : s.OnChan (opTriggerPulseEnd s n) n := by
  unfold opTriggerPulseEnd
  split
  · exact s.onChan_modChan n _
  · exact s.onChan_refl n

theorem onChan_ncoRampStep (s : State) (n : Nat) : s.OnChan (opNcoRampStep s n) n := by
  unfold opNcoRampStep
  split
  · next k _ =>
    split
    · extract_lets s1
      have h1 : s.OnChan s1 n := by
        unfold s1
        split
        · exact State.onChan_idleControls n k 64 s
        · exact s.onChan_refl n
      refine h1.trans ?_
      split
      · exact (State.onChan_syncTo s1 n k).modChan _
      · exact State.onChan_refl _ n
    · exact s.onChan_refl n
  · exact s.onChan_refl n

theorem onChan_channelSettingApply (s : State) (n : Nat) : s.OnChan (opChannelSettingApply s n) n := by
  unfold opChannelSettingApply
  split
  · exact s.onChan_syncTo n _
  · exact s.onChan_refl n

theorem onChan_spanApply (s : State) (n : Nat) : s.OnChan (opSpanApply s n) n := by
  unfold opSpanApply
  repeat' split
  all_goals first
    | exact ((s.onChan_syncTo n _).modChan _).trans (State.onChan_applySpan _ n _ _ _)
    | exact s.onChan_refl n

theorem onChan_enablingComplete (s : State) (n : Nat) : s.OnChan (opEnablingComplete s n) n := by
  unfold opEnablingComplete
  split
  · simp only
    split
    · exact (s.onChan_syncTo n _).modChan _
    · exact s.onChan_refl n
  · exact s.onChan_refl n

/-! ## In a command -/

/-- What a channel's event leaves alone. -/
theorem State.onChan_close {u x : State} {n : Nat} (q : List Instr) (h : u.OnChan x n) :
    u.OnChan (u.graft (x.close q)) n := by
  obtain ⟨d, hd⟩ := x.close_eq q
  rw [hd]
  refine ⟨?_, h.2.1, h.2.2.1, h.2.2.2.1, h.2.2.2.2⟩
  have e := congrArg (fun z : State => ({ z with
    pending := u.pending, chans := u.chans, mem := u.mem, card := u.card, sys := u.sys } : State)) h.1
  exact e

end Sys2Proof.Machine
end

