-- ==== Sys2Proof/Laws/Joiner.lean ====
section
/-! SUPPORT. What waking, trapping and enqueuing come to. -/

namespace Sys2Proof.Machine

/-- What only timetable `i` of `x` changes, in a command without an issue. -/
theorem State.onlyTt_close {u x : State} {i : Nat} (q : List Instr) (h : u.OnlyTt x i) : u.SameButTt (x.close q) i := by
  obtain ⟨d, hd⟩ := x.close_eq q
  rw [hd]
  refine ⟨?_, h.2, fun j => ?_⟩
  · exact congrArg (fun y : State => { u.graft y with tts := u.tts, joiners := u.joiners }) h.1
  · have e := congrArg (fun y : State => (u.joiner j).SameStores (y.joiner j)) h.1
    exact e.mpr rfl

theorem State.otherTts_takeSlot {u x : State} {i : Nat} (q : List Instr) (hk : ∀ k, k ≠ i → x.tt k = u.tt k)
    (hj : x.joiners = (u.takeSlot i).joiners) : u.OtherTts (x.close q) i := by
  refine ⟨fun k h => (x.close_tt _ k).trans (hk k h), fun j => ?_⟩
  have e : (x.close q).joiner j = (u.takeSlot i).joiner j := by
    rw [x.close_joiner]; unfold State.joiner; rw [hj]
  rw [e]
  exact u.takeSlot_joiner i j

/-! ## Enqueuing (R66, R67) -/

theorem gangOf_nodup (base : Nat) (mask : BitVec 16) : (gangOf base mask).Nodup :=
  List.Nodup.map (fun _ _ h => Nat.add_left_cancel h) (List.Nodup.filter _ List.nodup_range)

/-- A descriptor as timetable `i` enqueues it to channel `n` in cycle `c`: it crosses in 2 ECLK cycles within its own
tile, else in 10 (R67). -/
def crossing (i n c : Nat) (d : Descriptor) : Descriptor := { d with tt := i, crossCycle := c + if i / 64 = n then 2 else 10 }

/-- One enqueue: the queue of its channel is one descriptor longer. -/
theorem State.enqueue_queue (s : State) (i : Nat) (d : Descriptor) (n : Nat) :
    ((s.enqueue i d n).chan n).queue = (s.chan n).queue ++ [crossing i n s.cycle d] := by
  unfold State.enqueue
  extract_lets c s1
  have h := (s1.onChan_pinAll (n + 1) d.pins).2.1 n (by omega)
  rw [h]
  exact congrArg Channel.queue (s.chan_setChan_self n _)

/-- An enqueue works on its channel and takes pins. -/
theorem State.onChan_enqueue (s : State) (i : Nat) (d : Descriptor) (n : Nat) : s.OnChan (s.enqueue i d n) n :=
  (s.onChan_setChan n _).trans (State.onChan_pinAll _ n _)

theorem State.OnChan.cycle {s x : State} {n : Nat} (h : s.OnChan x n) : x.cycle = s.cycle := by
  have e := congrArg State.cycle h.1; exact e

/-- A gang's enqueues: every channel of it gets the descriptor, every other channel is as it was. -/
theorem State.forAll_enqueue (i : Nat) (d : Descriptor) (ns : List Nat) (hn : ns.Nodup) : ∀ s : State,
    (∀ n ∈ ns, ((s.forAll ns fun s n => s.enqueue i d n).chan n).queue = (s.chan n).queue ++ [crossing i n s.cycle d]) ∧
    (∀ n, n ∉ ns → (s.forAll ns fun s n => s.enqueue i d n).chan n = s.chan n) ∧
    (s.forAll ns fun s n => s.enqueue i d n).mem.bytes = s.mem.bytes ∧
    { (s.forAll ns fun s n => s.enqueue i d n) with chans := s.chans, mem := s.mem, card := s.card, sys := s.sys } = s := by
  induction ns with
  | nil => intro s; exact ⟨fun n h => (by cases h), fun _ _ => rfl, rfl, rfl⟩
  | cons a r ih =>
    intro s
    obtain ⟨h1, h2, h3, h4⟩ := ih (List.Nodup.of_cons hn) (s.enqueue i d a)
    have ha : a ∉ r := (List.nodup_cons.mp hn).1
    have e := s.onChan_enqueue i d a
    refine ⟨fun n hm => ?_, fun n hm => ?_, h3.trans e.2.2.1, ?_⟩
    · rcases List.mem_cons.mp hm with rfl | hm
      · exact (congrArg Channel.queue (h2 n ha)).trans (s.enqueue_queue i d n)
      · have h : n ≠ a := fun h => ha (h ▸ hm)
        refine (h1 n hm).trans ?_
        rw [e.2.1 n h, e.cycle]
    · have : n ≠ a := fun h => hm (h ▸ List.mem_cons_self ..)
      exact (h2 n fun h => hm (List.mem_cons_of_mem _ h)).trans (e.2.1 n this)
    · have := congrArg (fun z : State => ({ z with chans := s.chans, mem := s.mem, card := s.card, sys := s.sys } : State)) h4
      exact Eq.trans this e.1

/-! ## What plays while segment memory changes (R15, R17) -/

theorem State.onPlay_refl (s : State) : s.OnPlay s := ⟨rfl, rfl, rfl, rfl⟩

theorem State.OnPlay.trans {s x y : State} (h : s.OnPlay x) (g : x.OnPlay y) : s.OnPlay y := by
  refine ⟨?_, g.2.1.trans h.2.1, g.2.2.1.trans h.2.2.1, g.2.2.2.trans h.2.2.2⟩
  have e := congrArg (fun z : State => ({ z with chans := s.chans, mem := s.mem, card := s.card, sys := s.sys } : State)) g.1
  exact e.trans h.1

theorem State.OnChan.onPlay {s x : State} {n : Nat} (h : s.OnChan x n) : s.OnPlay x := ⟨h.1, h.2.2.1, h.2.2.2.1, h.2.2.2.2⟩

theorem State.onPlay_forAll {α : Type} (f : State → α → State) (h : ∀ (s : State) (a : α), s.OnPlay (f s a)) (xs : List α) :
    ∀ s : State, s.OnPlay (s.forAll xs f) := by
  induction xs with
  | nil => intro s; exact s.onPlay_refl
  | cons a r ih => intro s; exact (h s a).trans (ih (f s a))

theorem State.onPlay_catchUpAll (s : State) : s.OnPlay s.catchUpAll := by
  refine State.onPlay_forAll _ (fun s n => ?_) _ s
  unfold State.catchUp
  split
  · exact (s.onChan_syncTo n _).onPlay
  · exact s.onPlay_refl

/-- What a write holds back changes no byte of segment memory. -/
theorem State.onPlay_holdFetched (s : State) (a n : Nat) : s.OnPlay (s.holdFetched a n) :=
  s.onPlay_catchUpAll.trans (State.onPlay_forAll _ (fun s n => (s.onChan_modChan n _).onPlay) _ _)

theorem State.onOutput_refl (s : State) : s.OnOutput s := ⟨rfl, rfl⟩

theorem State.OnOutput.trans {s x y : State} (h : s.OnOutput x) (g : x.OnOutput y) : s.OnOutput y := by
  constructor
  · have e := congrArg (fun z : State => ({ z with chans := s.chans, mem := s.mem, card := s.card, sys := s.sys } : State)) g.1
    exact e.trans h.1
  · have e := congrArg (fun z : SegMem => ({ z with ceCount := s.mem.ceCount, ueGranules := s.mem.ueGranules } : SegMem)) g.2
    exact e.trans h.2

theorem State.onOutput_forAll {α : Type} (f : State → α → State) (h : ∀ (s : State) (a : α), s.OnOutput (f s a)) (xs : List α) :
    ∀ s : State, s.OnOutput (s.forAll xs f) := by
  induction xs with
  | nil => intro s; exact s.onOutput_refl
  | cons a r ih => intro s; exact (h s a).trans (ih (f s a))

theorem State.onOutput_modChan (s : State) (n : Nat) (f : Channel → Channel) : s.OnOutput (s.modChan n f) := ⟨rfl, rfl⟩

theorem State.onOutput_render (s : State) (n k : Nat) : s.OnOutput (s.render n k) := by
  unfold State.render
  split
  next c ce ue _ =>
  extract_lets s1
  have h : s.OnOutput s1 := ⟨rfl, rfl⟩
  clear_value s1
  split
  · exact h
  · exact h.trans (y := State.alert _ _) ⟨rfl, rfl⟩

theorem State.onOutput_takeSettings (n k : Nat) (xs : List (Nat × SettingValue)) :
    ∀ s : State, s.OnOutput (s.takeSettings n k xs) := by
  induction xs with
  | nil => intro s; exact s.onOutput_refl
  | cons a r ih =>
    obtain ⟨x, v⟩ := a
    intro s
    simp only [State.takeSettings]
    split
    · exact ((s.onOutput_render n _).trans (State.onOutput_modChan _ n _)).trans (ih _)
    · exact s.onOutput_refl

theorem State.onOutput_settle (s : State) (n k : Nat) : s.OnOutput (s.settle n k) := by
  unfold State.settle
  extract_lets s1
  have h1 : s.OnOutput s1 := by
    unfold s1
    split
    · exact s.onOutput_refl
    · exact State.onOutput_takeSettings n k _ s
  exact (h1.trans (State.onOutput_render _ n k)).trans (State.onOutput_modChan _ n _)

theorem State.onOutput_syncGo (n k : Nat) (fuel : Nat) : ∀ s : State, s.OnOutput (s.syncGo fuel n k) := by
  induction fuel with
  | zero => intro s; exact s.onOutput_settle n k
  | succ m ih =>
    intro s
    have h (k' : Nat) (f : Channel → Channel) : s.OnOutput (State.syncGo m ((s.settle n k').modChan n f) n k) :=
      ((s.onOutput_settle n k').trans (State.onOutput_modChan _ n f)).trans (ih _)
    simp only [State.syncGo]
    split
    · exact s.onOutput_settle n k
    · exact h _ _
    · exact h _ _
    · split <;> exact h _ _

/-- Working out what a channel has put out changes its record, and counts of errors, and nothing else. -/
theorem State.onOutput_syncTo (s : State) (n k : Nat) : s.OnOutput (s.syncTo n k) := State.onOutput_syncGo n _ _ s

theorem State.onOutput_catchUpAll (s : State) : s.OnOutput s.catchUpAll := by
  refine State.onOutput_forAll _ (fun s n => ?_) _ s
  unfold State.catchUp
  split
  · exact s.onOutput_syncTo n _
  · exact s.onOutput_refl

theorem State.onOutput_holdFetched (s : State) (a n : Nat) : s.OnOutput (s.holdFetched a n) :=
  s.onOutput_catchUpAll.trans (State.onOutput_forAll _ (fun s n => s.onOutput_modChan n _) _ _)

theorem State.OnPlay.tts {s x : State} (h : s.OnPlay x) : x.tts = s.tts := by have e := congrArg State.tts h.1; exact e

/-! ## Traps (R82) -/

theorem State.forAll_keeps {α β : Type} (P : State → β) (f : State → α → State) (h : ∀ (s : State) (a : α), P (f s a) = P s)
    (xs : List α) : ∀ s : State, P (s.forAll xs f) = P s := by
  induction xs with
  | nil => intro s; rfl
  | cons a r ih => intro s; exact (ih (f s a)).trans (h s a)

theorem State.OnChan.tts {s x : State} {n : Nat} (h : s.OnChan x n) : x.tts = s.tts := by
  have e := congrArg State.tts h.1; exact e

theorem State.OnChan.joiners {s x : State} {n : Nat} (h : s.OnChan x n) : x.joiners = s.joiners := by
  have e := congrArg State.joiners h.1; exact e

theorem State.flushGang_tts (s : State) (i : Nat) : (s.flushGang i).tts = s.tts :=
  State.forAll_keeps State.tts _ (fun s n => (s.onChan_flushChannel n).tts) _ s

theorem State.sendLinks_tts (s : State) (ls : List Nat) (b : LinkBlock) : (s.sendLinks ls b).tts = s.tts :=
  State.forAll_keeps State.tts (fun s l => s.sendLink l b) (fun _ _ => rfl) ls s

theorem State.enterBroken_tts (s : State) (l : Option Nat) (n : Nat) (p : Byte) : (s.enterBroken l n p).tts = s.tts := by
  unfold State.enterBroken
  split
  · rfl
  · simp only [State.allChans, State.raiseLocal, State.keepBell, apply_ite State.tts, ite_self, State.sendLinks_tts]
    rfl

theorem State.holdBell_tts (s : State) (w : BellWord) (x : Ticks) : (s.holdBell w x).tts = s.tts := by
  unfold State.holdBell
  extract_lets b
  split
  · rfl
  · split
    · split
      · rfl
      · unfold State.lateBreak State.when
        split
        · exact State.enterBroken_tts ..
        · rfl
    · split <;> rfl

theorem State.forwardBell_tts (s : State) (w : BellWord) (but : Option Nat) : (s.forwardBell w but).tts = s.tts :=
  State.forAll_keeps State.tts (fun s l => s.sendBell l w) (fun _ _ => rfl) _ s

theorem State.raiseBell_tts (s : State) (k : Nat) (p : Byte) (o : Ticks) (a b : Nat) (x : Ticks) :
    (s.raiseBell k p o a b x).tts = s.tts := by
  unfold State.raiseBell
  split
  · exact (State.holdBell_tts _ _ _).trans (State.forwardBell_tts _ _ _)
  · rfl

theorem State.writeMem_tts (s : State) (a : Nat) (bs : Bytes) : (s.writeMem a bs).tts = s.tts :=
  (s.onPlay_holdFetched a bs.length).tts

theorem State.writeRecord_tts (s : State) (a b c d e : Nat) : (s.writeRecord a b c d e).tts = s.tts := by
  unfold State.writeRecord
  dsimp only [State.addTraffic]
  exact s.writeMem_tts _ _

theorem State.postRecord_tts (s : State) (a b c d e : Nat) : (s.postRecord a b c d e).tts = s.tts := by
  unfold State.postRecord
  split
  · rfl
  · split
    · dsimp only
    · exact s.writeRecord_tts ..

/-- What a trap does to the timetables. -/
theorem State.trapTt_tts (s : State) (i : Nat) (f : Fetched) (c : TrapCause) (code : Nat) :
    (s.trapTt i f c code).tts = (s.setTt i { s.tt i with
      state := .faulted, wait := .none, held := none
      fault := { cause := c.code, code := BitVec.ofNat 16 code, pc := f.pc, word := f.word, ext := f.ext } }).tts := by
  unfold State.trapTt
  extract_lets s1 s2 cfg s3
  have h2 : s2.tts = s1.tts := State.postRecord_tts ..
  have h3 : s3.tts = s2.tts := by
    unfold s3
    split
    · exact State.raiseBell_tts ..
    · rfl
  have h1 : s1.tts = (s.setTt i { s.tt i with
      state := .faulted, wait := .none, held := none
      fault := { cause := c.code, code := BitVec.ofNat 16 code, pc := f.pc, word := f.word, ext := f.ext } }).tts := rfl
  split
  · rw [State.flushGang_tts, h3, h2, h1]
  · rw [h3, h2, h1]

/-- What a trap does to one timetable. -/
theorem State.trapTt_tt (s : State) (i k : Nat) (f : Fetched) (c : TrapCause) (code : Nat) :
    (s.trapTt i f c code).tt k = if i = k then { s.tt i with
      state := .faulted, wait := .none, held := none
      fault := { cause := c.code, code := BitVec.ofNat 16 code, pc := f.pc, word := f.word, ext := f.ext } } else s.tt k := by
  have h := s.trapTt_tts i f c code
  rw [← State.tt_setTt]
  unfold State.tt at *
  rw [h]

/-! ## Segment memory -/

/-- A byte of segment memory after a write. -/
theorem State.writeMem_byte (s : State) (a i : Nat) (bs : Bytes) :
    cellAt (s.writeMem a bs).mem.bytes i =
      if a ≤ i ∧ i < a + bs.length then bs[i - a]? else cellAt s.mem.bytes i := by
  rw [← (s.onPlay_holdFetched a bs.length).2.1]
  exact cellAt_cellPuts bs _ a i

theorem leBytes_length (n : Nat) : ∀ v, (leBytes n v).length = n := by
  induction n with
  | zero => intro v; rfl
  | succ m ih => intro v; simp [leBytes, ih]

end Sys2Proof.Machine
end

