-- ==== Sys2Proof/Laws/Requests.lean ====
section
/-! SUPPORT. What the host's requests come to: one that the device takes is served and answered. -/

namespace Sys2Proof.Machine

/-- A request out of the mailbox, its bytes counted as network traffic (R19, R210). -/
def State.heard (s : State) (m : OdaMsg) : State :=
  (s.takeMail m.req.port m.req.seq m.req.session).addTraffic (32 + m.data.length)

/-- The state in which a request of session `x` is served: heard of, and in progress. -/
def State.taken (s : State) (m : OdaMsg) (x : Session) : State :=
  ((s.heard m).modSession x.proxy x.id fun y => { y with lastAt := (s.heard m).now }).noteOpen m

/-- A state whose sessions, mailbox and network traffic differ: what the taking of a request changes. -/
def State.withMail (s : State) (ss : List Session) (mb : List Mail) (n : Nat) : State :=
  { s with oda := { s.oda with sessions := ss, mailbox := mb }, net := { s.net with traffic := n } }

/-- The lane that a request came on does not leave the mailbox longer. -/
theorem State.heard_eq (s : State) (m : OdaMsg) :
    ∃ mb, s.heard m = s.withMail s.oda.sessions mb (s.net.traffic + 1000000 * (32 + m.data.length)) := by
  unfold State.heard State.takeMail
  split
  · exact ⟨_, rfl⟩
  · exact ⟨s.oda.mailbox, rfl⟩

/-- Nothing but the sessions, the mailbox and the traffic differs. -/
theorem State.taken_eq (s : State) (m : OdaMsg) (x : Session) :
    ∃ ss mb, s.taken m x = s.withMail ss mb (s.net.traffic + 1000000 * (32 + m.data.length)) := by
  obtain ⟨mb, h⟩ := s.heard_eq m
  unfold State.taken
  rw [h]
  exact ⟨_, mb, rfl⟩

theorem State.session?_keys {s : State} {p : Bool} {i : Word} {x : Session} (h : s.session? p i = some x) :
    x.proxy = p ∧ x.id = i := by
  have := List.find?_some h
  simpa using this

/-- The session found again after a change that keeps its keys. -/
theorem State.session?_modSession {s : State} {p : Bool} {i : Word} {x : Session} (f : Session → Session)
    (hf : ∀ y, (f y).proxy = y.proxy ∧ (f y).id = y.id) (h : s.session? p i = some x) :
    (s.modSession p i f).session? p i = some (f x) := by
  obtain ⟨hp, hi⟩ := State.session?_keys h
  unfold State.session? State.modSession at *
  dsimp only
  rw [List.find?_map]
  have e : ((fun x : Session => decide (x.proxy = p ∧ x.id = i)) ∘ fun x => if x.proxy = p ∧ x.id = i then f x else x)
      = fun x => decide (x.proxy = p ∧ x.id = i) := by
    funext y
    simp only [Function.comp]
    split
    · rw [(hf y).1, (hf y).2]
    · rfl
  rw [e, h]
  simp [hp, hi]

/-- A request that the device takes is served in `taken`. -/
theorem State.handle_serves {s : State} {m : OdaMsg} {x : Session} (h : s.Serves m x) :
    s.handle m = (s.taken m x).serve m := by
  obtain ⟨hp, hi⟩ := State.session?_keys h.session
  have hb : (s.heard m).oda.mailbox.length ≤ s.oda.mailbox.length := by
    unfold State.heard State.takeMail
    split
    · exact List.length_eraseP_le
    · exact Nat.le_refl _
  obtain ⟨mb, he⟩ := s.heard_eq m
  have hs : s.elsewhere m = false := by unfold State.elsewhere; simp [h.here]
  have hv : ((s.heard m).gate m x).verdict = none := by
    have h1 : (s.heard m).elsewhere m = false := by rw [he]; exact hs
    have h2 : (decide (x.version = 1) && (s.heard m).overLimits m) = false := by
      by_cases e : x.version = 1
      · have : (s.heard m).overLimits m = false := by rw [he]; exact h.limits e
        simp [e, this]
      · simp [e]
    have h3 := h.room
    have h6 := h.mail
    have h4 : decide (16 ≤ x.open_.length) = false := decide_eq_false (by omega)
    have h7 : decide (mailboxMax ≤ (s.heard m).oda.mailbox.length) = false := decide_eq_false (by omega)
    unfold State.gate
    have h5 : decide (x.version ≠ x.version) = false := decide_eq_false fun e => e rfl
    have h8 : (s.heard m).routeChecks m x.proxy = [(false, .route), (false, .noDevice)] := by
      unfold State.routeChecks; rw [h1]; rfl
    rw [h8]
    simp only [h.form, h.version, h2, h4, h7, h5]
    rfl
  have hss : (s.heard m).session? (s.fromKing m.req.port) m.req.session = some x := by rw [he]; exact h.session
  have hf : (s.heard m).fromKing m.req.port = s.fromKing m.req.port := by rw [he]; rfl
  unfold State.handle
  simp only [h.port, Bool.not_true, Bool.false_eq_true, if_false]
  show (match (s.heard m).session? ((s.heard m).fromKing m.req.port) m.req.session with
    | some x => (s.heard m).inSession m x
    | none => _) = _
  rw [hf, hss]
  show (s.heard m).inSession m x = _
  unfold State.inSession
  extract_lets now s1 again
  simp only [h.fresh, h.once, Bool.false_eq_true, if_false]
  unfold State.admitRequest
  have hg : s1.gate m x = (s.heard m).gate m x := rfl
  rw [hg, hv]
  have h1 : (s1.noteOpen m).elsewhere m = false := by
    show (s.heard m).elsewhere m = false
    rw [he]; exact hs
  have h2 : (s1.noteOpen m).ringWaits m.req = false := by
    show (s.heard m).ringWaits m.req = false
    rw [he]; exact h.order
  simp only [h1, h2, Bool.false_eq_true, if_false]
  rfl

/-- The session under which a request is served. -/
theorem State.taken_session {s : State} {m : OdaMsg} {x : Session} (h : s.Serves m x) :
    ∃ y, (s.taken m x).session? (s.fromKing m.req.port) m.req.session = some y ∧ y.sel = x.sel ∧ y.proxy = x.proxy
      ∧ y.id = x.id := by
  obtain ⟨hp, hi⟩ := State.session?_keys h.session
  obtain ⟨mb, he⟩ := s.heard_eq m
  have hss : (s.heard m).session? (s.fromKing m.req.port) m.req.session = some x := by rw [he]; exact h.session
  have hf : (s.heard m).fromKing m.req.port = s.fromKing m.req.port := by rw [he]; rfl
  have e : s.taken m x = ((s.heard m).modSession (s.fromKing m.req.port) m.req.session
      fun y => { y with lastAt := (s.heard m).now }).modSession
      (s.fromKing m.req.port) m.req.session fun y => { y with open_ := y.open_ ++ [m.req.seq] } := by
    have hf2 (f : Session → Session) : ((s.heard m).modSession x.proxy x.id f).fromKing m.req.port = s.fromKing m.req.port := hf
    unfold State.taken State.noteOpen
    rw [hf2, hp, hi]
  have h1 := State.session?_modSession (fun y => { y with lastAt := (s.heard m).now }) (fun _ => ⟨rfl, rfl⟩) hss
  have h2 := State.session?_modSession (fun y => { y with open_ := y.open_ ++ [m.req.seq] }) (fun _ => ⟨rfl, rfl⟩) h1
  rw [e]
  exact ⟨_, h2, rfl, rfl, rfl⟩

/-- What a served request leaves: its session, and the reply. -/
theorem State.finish_none (s : State) (m : OdaMsg) (data : Bytes) :
    ∃ ss, s.finish m none data =
      ({ s with oda := { s.oda with sessions := ss } } : State).sendPort m.req.port data.length (s.replyTo m 0 data) := ⟨_, rfl⟩

/-- A state in which an abort is counted (R288, R366). -/
def State.aborted (s : State) (ss : List Session) (a : Abort) : State :=
  { s with
    oda := { s.oda with sessions := ss, aborts := s.oda.aborts + 1 }
    sec := { s.sec with refusals := s.sec.refusals + (if 0x09000000 ≤ a.code then 1 else 0) } }

/-- What an abort leaves: it is counted, and the reply sent. -/
theorem State.finish_some (s : State) (m : OdaMsg) (a : Abort) :
    ∃ ss, s.finish m (some a) [] = (s.aborted ss a).sendPort m.req.port 0 (s.replyTo m a.code []) := ⟨_, rfl⟩

/-- A request that is no MEM_READ leaves what it did, a REF_CMD noted. -/
theorem Served.settled_eq (r : Served) {m : OdaMsg} (h : m.type ≠ 0x20) : r.settled m = r.after.noteCmd m := by
  unfold Served.settled State.when
  rw [decide_eq_false h]; rfl

/-- What is noted of a REF_CMD leaves the rest. -/
theorem State.noteCmd_eq (s : State) {m : OdaMsg} (h : ¬ (m.type = 0x11 ∧ indexOf m = 0x2100 ∧ subOf m = 0x09)) :
    s.noteCmd m = s := if_neg h

/-- A request other than CLOSE that nothing refuses takes effect and is answered. -/
theorem State.handle_served {s : State} {m : OdaMsg} {x : Session} (h : s.Serves m x) (hc : m.type ≠ 0x02)
    (hr : s.holdsRing m = false) :
    ∃ ss mb, ∀ r, r = (s.withMail ss mb (s.net.traffic + 1000000 * (32 + m.data.length))).request m x.sel →
      (r.checks.verdict = none → ∃ ss', s.handle m =
        ({ r.settled m with oda := { (r.settled m).oda with sessions := ss' } } : State).sendPort m.req.port r.data.length
          ((r.settled m).replyTo m 0 r.data)) ∧
      (∀ a, r.checks.verdict = some a → ∃ ss', s.handle m =
        ((r.refused a).aborted ss' a).sendPort m.req.port 0 ((r.refused a).replyTo m a.code [])) := by
  rw [State.handle_serves h]
  obtain ⟨y, hy, hsel, hp, hi⟩ := State.taken_session h
  obtain ⟨ss, mb, hs⟩ := s.taken_eq m x
  refine ⟨ss, mb, fun r hr' => ?_⟩
  rw [← hs, ← hsel] at hr'
  have hk : (s.taken m x).fromKing m.req.port = s.fromKing m.req.port := by rw [hs]; rfl
  have hh : (s.taken m x).holdsRing m = false := by rw [hs]; exact hr
  unfold State.serve
  extract_lets proxy
  have e : (s.taken m x).session? proxy m.req.session = some y := by rw [← hk] at hy; exact hy
  rw [e]
  simp only [hc, if_false, ← hr']
  constructor
  · intro hv
    rw [hv]
    simp only [hh, Bool.false_eq_true, if_false]
    obtain ⟨ss', e'⟩ := ((r.settled m).modSession proxy y.id fun z => { z with sel := r.sel }).finish_none m r.data
    exact ⟨ss', e'⟩
  · intro a hv
    rw [hv]
    obtain ⟨ss', e'⟩ := (r.refused a).finish_some m a
    exact ⟨ss', e'⟩

/-- What a WRITE of element `e` of an entry does to the device. -/
def State.storeOf (s : State) (ix sub e : Nat) (en : Entry) (data : Bytes) (z : Word) : Act :=
  if en.type = .domain ∨ en.type = .string then s.writeBlob ix sub e data else s.writeNum ix sub e (leNat data) z

/-- A WRITE of an entry that no selector of the session holds. -/
theorem State.hostWrite_store {s u : State} {r : Req} {x : Session} {ix sub : Nat} {data : Bytes} (t : Nat) (en : Entry)
    (hu : u = s.advance t) (h : u.Writes r x ix sub data) (he : u.entry? ix sub = some en)
    (hix : ix < 0x3000) (hsub : sub < 256) (hs : isSelector ix sub = false)
    (ha : en.access ≠ .ro ∧ en.access ≠ .rc)
    (hl : en.lo ≤ data.length ∧ data.length ≤ en.hi) (hb : en.type = .bool → leNat data ≤ 1)
    (hx : ¬ (ix = 0x1200 ∧ sub = 4) ∧ ¬ (ix = 0x2300 ∧ sub = 3) ∧ ¬ (ix = 0x2300 ∧ sub = 0x14))
    (hw : ix = 0x2000 ∧ sub = 3 ∧ leNat data / 2 ^ 24 ≠ 1 → u.sys.state ≠ .recess)
    (hr : ¬ (ix = 0x2500 ∧ sub = 9)) (hc : ¬ (ix = 0x2100 ∧ sub = 9)) :
    ∃ ss mb, ∀ a, a = (u.withMail ss mb (u.net.traffic + 1000000 * (32 + data.length))).storeOf ix sub
        (x.sel.element en ix) en data r.session →
      (a.checks.verdict = none → a.after.sys.parity = [] → ∃ ss', s.hostWrite t r ix sub data = .next
        ((({ a.after with oda := { a.after.oda with sessions := ss' } } : State).sendPort r.port 0
          (a.after.replyTo (writeMsg r ix sub data) 0 [])).close s.pending)) ∧
      (∀ b, a.checks.verdict = some b → ∃ ss', s.hostWrite t r ix sub data = .next
        ((((a.refused b).aborted ss' b).sendPort r.port 0
          ((a.refused b).replyTo (writeMsg r ix sub data) b.code [])).close s.pending)) := by
  have h1 : indexOf (writeMsg r ix sub data) = ix := by
    unfold indexOf writeMsg entryWord
    simp only [BitVec.toNat_ofNat]
    omega
  have h2 : subOf (writeMsg r ix sub data) = sub := by
    unfold subOf writeMsg entryWord
    simp only [BitVec.toNat_ofNat]
    omega
  have hh : u.holdsRing (writeMsg r ix sub data) = false := by
    unfold State.holdsRing
    rw [h1, h2]
    have : decide ((writeMsg r ix sub data).type = 0x11 ∧ ix = 0x2500 ∧ sub = 0x09) = false :=
      decide_eq_false fun e => hr e.2
    rw [this]; rfl
  obtain ⟨ss, mb, H⟩ := State.handle_served h.serves (by decide : (0x11 : BitVec 8) ≠ 0x02) hh
  refine ⟨ss, mb, fun a ea => ?_⟩
  have hw' : (decide (ix = 0x2000 ∧ sub = 0x03 ∧ leNat data / 2 ^ 24 ≠ 1) && decide (u.sys.state = .recess)) = false := by
    by_cases e : ix = 0x2000 ∧ sub = 0x03 ∧ leNat data / 2 ^ 24 ≠ 1
    · simp [hw e]
    · rw [decide_eq_false e]; rfl
  have hraw : rawIndex ix = false := decide_eq_false (by omega)
  have hdl : (writeMsg r ix sub data).data.length = data.length := rfl
  rw [hdl] at H
  generalize hs1 : u.withMail ss mb (u.net.traffic + 1000000 * (32 + data.length)) = s1 at H ea
  have hs1' : s1.entry? ix sub = some en := by rw [← hs1]; exact he
  have hrec : s1.sec.recovery = false := by rw [← hs1]; exact h.serves.firmware
  have hreach : s1.outOfReach ix sub = false := by rw [← hs1]; exact h.reach
  have hst : s1.sys.state = u.sys.state := by rw [← hs1]; rfl
  have ea' : a = s1.storeOf ix sub (x.sel.element en ix) en data r.session := ea
  have hreq : s1.request (writeMsg r ix sub data) x.sel = s1.serveWrite x.sel ix sub data r.session := by
    show s1.serveWrite x.sel (indexOf _) (subOf _) _ _ = _
    rw [h1, h2]; rfl
  have hfind : s1.find ix sub = some en := by
    unfold State.find; rw [hrec, hs1']; rfl
  have hwe : s1.writeEntry x.sel ix sub en data r.session
      = (s1.writeAt ix sub (x.sel.element en ix) en data r.session).served x.sel [] := by
    unfold State.writeEntry
    simp only [hraw, hs, Bool.false_eq_true, if_false]
    split
    · exact absurd ⟨rfl, rfl⟩ hx.1
    · exact absurd ⟨rfl, rfl⟩ hx.2.1
    · exact absurd ⟨rfl, rfl⟩ hx.2.2
    · rfl
  have hacc : decide (en.access = .ro ∨ en.access = .rc) = false := decide_eq_false fun e => e.elim ha.1 ha.2
  have hlen : decide (data.length < en.lo ∨ en.hi < data.length) = false := decide_eq_false (by omega)
  have hbool : decide (en.type = .bool ∧ 1 < leNat data) = false :=
    decide_eq_false fun e => absurd (hb e.1) (by omega)
  obtain ⟨H1, H2⟩ := H _ rfl
  have hnote (z : Served) : z.settled (writeMsg r ix sub data) = z.after := by
    rw [Served.settled_eq z (show (0x11 : BitVec 8) ≠ 0x20 by decide), State.noteCmd_eq z.after]
    rw [h1, h2]; exact fun e => hc e.2
  rw [hnote] at H1
  rw [hreq] at H1 H2
  unfold State.serveWrite at H1 H2
  rw [hfind] at H1 H2
  dsimp only at H1 H2
  rw [hwe] at H1 H2
  unfold State.writeAt Act.served at H1 H2
  unfold State.storeOf at ea'
  simp only [← ea', hreach, hst, hw', hrec, Bool.and_false, hacc, hlen] at H1 H2
  have hfold : ∀ cs : Checks, Checks.verdict ((false, Abort.wrongState) :: (false, .wrongState) :: (false, .range) ::
      ([] ++ ([(false, .access), (false, .length), rangeIf false] ++ cs))) = cs.verdict := fun cs => rfl
  rw [hbool, hfold] at H1 H2
  unfold State.hostWrite always
  rw [← hu]
  constructor
  · intro hv hpar
    have hfp : a.after.freshParity ix sub (x.sel.element en ix) = a.after := by
      unfold State.freshParity; rw [if_pos hpar]
    rw [hfp] at H1
    obtain ⟨ss', e⟩ := H1 hv
    exact ⟨ss', congrArg (fun y : State => Host.Outcome.next (y.close s.pending)) e⟩
  · intro b hv
    obtain ⟨ss', e⟩ := H2 b hv
    exact ⟨ss', congrArg (fun y : State => Host.Outcome.next (y.close s.pending)) e⟩

/-- Entries in use outside recovery do not depend on the state. -/
theorem State.entry?_normal {s : State} (h : s.sec.recovery = false) (ix sub : Nat) :
    s.entry? ix sub = State.reset.entry? ix sub := by
  unfold State.entry? State.entriesAt
  rw [h]; rfl

/-- A BOOL or integer entry of the registers that a host may write, held by no session and with no rule of its own for
requests. -/
def plainEntry (ix sub : Nat) (en : Entry) : Bool :=
  decide (State.reset.entry? ix sub = some en ∧ ix < 0x3000 ∧ sub < 256 ∧ isSelector ix sub = false
    ∧ en.type ≠ .domain ∧ en.type ≠ .string ∧ en.access ≠ .ro ∧ en.access ≠ .rc
    ∧ ¬ (ix = 0x1200 ∧ sub = 4) ∧ ¬ (ix = 0x2300 ∧ sub = 3) ∧ ¬ (ix = 0x2300 ∧ sub = 0x14) ∧ ¬ (ix = 0x2500 ∧ sub = 9)
    ∧ ¬ (ix = 0x2000 ∧ sub = 3) ∧ ¬ (ix = 0x2100 ∧ sub = 9))

theorem State.hostWrite_plain {s u : State} {r : Req} {x : Session} {ix sub : Nat} {data : Bytes} (t : Nat) (en : Entry)
    (hu : u = s.advance t) (he : plainEntry ix sub en = true) (h : u.Writes r x ix sub data)
    (hl : en.lo ≤ data.length ∧ data.length ≤ en.hi) (hb : en.type = .bool → leNat data ≤ 1) :
    ∃ ss mb, ∀ a, a = (u.withMail ss mb (u.net.traffic + 1000000 * (32 + data.length))).writeNum ix sub
        (x.sel.element en ix) (leNat data) r.session →
      (a.checks.verdict = none → a.after.sys.parity = [] → ∃ ss', s.hostWrite t r ix sub data = .next
        ((({ a.after with oda := { a.after.oda with sessions := ss' } } : State).sendPort r.port 0
          (a.after.replyTo (writeMsg r ix sub data) 0 [])).close s.pending)) ∧
      (∀ b, a.checks.verdict = some b → ∃ ss', s.hostWrite t r ix sub data = .next
        ((((a.refused b).aborted ss' b).sendPort r.port 0
          ((a.refused b).replyTo (writeMsg r ix sub data) b.code [])).close s.pending)) := by
  obtain ⟨h1, h2, h3, h4, h5, h6, h7, h8, h9, h10, h11, h12, h13, h14⟩ := of_decide_eq_true he
  have := State.hostWrite_store t en hu h ((State.entry?_normal h.serves.firmware ix sub).trans h1) h2 h3 h4 ⟨h7, h8⟩ hl hb
    ⟨h9, h10, h11⟩ (fun e => absurd ⟨e.1, e.2.1⟩ h13) h12 h14
  unfold State.storeOf at this
  simpa only [if_neg (fun e : en.type = .domain ∨ en.type = .string => e.elim h5 h6)] using this

/-- A DOMAIN entry that a host may write and that no session holds. -/
def blobEntry (ix sub : Nat) (en : Entry) : Bool :=
  decide (State.reset.entry? ix sub = some en ∧ ix < 0x3000 ∧ sub < 256 ∧ isSelector ix sub = false
    ∧ en.type = .domain ∧ en.access ≠ .ro ∧ en.access ≠ .rc
    ∧ ¬ (ix = 0x1200 ∧ sub = 4) ∧ ¬ (ix = 0x2300 ∧ sub = 3) ∧ ¬ (ix = 0x2300 ∧ sub = 0x14) ∧ ¬ (ix = 0x2500 ∧ sub = 9)
    ∧ ¬ (ix = 0x2000 ∧ sub = 3) ∧ ¬ (ix = 0x2100 ∧ sub = 9))

theorem State.hostWrite_blob {s u : State} {r : Req} {x : Session} {ix sub : Nat} {data : Bytes} (t : Nat) (en : Entry)
    (hu : u = s.advance t) (he : blobEntry ix sub en = true) (h : u.Writes r x ix sub data) (hl : en.lo ≤ data.length ∧ data.length ≤ en.hi) :
    ∃ ss mb, ∀ a, a = (u.withMail ss mb (u.net.traffic + 1000000 * (32 + data.length))).writeBlob ix sub
        (x.sel.element en ix) data →
      (a.checks.verdict = none → a.after.sys.parity = [] → ∃ ss', s.hostWrite t r ix sub data = .next
        ((({ a.after with oda := { a.after.oda with sessions := ss' } } : State).sendPort r.port 0
          (a.after.replyTo (writeMsg r ix sub data) 0 [])).close s.pending)) ∧
      (∀ b, a.checks.verdict = some b → ∃ ss', s.hostWrite t r ix sub data = .next
        ((((a.refused b).aborted ss' b).sendPort r.port 0
          ((a.refused b).replyTo (writeMsg r ix sub data) b.code [])).close s.pending)) := by
  obtain ⟨h1, h2, h3, h4, h5, h7, h8, h9, h10, h11, h12, h13, h14⟩ := of_decide_eq_true he
  have := State.hostWrite_store t en hu h ((State.entry?_normal h.serves.firmware ix sub).trans h1) h2 h3 h4 ⟨h7, h8⟩ hl
    (fun e => by rw [h5] at e; cases e) ⟨h9, h10, h11⟩ (fun e => absurd ⟨e.1, e.2.1⟩ h13) h12 h14
  unfold State.storeOf at this
  simpa only [if_pos (show en.type = .domain ∨ en.type = .string from .inl h5)] using this

/-- TT_CMD by its value. -/
theorem State.writeNum_ttCmd (s : State) (e v : Nat) (z : Word) : s.writeNum 0x2300 0x05 e v z = s.ttCmd e v := by
  unfold State.writeNum; rfl

theorem State.forAll_send (ms : List OutMsg) : ∀ s : State, s.forAll ms State.send = { s with out := s.out ++ ms } := by
  induction ms with
  | nil => intro s; show s = _; rw [List.append_nil]
  | cons m r ih =>
    intro s
    refine (ih (s.send m)).trans ?_
    show ({ s with out := (s.out ++ [m]) ++ r } : State) = _
    rw [List.append_assoc]; rfl

/-- What a message sent leaves in the lanes and among the messages sent depends on these, the quads and the time only.
-/
theorem State.sendPort_congr {a y : State} (ho : a.out = y.out) (hl : a.lanes = y.lanes) (hq : a.quads = y.quads)
    (hn : a.now = y.now) (p : Port) (n : Nat) (m : OutMsg) :
    (a.sendPort p n m).out = (y.sendPort p n m).out ∧ (a.sendPort p n m).lanes = (y.sendPort p n m).lanes := by
  have e : a = { y with
      time := a.time, eclk := a.eclk, sys := a.sys, oda := a.oda, cfg := a.cfg, mem := a.mem, net := a.net
      joiners := a.joiners, tts := a.tts, stops := a.stops, woken := a.woken, evr := a.evr, chans := a.chans
      bays := a.bays, cores := a.cores, ref := a.ref, synM := a.synM, synA := a.synA, outs := a.outs, ramp := a.ramp
      truss := a.truss, mgmt := a.mgmt, tiu := a.tiu, plumb := a.plumb, sec := a.sec, card := a.card
      recess := a.recess, draws := a.draws, serial := a.serial, pending := a.pending } := by
    rw [← ho, ← hl, ← hq, ← hn]
  rw [e]
  cases p with
  | lane l =>
    unfold State.sendPort State.sendBlocks State.when State.runLane
    simp only [State.forAll_send, apply_ite State.out, apply_ite State.lanes]
    exact ⟨rfl, rfl⟩
  | _ => exact ⟨rfl, rfl⟩

/-- A reply after which the command ends: what `Replies` says of it, `y` being the state before the reply. -/
theorem State.replies_close {y a : State} {m : OdaMsg} {c : Nat} {d : Bytes} (q : List Instr)
    (ho : a.out = y.out) (hl : a.lanes = y.lanes) (hq : a.quads = y.quads) (hn : a.now = y.now)
    (hd : ((a.sendPort m.req.port d.length (a.replyTo m c d)).close q).replyTo m c d = a.replyTo m c d) :
    y.Replies ((a.sendPort m.req.port d.length (a.replyTo m c d)).close q) m c d := by
  unfold State.Replies
  rw [hd, State.close_out, State.close_lanes]
  exact State.sendPort_congr ho hl hq hn _ _ _

end Sys2Proof.Machine
end

