-- ==== Sys2Proof/Machine/Ports.lean ====
section
/-! DEFINITION. What stands at the device's ports: in operation, from POR until boot ends (R308, R321), in recess
(R355) and under a TAP instruction that controls the pins (R372, R373); ALERT_N (R320); and the TAP's registers
(R372). -/

namespace Sys2Proof.Machine

/-! ## ALERT_N (R320) -/

/-- ALERT_N is driven low: a bit of ALERT_STATUS [31:16] that ALERT_MASK enables is set, or FAULT_SAFE is, or a cause of
FAULT-SAFE has come about in recess (R325); it is released in a held reset and in BOOT. -/
def State.alertLow (s : State) : Bool :=
  !s.held && decide (s.sys.state ≠ .boot)
    && (s.recess.faulted
      || decide (s.sys.alertBits &&& (((s.sys.alertMask >>> 16).setWidth 16) ||| 0x8000#16) ≠ 0))

/-! ## Ports (R308, R321, R355) -/

/-- The ports stand as POR leaves them: from the first rail rising, or RST_N, until boot ends. -/
def State.portsShut (s : State) : Bool := s.held || decide (s.sys.state = .boot)

/-- The outputs take high impedance as a whole: RECESS_HIGHZ, or a rail fault during recess (R325, R355). -/
def State.recessHighz (s : State) : Bool := decide (s.sys.state = .recess) && s.recess.highz

/-- What the pair AOUTn carries: nothing in high impedance, else the currents of its legs. In recess they are those of
the last code switched into its core as the clocks halted, which has left the digital path earlier (R128), and zero
differential while MUTED (R355). -/
def State.aout (s : State) (n : Nat) : Option Legs :=
  let c := s.chan n
  if s.portsShut || s.recessHighz || !s.taking n then none
  else if s.sys.state = .recess then
    some (if c.state = .muted then mutedLegs c.span
      else c.legsAt (s.ballSample n s.recess.at_) ((Config.freeValue s.recess.draw 94).getLsbD 0))
  else some (s.pairLegs n)

/-- A pin of the device. -/
inductive PinState where
  /-- an input, or an output in high impedance -/
  | highZ
  /-- driven to a level -/
  | level (b : Bool)
  /-- driven by a clock that runs -/
  | clock
  /-- driven by the port's own traffic: the blocks of a lane, the transfers of the boot flash -/
  | traffic
  /-- IEEE 1149.6 pulses -/
  | pulses
  /-- IEEE 1149.6 trains -/
  | trains
  deriving DecidableEq, Repr

/-- A scanned pin with data cell `data` and enable cell `enable`, outside PIN control as `x`. HIGHZ (0x06) opens every
scanned output; EXTEST, its two forms and CLAMP drive them from the register (R372, R373). -/
def State.pin (s : State) (data enable : Nat) (x : PinState) : PinState :=
  if s.recess.ir = 0x06 then .highZ
  else if s.recess.pinControl then
    if s.recess.scan.getLsbD enable then .level (s.recess.scan.getLsbD data) else .highZ
  else x

/-- MK port `q`: an output drives its level, or in recess the level at the freeze (R127, R175, R355). -/
def State.mkPin (s : State) (q : Nat) : PinState :=
  s.pin (193 + 3 * q) (194 + 3 * q) <|
    if s.portsShut || s.recessHighz || !bitOf (s.mkCfgOf q) 16 then .highZ
    else .level (s.mkDriven q (if s.sys.state = .recess then s.recess.at_ else s.now))

/-- CLKOUTk: a disabled output, and one that its ceiling guard has gated, stands low (R158, R160). The level of an
output that SYN-A gates, and the one that a clock had at the freeze (R355), the spec leaves open: free values
(assumption log 2). -/
def State.clkoutPin (s : State) (k : Nat) : PinState :=
  let o := s.output (76 + k)
  s.pin (240 + 2 * k) (241 + 2 * k) <|
    if s.portsShut || s.recessHighz then .highZ
    else if !o.en || o.ceilGated then .level false
    else if s.synRuns .A && decide (s.sys.state ≠ .recess) then .clock
    else .level ((Config.freeValue s.recess.draw (500 + k)).getLsbD 0)

/-- The transmitter of lane `l` of its own is electrically idle: until boot ends, in recess, and while its quad is disabled
or OFF (R204, R308, R355). -/
def State.laneIdle (s : State) (l : Nat) : Bool :=
  s.portsShut || decide (s.sys.state = .recess) || !(s.laneQuad l).en || decide ((s.laneQuad l).mode = modeOff)

/-- The transmitter of lane `l`: electrically idle (high impedance), its traffic, or what a TAP instruction makes it send
(R372). -/
def State.txPin (s : State) (l : Nat) : PinState :=
  match s.pin (4 * l + 2) (4 * l + 3) (if s.laneIdle l then .highZ else .traffic) with
  | .level b => if s.recess.ir = 0x03 then .pulses else if s.recess.ir = 0x04 then .trains else .level b
  | x => x

/-- The transmitter of lane `l` is electrically idle. -/
def State.txIdle (s : State) (l : Nat) : Bool := decide (s.txPin l = .highZ)

/-- SPI_CLK and SPI_CS_N (`k` 0, 1), and SPI_IO0 to SPI_IO3 (`i`): the boot flash's, but under PIN control (R314,
R372). -/
def State.spiPin (s : State) (k : Nat) : PinState := s.pin (248 + 2 * k) (249 + 2 * k) .traffic
def State.spiIo (s : State) (i : Nat) : PinState := s.pin (253 + 3 * i) (254 + 3 * i) .traffic

/-- TINc's legs are terminated with 50 Ohm (R225, R308). -/
def State.tinTerminated (s : State) (c : Nat) : Bool := !s.portsShut && bitOf (s.slot c).cfg.toNat 23

/-- ALERT_N pulls its ball low: under PIN control, where its cell holds 1 (R372). -/
def State.alertPin (s : State) : PinState :=
  let low := if s.recess.ir = 0x06 then false
    else if s.recess.pinControl then s.recess.scan.getLsbD 267 else s.alertLow
  if low then .level false else .highZ

/-! ## The TAP (R372) -/

/-- TAP instructions. -/
inductive TapInstr where
  | extest | idcode | sample | extestPulse | extestTrain | clamp | highz | captureRead | bypass
  deriving DecidableEq, Repr

/-- The instruction of a code; every code not listed acts as BYPASS. -/
def tapInstr (ir : BitVec 8) : TapInstr :=
  match ir.toNat with
  | 0x00 => .extest
  | 0x01 => .idcode
  | 0x02 => .sample
  | 0x03 => .extestPulse
  | 0x04 => .extestTrain
  | 0x05 => .clamp
  | 0x06 => .highz
  | 0x20 => .captureRead
  | _ => .bypass

/-- The identification register: version 1 (stepping B0), part 0x6448, Novinward's identity 0x2B5, and 1. -/
def tapId : Word := BitVec.ofNat 32 (0x1 * 2 ^ 28 + 0x6448 * 2 ^ 12 + 0x2B5 * 2 + 1)

/-- Bits of the register that an instruction selects: boundary scan, identification, capture or bypass. -/
def tapBits : TapInstr → Nat
  | .idcode => 32
  | .captureRead => 32
  | .clamp => 1
  | .highz => 1
  | .bypass => 1
  | _ => 268

end Sys2Proof.Machine
end

