-- ==== Sys2Proof/WellFormed.lean ====
section
/-! DEFINITION. Well-formed commands: what the spec says of an operand that its Lean type does not already say. An
ill-formed command is one that nothing outside the device can bring about; `exec` gives every command a meaning all the
same. -/

namespace Sys2Proof

/-- Data of an ODA message: at most 8,960 bytes (R284). -/
def requestData (data : Bytes) : Bool := decide (data.length ≤ 8960)

/-- The result of a run names all 63 cells (R254). -/
def PlumbResult.wf : PlumbResult → Bool
  | .amp cells _ _ => decide (cells.length = 63)
  | .time _ => true

/-- A port that carries IPv4: an ETH port, or the management port (R212, R284). -/
def Port.hosts : Port → Bool
  | .lane _ => false
  | _ => true

/-- A command that the outside world can bring. -/
def Instr.wf (i : Instr) : Bool :=
  match i with
  | .nop _ _ => true
  | .halt _ _ => true
  | .yield _ _ => true
  | .sleep _ _ => true
  | .play _ _ => true
  | .playn _ _ => true
  | .playg _ _ => true
  | .strm _ _ => true
  | .loop _ _ => true
  | .endl _ _ => true
  | .brk _ _ => true
  | .jmp _ _ => true
  | .jcc _ _ => true
  | .jbel _ _ => true
  | .wbel _ _ => true
  | .wtime _ _ => true
  | .ring _ _ => true
  | .clrb _ _ => true
  | .post _ _ => true
  | .trap _ _ => true
  | .rsvdOpcode _ _ => true
  | .setf _ _ => true
  | .setp _ _ => true
  | .ramp _ _ => true
  | .prst _ _ => true
  | .mode _ _ => true
  | .gain _ _ => true
  | .offs _ _ => true
  | .span _ _ => true
  | .mark _ _ => true
  | .trgo _ _ => true
  | .esc _ _ => true
  | .gang _ _ => true
  | .li _ _ => true
  | .add _ _ => true
  | .sub _ _ => true
  | .and _ _ => true
  | .or _ _ => true
  | .xor _ _ => true
  | .shf _ _ => true
  | .cmp _ _ => true
  | .ld _ _ => true
  | .st _ _ => true
  | .queueRoomWake _ _ => true
  | .wpJobSlotWake _ _ => true
  | .wpSyncWake _ _ => true
  | .evrSlotWake _ _ => true
  | .bellAdmit _ _ => true
  | .wpJobComplete _ _ => true
  | .ttStart _ _ => true
  | .ttStop _ _ => true
  | .ttFlush _ _ => true
  | .ttClear _ _ => true
  | .leaderWrite _ _ data => requestData data
  | .ttGangWrite _ _ data => requestData data
  | .queueLimitWrite _ _ data => requestData data
  | .evrTailWrite _ _ data => requestData data
  | .evrEnableWrite _ _ data => requestData data
  | .codeDataWrite _ _ data => requestData data
  | .codeDataRead _ _ => true
  | .sharedDataWrite _ _ data => requestData data
  | .sharedDataRead _ _ => true
  | .segEntryWrite _ _ data => requestData data
  | .mprogEntryWrite _ _ data => requestData data
  | .ringEntryWrite _ _ data => requestData data
  | .bulkWindowWrite _ _ _ data => requestData data
  | .patrolScrub _ _ _ => true
  | .bulkWrite _ _ _ => true
  | .claim _ _ => true
  | .release _ _ => true
  | .handover _ _ => true
  | .reclaim _ _ => true
  | .handoverComplete _ _ => true
  | .descriptorVisible _ _ => true
  | .descriptorStart _ _ => true
  | .descriptorEnd _ _ => true
  | .repetitionEnd _ _ => true
  | .timegateOpen _ _ => true
  | .escapeArmed _ _ => true
  | .escapeFire _ _ => true
  | .escapeEnd _ _ => true
  | .streamCheck _ _ => true
  | .underrunRecheck _ _ => true
  | .streamPageComplete _ _ => true
  | .markerEventFire _ _ _ => true
  | .triggerPulseEnd _ _ => true
  | .ncoRampStep _ _ => true
  | .muteEnd _ _ => true
  | .channelSettingApply _ _ => true
  | .spanApply _ _ => true
  | .channelSettingWrite _ _ _ _ data => requestData data
  | .ftwHiWrite _ _ _ data => requestData data
  | .spanCfgWrite _ _ _ data => requestData data
  | .channelEnable _ _ _ data => requestData data
  | .enablingComplete _ _ => true
  | .channelDisable _ _ _ data => requestData data
  | .faultClr _ _ _ data => requestData data
  | .detectorTrip _ _ _ => true
  | .settleInEnd _ _ => true
  | .fadeInEnd _ _ => true
  | .settleOutEnd _ _ => true
  | .fadeOutEnd _ _ => true
  | .refFreqWrite _ _ data => requestData data
  | .refinLoss _ => true
  | .refinGateEnd _ _ _ => true
  | .refinQualified _ => true
  | .refStepMeasured _ _ => true
  | .slewComplete _ => true
  | .xtalGateEnd _ _ => true
  | .ppsEdge _ _ => true
  | .alignTimeout _ => true
  | .alignSrcWrite _ _ data => requestData data
  | .synEnable _ _ _ => true
  | .synDisable _ _ _ => true
  | .lockDeclared _ _ _ => true
  | .lossOfLock _ _ _ => true
  | .lockRetry _ _ => true
  | .settleComplete _ _ => true
  | .alignmentEdge _ _ => true
  | .outputRelease _ _ => true
  | .ceilingTrip _ _ => true
  | .bandTableWrite _ _ _ data => requestData data
  | .outputEnable _ _ _ data => requestData data
  | .outputDisable _ _ _ data => requestData data
  | .outDelayWrite _ _ _ data => requestData data
  | .fineDelayStep _ _ => true
  | .refCmdSlew _ _ => true
  | .refCmdHop _ _ => true
  | .synaRampStart _ _ => true
  | .synaRampStop _ _ => true
  | .synaRampBellStart _ => true
  | .synaRampStep _ => true
  | .mkEdge _ _ _ _ _ => true
  | .bellRing _ _ data => requestData data
  | .bellRingAccept _ => true
  | .bellArrival _ _ _ => true
  | .bellRelease _ => true
  | .bellPass _ => true
  | .horizonWrite _ _ data => requestData data
  | .bellOwnerWrite _ _ data => requestData data
  | .epochCmdNow _ _ => true
  | .epochCmdPps _ _ => true
  | .trussResume _ _ => true
  | .trussResetCmd _ _ => true
  | .settingSwitch _ => true
  | .settingsBlockRx _ _ _ => true
  | .trussReset _ => true
  | .trussTimeRecovery _ _ => true
  | .timeSnapshot _ _ => true
  | .heartbeatSend _ _ => true
  | .heartbeatRx _ _ _ => true
  | .linkLost _ _ => true
  | .breakBlockRx _ _ _ => true
  | .breakPolicyApply _ _ => true
  | .clockRecoveryLock _ _ => true
  | .signalTimeout _ _ => true
  | .codewordAligned _ _ => true
  | .blockLockTimeout _ _ => true
  | .trainBlockRx _ _ _ => true
  | .capabilityRetry _ _ => true
  | .rateLocked _ _ => true
  | .timeBlockRx _ _ _ _ _ => true
  | .delayComplete _ _ => true
  | .timeTransferRx _ _ _ => true
  | .joinReportRx _ _ _ => true
  | .joinAdmitRx _ _ _ => true
  | .joinRefuseRx _ _ _ => true
  | .deviceNumWrite _ _ data => requestData data
  | .linkCfgWrite _ _ data => requestData data
  | .badBlockRx _ _ _ => true
  | .creditBlockRx _ _ _ => true
  | .quadEnable _ _ data => requestData data
  | .quadDisable _ _ data => requestData data
  | .dataBlockRx _ _ _ => true
  | .ethFrameRx _ _ f => decide (0 < f.length)
  | .arpRequest _ p f => p.hosts && (match f.carries with | .arp _ => true | _ => false)
  | .icmpEchoRequest _ p f => p.hosts && (match f.carries with | .echo _ => true | _ => false)
  | .laneTestStart _ _ data => requestData data
  | .laneTestEnd _ _ => true
  | .odaOpen _ _ _ => true
  | .odaClose _ _ => true
  | .odaRead _ _ _ => true
  | .odaWrite _ _ _ data => requestData data
  | .odaDescribe _ _ _ => true
  | .memRead _ _ _ _ => true
  | .odaUndefinedType _ _ _ => true
  | .odaBadMessageDiscard _ => true
  | .sessionTimeout _ _ => true
  | .routedReplyRx _ _ _ _ data => requestData data
  | .routeTimeout _ _ _ => true
  | .rawWrite _ _ _ _ data => requestData data
  | .w1Write _ _ _ data => requestData data
  | .parityScrub _ _ _ _ => true
  | .cfgSave _ _ => true
  | .cfgBuild _ _ => true
  | .cfgInstall _ _ => true
  | .cfgCmdComplete _ => true
  | .cfgDataWrite _ _ data => requestData data
  | .cfgDataRead _ _ => true
  | .railWarning _ _ => true
  | .railFault _ _ => true
  | .por _ => true
  | .porRelease _ => true
  | .bootComplete _ f => decide (f.coreTemps.length = 72)
  | .droop _ _ => true
  | .droopRelease _ => true
  | .eclkReleaseStep _ => true
  | .sysStandby _ _ => true
  | .sysWake _ _ => true
  | .sysShutdown _ _ => true
  | .sysSafe _ _ => true
  | .overtemp _ => true
  | .rstNAssert _ => true
  | .rstNRelease _ => true
  | .warmReset _ _ _ => true
  | .warmResetBegin _ => true
  | .watchdogReset _ => true
  | .channelReset _ _ _ => true
  | .joinerReset _ _ _ => true
  | .joinerResetComplete _ _ => true
  | .laneReset _ _ _ => true
  | .fwInstall _ _ => true
  | .fwInstallComplete _ => true
  | .advanceRollback _ _ => true
  | .ownerKeyDigestWrite _ _ data => requestData data
  | .ownerPolicyWrite _ _ data => requestData data
  | .codeLoad _ _ => true
  | .codeLoadComplete _ => true
  | .attestStatementReq _ _ => true
  | .attestTrimsReq _ _ => true
  | .attestComplete _ => true
  | .recErase _ _ => true
  | .recWrite _ _ data => requestData data
  | .recVerify _ _ => true
  | .rcSavePeriodic _ => true
  | .rcSaveAfterBoot _ => true
  | .rcSaveCmd _ _ => true
  | .rcSaveComplete _ => true
  | .tempHistTick _ _ => true
  | .ageingMeasurement _ die pairs =>
    decide (pairs.length = if die = 0 then 4 else 2) && pairs.all fun f => decide (f.2 ≠ 0)
  | .frzNLow _ => true
  | .recessBell _ => true
  | .recessCmd _ _ => true
  | .captureReady _ => true
  | .captureDataRead _ _ => true
  | .tapInstructionUpdate _ _ => true
  | .tapCaptureRead _ => true
  | .tapReset _ => true
  | .tiuEdge _ _ _ _ => true
  | .stampDrain _ => true
  | .tiuStart _ _ => true
  | .tiuStop _ _ => true
  | .tiuClear _ _ => true
  | .tiuArm _ _ => true
  | .streamTailWrite _ _ data => requestData data
  | .tclkUngate _ => true
  | .codeDensityStart _ _ _ => true
  | .codeDensityComplete _ _ hits _ => hits.all fun p => p.2.all fun q => decide (q.1 < 4096)
  | .plumbRunCmd _ _ _ _ => true
  | .plumbClearFailed _ _ _ => true
  | .plumbCancel _ _ => true
  | .plumbTempTrigger _ _ _ => true
  | .plumbPeriodicTrigger _ => true
  | .plumbStart _ _ => true
  | .plumbRunComplete _ _ m => m.wf
  | .plumbModeWrite _ _ data => requestData data
  | .ybCommit _ _ => true
  | .commitComplete _ _ => true
  | .fuseHoldupLost _ => true
  | .holdupTest _ _ => true
  | .ethLinkUp _ _ => true
  | .ethLinkDown _ _ => true
  | .advanceRollbackComplete _ => true

end Sys2Proof
end

