-- ==== Sys2Proof/Tests/Slice0.lean ====
section
/-! SUPPORT. Tests: ill-formed commands that the checks refuse, and for every statement states and operands that meet the
hypotheses of each of its clauses. -/

namespace Sys2Proof.Tests

open Sys2Proof.Machine

/-- A request header on the management port. -/
def req : Req := { port := .mgmt, ver := 1, device := 0, seq := 1, session := 1 }

/-! ## Well-formedness -/

/-- A request may not carry more than 8,960 bytes (R284), whatever they are. -/
theorem test_wf_long_write (t : Nat) (data : Bytes) (h : data.length = 8961) : (Instr.leaderWrite t req data).wf = false := by
  simp [Instr.wf, requestData, h]

/-- The longest request is in order (R284). -/
theorem test_wf_longest_write (t : Nat) (data : Bytes) (h : data.length = 8960) : (Instr.leaderWrite t req data).wf = true := by
  simp [Instr.wf, requestData, h]

/-- A frame carries bytes; an ARP request is a frame that asks for an address (R212, R213). -/
theorem test_wf_empty_frame :
    (Instr.ethFrameRx 0 0 { length := 0, fcsOk := true, dst := 0, vlans := [], carries := .other, src := 0 }).wf = false := by
  decide
theorem test_wf_arp_asks :
    (Instr.arpRequest 0 .mgmt { length := 64, fcsOk := true, dst := 0, vlans := [], carries := .other, src := 0 }).wf
      = false := by decide

/-- Boot finds 72 core temperatures. -/
theorem test_wf_boot_temperatures :
    (Instr.bootComplete 0 { hbmTrained := true, railFault := false, hot := false, frzLow := false, coreTemps := [] }).wf
      = false := by decide

/-- The control die has four oscillator pairs, a bay die two (R350). -/
theorem test_wf_ageing_pairs : (Instr.ageingMeasurement 0 0 [0, 0]).wf = false := by decide
theorem test_wf_ageing_pairs_bay : (Instr.ageingMeasurement 0 1 [0, 0, 0, 0]).wf = false := by decide

/-- A code-density run sorts its hits into 4,096 bins (R248). -/
theorem test_wf_density_bin :
    (Instr.codeDensityComplete 0 0 [(0, [(4096, 1)])] { vref := 0, temp := 0, moved := 0 }).wf = false := by decide

/-- An amplitude run gives trims of 63 cells (R254). -/
theorem test_wf_plumb_cells :
    (Instr.plumbRunComplete 0 { vref := 0, temp := 0, moved := 0 } (.amp [0] 0 0)).wf = false := by decide

/-! ## Words -/

/-- No row of the table has bits, so no word spells a command. -/
theorem test_no_word_spells_a_command (nbits w : Nat) : decodeTableWord nbits w = none := by rfl

/-! ## Every statement's hypotheses can be met

For each obligation with hypotheses, a state and operands that meet those of every clause together. -/

def ses (sel : Selectors := {}) : Session :=
  { id := 1, version := 2, port := .mgmt, lastAt := 0, sel := sel, cache := [], open_ := [], proxy := false }
def ready (sel : Selectors := {}) : State := { sys := { state := .ready }, oda := { sessions := [ses sel] } }
def ask : Req := { port := .mgmt, ver := 2, device := 0, seq := 1, session := 1 }
def word (op rd ra imm : Nat) : Word := BitVec.ofNat 32 (op * 2 ^ 26 + rd * 2 ^ 21 + ra * 2 ^ 16 + imm)
def runs (w : Word) (v : Timetable := {}) (ext : Word := 0) : State :=
  { ready with joiners := [(0, { code := [(0, w), (1, ext)] })], tts := [(0, { v with state := .ready, pc := 0 })] }
def got (w : Word) (ext : Word := 0) : Fetched := { pc := 0, word := w, ext := ext }
def waits (k : WaitKind) (w : Word) (v : Timetable := {}) : State :=
  { ready with tts := [(0, { v with state := .waiting, wait := k, held := some (got w) })] }
def rg (l : List (Nat × Word)) : Vector Word 16 :=
  l.foldl (fun v p => v.setIfInBounds p.1 p.2) (Vector.replicate 16 0)
def g1 : Timetable := { gangMask := 1 }
def bm (w0 w1 w2 w3 : Nat) (p : Port := .mgmt) : BulkMsg :=
  { port := p, seq := 1, w0 := BitVec.ofNat 32 w0, w1 := BitVec.ofNat 32 w1, w2 := BitVec.ofNat 32 w2, w3 := BitVec.ofNat 32 w3 }
def clk (c : Channel) : State :=
  { ready with
    now := 2000000000
    sys := { state := .run }
    synM := { en := true, phase := .running, locked := true, tbLocked := true }
    outs := [(0, { en := true })]
    chans := [(0, c)] }
def gapD : Descriptor := { kind := .gap, reps := 100000, visible := true }
theorem noFiring {s : State} {n k : Nat} (h : s.firing n = none) : s.NoFiring n k := fun j e w => by simp [h] at w
theorem noHead {α : Type} {l : List α} {P : α → List α → Prop} (h : l = []) : ∀ z r, l = z :: r → P z r :=
  fun z r w => by simp [h] at w
theorem capture_length {s : State} (h : s.recess.capture = 2) : s.captureLength = crossingsAt + crossingsLength :=
  if_pos h
theorem capture_not_empty {s : State} (h : s.recess.capture = 2) : 0 < s.captureLength := by
  rw [capture_length h]; exact Nat.add_pos_left (by decide) _
theorem noPage {s : State} {P : Page → Prop} (h : s.mem.pages = []) : ∀ q, (∃ k, (k, q) ∈ s.mem.pages) → P q := by
  simp [h]

namespace ForArithmeticInstructions

def st0 : State := runs (word 0x31 15 14 3) { regs := rg [(14, 5)] }
def st5 : State := runs (word 0x36 15 1 31)
def st7 : State := runs (word 0x37 0 14 3) { regs := rg [(14, 5)] }
def st8 : State := runs (word 0x30 15 0 0xFFFF)
def st9 : State := runs (word 0x30 15 1 0) {} 7

/-- The hypotheses of each clause of `Obligations.ArithmeticInstructions` hold together. -/
theorem met_ArithmeticInstructions :
    (∃ (s u : State) (t : Nat) (tt : Fin 6144) (f : Fetched) (b : Word), u = s.advance t ∧ u.Issues tt f ∧
      f.opcode = 0x31 ∧ f.rd ≤ 15 ∧ f.ra ≤ 15 ∧ (u.tt tt).operandB f = some b) ∧
    (∃ (s u : State) (t : Nat) (tt : Fin 6144) (f : Fetched), u = s.advance t ∧ u.Issues tt f ∧ ∃ n,
      f.opcode = 0x36 ∧ f.rd ≤ 15 ∧ f.ra ≤ 15 ∧ (u.tt tt).operandShift f = some n) ∧
    (∃ (s u : State) (t : Nat) (tt : Fin 6144) (f : Fetched), u = s.advance t ∧ u.Issues tt f ∧ ∃ b,
      f.opcode = 0x37 ∧ f.rd = 0 ∧ f.ra ≤ 15 ∧ (u.tt tt).operandB f = some b) ∧
    (∃ (s u : State) (t : Nat) (tt : Fin 6144) (f : Fetched), u = s.advance t ∧ u.Issues tt f ∧ f.opcode = 0x30 ∧
      f.rd ≤ 15 ∧ f.ra = 0) ∧
    (∃ (s u : State) (t : Nat) (tt : Fin 6144) (f : Fetched), u = s.advance t ∧ u.Issues tt f ∧ f.opcode = 0x30 ∧
      f.rd ≤ 15 ∧ f.ra = 1 ∧ f.imm = 0) := by
  refine ⟨⟨st0, _, 0, 0, (got 0xc5ee0003), 0x3#32, rfl, ?_, ?_, ?_, ?_, ?_⟩,
    ⟨st5, _, 0, 0, (got 0xd9e1001f), rfl, ?_, 31, ?_, ?_, ?_, ?_⟩,
    ⟨st7, _, 0, 0, (got 0xdc0e0003), rfl, ?_, 0x3#32, ?_, ?_, ?_, ?_⟩,
    ⟨st8, _, 0, 0, (got 0xc1e0ffff), rfl, ?_, ?_, ?_, ?_⟩,
    ⟨st9, _, 0, 0, { pc := 0, word := 0xc1e10000#32, ext := 0x7#32 }, rfl, ?_, ?_, ?_, ?_, ?_⟩⟩ <;>
  first | decide +kernel | (constructor <;> decide +kernel)

end ForArithmeticInstructions

namespace ForControlFlowAndLoops

def st0 : State := runs (word 0 0 0 0)
def st2 : State := runs (word 1 0 0 0)
def st3 : State := runs (word 0x14 0 3 4) { regs := rg [(3, 5)] }
def st4 : State := runs (word 0x15 0 0 32767)
def st5 : State := runs (word 0x15 1 0 32767)
def st7 : State := runs (word 0x10 0 0 7)
def st9 : State := runs (word 0x11 0 0 0) { loops := [(1, 0), (3, 1)] }
def st11 : State := runs (word 0x12 0 0 5) { loops := [(1, 0), (2, 2)] }

/-- The hypotheses of each clause of `Obligations.ControlFlowAndLoops` hold together. -/
theorem met_ControlFlowAndLoops :
    (∃ (s u : State) (t : Nat) (tt : Fin 6144) (f : Fetched), u = s.advance t ∧ u.Issues tt f ∧ f.opcode = 0x00 ∧
      f.rd = 0 ∧ f.ra = 0 ∧ f.imm = 0) ∧
    (∃ (s u : State) (t : Nat) (tt : Fin 6144) (f : Fetched), u = s.advance t ∧ u.Issues tt f ∧ f.opcode = 0x01 ∧
      f.rd = 0 ∧ f.ra = 0 ∧ f.imm = 0) ∧
    (∃ (s u : State) (t : Nat) (tt : Fin 6144) (f : Fetched), u = s.advance t ∧ u.Issues tt f ∧ f.opcode = 0x14 ∧
      f.rd = 0 ∧ f.ra ≤ 15 ∧ ((u.tt tt).g f.ra + BitVec.ofNat 32 f.imm).toNat ≤ 32767) ∧
    (∃ (s u : State) (t : Nat) (tt : Fin 6144) (f : Fetched), u = s.advance t ∧ u.Issues tt f ∧ f.opcode = 0x15 ∧
      f.ra = 0 ∧ (u.tt tt).cond f.rd = some true ∧ f.imm ≤ 32767) ∧
    (∃ (s u : State) (t : Nat) (tt : Fin 6144) (f : Fetched), u = s.advance t ∧ u.Issues tt f ∧ f.opcode = 0x15 ∧
      f.ra = 0 ∧ (u.tt tt).cond f.rd = some false) ∧
    (∃ (s u : State) (t : Nat) (tt : Fin 6144) (f : Fetched), u = s.advance t ∧ u.Issues tt f ∧ ∃ c,
      f.opcode = 0x10 ∧ f.rd = 0 ∧ (u.tt tt).operandC f = some c ∧ c ≠ 0 ∧ (u.tt tt).loops.length < 8) ∧
    (∃ (s u : State) (t : Nat) (tt : Fin 6144) (f : Fetched), u = s.advance t ∧ u.Issues tt f ∧ ∃ c a r,
      f.opcode = 0x11 ∧ f.rd = 0 ∧ f.ra = 0 ∧ f.imm = 0 ∧ (u.tt tt).loops = (c, a) :: r) ∧
    (∃ (s u : State) (t : Nat) (tt : Fin 6144) (f : Fetched), u = s.advance t ∧ u.Issues tt f ∧ ∃ p r,
      f.opcode = 0x12 ∧ f.rd = 0 ∧ f.ra = 0 ∧ f.imm ≤ 32767 ∧ (u.tt tt).loops = p :: r) := by
  refine ⟨⟨st0, _, 0, 0, (got 0x0), rfl, ?_, ?_, ?_, ?_, ?_⟩,
    ⟨st2, _, 0, 0, (got 0x4000000), rfl, ?_, ?_, ?_, ?_, ?_⟩,
    ⟨st3, _, 0, 0, (got 0x50030004), rfl, ?_, ?_, ?_, ?_, ?_⟩,
    ⟨st4, _, 0, 0, (got 0x54007fff), rfl, ?_, ?_, ?_, ?_, ?_⟩, ⟨st5, _, 0, 0, (got 0x54207fff), rfl, ?_, ?_, ?_, ?_⟩,
    ⟨st7, _, 0, 0, (got 0x40000007), rfl, ?_, 0x7#32, ?_, ?_, ?_, ?_, ?_⟩,
    ⟨st9, _, 0, 0, (got 0x44000000), rfl, ?_, 0x1#32, 0, [(0x3#32, 1)], ?_, ?_, ?_, ?_, ?_⟩,
    ⟨st11, _, 0, 0, (got 0x48000005), rfl, ?_, (0x1#32, 0), [(0x2#32, 2)], ?_, ?_, ?_, ?_, ?_⟩⟩ <;>
  first | decide +kernel | (constructor <;> decide +kernel)

end ForControlFlowAndLoops

namespace ForBellLatches

def st0 : State := runs (word 0x16 0 3 5) { listen := 0xFF, regs := rg [(3, 2)] }
def st2 : State := runs (word 0x18 5 0 2) { listen := 255 }
def st4 : State := runs (word 0x18 5 0 0x8000) { listen := 255, latches := 6 }
def st6 : State := runs (word 0x1B 0 0 0x8000) { listen := 255, latches := 7, fresh := (0, 2) }
def st7 : State := runs (word 0x1B 0 3 0) { listen := 255, latches := 7, fresh := (0, 2), regs := rg [(3, 1)] }
def st9 : State :=
  { runs (word 0x2C 0 3 0) { regs := rg [(3, 0x30000)] } with
    chans := [(0, { leader := 0 }), (1, { leader := 0 }), (2, { leader := 0 })] }

/-- The hypotheses of each clause of `Obligations.BellLatches` hold together. -/
theorem met_BellLatches :
    (∃ (s u : State) (t : Nat) (tt : Fin 6144) (f : Fetched), u = s.advance t ∧ u.Issues tt f ∧ ∃ k,
      f.opcode = 0x16 ∧ f.rd = 0 ∧ f.ra ≤ 15 ∧ k = ((u.tt tt).g f.ra).toNat % 256 ∧
      (u.tt tt).listen.getLsbD k = true ∧ f.imm ≤ 32767) ∧
    (∃ (s u : State) (t : Nat) (tt : Fin 6144) (f : Fetched), u = s.advance t ∧ u.Issues tt f ∧ f.opcode = 0x18 ∧
      f.rd ≤ 15 ∧ f.ra = 0 ∧ f.imm < 256 ∧ (u.tt tt).listen.getLsbD f.imm = true) ∧
    (∃ (s u : State) (t : Nat) (tt : Fin 6144) (f : Fetched), u = s.advance t ∧ u.Issues tt f ∧ f.opcode = 0x18 ∧
      f.rd ≤ 15 ∧ f.ra = 0 ∧ f.imm = 0x8000) ∧
    (∃ (s u : State) (t : Nat) (tt : Fin 6144) (f : Fetched), u = s.advance t ∧ u.Issues tt f ∧ f.opcode = 0x1B ∧
      f.rd = 0 ∧ f.ra = 0 ∧ f.imm = 0x8000) ∧
    (∃ (s u : State) (t : Nat) (tt : Fin 6144) (f : Fetched), u = s.advance t ∧ u.Issues tt f ∧ ∃ k,
      f.opcode = 0x1B ∧ f.rd = 0 ∧ f.ra ≤ 15 ∧ f.imm = 0 ∧ k = ((u.tt tt).g f.ra).toNat % 256 ∧
      (u.tt tt).listen.getLsbD k = true) ∧
    (∃ (s u : State) (t : Nat) (tt : Fin 6144) (f : Fetched), u = s.advance t ∧ u.Issues tt f ∧ ∃ base mask,
      f.opcode = 0x2C ∧ f.rd = 0 ∧ f.ra ≤ 15 ∧ f.imm = 0 ∧
      (u.tt tt).g f.ra = BitVec.ofNat 32 (mask.toNat * 65536 + base) ∧ base < 64 ∧ (∀ n ∈ gangOf base mask, n < 64 ∧
      (u.chan n).leader = tt)) := by
  refine ⟨⟨st0, _, 0, 0, (got 0x58030005), rfl, ?_, _, ?_, ?_, ?_, rfl, ?_, ?_⟩,
    ⟨st2, _, 0, 0, (got 0x60a00002), rfl, ?_, ?_, ?_, ?_, ?_, ?_⟩,
    ⟨st4, _, 0, 0, (got 0x60a08000), rfl, ?_, ?_, ?_, ?_, ?_⟩,
    ⟨st6, _, 0, 0, (got 0x6c008000), rfl, ?_, ?_, ?_, ?_, ?_⟩,
    ⟨st7, _, 0, 0, (got 0x6c030000), rfl, ?_, _, ?_, ?_, ?_, ?_, rfl, ?_⟩,
    ⟨st9, _, 0, 0, (got 0xb0030000), rfl, ?_, 0, 0x3#16, ?_, ?_, ?_, ?_, ?_, ?_, ?_⟩⟩ <;>
  first | decide +kernel | (constructor <;> decide +kernel)

end ForBellLatches

namespace ForRingAdmission

def st0 : State := runs (word 0x1A 0 3 0x205) { regs := rg [(3, 1)] }
def st1 : State := { runs (word 0x1A 0 3 0x205) with truss := { owners := [(5, [(0, 3)])] } }
def st2 : State := { runs (word 0x1A 0 3 0x205) with truss := { lastOrigin := [(5, some 0)] } }
def st5 : State := { waits .bellOut (word 0x1A 0 3 0x205) with truss := { lastOrigin := [(5, some 0)] } }

/-- The hypotheses of each clause of `Obligations.RingAdmission` hold together. -/
theorem met_RingAdmission :
    (∃ (s u : State) (t : Nat) (tt : Fin 6144) (f : Fetched) (number : Nat) (payload : Byte) (w : BellWord),
      u = s.advance t ∧ f.opcode = 0x1A ∧ f.rd = 0 ∧ f.ra ≤ 15 ∧ number = f.imm % 256 ∧
      payload = BitVec.ofNat 8 (f.imm / 256) ^^^ ((u.tt tt).g f.ra).setWidth 8 ∧
      w = u.bellWord 0 number payload u.trussNow srcRing tt ∧ ∃ (i : Instr) (k : Nat), ((i = .ring t tt ∧
      k = u.readyAfter 1 ∧ u.Issues tt f) ∨ (i = .bellAdmit t tt ∧ k = u.readyWoken tt ∧ u.Waits tt .bellOut f)) ∧
      u.owns number = false) ∧
    (∃ (s u : State) (t : Nat) (tt : Fin 6144) (f : Fetched) (number : Nat) (payload : Byte) (w : BellWord),
      u = s.advance t ∧ f.opcode = 0x1A ∧ f.rd = 0 ∧ f.ra ≤ 15 ∧ number = f.imm % 256 ∧
      payload = BitVec.ofNat 8 (f.imm / 256) ^^^ ((u.tt tt).g f.ra).setWidth 8 ∧
      w = u.bellWord 0 number payload u.trussNow srcRing tt ∧ ∃ (i : Instr) (k : Nat), ((i = .ring t tt ∧
      k = u.readyAfter 1 ∧ u.Issues tt f) ∨ (i = .bellAdmit t tt ∧ k = u.readyWoken tt ∧ u.Waits tt .bellOut f)) ∧
      u.owns number = true ∧ u.admissible number u.trussNow = true ∧ (u.punctual w u.trussNow).isLate = false ∧
      (u.punctual w u.trussNow).isSlow = false) ∧
    (∃ (s u : State) (t : Nat) (tt : Fin 6144) (f : Fetched) (number : Nat) (payload : Byte) (w : BellWord),
      u = s.advance t ∧ f.opcode = 0x1A ∧ f.rd = 0 ∧ f.ra ≤ 15 ∧ number = f.imm % 256 ∧
      payload = BitVec.ofNat 8 (f.imm / 256) ^^^ ((u.tt tt).g f.ra).setWidth 8 ∧
      w = u.bellWord 0 number payload u.trussNow srcRing tt ∧ u.Issues tt f ∧ u.owns number = true ∧
      u.admissible number u.trussNow = false) ∧
    (∃ (s u : State) (t : Nat) (tt : Fin 6144) (f : Fetched) (number : Nat) (payload : Byte) (w : BellWord),
      u = s.advance t ∧ f.opcode = 0x1A ∧ f.rd = 0 ∧ f.ra ≤ 15 ∧ number = f.imm % 256 ∧
      payload = BitVec.ofNat 8 (f.imm / 256) ^^^ ((u.tt tt).g f.ra).setWidth 8 ∧
      w = u.bellWord 0 number payload u.trussNow srcRing tt ∧ u.Waits tt .bellOut f ∧ u.owns number = true ∧
      u.admissible number u.trussNow = false) := by
  refine ⟨⟨st1, _, 0, 0, (got 0x68030205), _, _, _, rfl, ?_, ?_, ?_, rfl, rfl, rfl, Instr.ring 0 0, _, .inl ⟨rfl,
      rfl, ?_⟩, ?_⟩,
    ⟨st0, _, 0, 0, (got 0x68030205), _, _, _, rfl, ?_, ?_, ?_, rfl, rfl, rfl, Instr.ring 0 0, _, .inl ⟨rfl, rfl, ?_⟩,
      ?_, ?_, ?_, ?_⟩, ⟨st2, _, 0, 0, (got 0x68030205), _, _, _, rfl, ?_, ?_, ?_, rfl, rfl, rfl, ?_, ?_, ?_⟩,
    ⟨st5, _, 0, 0, (got 0x68030205), _, _, _, rfl, ?_, ?_, ?_, rfl, rfl, rfl, ?_, ?_, ?_⟩⟩ <;>
  first | decide +kernel | (constructor <;> decide +kernel)

end ForRingAdmission

namespace ForPostRecords

def st0 : State :=
  { runs (word 0x3E 1 2 7) { regs := rg [(1, 5), (2, 6)] } with evr := { enable := true, head := 2047, tail := 1 } }
def st1 : State := { runs (word 0x3E 1 2 7) with evr := { enable := false } }
def st2 : State := { runs (word 0x3E 1 2 7) with evr := { enable := true, head := 2048 } }
def st3 : State := { runs (word 0x3E 1 2 7) with evr := { enable := true, head := 2048, waitPolicy := true } }

/-- The hypotheses of each clause of `Obligations.PostRecords` hold together. -/
theorem met_PostRecords :
    (∃ (s u : State) (t : Nat) (tt : Fin 6144) (f : Fetched) (slot : Nat) (record : Bytes), u = s.advance t ∧
      f.opcode = 0x3E ∧ f.rd ≤ 15 ∧ f.ra ≤ 15 ∧ slot = u.evr.base * 65536 + 32 * (u.evr.head.toNat % 2048) ∧
      record = leBytes 4 tt ++ leBytes 4 f.imm ++ leBytes 8 u.trussNow.toNat ++ leBytes 4 ((u.tt tt).g f.rd).toNat
        ++ leBytes 4 ((u.tt tt).g f.ra).toNat ++ leBytes 8 0 ∧ ∃ (i : Instr) (k : Nat) (x : State),
      ((i = .post t tt ∧ k = u.readyAfter 1 ∧ x = (u.takeSlot tt).holdFetched slot 32 ∧
      u.Issues tt f) ∨ (i = .evrSlotWake t tt ∧ k = u.readyWoken tt ∧ x = u.holdFetched slot 32 ∧
      u.Waits tt .evr f)) ∧ u.evr.enable = true ∧ u.evrFull = false) ∧
    (∃ (s u : State) (t : Nat) (tt : Fin 6144) (f : Fetched) (slot : Nat) (record : Bytes), u = s.advance t ∧
      f.opcode = 0x3E ∧ f.rd ≤ 15 ∧ f.ra ≤ 15 ∧ slot = u.evr.base * 65536 + 32 * (u.evr.head.toNat % 2048) ∧
      record = leBytes 4 tt ++ leBytes 4 f.imm ++ leBytes 8 u.trussNow.toNat ++ leBytes 4 ((u.tt tt).g f.rd).toNat
        ++ leBytes 4 ((u.tt tt).g f.ra).toNat ++ leBytes 8 0 ∧ u.Issues tt f ∧ u.evr.enable = false) ∧
    (∃ (s u : State) (t : Nat) (tt : Fin 6144) (f : Fetched) (slot : Nat) (record : Bytes), u = s.advance t ∧
      f.opcode = 0x3E ∧ f.rd ≤ 15 ∧ f.ra ≤ 15 ∧ slot = u.evr.base * 65536 + 32 * (u.evr.head.toNat % 2048) ∧
      record = leBytes 4 tt ++ leBytes 4 f.imm ++ leBytes 8 u.trussNow.toNat ++ leBytes 4 ((u.tt tt).g f.rd).toNat
        ++ leBytes 4 ((u.tt tt).g f.ra).toNat ++ leBytes 8 0 ∧ u.Issues tt f ∧ u.evr.enable = true ∧
      u.evrFull = true ∧ u.evr.waitPolicy = false) ∧
    (∃ (s u : State) (t : Nat) (tt : Fin 6144) (f : Fetched) (slot : Nat) (record : Bytes), u = s.advance t ∧
      f.opcode = 0x3E ∧ f.rd ≤ 15 ∧ f.ra ≤ 15 ∧ slot = u.evr.base * 65536 + 32 * (u.evr.head.toNat % 2048) ∧
      record = leBytes 4 tt ++ leBytes 4 f.imm ++ leBytes 8 u.trussNow.toNat ++ leBytes 4 ((u.tt tt).g f.rd).toNat
        ++ leBytes 4 ((u.tt tt).g f.ra).toNat ++ leBytes 8 0 ∧ u.Issues tt f ∧ u.evr.enable = true ∧
      u.evrFull = true ∧ u.evr.waitPolicy = true) := by
  refine ⟨⟨st0, _, 0, 0, (got 0xf8220007), _, _, rfl, ?_, ?_, ?_, rfl, rfl, Instr.post 0 0, 1, _, .inl ⟨rfl, ?_, rfl,
      ?_⟩, ?_, ?_⟩, ⟨st1, _, 0, 0, (got 0xf8220007), _, _, rfl, ?_, ?_, ?_, rfl, rfl, ?_, ?_⟩,
    ⟨st2, _, 0, 0, (got 0xf8220007), _, _, rfl, ?_, ?_, ?_, rfl, rfl, ?_, ?_, ?_, ?_⟩,
    ⟨st3, _, 0, 0, (got 0xf8220007), _, _, rfl, ?_, ?_, ?_, rfl, rfl, ?_, ?_, ?_, ?_⟩⟩ <;>
  first | decide +kernel | (constructor <;> decide +kernel)

end ForPostRecords

namespace ForInstructionTraps

def st0 : State := runs (word 0x3F 0 0 5)
def st2 : State := runs (word 0x3F 1 0 0)
def st3 : State := runs (word 0x2F 0 0 0)
def st4 : State := runs (word 0x12 0 0 0)
def st5 : State := { runs (word 0 0 0 0) with joiners := [(0, { code := [(0, 0)], codeUe := [0] })] }
def st6 : State := { runs (word 0 0 0 0) with tts := [(0, { state := .ready, pc := 32768 })] }
def st7 : State := runs (word 8 0 0 5) { gangMask := 1 }
def st8 : State :=
  { runs (word 8 0 0 5) { gangMask := 1 } with
    mem := { segs := [(5, { valid := true, base := 0, lenG := 16 })], bulkPages := 9 } }

/-- The hypotheses of each clause of `Obligations.InstructionTraps` hold together. -/
theorem met_InstructionTraps :
    (∃ (s u : State) (t : Nat) (tt : Fin 6144) (f : Fetched), u = s.advance t ∧ u.Issues tt f ∧ f.opcode = 0x3F ∧
      f.rd = 0 ∧ f.ra = 0) ∧
    (∃ (s u : State) (t : Nat) (tt : Fin 6144) (f : Fetched), u = s.advance t ∧ u.Issues tt f ∧ f.opcode = 0x3F ∧
      (¬ (f.rd = 0 ∧ f.ra = 0))) ∧
    (∃ (s u : State) (t : Nat) (tt : Fin 6144) (f : Fetched), u = s.advance t ∧ u.Issues tt f ∧
      undefinedOpcode f.opcode = true) ∧
    (∃ (s u : State) (t : Nat) (tt : Fin 6144) (f : Fetched), u = s.advance t ∧ ∃ c code, u.Issues tt f ∧
      f.opcode = 0x3F ∧ effOf 0x3F (u.takeSlot tt) tt f = .trap c code) ∧
    (∃ (s u : State) (t : Nat) (tt : Fin 6144) (f : Fetched), u = s.advance t ∧ ∃ c, u.still = false ∧
      u.issues tt = true ∧ u.fetch (tt / 64) (u.tt tt).pc = (f, some c)) ∧
    (∃ (s u : State) (t : Nat) (tt : Fin 6144), u = s.advance t ∧ u.still = false ∧ u.issues tt = true ∧
      32767 < (u.tt tt).pc) ∧
    (∃ (s u : State) (t : Nat) (tt : Fin 6144), u = s.advance t ∧ u.still = false ∧ u.issues tt = true ∧
      (u.tt tt).pc ≤ 32767 ∧ (u.joiner (tt / 64)).codeBad u.cycle (u.tt tt).pc = true) ∧
    (∃ (s u : State) (t : Nat) (tt : Fin 6144) (f : Fetched), u = s.advance t ∧ ∃ (v : Timetable) (a : Nat),
      v = u.tt tt ∧ a = (v.g f.ra).toNat + bits f.imm 13 0 ∧ u.Issues tt f ∧ f.opcode = 0x12 ∧ (f.rd = 0 ∧ f.ra = 0 ∧
      v.loops = [])) ∧
    (∃ (s u : State) (t : Nat) (tt : Fin 6144) (f : Fetched), u = s.advance t ∧ ∃ (v : Timetable) (e : SegEntry),
      v = u.tt tt ∧ u.Issues tt f ∧ v.gang ≠ [] ∧ (∀ n ∈ v.gang, u.room n = true) ∧ f.opcode = 0x08 ∧ (f.rd = 0 ∧
      f.ra = 0) ∧ e = oldIn u.mem.segsOld u.cycle u.mem.seg f.imm ∧ e.valid = false) ∧
    (∃ (s u : State) (t : Nat) (tt : Fin 6144) (f : Fetched), u = s.advance t ∧ ∃ (v : Timetable) (e : SegEntry),
      v = u.tt tt ∧ u.Issues tt f ∧ v.gang ≠ [] ∧ (∀ n ∈ v.gang, u.room n = true) ∧ f.opcode = 0x08 ∧ (f.rd = 0 ∧
      f.ra = 0) ∧ e = oldIn u.mem.segsOld u.cycle u.mem.seg f.imm ∧ e.valid = true ∧ (∃ q ∈ u.mem.segPages e,
      (u.mem.page q).pinnable = false)) := by
  refine ⟨⟨st0, _, 0, 0, (got 0xfc000005), rfl, ?_, ?_, ?_, ?_⟩, ⟨st2, _, 0, 0, (got 0xfc200000), rfl, ?_, ?_, ?_⟩,
    ⟨st3, _, 0, 0, (got 0xbc000000), rfl, ?_, ?_⟩,
    ⟨st2, _, 0, 0, (got 0xfc200000), rfl, TrapCause.badOperand, 0, ?_, ?_, ?_⟩,
    ⟨st5, _, 0, 0, ((st5.advance 0).fetch 0 0).1, rfl, TrapCause.codeUe, ?_, ?_, Prod.ext rfl (by decide +kernel)⟩,
    ⟨st6, _, 0, 0, rfl, ?_, ?_, ?_⟩, ⟨st5, _, 0, 0, rfl, ?_, ?_, ?_, ?_⟩,
    ⟨st4, _, 0, 0, (got 0x48000000), rfl, _, _, rfl, rfl, ?_, ?_, ?_⟩,
    ⟨st7, _, 0, 0, (got 0x20000005), rfl, _, _, rfl, ?_, ?_, ?_, ?_, ?_, rfl, ?_⟩,
    ⟨st8, _, 0, 0, (got 0x20000005), rfl, _, _, rfl, ?_, ?_, ?_, ?_, ?_, rfl, ?_, ?_⟩⟩ <;>
  first | decide +kernel | (constructor <;> decide +kernel)

end ForInstructionTraps

namespace ForLoadsAndStores

def st0 : State := runs (word 0x38 1 2 0x003F) { scratch := [(63, 9)] }
def st4 : State :=
  { runs (word 0x38 1 2 0xC006) with
    joiners := [(0, { code := [(0, word 0x38 1 2 0xC006)], jobs := [{ tt := 0, src := 0, dst := 0, units := 1 }] })] }
def st5 : State := runs (word 0x39 1 2 0x0005) { regs := rg [(1, 8)] }
def st6 : State := runs (word 0x39 1 2 0x4005) { regs := rg [(1, 8)] }
def st7 : State := runs (word 0x39 1 2 0xC003) { regs := rg [(1, 8)] }
def st8 : State := runs (word 0x39 1 2 0xC004) { wpLen := 1, wpSrc := 4, wpDstLo := 16 }
def st9 : State :=
  { runs (word 0x39 1 2 0xC004) { wpLen := 1 } with
    joiners := [(0, { code := [(0, word 0x39 1 2 0xC004)], jobs := List.replicate 4 { tt := 0, src := 0, dst := 0, units := 1 } })] }

/-- The hypotheses of each clause of `Obligations.LoadsAndStores` hold together. -/
theorem met_LoadsAndStores :
    (∃ (s u : State) (t : Nat) (tt : Fin 6144) (f : Fetched) (a : Nat), u = s.advance t ∧ u.Issues tt f ∧ f.rd ≤ 15 ∧
      f.ra ≤ 15 ∧ a = ((u.tt tt).g f.ra).toNat + bits f.imm 13 0 ∧ f.opcode = 0x38 ∧ bits f.imm 15 14 = 0 ∧ a < 64 ∧
      (0 = 3 → a = 6 → (u.joiner (tt / 64)).jobsOf tt = 0)) ∧
    (∃ (s u : State) (t : Nat) (tt : Fin 6144) (f : Fetched) (a : Nat), u = s.advance t ∧ u.Issues tt f ∧ f.rd ≤ 15 ∧
      f.ra ≤ 15 ∧ a = ((u.tt tt).g f.ra).toNat + bits f.imm 13 0 ∧ f.opcode = 0x38 ∧ bits f.imm 15 14 = 3 ∧ a = 6 ∧
      (u.joiner (tt / 64)).jobsOf tt ≠ 0) ∧
    (∃ (s u : State) (t : Nat) (tt : Fin 6144) (f : Fetched) (a : Nat), u = s.advance t ∧ u.Issues tt f ∧ f.rd ≤ 15 ∧
      f.ra ≤ 15 ∧ a = ((u.tt tt).g f.ra).toNat + bits f.imm 13 0 ∧ f.opcode = 0x39 ∧ bits f.imm 15 14 = 0 ∧ a < 64) ∧
    (∃ (s u : State) (t : Nat) (tt : Fin 6144) (f : Fetched) (a : Nat), u = s.advance t ∧ u.Issues tt f ∧ f.rd ≤ 15 ∧
      f.ra ≤ 15 ∧ a = ((u.tt tt).g f.ra).toNat + bits f.imm 13 0 ∧ f.opcode = 0x39 ∧ bits f.imm 15 14 = 1 ∧ a < 4096) ∧
    (∃ (s u : State) (t : Nat) (tt : Fin 6144) (f : Fetched) (a : Nat), u = s.advance t ∧ u.Issues tt f ∧ f.rd ≤ 15 ∧
      f.ra ≤ 15 ∧ a = ((u.tt tt).g f.ra).toNat + bits f.imm 13 0 ∧ f.opcode = 0x39 ∧ bits f.imm 15 14 = 3 ∧ a < 4) ∧
    (∃ (s u : State) (t : Nat) (tt : Fin 6144) (f : Fetched) (a : Nat), u = s.advance t ∧ u.Issues tt f ∧ f.rd ≤ 15 ∧
      f.ra ≤ 15 ∧ a = ((u.tt tt).g f.ra).toNat + bits f.imm 13 0 ∧ ∃ src n dst, f.opcode = 0x39 ∧
      bits f.imm 15 14 = 3 ∧ a = 4 ∧ src = (u.tt tt).wpSrc.toNat ∧ n = (u.tt tt).wpLen.toNat ∧
      dst = (u.tt tt).wpDstHi.toNat * 2 ^ 32 + (u.tt tt).wpDstLo.toNat ∧ src % 4 = 0 ∧ 1 ≤ n ∧ n ≤ 1024 ∧
      src + 4 * n ≤ 4096 ∧ dst % 16 = 0 ∧ dst + 16 * n ≤ hbmBytes ∧ (u.joiner (tt / 64)).jobs.length < 4 ∧ ∃ x y,
      x = (u.takeSlot tt).catchUpAll ∧ y = x.servePorts) ∧
    (∃ (s u : State) (t : Nat) (tt : Fin 6144) (f : Fetched) (a : Nat), u = s.advance t ∧ u.Issues tt f ∧ f.rd ≤ 15 ∧
      f.ra ≤ 15 ∧ a = ((u.tt tt).g f.ra).toNat + bits f.imm 13 0 ∧ ∃ src n dst, f.opcode = 0x39 ∧
      bits f.imm 15 14 = 3 ∧ a = 4 ∧ src = (u.tt tt).wpSrc.toNat ∧ n = (u.tt tt).wpLen.toNat ∧
      dst = (u.tt tt).wpDstHi.toNat * 2 ^ 32 + (u.tt tt).wpDstLo.toNat ∧ src % 4 = 0 ∧ 1 ≤ n ∧ n ≤ 1024 ∧
      src + 4 * n ≤ 4096 ∧ dst % 16 = 0 ∧ dst + 16 * n ≤ hbmBytes ∧ 4 ≤ (u.joiner (tt / 64)).jobs.length) := by
  refine ⟨⟨st0, _, 0, 0, (got 0xe022003f), _, rfl, ?_, ?_, ?_, rfl, ?_, ?_, ?_, ?_⟩,
    ⟨st4, _, 0, 0, (got 0xe022c006), _, rfl, ?_, ?_, ?_, rfl, ?_, ?_, ?_, ?_⟩,
    ⟨st5, _, 0, 0, (got 0xe4220005), _, rfl, ?_, ?_, ?_, rfl, ?_, ?_, ?_⟩,
    ⟨st6, _, 0, 0, (got 0xe4224005), _, rfl, ?_, ?_, ?_, rfl, ?_, ?_, ?_⟩,
    ⟨st7, _, 0, 0, (got 0xe422c003), _, rfl, ?_, ?_, ?_, rfl, ?_, ?_, ?_⟩,
    ⟨st8, _, 0, 0, (got 0xe422c004), _, rfl, ?_, ?_, ?_, rfl, _, _, _, ?_, ?_, ?_, rfl, rfl, rfl, ?_, ?_, ?_, ?_, ?_,
      ?_, ?_, _, _, rfl, rfl⟩,
    ⟨st9, _, 0, 0, (got 0xe422c004), _, rfl, ?_, ?_, ?_, rfl, _, _, _, ?_, ?_, ?_, rfl, rfl, rfl, ?_, ?_, ?_, ?_, ?_,
      ?_, ?_⟩⟩ <;>
  first | decide +kernel | (constructor <;> decide +kernel)

end ForLoadsAndStores

namespace ForWritePortJobs

def st0 : State := waits .wpJob (word 0x39 1 2 0xC004) { wpLen := 1, wpSrc := 4, wpDstLo := 16 }
def st1 : State := waits .wpSync (word 0x38 1 2 0xC006)
def st2 : State :=
  { ready with
    now := 1000000000
    joiners := [(0, { shared := [(0, 7)], jobs := [{ tt := 1, src := 0, dst := 16, units := 1 }] }),
      (1, { jobs := [{ tt := 65, src := 0, dst := 64, units := 8 }] })] }
def st3 : State := { ready with joiners := [(0, { jobs := [{ tt := 1, src := 0, dst := 16, units := 1000 }] })] }

/-- The hypotheses of each clause of `Obligations.WritePortJobs` hold together. -/
theorem met_WritePortJobs :
    (∃ (s u x y : State) (t : Nat) (tt : Fin 6144) (f : Fetched) (src n dst : Nat), u = s.advance t ∧
      x = u.catchUpAll ∧ y = x.servePorts ∧ u.Waits tt .wpJob f ∧ f.opcode = 0x39 ∧ f.rd ≤ 15 ∧ f.ra ≤ 15 ∧
      ((u.tt tt).g f.ra).toNat + bits f.imm 13 0 = 4 ∧ bits f.imm 15 14 = 3 ∧ src = (u.tt tt).wpSrc.toNat ∧
      n = (u.tt tt).wpLen.toNat ∧ dst = (u.tt tt).wpDstHi.toNat * 2 ^ 32 + (u.tt tt).wpDstLo.toNat ∧ src % 4 = 0 ∧
      1 ≤ n ∧ n ≤ 1024 ∧ src + 4 * n ≤ 4096 ∧ dst % 16 = 0 ∧ dst + 16 * n ≤ hbmBytes ∧
      (u.joiner (tt / 64)).jobs.length < 4) ∧
    (∃ (s u : State) (t : Nat) (tt : Fin 6144) (f : Fetched), u = s.advance t ∧ u.Waits tt .wpSync f ∧
      f.opcode = 0x38 ∧ f.rd ≤ 15 ∧ f.ra ≤ 15 ∧ ((u.tt tt).g f.ra).toNat + bits f.imm 13 0 = 6 ∧
      bits f.imm 15 14 = 3 ∧ (u.joiner (tt / 64)).jobsOf tt = 0) ∧
    (∃ (s u : State) (t : Nat) (j : Fin 96) (w : WpJob) (r : List WpJob) (data : Bytes), u = s.advance t ∧
      u.still = false ∧ (u.joiner j).jobs = w :: r ∧ data = wordsBytes ((u.joiner j).jobWords u.cycle w) ∧
      u.jobDue j = true) ∧
    (∃ (s u : State) (t : Nat) (j : Fin 96) (w : WpJob) (r : List WpJob) (data : Bytes), u = s.advance t ∧
      u.still = false ∧ (u.joiner j).jobs = w :: r ∧ data = wordsBytes ((u.joiner j).jobWords u.cycle w) ∧
      u.jobDue j = false) := by
  refine ⟨⟨st0, _, _, _, 0, 0, (got 0xe422c004), _, _, _, rfl, rfl, rfl, ?_, ?_, ?_, ?_, ?_, ?_, rfl, rfl, rfl, ?_,
      ?_, ?_, ?_, ?_, ?_, ?_⟩, ⟨st1, _, 0, 0, (got 0xe022c006), rfl, ?_, ?_, ?_, ?_, ?_, ?_, ?_⟩,
    ⟨st2, _, 0, 0, { tt := 1, src := 0, dst := 16, units := 1, served := 0, draw := 0, kept := [] }, [], _, rfl, ?_,
      ?_, rfl, ?_⟩,
    ⟨st3, _, 0, 0, { tt := 1, src := 0, dst := 16, units := 1000, served := 0, draw := 0, kept := [] }, [], _, rfl,
      ?_, ?_, rfl, ?_⟩⟩ <;>
  first | decide +kernel | (constructor <;> decide +kernel)

end ForWritePortJobs

namespace ForChannelInstructions

theorem okIs {e : Except TrapCause Descriptor} {d : Descriptor}
    (h : (match e with | .ok x => decide (x = d) | .error _ => false) = true) : e = .ok d := by
  cases e <;> simp_all
def ws : List (Word × Word) :=
  [(word 0x03 0 0 7, 0), (word 0x08 0 0 5, 0), (word 0x09 0 1 5, 0), (word 0x0A 0 1 0, 0), (word 0x0B 0 1 0, 0), (word 0x19 0 1 0, 0), (word 0x19 4 1 1, 0), (word 0x20 0 1 0, 0), (word 0x21 0 0 9, 0), (word 0x22 0 0 1, 0), (word 0x23 0 0 0, 0), (word 0x24 0 0 3, 0), (word 0x25 0 0 9, 0), (word 0x26 0 0 9, 0), (word 0x27 0 0 7, 0), (word 0x28 0 1 0, 0), (word 0x29 0 0 1, 0), (word 0x2A 0 0 5, 255), (word 0x2A 0 0 0, 256)]
def segs5 : SegMem :=
  { bulkPages := 3, pages := [(0, { pass := .device }), (1, { pass := .reading, pins := 2 })], segs := [(5, { valid := true, base := 2730, lenG := 32 })], rings := [(5, { valid := true, format := 1, first := 0, count := 1, lenG := 8 })] }
def v5 : Timetable := { gangMask := 3, regs := rg [(1, 5), (2, 6), (4, 2)], listen := 4, arrivals := 4 }
def st0 : State := { runs (word 0x03 0 0 7) v5 with mem := segs5 }
def st5 : State := runs (word 0x03 0 0 0) v5
def st7 : State := runs (word 0x08 0 0 6) v5

/-- The hypotheses of each clause of `Obligations.ChannelInstructions` hold together. -/
theorem met_ChannelInstructions :
    (∃ (s u : State) (t : Nat) (tt : Fin 6144) (f : Fetched) (d : Descriptor), u = s.advance t ∧ f.opcode = 0x03 ∧
      (f.rd = 0 ∧ (∃ c, (u.tt tt).operandC f = some c ∧ c ≠ 0)) ∧ ∃ (i : Instr) (k : Nat) (ws : List Woken),
      ((i = (Instr.sleep t tt) ∧ k = u.readyAfter 2 ∧ ws = u.woken ∧ u.Issues tt f) ∨ (i = .queueRoomWake t tt ∧
      k = u.readyWoken tt ∧ u.Waits tt .queue f ∧
      ws = { cycle := u.cycle, tt := tt, before := u.tt tt, serial := u.serial } :: u.woken.filter fun w => decide (w.cycle = u.cycle))) ∧
      (u.tt tt).gang ≠ [] ∧ (∀ n ∈ (u.tt tt).gang, u.room n = true) ∧ (∃ c, (u.tt tt).operandC f = some c ∧
      d = { kind := .gap, reps := c })) ∧
    (∃ (s u : State) (t : Nat) (tt : Fin 6144) (f : Fetched), u = s.advance t ∧ f.opcode = 0x03 ∧ (f.rd = 0 ∧ (∃ c,
      (u.tt tt).operandC f = some c ∧ c ≠ 0)) ∧ u.Issues tt f ∧ (u.tt tt).gang ≠ [] ∧ (∃ n ∈ (u.tt tt).gang,
      u.room n = false)) ∧
    (∃ (s u : State) (t : Nat) (tt : Fin 6144) (f : Fetched), u = s.advance t ∧ f.opcode = 0x03 ∧ (f.rd = 0 ∧ (∃ c,
      (u.tt tt).operandC f = some c ∧ c ≠ 0)) ∧ u.Issues tt f ∧ (u.tt tt).gang = []) ∧
    (∃ (s u : State) (t : Nat) (tt : Fin 6144) (f : Fetched), u = s.advance t ∧ u.Issues tt f ∧ f.opcode = 0x03 ∧
      f.rd = 0 ∧ ((u.tt tt).operandC f = some 0) ∧ (u.tt tt).gang ≠ []) ∧
    (∃ (s u : State) (t : Nat) (tt : Fin 6144) (f : Fetched), u = s.advance t ∧ u.Issues tt f ∧ f.opcode = 0x08 ∧
      f.rd = 0 ∧ f.ra = 0 ∧ (u.tt tt).gang ≠ [] ∧ (∀ n ∈ (u.tt tt).gang, u.room n = true) ∧
      (oldIn u.mem.segsOld u.cycle u.mem.seg f.imm).valid = false) ∧
    (∃ (s u : State) (t : Nat) (d : Descriptor), u = s.advance t ∧ ∃ (i : Nat) (b : Descriptor) (e : SegEntry),
      e = oldIn u.mem.segsOld u.cycle u.mem.seg i ∧ u.segDescriptor i b = .ok d) := by
  refine ⟨⟨st0, _, 0, 0, got 0xc000007, { kind := .gap, reps := 7 }, rfl, ?_, ⟨by decide +kernel, 7,
      by decide +kernel, by decide⟩, Instr.sleep 0 0, _, _, .inl ⟨rfl, rfl, rfl, ?_⟩, ?_, ?_, ⟨7, by decide +kernel,
      rfl⟩⟩,
    ⟨{ st0 with chans := [(0, { limit := 1, queue := [{}] })] }, _, 0, 0, got 0xc000007, rfl, ?_, ⟨by decide +kernel,
      7, by decide +kernel, by decide⟩, ?_, ?_, ?_⟩,
    ⟨runs (word 0x03 0 0 7), _, 0, 0, got 0xc000007, rfl, ?_, ⟨by decide +kernel, 7, by decide +kernel, by decide⟩,
      ?_, ?_⟩, ⟨st5, _, 0, 0, (got 0xc000000), rfl, ?_, ?_, ?_, ?_, ?_⟩,
    ⟨st7, _, 0, 0, (got 0x20000006), rfl, ?_, ?_, ?_, ?_, ?_, ?_, ?_⟩,
    ⟨st0, _, 0,
      { kind := DKind.play, base := 0xaaa#27, lenG := 0x20#32, reps := 0x1#32, segId := 0x5#16, pins := [0, 1] },
      rfl, 5,
      { kind := DKind.play, base := 0xaaa#27, lenG := 0x20#32, reps := 0x1#32, segId := 0x5#16, pins := [0, 1] }, _,
      rfl, okIs (by decide +kernel)⟩⟩ <;>
  first | decide +kernel | (constructor <;> decide +kernel)

end ForChannelInstructions

namespace ForStepRunsTheFrontCommand


/-- The hypotheses of each clause of `Obligations.StepRunsTheFrontCommand` hold together. -/
theorem met_StepRunsTheFrontCommand :
    (∃ s : State, s.pending = []) := by
  refine ⟨.reset, rfl⟩ <;>
  decide +kernel

end ForStepRunsTheFrontCommand

namespace ForRunFollowsIsKept


/-- The hypotheses of each clause of `Obligations.RunFollowsIsKept` hold together. -/
theorem met_RunFollowsIsKept :
    (∃ s s' : State, s.RunFollows ∧ step s = .next s') := by
  refine ⟨ready, ready, ⟨by decide +kernel, by decide +kernel⟩, rfl⟩ <;>
  decide +kernel

end ForRunFollowsIsKept

namespace ForClockedEventsStandStill


/-- The hypotheses of each clause of `Obligations.ClockedEventsStandStill` hold together. -/
theorem met_ClockedEventsStandStill :
    (∃ (c : Instr) (s : State), c.clocked = true ∧ s.still = true) ∧
    (∃ s : State, s.sys.por = true ∨ s.sys.pin = true ∨ (s.sys.state = .recess ∧ Port.lane 0 ≠ .mgmt)) ∧
    (∃ s : State, s.quiet = true) := by
  refine ⟨⟨.nop 0 0, { ready with sys := { state := .recess } }, ?_, ?_⟩,
    ⟨{ ready with sys := { state := .recess } }, ?_⟩, ⟨.reset, ?_⟩⟩ <;>
  decide +kernel

end ForClockedEventsStandStill

namespace ForSegmentMemoryWrites


/-- The hypotheses of each clause of `Obligations.SegmentMemoryWrites` hold together. -/
theorem met_SegmentMemoryWrites :
    (∃ m : SegMem, m.wf = true) ∧
    (∃ (bs : Bytes) (v : Nat), bs = leBytes 8 v ∧ v < 2 ^ 64) ∧
    (∃ (a w : Nat) (bs : Bytes), w + 8 ≤ a ∨ a + bs.length ≤ w) := by
  refine ⟨⟨{}, ?_⟩, ⟨_, 2 ^ 64 - 1, rfl, ?_⟩, ⟨8, 0, [], ?_⟩⟩ <;>
  decide +kernel

end ForSegmentMemoryWrites

namespace ForTimetableCommands

def st0 : State := ready
def st1 : State := { ready with tts := [(0, { state := .ready, pc := 3 })] }
def st2 : State :=
  { ready with
    tts := [(0, { state := .ready, pc := 3, gangMask := 3 })]
    woken := [{ cycle := 0, tt := 0, before := { state := .waiting, wait := .queue, gangMask := 3 }, serial := 0 }]
    chans := [(0, { queue := [{ order := 0 }] })] }
def st3 : State := { ready with tts := [(0, { state := .ready })], stops := [(0, 0)] }

/-- The hypotheses of each clause of `Obligations.TimetableCommands` hold together. -/
theorem met_TimetableCommands :
    (∃ (s u : State) (t : Nat) (r : Req) (x : Session) (i : Nat), u = s.advance t ∧ i = x.sel.get 0x2300 0x04 ∧
      u.Writes r x 0x2300 0x05 [1] ∧ (u.tt i).runs = false ∧ u.sys.state ≠ .faultSafe ∧ u.resetting = false ∧
      (u.joiner (i / 64)).resetting = false) ∧
    (∃ (s u : State) (t : Nat) (r : Req) (x : Session) (i : Nat), u = s.advance t ∧ i = x.sel.get 0x2300 0x04 ∧
      u.Writes r x 0x2300 0x05 [2] ∧ ((u.tt i).runs = false ∨ u.stopping i = true)) ∧
    (∃ (s u : State) (t : Nat) (r : Req) (x : Session) (i : Nat), u = s.advance t ∧ i = x.sel.get 0x2300 0x04 ∧
      u.Writes r x 0x2300 0x05 [2] ∧ (u.tt i).runs = true ∧ u.stopping i = false ∧
      (u.woken.find? fun w => decide (w.tt = i ∧ w.cycle = u.cycle)) = none) ∧
    (∃ (s u : State) (t : Nat) (r : Req) (x : Session) (i : Nat), u = s.advance t ∧ i = x.sel.get 0x2300 0x04 ∧ ∃ w,
      u.Writes r x 0x2300 0x05 [2] ∧ (u.tt i).runs = true ∧ u.stopping i = false ∧
      (u.woken.find? fun w => decide (w.tt = i ∧ w.cycle = u.cycle)) = some w) ∧
    (∃ (s u : State) (t : Nat) (r : Req) (x : Session) (i : Nat), u = s.advance t ∧ i = x.sel.get 0x2300 0x04 ∧
      u.Writes r x 0x2300 0x05 [3] ∧ (u.tt i).runs = false) ∧
    (∃ (s u : State) (t : Nat) (r : Req) (x : Session) (i : Nat), u = s.advance t ∧ i = x.sel.get 0x2300 0x04 ∧
      u.Writes r x 0x2300 0x05 [4] ∧ (u.tt i).runs = false) ∧
    (∃ (s : State) (t : Nat), s.still = false ∧ State.quiet { s with stops := [] } = true ∧ s.stops ≠ [] ∧
      s.cycle < (s.tick t).cycle) := by
  refine ⟨⟨st0, _, 0, ask, ses, _, rfl, rfl, ?_, ?_, ?_, ?_, ?_⟩, ⟨st0, _, 0, ask, ses, _, rfl, rfl, ?_, ?_⟩,
    ⟨st1, _, 0, ask, ses, _, rfl, rfl, ?_, ?_, ?_, ?_⟩,
    ⟨st2, _, 0, ask, ses, _, rfl, rfl,
      { cycle := 0, tt := 0, before := { gangMask := 3, state := .waiting, wait := .queue }, serial := 0 }, ?_, ?_,
      ?_, ?_⟩, ⟨st0, _, 0, ask, ses, _, rfl, rfl, ?_, ?_⟩, ⟨st0, _, 0, ask, ses, _, rfl, rfl, ?_, ?_⟩,
    ⟨st3, 1000000, ?_, ?_, ?_, ?_⟩⟩ <;>
  first
  | decide +kernel
  | exact noFiring (by decide +kernel)
  | exact noHead (by decide +kernel)
  | constructor <;> first | decide +kernel | (constructor <;> decide +kernel)

end ForTimetableCommands

namespace ForLeaderOfAChannel

def st0 : State := ready
def st2 : State := { ready with chans := [(0, { leader := 2 })], tts := [(2, { state := .ready })] }

/-- The hypotheses of each clause of `Obligations.LeaderOfAChannel` hold together. -/
theorem met_LeaderOfAChannel :
    (∃ (s u : State) (t : Nat) (r : Req) (x : Session) (data : Bytes) (n v old : Nat), u = s.advance t ∧
      u.Writes r x 0x2300 0x19 data ∧ data.length = 2 ∧ v = leNat data ∧ n = x.sel.get 0x2300 0x18 ∧
      old = (u.chan n).leader ∧ (v ≤ 6143 ∨ v = 0xFFFF) ∧ ((old < 6144 ∧ (u.tt old).runs = true) ∨ (v < 6144 ∧
      (u.tt v).runs = true))) ∧
    (∃ (s u : State) (t : Nat) (r : Req) (x : Session) (data : Bytes) (n v old : Nat), u = s.advance t ∧
      u.Writes r x 0x2300 0x19 data ∧ data.length = 2 ∧ v = leNat data ∧ n = x.sel.get 0x2300 0x18 ∧
      old = (u.chan n).leader ∧ (v ≤ 6143 ∨ v = 0xFFFF) ∧ (old < 6144 → (u.tt old).runs = false) ∧
      (v < 6144 → (u.tt v).runs = false)) := by
  refine ⟨⟨st2, _, 0, ask, ses, [0x2#8, 0x0#8], _, _, _, rfl, ?_, ?_, rfl, rfl, rfl, ?_, ?_⟩,
    ⟨st0, _, 0, ask, ses, [0x2#8, 0x0#8], _, _, _, rfl, ?_, ?_, rfl, rfl, rfl, ?_, ?_, ?_⟩⟩ <;>
  first
  | decide +kernel
  | exact noFiring (by decide +kernel)
  | exact noHead (by decide +kernel)
  | constructor <;> first | decide +kernel | (constructor <;> decide +kernel)

end ForLeaderOfAChannel

namespace ForQueueLimitAndRoom

def st0 : State := ready
def st1 : State := { runs (word 0x08 0 0 5) { gangMask := 1 } with chans := [(0, { limit := 1, queue := [{}] })] }

/-- The hypotheses of each clause of `Obligations.QueueLimitAndRoom` hold together. -/
theorem met_QueueLimitAndRoom :
    (∃ (s u : State) (t : Nat) (r : Req) (x : Session) (data : Bytes) (n v : Nat), u = s.advance t ∧
      u.Writes r x 0x2300 0x2B data ∧ data.length = 1 ∧ v = leNat data ∧ n = x.sel.get 0x2300 0x28 ∧ 1 ≤ v ∧ v ≤ 64) ∧
    (∃ (s : State), s.lockLost = false) ∧
    (∃ (s u : State) (t : Nat) (tt : Fin 6144) (f : Fetched), u = s.advance t ∧ u.Issues tt f ∧ f.opcode = 0x08 ∧
      f.rd = 0 ∧ f.ra = 0 ∧ (u.tt tt).gang ≠ [] ∧ (∃ n ∈ (u.tt tt).gang, u.room n = false)) := by
  refine ⟨⟨st0, _, 0, ask, ses, [0x1#8], _, _, rfl, ?_, ?_, rfl, rfl, ?_, ?_⟩, ⟨st0, ?_⟩,
    ⟨st1, _, 0, 0, (got 0x20000005), rfl, ?_, ?_, ?_, ?_, ?_, ?_⟩⟩ <;>
  first
  | decide +kernel
  | exact noFiring (by decide +kernel)
  | exact noHead (by decide +kernel)
  | constructor <;> first | decide +kernel | (constructor <;> decide +kernel)

end ForQueueLimitAndRoom

namespace ForHallPasses

def rq (type : Nat) (m : BulkMsg) (p : Page) : State :=
  { ready with
    now := 1000
    mem := { bulkBase := 1, bulkPages := 4, pages := [(2, p)], passes := [{ cycle := 0, type := type, msg := m }] } }
def st0 : State := ready
def st1 : State := rq 0x41 (bm 0x40000002 0 0 0) {}
def st5 : State := rq 0x43 (bm 0x40000002 0 0 0) { pass := .host, accepted := 16 }
def st6 : State := rq 0x43 (bm 0x40000002 0 15 0) { pass := .host, accepted := 16 }
def st7 : State := rq 0x41 (bm 0x40000004 0 0 0) {}

/-- The hypotheses of each clause of `Obligations.HallPasses` hold together. -/
theorem met_HallPasses :
    (∃ (s u : State) (t : Nat) (m : BulkMsg), u = s.advance t ∧ u.TakesBulk m) ∧
    (∃ (s y z u : State) (t c type : Nat) (m : BulkMsg) (p : Page), y = s.tick t ∧ u = s.advance t ∧
      z = y.modPort m.port (fun l => { l with refused := l.refused + 1 }) ∧ s.still = false ∧
      State.quiet { s with mem := { s.mem with passes := [] } } = true ∧
      s.mem.passes = [{ cycle := c, type := type, msg := m }] ∧ s.cycle < y.cycle ∧ s.bulkOpen m.port = true ∧
      p = s.mem.page m.page ∧ m.page < s.mem.bulkPages ∧ s.filling m.page = false ∧ ∃ p', ((type = 0x41 ∧
      p.pass = .free ∧ p' = { p with pass := .host, accepted := 0 }) ∨ (type = 0x41 ∧ p.pass = .host ∧
      p' = p) ∨ (type = 0x42 ∧ p.pass = .host ∧ p.closing = false ∧ p.waiting = none ∧
      p' = { p with pass := .free, waiting := none }) ∨ (type = 0x44 ∧ p.pass = .device ∧
      p' = { p with pass := .host, accepted := 0, waiting := none }))) ∧
    (∃ (s y z u : State) (t c type : Nat) (m : BulkMsg) (p : Page), y = s.tick t ∧ u = s.advance t ∧
      z = y.modPort m.port (fun l => { l with refused := l.refused + 1 }) ∧ s.still = false ∧
      State.quiet { s with mem := { s.mem with passes := [] } } = true ∧
      s.mem.passes = [{ cycle := c, type := type, msg := m }] ∧ s.cycle < y.cycle ∧ s.bulkOpen m.port = true ∧
      p = s.mem.page m.page ∧ m.page < s.mem.bulkPages ∧ s.filling m.page = false ∧ type = 0x43 ∧ p.pass = .host ∧
      p.closing = false ∧ p.waiting = none ∧ (m.w2 = 0 ∨ m.w2 = BitVec.ofNat 32 p.accepted)) ∧
    (∃ (s y z u : State) (t c type : Nat) (m : BulkMsg) (p : Page), y = s.tick t ∧ u = s.advance t ∧
      z = y.modPort m.port (fun l => { l with refused := l.refused + 1 }) ∧ s.still = false ∧
      State.quiet { s with mem := { s.mem with passes := [] } } = true ∧
      s.mem.passes = [{ cycle := c, type := type, msg := m }] ∧ s.cycle < y.cycle ∧ s.bulkOpen m.port = true ∧
      p = s.mem.page m.page ∧ m.page < s.mem.bulkPages ∧ s.filling m.page = false ∧ type = 0x43 ∧ p.pass = .host ∧
      p.closing = false ∧ p.waiting = none ∧ m.w2 ≠ 0 ∧ m.w2 ≠ BitVec.ofNat 32 p.accepted) ∧
    (∃ (s y z u : State) (t c type : Nat) (m : BulkMsg) (p : Page), y = s.tick t ∧ u = s.advance t ∧
      z = y.modPort m.port (fun l => { l with refused := l.refused + 1 }) ∧ s.still = false ∧
      State.quiet { s with mem := { s.mem with passes := [] } } = true ∧
      s.mem.passes = [{ cycle := c, type := type, msg := m }] ∧ s.cycle < y.cycle ∧ s.bulkOpen m.port = true ∧
      p = s.mem.page m.page ∧ ∃ code, ((y.mem.bulkPages ≤ m.page ∧
      (type = 0x41 ∨ type = 0x42 ∨ type = 0x43 ∨ type = 0x44) ∧
      code = Abort.range.code) ∨ (m.page < y.mem.bulkPages ∧ type = 0x41 ∧ (p.pass = .device ∨ p.pass = .reading) ∧
      code = Abort.pageBusy.code) ∨ (m.page < y.mem.bulkPages ∧ type = 0x44 ∧ p.pass ≠ .device ∧
      code = Abort.pageBusy.code) ∨ (m.page < y.mem.bulkPages ∧ (type = 0x42 ∨ type = 0x43) ∧
      (p.pass ≠ .host ∨ p.closing = true ∨ p.waiting.isSome = true) ∧ code = Abort.pageNotHeld.code))) ∧
    (∃ (s u : State) (t : Nat) (m : BulkMsg) (p : Page) (h : Fin 16384), u = s.advance t ∧ u.still = false ∧
      u.bulkOpen m.port = true ∧ h.val = m.page ∧ p = u.mem.page m.page ∧ p.handover = some m) := by
  refine ⟨⟨st0, _, 0,
      { port := Port.mgmt, seq := 0x1#32, w0 := 0x40000002#32, w1 := 0x0#32, w2 := 0x0#32, w3 := 0x0#32 }, rfl, ?_⟩,
    ⟨st1, _, _, _, 1000000, 0, 65,
      { port := Port.mgmt, seq := 0x1#32, w0 := 0x40000002#32, w1 := 0x0#32, w2 := 0x0#32, w3 := 0x0#32 }, _, rfl,
      rfl, rfl, ?_, ?_, ?_, ?_, ?_, rfl, ?_, ?_,
      { pass := Pass.host, closing := false, ring := false, pins := 0, accepted := 0, played := false, handover := none, waiting := none }, ?_⟩,
    ⟨st5, _, _, _, 1000000, 0, 67,
      { port := Port.mgmt, seq := 0x1#32, w0 := 0x40000002#32, w1 := 0x0#32, w2 := 0x0#32, w3 := 0x0#32 }, _, rfl,
      rfl, rfl, ?_, ?_, ?_, ?_, ?_, rfl, ?_, ?_, ?_, ?_, ?_, ?_, ?_⟩,
    ⟨st6, _, _, _, 1000000, 0, 67,
      { port := Port.mgmt, seq := 0x1#32, w0 := 0x40000002#32, w1 := 0x0#32, w2 := 0xf#32, w3 := 0x0#32 }, _, rfl,
      rfl, rfl, ?_, ?_, ?_, ?_, ?_, rfl, ?_, ?_, ?_, ?_, ?_, ?_, ?_, ?_⟩,
    ⟨st7, _, _, _, 1000000, 0, 65,
      { port := Port.mgmt, seq := 0x1#32, w0 := 0x40000004#32, w1 := 0x0#32, w2 := 0x0#32, w3 := 0x0#32 }, _, rfl,
      rfl, rfl, ?_, ?_, ?_, ?_, ?_, rfl, 33554439, ?_⟩,
    ⟨st5, _, 1000000,
      { port := Port.mgmt, seq := 0x1#32, w0 := 0x40000002#32, w1 := 0x0#32, w2 := 0x0#32, w3 := 0x0#32 }, _, 2, rfl,
      ?_, ?_, ?_, rfl, ?_⟩⟩ <;>
  first | decide +kernel | (constructor <;> decide +kernel)

end ForHallPasses

namespace ForBulkWrites

def pg (p : Page) : State := { ready with mem := { bulkBase := 1, bulkPages := 4, pages := [(2, p)] } }
def st0 : State := pg { pass := .host }
def st1 : State := pg { pass := .free }
def st3 : State := { ready with sys := { state := .standby }, mem := { bulkBase := 1, bulkPages := 4 } }

/-- The hypotheses of each clause of `Obligations.BulkWrites` hold together. -/
theorem met_BulkWrites :
    (∃ (s u x y z : State) (t : Nat) (m : BulkMsg) (data : Bytes) (p : Page) (a : Nat), u = s.advance t ∧
      u.TakesBulk m ∧ p = u.mem.page m.page ∧ m.length = data.length ∧ 16 ≤ data.length ∧
      data.length ≤ (if m.port.isLane = true then 2097152 else 8960) ∧ data.length % 16 = 0 ∧
      a = m.addr u.mem.bulkBase ∧ y = u.modPort m.port (fun l => l.meetSeq m.seq) ∧ x = y.holdFetched a data.length ∧
      z = y.modPort m.port (fun l => { l with refused := l.refused + 1 }) ∧ m.abs = false ∧
      m.page < u.mem.bulkPages ∧ m.w1.toNat % 16 = 0 ∧ m.w1.toNat + data.length ≤ 2097152 ∧ p.pass = .host ∧
      p.closing = false) ∧
    (∃ (s u x y z : State) (t : Nat) (m : BulkMsg) (data : Bytes) (p : Page) (a : Nat), u = s.advance t ∧
      u.TakesBulk m ∧ p = u.mem.page m.page ∧ m.length = data.length ∧ 16 ≤ data.length ∧
      data.length ≤ (if m.port.isLane = true then 2097152 else 8960) ∧ data.length % 16 = 0 ∧
      a = m.addr u.mem.bulkBase ∧ y = u.modPort m.port (fun l => l.meetSeq m.seq) ∧ x = y.holdFetched a data.length ∧
      z = y.modPort m.port (fun l => { l with refused := l.refused + 1 }) ∧ m.abs = false ∧
      m.page < u.mem.bulkPages ∧ m.w1.toNat % 16 = 0 ∧ m.w1.toNat + data.length ≤ 2097152 ∧
      (p.pass ≠ .host ∨ p.closing = true)) ∧
    (∃ (s u x y z : State) (t : Nat) (m : BulkMsg) (data : Bytes) (p : Page) (a : Nat), u = s.advance t ∧
      u.TakesBulk m ∧ p = u.mem.page m.page ∧ m.length = data.length ∧ 16 ≤ data.length ∧
      data.length ≤ (if m.port.isLane = true then 2097152 else 8960) ∧ data.length % 16 = 0 ∧
      a = m.addr u.mem.bulkBase ∧ y = u.modPort m.port (fun l => l.meetSeq m.seq) ∧ x = y.holdFetched a data.length ∧
      z = y.modPort m.port (fun l => { l with refused := l.refused + 1 }) ∧ m.abs = true ∧ a % 16 = 0 ∧
      a + data.length ≤ hbmBytes ∧
      (u.mem.bulkPages = 0 ∨ a + data.length ≤ u.mem.bulkBase * 2097152 ∨ (u.mem.bulkBase + u.mem.bulkPages) *
        2097152 ≤ a)) ∧
    (∃ (s u x y w : State) (t : Nat) (m : BulkMsg) (l : Fin 48) (data : Bytes) (p : Page) (a : Nat),
      u = s.advance t ∧ u.TakesBulk m ∧ m.port = .lane l ∧ p = u.mem.page m.page ∧ data.length < m.length ∧
      m.length ≤ 2097152 ∧ m.length % 16 = 0 ∧ a = m.addr u.mem.bulkBase ∧
      y = u.modPort m.port (fun v => v.meetSeq m.seq) ∧ x = y.holdFetched a data.length ∧ m.abs = false ∧
      m.page < u.mem.bulkPages ∧ m.w1.toNat % 16 = 0 ∧ m.w1.toNat + m.length ≤ 2097152 ∧ p.pass = .host ∧
      p.closing = false ∧
      w = y.modLane l (fun v => { v with msg := some { page := some m.page, addr := a + data.length, due := m.length - data.length, skip := false } })) ∧
    (∃ (s u z : State) (t : Nat) (m : BulkMsg) (data : Bytes) (a : Nat), u = s.advance t ∧ u.TakesBulk m ∧
      a = m.addr u.mem.bulkBase ∧
      z = u.modPort m.port (fun l => { l.meetSeq m.seq with refused := (l.meetSeq m.seq).refused + 1 }) ∧
      (m.port.isLane = true → m.length = data.length) ∧ ∃ code, ((code = Abort.length.code ∧
      (m.length = 0 ∨ m.length % 16 ≠ 0 ∨ m.length ≠ data.length ∨ (if m.port.isLane = true then 2097152 else 8960)
        < m.length)) ∨ (code = Abort.range.code ∧ m.length = data.length ∧ 16 ≤ m.length ∧ m.length % 16 = 0 ∧
      m.length ≤ (if m.port.isLane = true then 2097152 else 8960) ∧ ((m.abs = false ∧
      (u.mem.bulkPages ≤ m.page ∨ m.w1.toNat % 16 ≠ 0 ∨ 2097152 < m.w1.toNat + m.length)) ∨ (m.abs = true ∧
      (a % 16 ≠ 0 ∨ hbmBytes < a + m.length ∨ (u.mem.bulkPages ≠ 0 ∧
      a < (u.mem.bulkBase + u.mem.bulkPages) * 2097152 ∧ u.mem.bulkBase * 2097152 < a + m.length))))))) ∧
    (∃ (s u z : State) (t : Nat) (m : BulkMsg) (data : Bytes), u = s.advance t ∧ u.sys.por = false ∧
      u.sys.pin = false ∧ (u.sys.state = .standby ∨ u.sys.state = .recess) ∧ m.port = .mgmt ∧
      (u.oda.sessions.any fun x => decide (x.port = m.port ∧ x.version = 1) && !x.proxy) = false ∧
      z = { u with mgmt := { u.mgmt.meetSeq m.seq with refused := (u.mgmt.meetSeq m.seq).refused + 1 } } ∧
      (m.length = data.length ∧ 16 ≤ m.length ∧ m.length % 16 = 0 ∧ m.length ≤ 8960)) := by
  refine ⟨⟨st0, _, _, _, _, 0,
      { port := Port.mgmt, seq := 0x1#32, w0 := 0x40000002#32, w1 := 0x20#32, w2 := 0x0#32, w3 := 0x10#32 },
      (List.replicate 16 0x7#8), _, _, rfl, ?_, rfl, ?_, ?_, ?_, ?_, rfl, rfl, rfl, rfl, ?_, ?_, ?_, ?_, ?_, ?_⟩,
    ⟨st1, _, _, _, _, 0,
      { port := Port.mgmt, seq := 0x1#32, w0 := 0x40000002#32, w1 := 0x20#32, w2 := 0x0#32, w3 := 0x10#32 },
      (List.replicate 16 0x7#8), _, _, rfl, ?_, rfl, ?_, ?_, ?_, ?_, rfl, rfl, rfl, rfl, ?_, ?_, ?_, ?_, ?_⟩,
    ⟨st0, _, _, _, _, 0,
      { port := Port.mgmt, seq := 0x1#32, w0 := 0xc0000000#32, w1 := 0x8000000#32, w2 := 0x0#32, w3 := 0x10#32 },
      (List.replicate 16 0x7#8), _, _, rfl, ?_, rfl, ?_, ?_, ?_, ?_, rfl, rfl, rfl, rfl, ?_, ?_, ?_, ?_⟩,
    ⟨st0, _, _, _, _, 0,
      { port := Port.lane 8, seq := 0x1#32, w0 := 0x40000002#32, w1 := 0x20#32, w2 := 0x0#32, w3 := 0x30#32 }, 8,
      (List.replicate 16 0x7#8), _, _, rfl, ?_, ?_, rfl, ?_, ?_, ?_, rfl, rfl, rfl, ?_, ?_, ?_, ?_, ?_, ?_, rfl⟩,
    ⟨st0, _, _, 0,
      { port := Port.mgmt, seq := 0x1#32, w0 := 0xc0000000#32, w1 := 0x8000000#32, w2 := 0x0#32, w3 := 0x11#32 },
      (List.replicate 16 0x7#8), _, rfl, ?_, rfl, rfl, ?_, 33554435, ?_⟩,
    ⟨st3, _, _, 0,
      { port := Port.mgmt, seq := 0x1#32, w0 := 0x40000002#32, w1 := 0x20#32, w2 := 0x0#32, w3 := 0x10#32 },
      (List.replicate 16 0x7#8), rfl, ?_, ?_, ?_, ?_, ?_, rfl, ?_⟩⟩ <;>
  first | decide +kernel | (constructor <;> decide +kernel)

end ForBulkWrites

namespace ForPatrolScrub

def st1 : State := { ready with mem := ({} : SegMem).write 0 [1,2,3,4,5,6,7,8] }
def st2 : State := { ready with mem := { ({} : SegMem).write 0 [1,2,3,4,5,6,7,8] with ce := [0] } }
def st3 : State := { ready with mem := { ({} : SegMem).write 0 [1,2,3,4,5,6,7,8] with ue := [0] } }

/-- The hypotheses of each clause of `Obligations.PatrolScrub` hold together. -/
theorem met_PatrolScrub :
    (∃ (s u : State) (t : Nat) (w : Fin 12884901888), u = s.advance t ∧ u.still = false ∧ u.sys.state ≠ .boot ∧
      u.sys.state ≠ .standby ∧ ∃ v, u.mem.readWord u.draws 0 (8 * w) = .data v) ∧
    (∃ (s u : State) (t : Nat) (w : Fin 12884901888) (raced : Bool), u = s.advance t ∧ u.still = false ∧
      u.sys.state ≠ .boot ∧ u.sys.state ≠ .standby ∧ ∃ v, u.mem.readWord u.draws 0 (8 * w) = .corrected v ∧
      (raced = true ∨ u.mem.word? (8 * w) = none)) ∧
    (∃ (s u : State) (t : Nat) (w : Fin 12884901888) (raced : Bool), u = s.advance t ∧ u.still = false ∧
      u.sys.state ≠ .boot ∧ u.sys.state ≠ .standby ∧ ∃ v bs, u.mem.readWord u.draws 0 (8 * w) = .corrected v ∧
      raced = false ∧ u.mem.word? (8 * w) = some bs) ∧
    (∃ (s u : State) (t : Nat) (w : Fin 12884901888), u = s.advance t ∧ u.still = false ∧ u.sys.state ≠ .boot ∧
      u.sys.state ≠ .standby ∧ u.mem.readWord u.draws 0 (8 * w) = .bad) := by
  refine ⟨⟨st1, _, 0, 0, rfl, ?_, ?_, ?_, 0x0807060504030201, ?_⟩,
    ⟨st2, _, 0, 0, true, rfl, ?_, ?_, ?_, 0x807060504030201#64, ?_, ?_⟩,
    ⟨st2, _, 0, 0, _, rfl, ?_, ?_, ?_, 0x807060504030201#64, [0x1#8, 0x2#8, 0x3#8, 0x4#8, 0x5#8, 0x6#8, 0x7#8,
      0x8#8], ?_, rfl, ?_⟩, ⟨st3, _, 0, 0, rfl, ?_, ?_, ?_, ?_⟩⟩ <;>
  decide +kernel

end ForPatrolScrub

namespace ForSegmentTables

def st0 : State := ready
def st1 : State :=
  { ready with
    mem := {
      bulkPages := 9
      rings := [(3, { valid := true, first := 2, count := 3, lenG := 16 })]
      pages := [(2, { ring := true }), (3, { ring := true }), (4, { ring := true })] } }
def st2 : State := { ready with chans := [(0, { queue := [{ kind := .stream, base := 0 }] })] }

/-- The hypotheses of each clause of `Obligations.SegmentTables` hold together. -/
theorem met_SegmentTables :
    (∃ (s u : State) (t : Nat) (r : Req) (x : Session) (data : Bytes), u = s.advance t ∧ ∃ i,
      u.Writes r x 0x2200 0x02 data ∧ data.length = 32 ∧ i = x.sel.get 0x2200 0x01 ∧ (segOf data).ok = true) ∧
    (∃ (s u : State) (t : Nat) (r : Req) (x : Session) (data : Bytes), u = s.advance t ∧
      u.Writes r x 0x2200 0x02 data ∧ data.length = 32 ∧ (segOf data).valid = true ∧
      ((segOf data).lenG.toNat < 16 ∨ 2 ≤ (segOf data).format.toNat ∨ 103079215104 < 768 * (segOf data).base.toNat +
        (segOf data).lenG.toNat * (if (segOf data).format = 0 then 24 else 32))) ∧
    (∃ (s u : State) (t : Nat) (r : Req) (x : Session) (data : Bytes), u = s.advance t ∧ ∃ i,
      u.Writes r x 0x2200 0x04 data ∧ data.length = 32 ∧ i = x.sel.get 0x2200 0x03) ∧
    (∃ (s u : State) (t : Nat) (r : Req) (x : Session) (data : Bytes), u = s.advance t ∧ ∃ i,
      u.Writes r x 0x2200 0x06 data ∧ data.length = 16 ∧ i = x.sel.get 0x2200 0x05 ∧ u.streams (some i) = false ∧
      u.mem.ringOk i (ringOf data) = true) ∧
    (∃ (s u : State) (t : Nat) (r : Req) (x : Session) (data : Bytes), u = s.advance t ∧ ∃ i g,
      u.Writes r x 0x2200 0x06 data ∧ data.length = 16 ∧ i = x.sel.get 0x2200 0x05 ∧ g = ringOf data ∧
      u.streams (some i) = true) ∧
    (∃ (s u : State) (t : Nat) (r : Req) (x : Session) (data : Bytes), u = s.advance t ∧ ∃ i g,
      u.Writes r x 0x2200 0x06 data ∧ data.length = 16 ∧ i = x.sel.get 0x2200 0x05 ∧ g = ringOf data ∧
      u.streams (some i) = false ∧ g.valid = true ∧
      (u.mem.bulkPages < g.first + g.count ∨ g.count = 0 ∨ 2 ≤ g.format.toNat ∨ g.lenG < 16 ∨ (g.format = 0 ∧
      87360 < g.lenG) ∨ (g.format = 1 ∧ 65520 < g.lenG) ∨ (∃ p ∈ u.mem.rings, p.1 ≠ i ∧ (∃ q ∈ g.pages,
      q ∈ p.2.pages)))) ∧
    (∃ (s u : State) (t : Nat) (r : Req) (x : Session) (data : Bytes), u = s.advance t ∧
      u.Writes r x 0x2200 0x02 data ∧ data.length ≠ 32) ∧
    (∃ (s u : State) (t : Nat) (r : Req) (x : Session) (data : Bytes), u = s.advance t ∧
      ∃ (pages : Bool) (base n : Nat), u.Writes r x 0x2200 (if pages then 0x09 else 0x08) data ∧
      data.length = (if pages then 2 else 4) ∧ base = (if pages then u.mem.bulkBase else leNat data) ∧
      n = (if pages then leNat data else u.mem.bulkPages) ∧ base ≤ 49151 ∧ n ≤ 16384 ∧ base + n ≤ 49152 ∧
      (∀ q : Page, (∃ k, (k, q) ∈ u.mem.pages) → q.pass ≠ .device ∧ q.pass ≠ .reading ∧ q.closing = false) ∧
      u.streams none = false) := by
  refine ⟨⟨st0, _, 0, ask, ses, [0x0#8, 0x0#8, 0x0#8, 0x0#8, 0x10#8, 0x0#8, 0x0#8, 0x0#8, 0x0#8, 0x0#8, 0x0#8, 0x0#8,
      0x0#8, 0x0#8, 0x0#8, 0x0#8, 0x0#8, 0x0#8, 0x0#8, 0x0#8, 0x0#8, 0x0#8, 0x0#8, 0x0#8, 0x0#8, 0x0#8, 0x0#8, 0x0#8,
      0x0#8, 0x0#8, 0x0#8, 0x0#8], rfl, _, ?_, ?_, rfl, ?_⟩,
    ⟨st0, _, 0, ask, ses, [0x0#8, 0x0#8, 0x0#8, 0x0#8, 0xf#8, 0x0#8, 0x0#8, 0x0#8, 0x0#8, 0x0#8, 0x0#8, 0x80#8,
      0x0#8, 0x0#8, 0x0#8, 0x0#8, 0x0#8, 0x0#8, 0x0#8, 0x0#8, 0x0#8, 0x0#8, 0x0#8, 0x0#8, 0x0#8, 0x0#8, 0x0#8, 0x0#8,
      0x0#8, 0x0#8, 0x0#8, 0x0#8], rfl, ?_, ?_, ?_, ?_⟩,
    ⟨st0, _, 0, ask, ses, [0x0#8, 0x0#8, 0x0#8, 0x0#8, 0x10#8, 0x0#8, 0x0#8, 0x0#8, 0x0#8, 0x0#8, 0x0#8, 0x0#8,
      0x0#8, 0x0#8, 0x0#8, 0x0#8, 0x0#8, 0x0#8, 0x0#8, 0x0#8, 0x0#8, 0x0#8, 0x0#8, 0x0#8, 0x0#8, 0x0#8, 0x0#8, 0x0#8,
      0x0#8, 0x0#8, 0x0#8, 0x0#8], rfl, _, ?_, ?_, rfl⟩,
    ⟨st0, _, 0, ask, ses, (List.replicate 16 0x0#8), rfl, _, ?_, ?_, rfl, ?_, ?_⟩,
    ⟨st2, _, 0, ask, ses, (List.replicate 16 0), rfl, _, _, ?_, ?_, rfl, rfl, ?_⟩,
    ⟨st1, _, 0, ask, ses, (leBytes 4 0x80000009 ++ leBytes 4 1 ++ leBytes 4 16 ++ leBytes 4 0), rfl, _, _, ?_, ?_,
      rfl, rfl, ?_, ?_, ?_⟩, ⟨st0, _, 0, ask, ses, [], rfl, ?_, ?_⟩,
    ⟨st0, _, 0, ask, ses, [0x9#8, 0x0#8], rfl, true, _, _, ?_, ?_, rfl, rfl, ?_, ?_, ?_, noPage (by decide +kernel),
      ?_⟩⟩ <;>
  first
  | decide +kernel
  | exact noFiring (by decide +kernel)
  | exact noHead (by decide +kernel)
  | constructor <;> first | decide +kernel | (constructor <;> decide +kernel)

end ForSegmentTables

namespace ForGangAndEventRingWrites

def st0 : State := ready
def st1 : State := { ready with chans := [(3, { leader := 0 }), (4, { leader := 0 })], evr := { head := 5 } }
def st2 : State := { ready with tts := [(7, { state := .waiting, wait := .evr })] }

/-- The hypotheses of each clause of `Obligations.GangAndEventRingWrites` hold together. -/
theorem met_GangAndEventRingWrites :
    (∃ (s u : State) (t : Nat) (r : Req) (x : Session) (data : Bytes) (v : Nat), u = s.advance t ∧ v = leNat data ∧
      ∃ i base mask, u.Writes r x 0x2300 0x0D data ∧ data.length = 4 ∧ i = x.sel.get 0x2300 0x04 ∧
      (u.tt i).runs = false ∧ v = mask * 65536 + base ∧ base < 64 ∧ mask < 65536 ∧ (∀ b,
      b < 16 → bitOf mask b = true → base + b ≤ 63 ∧ (u.chan (base + b)).leader = i)) ∧
    (∃ (s u : State) (t : Nat) (r : Req) (x : Session) (data : Bytes) (v : Nat), u = s.advance t ∧ v = leNat data ∧
      ∃ i base mask b, u.Writes r x 0x2300 0x0D data ∧ data.length = 4 ∧ i = x.sel.get 0x2300 0x04 ∧
      (u.tt i).runs = false ∧ v = mask * 65536 + base ∧ base < 64 ∧ mask < 65536 ∧ (∀ c,
      c < 16 → bitOf mask c = true → base + c ≤ 63) ∧ b < 16 ∧ bitOf mask b = true ∧ (u.chan (base + b)).leader ≠ i) ∧
    (∃ (s u : State) (t : Nat) (r : Req) (x : Session) (data : Bytes) (v : Nat), u = s.advance t ∧ v = leNat data ∧
      ∃ (w : Word), u.Writes r x 0x2300 0x22 data ∧ data.length = 4 ∧ w = BitVec.ofNat 32 v ∧
      (u.evr.head - w).toNat ≤ 2048) ∧
    (∃ (s u : State) (t : Nat) (r : Req) (x : Session) (data : Bytes) (v : Nat), u = s.advance t ∧ v = leNat data ∧
      u.Writes r x 0x2300 0x22 data ∧ data.length = 4 ∧ 2048 < (u.evr.head - BitVec.ofNat 32 v).toNat) ∧
    (∃ (s u : State) (t : Nat) (r : Req) (x : Session) (data : Bytes) (v : Nat), u = s.advance t ∧ v = leNat data ∧
      u.Writes r x 0x2300 0x25 data ∧ data.length = 1 ∧ v ≤ 1 ∧
      (v = 0 → (u.tts.any fun p => decide (p.2.state = .waiting ∧ p.2.wait = .evr)) = false)) ∧
    (∃ (s u : State) (t : Nat) (r : Req) (x : Session) (data : Bytes) (v : Nat), u = s.advance t ∧ v = leNat data ∧
      u.Writes r x 0x2300 0x25 data ∧ data.length = 1 ∧ v = 0 ∧ (u.tts.any fun p => decide (p.2.state = .waiting ∧
      p.2.wait = .evr)) = true) := by
  refine ⟨⟨st0, _, 0, ask, ses, [0x3#8, 0x0#8, 0x0#8, 0x0#8], _, rfl, rfl, _, 3, 0, ?_, ?_, rfl, ?_, ?_, ?_, ?_, ?_⟩,
    ⟨st0, _, 0, ask, ses, [0x3#8, 0x0#8, 0x3#8, 0x0#8], _, rfl, rfl, _, 3, 3, 0, ?_, ?_, rfl, ?_, ?_, ?_, ?_, ?_, ?_,
      ?_, ?_⟩, ⟨st1, _, 0, ask, ses, [0x3#8, 0x0#8, 0x0#8, 0x0#8], _, rfl, rfl, _, ?_, ?_, rfl, ?_⟩,
    ⟨st0, _, 0, ask, ses, [0x3#8, 0x0#8, 0x3#8, 0x0#8], _, rfl, rfl, ?_, ?_, ?_⟩,
    ⟨st0, _, 0, ask, ses, [0x0#8], _, rfl, rfl, ?_, ?_, ?_, ?_⟩,
    ⟨st2, _, 0, ask, ses, [0x0#8], _, rfl, rfl, ?_, ?_, ?_, ?_⟩⟩ <;>
  first
  | decide +kernel
  | exact noFiring (by decide +kernel)
  | exact noHead (by decide +kernel)
  | constructor <;> first | decide +kernel | (constructor <;> decide +kernel)

end ForGangAndEventRingWrites

namespace ForCodeAndSharedWindows

def sl (i o : Nat) : Selectors := ((({} : Selectors).set 0x2300 0x01 1).set 0x2300 0x02 i).set 0x2300 0x13 o
def st0 : State := ready (sl 0 0)
def st2 : State := ready (sl 131068 16380)
def st3 : State := ready (sl 131072 16384)
def st4 : State := { ready (sl 0 0) with sec := { reqSigned := true } }

/-- The hypotheses of each clause of `Obligations.CodeAndSharedWindows` hold together. -/
theorem met_CodeAndSharedWindows :
    (∃ (s u : State) (t : Nat) (r : Req) (x : Session) (data : Bytes) (j o : Nat), u = s.advance t ∧
      j = x.sel.get 0x2300 0x01 ∧ u.Writes r x 0x2300 0x03 data ∧ 4 ≤ data.length ∧ data.length ≤ 8960 ∧
      data.length % 4 = 0 ∧ o = x.sel.get 0x2300 0x02 ∧ o % 4 = 0 ∧ u.sec.reqSigned = false ∧
      o + data.length ≤ 131072) ∧
    (∃ (s u : State) (t : Nat) (r : Req) (x : Session) (data : Bytes) (j o : Nat), u = s.advance t ∧
      j = x.sel.get 0x2300 0x01 ∧ u.Writes r x 0x2300 0x03 data ∧ 4 ≤ data.length ∧ data.length ≤ 8960 ∧
      data.length % 4 = 0 ∧ o = x.sel.get 0x2300 0x02 ∧ o % 4 = 0 ∧ u.sec.reqSigned = false ∧
      131072 < o + data.length) ∧
    (∃ (s u : State) (t : Nat) (r : Req) (x : Session) (data : Bytes) (j o : Nat), u = s.advance t ∧
      j = x.sel.get 0x2300 0x01 ∧ u.Writes r x 0x2300 0x03 data ∧ 4 ≤ data.length ∧ data.length ≤ 8960 ∧
      data.length % 4 = 0 ∧ o = x.sel.get 0x2300 0x02 ∧ o + data.length ≤ 131072 ∧ u.sec.reqSigned = true) ∧
    (∃ (s u : State) (t : Nat) (r : Req) (x : Session) (data : Bytes) (j o : Nat), u = s.advance t ∧
      j = x.sel.get 0x2300 0x01 ∧ u.Writes r x 0x2300 0x14 data ∧ 4 ≤ data.length ∧ data.length ≤ 8960 ∧
      data.length % 4 = 0 ∧ o = x.sel.get 0x2300 0x13 ∧ o % 4 = 0 ∧ o + data.length ≤ 16384) ∧
    (∃ (s u : State) (t : Nat) (r : Req) (x : Session) (data : Bytes) (j o : Nat), u = s.advance t ∧
      j = x.sel.get 0x2300 0x01 ∧ u.Writes r x 0x2300 0x14 data ∧ 4 ≤ data.length ∧ data.length ≤ 8960 ∧
      data.length % 4 = 0 ∧ o = x.sel.get 0x2300 0x13 ∧ o % 4 = 0 ∧ 16384 < o + data.length) ∧
    (∃ (s u : State) (t : Nat) (r : Req) (x : Session) (j o : Nat), u = s.advance t ∧ j = x.sel.get 0x2300 0x01 ∧
      u.Reads r x 0x2300 0x03 ∧ o = x.sel.get 0x2300 0x02 ∧ 131072 ≤ o) ∧
    (∃ (s u : State) (t : Nat) (r : Req) (x : Session) (j o : Nat), u = s.advance t ∧ j = x.sel.get 0x2300 0x01 ∧
      u.Reads r x 0x2300 0x03 ∧ o = x.sel.get 0x2300 0x02 ∧ o < 131072) ∧
    (∃ (s u : State) (t : Nat) (r : Req) (x : Session) (j o : Nat), u = s.advance t ∧ j = x.sel.get 0x2300 0x01 ∧
      u.Reads r x 0x2300 0x14 ∧ o = x.sel.get 0x2300 0x13 ∧ 16384 ≤ o) ∧
    (∃ (s u : State) (t : Nat) (r : Req) (x : Session) (j o : Nat), u = s.advance t ∧ j = x.sel.get 0x2300 0x01 ∧
      u.Reads r x 0x2300 0x14 ∧ o = x.sel.get 0x2300 0x13 ∧ o < 16384) := by
  refine ⟨⟨st0, _, 0, ask, ses { vals := [(2293761, 1)] }, [0x1#8, 0x2#8, 0x3#8, 0x4#8, 0x5#8, 0x6#8, 0x7#8, 0x8#8],
      _, _, rfl, rfl, ?_, ?_, ?_, ?_, rfl, ?_, ?_, ?_⟩,
    ⟨st2, _, 0, ask, ses { vals := [(2293761, 1), (2293762, 131068), (2293779, 16380)] }, [0x1#8, 0x2#8, 0x3#8,
      0x4#8, 0x5#8, 0x6#8, 0x7#8, 0x8#8], _, _, rfl, rfl, ?_, ?_, ?_, ?_, rfl, ?_, ?_, ?_⟩,
    ⟨st4, _, 0, ask, ses { vals := [(2293761, 1)] }, [0x1#8, 0x2#8, 0x3#8, 0x4#8, 0x5#8, 0x6#8, 0x7#8, 0x8#8], _, _,
      rfl, rfl, ?_, ?_, ?_, ?_, rfl, ?_, ?_⟩,
    ⟨st0, _, 0, ask, ses { vals := [(2293761, 1)] }, [0x1#8, 0x2#8, 0x3#8, 0x4#8, 0x5#8, 0x6#8, 0x7#8, 0x8#8], _, _,
      rfl, rfl, ?_, ?_, ?_, ?_, rfl, ?_, ?_⟩,
    ⟨st2, _, 0, ask, ses { vals := [(2293761, 1), (2293762, 131068), (2293779, 16380)] }, [0x1#8, 0x2#8, 0x3#8,
      0x4#8, 0x5#8, 0x6#8, 0x7#8, 0x8#8], _, _, rfl, rfl, ?_, ?_, ?_, ?_, rfl, ?_, ?_⟩,
    ⟨st3, _, 0, ask, ses { vals := [(2293761, 1), (2293762, 131072), (2293779, 16384)] }, _, _, rfl, rfl, ?_, rfl,
      ?_⟩, ⟨st0, _, 0, ask, ses { vals := [(2293761, 1)] }, _, _, rfl, rfl, ?_, rfl, ?_⟩,
    ⟨st3, _, 0, ask, ses { vals := [(2293761, 1), (2293762, 131072), (2293779, 16384)] }, _, _, rfl, rfl, ?_, rfl,
      ?_⟩, ⟨st0, _, 0, ask, ses { vals := [(2293761, 1)] }, _, _, rfl, rfl, ?_, rfl, ?_⟩⟩ <;>
  first
  | decide +kernel
  | exact noFiring (by decide +kernel)
  | exact noHead (by decide +kernel)
  | constructor <;> first | decide +kernel | (constructor <;> decide +kernel)

end ForCodeAndSharedWindows

namespace ForChannelSettingsWait

def st0 : State := ready

/-- The hypotheses of each clause of `Obligations.ChannelSettingsWait` hold together. -/
theorem met_ChannelSettingsWait :
    (∃ (s u : State) (t : Nat) (r : Req) (x : Session) (n : Fin 64) (data : Bytes) (v : Nat) (c : Channel),
      u = s.advance t ∧ v = leNat data ∧ u.still = false ∧ c = (u.upTo n).chan n ∧
      u.Writes r x (0x2400 + n) 0x04 data ∧ data.length = 1 ∧ (v ≤ 3)) ∧
    (∃ (s u : State) (t : Nat) (r : Req) (x : Session) (n : Fin 64) (data : Bytes) (v : Nat) (c : Channel),
      u = s.advance t ∧ v = leNat data ∧ u.still = false ∧ c = (u.upTo n).chan n ∧ ∃ i, i = x.sel.get 0x2300 0x28 ∧
      u.Writes r x 0x2300 0x2A data ∧ data.length = 1 ∧ v ≤ 1) ∧
    (∃ (s u : State) (t : Nat) (r : Req) (x : Session) (n : Fin 64) (data : Bytes) (v : Nat) (c : Channel),
      u = s.advance t ∧ v = leNat data ∧ u.still = false ∧ c = (u.upTo n).chan n ∧
      u.Writes r x (0x2400 + n) 0x06 data ∧ data.length = 2) ∧
    (∃ (s u : State) (t : Nat) (r : Req) (x : Session) (n : Fin 64) (data : Bytes) (v : Nat) (c : Channel),
      u = s.advance t ∧ v = leNat data ∧ u.still = false ∧ c = (u.upTo n).chan n ∧
      u.Writes r x (0x2400 + n) 0x03 data ∧ data.length = 1) ∧
    (∃ (s u : State) (t : Nat) (r : Req) (x : Session) (n : Fin 64) (data : Bytes) (v : Nat) (c : Channel),
      u = s.advance t ∧ v = leNat data ∧ u.still = false ∧ c = (u.upTo n).chan n ∧
      u.Writes r x (0x2400 + n.val) 0x04 data ∧ data.length = 1 ∧ (3 < v)) := by
  refine ⟨⟨st0, _, 0, ask, ses, 0, [0x3#8], _, _, rfl, rfl, ?_, rfl, ?_, ?_, ?_⟩,
    ⟨st0, _, 0, ask, ses, 0, [0x1#8], _, _, rfl, rfl, ?_, rfl, _, rfl, ?_, ?_, ?_⟩,
    ⟨st0, _, 0, ask, ses, 0, [0x0#8, 0x1#8], _, _, rfl, rfl, ?_, rfl, ?_, ?_⟩,
    ⟨st0, _, 0, ask, ses, 0, [0x3#8], _, _, rfl, rfl, ?_, rfl, ?_, ?_⟩,
    ⟨st0, _, 0, ask, ses, 0, [0x4#8], _, _, rfl, rfl, ?_, rfl, ?_, ?_, ?_⟩⟩ <;>
  first
  | decide +kernel
  | exact noFiring (by decide +kernel)
  | exact noHead (by decide +kernel)
  | constructor <;> first | decide +kernel | (constructor <;> decide +kernel)

end ForChannelSettingsWait

namespace ForChannelStates

def st0 : State := ready
def st1 : State := clk { state := .parked, enable := true }
def st3 : State := clk { state := .fault, enable := true }
def st5 : State := { ready with sys := { state := .faultSafe } }
def st6 : State := clk { state := .off, enable := true, enabling := some 0 }
def st7 : State := clk { state := .parked, disabling := some (999, true) }

/-- The hypotheses of each clause of `Obligations.ChannelStates` hold together. -/
theorem met_ChannelStates :
    (∃ (s u : State) (t : Nat) (n : Fin 64) (c : Channel), u = s.advance t ∧ u.still = false ∧
      c = (u.upTo n).chan n ∧ ∃ (r : Req) (x : Session) (data : Bytes) (v : Nat), v = leNat data ∧
      u.Writes r x (0x2400 + n) 0x01 data ∧ data.length = 4 ∧ bitOf v 0 = true ∧ u.sys.state ≠ .faultSafe) ∧
    (∃ (s u : State) (t : Nat) (n : Fin 64) (c : Channel), u = s.advance t ∧ u.still = false ∧
      c = (u.upTo n).chan n ∧ ∃ (r : Req) (x : Session) (data : Bytes) (v : Nat), v = leNat data ∧
      u.Writes r x (0x2400 + n) 0x01 data ∧ data.length = 4 ∧ bitOf v 0 = true ∧ u.sys.state = .faultSafe) ∧
    (∃ (s u : State) (t : Nat) (n : Fin 64) (c : Channel), u = s.advance t ∧ u.still = false ∧
      c = (u.upTo n).chan n ∧ ∃ (r : Req) (x : Session) (data : Bytes) (v : Nat), v = leNat data ∧
      u.Writes r x (0x2400 + n) 0x01 data ∧ data.length = 4 ∧ bitOf v 0 = false ∧ c.state ≠ .fault) ∧
    (∃ (s u : State) (t : Nat) (n : Fin 64) (c : Channel), u = s.advance t ∧ u.still = false ∧
      c = (u.upTo n).chan n ∧ ∃ (r : Req) (x : Session) (data : Bytes) (v : Nat), v = leNat data ∧
      u.Writes r x (0x2400 + n) 0x01 data ∧ data.length = 4 ∧ bitOf v 15 = true ∧ c.state = .fault ∧
      (u.sys.state = .faultSafe → bitOf v 0 = false)) ∧
    (∃ (s u : State) (t : Nat) (n : Fin 64) (c : Channel), u = s.advance t ∧ u.still = false ∧
      c = (u.upTo n).chan n ∧ ∃ x k, (u.chan n).enabling = some x ∧
      k = u.boundaryFrom n (max x (u.chan n).runsFrom + 2 * usFs) ∧ u.clockRuns n = true ∧ k ≤ u.boundaryNow n) ∧
    (∃ (s u : State) (t : Nat) (n : Fin 64) (c : Channel), u = s.advance t ∧ u.still = false ∧
      c = (u.upTo n).chan n ∧ ∃ (legs : BitVec 6), u.tripFlags n legs ≠ 0 ∧ (u.chan n).state.consumes = true ∧
      (u.chan n).detectEn = true ∧ u.clockRuns n = true) ∧
    (∃ (y : State) (n k : Nat) (again : Bool), (y.chan n).disabling = some (k, again) ∧ y.reached n k = true ∧
      (y.chan n).resetK = none ∧ (y.chan n).reloadK = none ∧ (y.chan n).flushing = none) ∧
    (∃ (y : State) (n k : Nat) (again : Bool), (y.chan n).disabling = some (k, again) ∧ y.reached n k = true ∧
      (y.chan n).resetK = none ∧ (y.chan n).reloadK = none ∧ (y.chan n).flushing = none) ∧
    (∃ (y : State) (n k : Nat) (again : Bool), (y.chan n).disabling = some (k, again) ∧ y.reached n k = true ∧
      (y.chan n).resetK = none ∧ (y.chan n).reloadK = none ∧ (y.chan n).flushing = none) := by
  refine ⟨⟨st0, _, 0, 0, _, rfl, ?_, rfl, ask, ses, [0x1#8, 0x0#8, 0x0#8, 0x0#8], _, rfl, ?_, ?_, ?_, ?_⟩,
    ⟨st5, _, 0, 0, _, rfl, ?_, rfl, ask, ses, [0x1#8, 0x0#8, 0x0#8, 0x0#8], _, rfl, ?_, ?_, ?_, ?_⟩,
    ⟨st0, _, 0, 0, _, rfl, ?_, rfl, ask, ses, [0x0#8, 0x0#8, 0x0#8, 0x0#8], _, rfl, ?_, ?_, ?_, ?_⟩,
    ⟨st3, _, 0, 0, _, rfl, ?_, rfl, ask, ses, [0x0#8, 0x80#8, 0x0#8, 0x0#8], _, rfl, ?_, ?_, ?_, ?_, ?_⟩,
    ⟨st6, _, 0, 0, _, rfl, ?_, rfl, 0, _, ?_, rfl, ?_, ?_⟩, ⟨st1, _, 0, 0, _, rfl, ?_, rfl, 0x1#6, ?_, ?_, ?_, ?_⟩,
    ⟨st7, 0, 999, true, ?_, ?_, ?_, ?_, ?_⟩, ⟨st7, 0, 999, true, ?_, ?_, ?_, ?_, ?_⟩,
    ⟨st7, 0, 999, true, ?_, ?_, ?_, ?_, ?_⟩⟩ <;>
  first
  | decide +kernel
  | exact noFiring (by decide +kernel)
  | exact noHead (by decide +kernel)
  | constructor <;> first | decide +kernel | (constructor <;> decide +kernel)

end ForChannelStates

namespace ForDescriptorsInOrder

def st0 : State := clk { state := .parked, enable := true, queue := [{ kind := .gap, reps := 5 }] }
def st2 : State :=
  clk { state := .parked, enable := true, queue := [{ kind := .play, reps := 1, lenG := 16, visible := true }] }
def st3 : State := clk { state := .playing, enable := true, act := .gap { kind := .gap, reps := 1000 } 0 }
def st4 : State :=
  clk { state := .playing, enable := true, act := .gap { kind := .gap, reps := 1000 } 0, queue := [gapD] }
def st5 : State :=
  clk { state := .playing, enable := true, act := .play { kind := .play, lenG := 1000, reps := 1 } 0 1 1, queue := [gapD] }
def st6 : State :=
  clk { state := .playing, enable := true, act := .play { kind := .play, lenG := 1000, reps := 2 } 0 2 1, queue := [gapD] }
def st7 : State := clk { state := .playing, enable := true, act := .gate { kind := .timegate } 1000, queue := [gapD] }

/-- The hypotheses of each clause of `Obligations.DescriptorsInOrder` hold together. -/
theorem met_DescriptorsInOrder :
    (∃ (s u : State) (t : Nat) (n : Fin 64), u = s.advance t ∧ ∃ d pre post, u.still = false ∧
      (u.chan n).queue = pre ++ d :: post ∧ (∀ e ∈ pre, e.visible = true) ∧ d.visible = false ∧
      u.clockRuns n = true ∧ u.crossed d = true ∧ u.visibleFs n d ≤ u.now) ∧
    (∃ (s u : State) (t : Nat) (n : Fin 64), u = s.advance t ∧ ∃ d r k, u.Plays n k ∧ (u.chan n).act = .idle ∧
      (u.chan n).queue = d :: r ∧ d.kind = .play ∧ d.underrunEsc = false ∧ d.visible = true ∧ k = u.idleStart n d ∧
      u.NoFiring n (u.boundaryNow n)) ∧
    (∃ (s u : State) (t : Nat) (n : Fin 64), u = s.advance t ∧ ∃ d k0 k, u.Plays n k ∧ (u.chan n).act = .gap d k0 ∧
      k = k0 + d.reps.toNat ∧ u.NoFiring n k ∧ (u.chan n).queue = []) ∧
    (∃ (s u : State) (t : Nat) (n : Fin 64), u = s.advance t ∧ ∃ d k0 k, u.Plays n k ∧ (u.chan n).act = .gap d k0 ∧
      k = k0 + d.reps.toNat ∧ u.NoFiring n k ∧ ∃ g r, (u.chan n).queue = g :: r ∧ u.GapFollows n k g) ∧
    (∃ (s u : State) (t : Nat) (n : Fin 64), u = s.advance t ∧ ∃ d k0 left h k g r, u.Plays n k ∧
      (u.chan n).act = .play d k0 left h ∧ k = k0 + d.lenG.toNat * h ∧ u.NoFiring n k ∧ left ≤ 1 ∧
      (u.chan n).queue = g :: r ∧ u.GapFollows n k g) ∧
    (∃ (s u : State) (t : Nat) (n : Fin 64), u = s.advance t ∧ ∃ d k0 left h k, u.Plays n k ∧
      (u.chan n).act = .play d k0 left h ∧ k = k0 + d.lenG.toNat * h ∧ u.NoFiring n k ∧ 1 < left) ∧
    (∃ (s u : State) (t : Nat) (n : Fin 64), u = s.advance t ∧ ∃ d k0 k g r, u.Plays n k ∧
      (u.chan n).act = .gate d k0 ∧ k = max k0 (u.boundaryOfTicks n d.gateTime) ∧ u.NoFiring n k ∧
      (u.chan n).queue = g :: r ∧ u.GapFollows n k g) := by
  refine ⟨⟨st0, _, 0, 0, rfl, { kind := DKind.gap, reps := 0x5#32 }, [], [], ?_, ?_, ?_, ?_, ?_, ?_, ?_⟩,
    ⟨st2, _, 0, 0, rfl, { kind := DKind.play, lenG := 0x10#32, reps := 0x1#32, visible := true }, [], 320, ?_, ?_,
      ?_, ?_, ?_, ?_, ?_, ?_⟩,
    ⟨st3, _, 0, 0, rfl, { kind := DKind.gap, reps := 0x3e8#32 }, 0, 1000, ?_, ?_, ?_, ?_, ?_⟩,
    ⟨st4, _, 0, 0, rfl, { kind := DKind.gap, reps := 0x3e8#32 }, 0, 1000, ?_, ?_, ?_, ?_,
      { kind := DKind.gap, reps := 0x186a0#32, visible := true }, [], ?_, ?_⟩,
    ⟨st5, _, 0, 0, rfl, { kind := DKind.play, lenG := 0x3e8#32, reps := 0x1#32 }, 0, 1, 1, 1000,
      { kind := DKind.gap, reps := 0x186a0#32, visible := true }, [], ?_, ?_, ?_, ?_, ?_, ?_, ?_⟩,
    ⟨st6, _, 0, 0, rfl, { kind := DKind.play, lenG := 0x3e8#32, reps := 0x2#32 }, 0, 2, 1, 1000, ?_, ?_, ?_, ?_, ?_⟩,
    ⟨st7, _, 0, 0, rfl, { kind := DKind.timegate }, 1000, 1000,
      { kind := DKind.gap, reps := 0x186a0#32, visible := true }, [], ?_, ?_, ?_, ?_, ?_, ?_⟩⟩ <;>
  first
  | decide +kernel
  | exact noFiring (by decide +kernel)
  | exact noHead (by decide +kernel)
  | constructor <;> first | decide +kernel | (constructor <;> decide +kernel)

end ForDescriptorsInOrder

namespace ForEscapes

def st0 : State :=
  clk { state := .playing, enable := true, act := .gap gapD 0, arming := some { d := { kind := .play, lenG := 16, reps := 1 }, bell := 256, k := 1000 } }
def st1 : State :=
  { clk { state := .playing, enable := true, act := .gap gapD 0, armed := some { d := { kind := .play, lenG := 5000, reps := 1 }, bell := 3, k := 10 }, bells := [{ number := 3, payload := 0, effective := 8100, actsFrom := 8100 }] } with
    time := { count := 100, at_ := 1, running := true } }
def st2 : State :=
  clk { state := .playing, enable := true, act := .escape { kind := .play, lenG := 1000, reps := 1 } 0 1 true }
def st3 : State :=
  clk { state := .playing, enable := true, act := .escape { kind := .play, lenG := 1000, reps := 1 } 0 1 true, queue := [gapD] }

/-- The hypotheses of each clause of `Obligations.Escapes` hold together. -/
theorem met_Escapes :
    (∃ (s u : State) (t : Nat) (n : Fin 64), u = s.advance t ∧ ∃ e, u.still = false ∧ (u.chan n).arming = some e ∧
      u.clockRuns n = true ∧ e.k ≤ u.boundaryNow n) ∧
    (∃ (s u : State) (t : Nat) (n : Fin 64), u = s.advance t ∧ ∃ e k, u.Plays n k ∧ u.firing n = some (k, e) ∧
      (u.truss.broken = false ∨ (u.chan n).broke ≠ .pending)) ∧
    (∃ (s u : State) (t : Nat) (n : Fin 64), u = s.advance t ∧ ∃ d k0 h w k, u.Plays n k ∧
      (u.chan n).act = .escape d k0 h w ∧ k = k0 + d.lenG.toNat * h ∧ u.NoFiring n k ∧ (u.chan n).queue = []) ∧
    (∃ (s u : State) (t : Nat) (n : Fin 64), u = s.advance t ∧ ∃ d k0 h w k, u.Plays n k ∧
      (u.chan n).act = .escape d k0 h w ∧ k = k0 + d.lenG.toNat * h ∧ u.NoFiring n k ∧ ∃ g r,
      (u.chan n).queue = g :: r ∧ u.GapFollows n k g) := by
  refine ⟨⟨st0, _, 0, 0, rfl,
      { d := { kind := DKind.play, lenG := 0x10#32, reps := 0x1#32 }, bell := 256, k := 1000, due := none }, ?_, ?_,
      ?_, ?_⟩,
    ⟨st1, _, 0, 0, rfl,
      { d := { kind := DKind.play, lenG := 0x1388#32, reps := 0x1#32 }, bell := 3, k := 10, due := none }, 254, ?_,
      ?_, ?_⟩,
    ⟨st2, _, 0, 0, rfl, { kind := DKind.play, lenG := 0x3e8#32, reps := 0x1#32 }, 0, 1, true, 1000, ?_, ?_, ?_, ?_,
      ?_⟩,
    ⟨st3, _, 0, 0, rfl, { kind := DKind.play, lenG := 0x3e8#32, reps := 0x1#32 }, 0, 1, true, 1000, ?_, ?_, ?_, ?_,
      { kind := DKind.gap, reps := 0x186a0#32, visible := true }, [], ?_, ?_⟩⟩ <;>
  first
  | decide +kernel
  | exact noFiring (by decide +kernel)
  | exact noHead (by decide +kernel)
  | constructor <;> first | decide +kernel | (constructor <;> decide +kernel)

end ForEscapes

namespace ForStreamPages

def rg0 : SegMem :=
  { bulkPages := 8, rings := [(3, { valid := true, first := 0, count := 4, lenG := 16 })], pages := [(0, { pass := .device })] }
def sd : Descriptor := { kind := .stream, base := 3, visible := true }
def st0 : State := { clk { state := .parked, enable := true, queue := [sd] } with mem := rg0 }
def st1 : State :=
  { clk { state := .playing, enable := true, act := .late { sd with
    late := true
    sched := some 500 } 500 1 } with mem := rg0 }
def st2 : State :=
  { clk { state := .playing, enable := true, act := .stream { sd with
    page := some 0 } 0 500 0 1 } with mem := { rg0 with pages := [(0, { pass := .reading, pins := 1 })] } }
def st4 : State :=
  { clk { state := .parked, enable := true, queue := [sd] } with
    mem := { rg0 with checks := [{ cycle := 0, channel := 0, again := false, k := 1200, at_ := 1900000000 }] } }
def st5 : State :=
  { clk { state := .parked, enable := true, queue := [sd] } with
    mem := { rg0 with
      pages := []
      checks := [{ cycle := 0, channel := 0, again := false, k := 1200, at_ := 1900000000 }] } }
def st6 : State :=
  { clk { state := .parked, enable := true, queue := [sd] } with
    mem := { rg0 with
      pages := []
      segs := [(5, { valid := true, base := 1000000, lenG := 16 })]
      checks := [{ cycle := 0, channel := 0, again := false, k := 1200, at_ := 1900000000 }] }
    tts := [(0, { underrun := 0x50302 })] }
def st7 : State :=
  { clk { state := .playing, enable := true, act := .late { sd with
    late := true
    sched := some 500 } 500 1 } with mem := { rg0 with checks := [{ cycle := 0, channel := 0, again := true, k := 990, at_ := 1900000000 }] } }
def st8 : State :=
  { clk { state := .playing, enable := true, act := .late { sd with
    late := true
    sched := some 500
    lateKeep := true } 500 1 } with mem := { rg0 with pages := [], checks := [{ cycle := 0, channel := 0, again := true, k := 990, at_ := 1900000000 }] } }

/-- The hypotheses of each clause of `Obligations.StreamPages` hold together. -/
theorem met_StreamPages :
    (∃ (s u : State) (t : Nat) (n : Fin 64), u = s.advance t ∧ u.Plays n 0 ∧ ∃ j x, u.streamDue n = some (j, x) ∧
      x ≤ u.now ∧ (u.mem.checks.any fun v => decide (v.channel = n.val) && (v.again == false)) = false) ∧
    (∃ (s u : State) (t : Nat) (n : Fin 64), u = s.advance t ∧ u.Plays n 0 ∧ ∃ d b j len h,
      (u.chan n).latePage = some d ∧ b = u.boundaryNow n ∧ (j, len, h) = u.lateSlot n d ∧
      u.boundaryFs n (d.sched.getD 0) < u.boundaryFs n b + leadFs ∧
      (d.lateKeep = false ∨ u.boundaryFrom n (u.boundaryFs n b + leadFs) < j + len) ∧
      (u.mem.checks.any fun v => decide (v.channel = n.val) && (v.again == true)) = false) ∧
    (∃ (s u : State) (t : Nat) (n : Fin 64), u = s.advance t ∧ u.Plays n 0 ∧ ∃ d pg k0 x h,
      (u.chan n).act = .stream d pg k0 x h ∧ d.page = some pg ∧
      k0 + (u.mem.ring d.ringNo).granules h ≤ u.boundaryNow n) ∧
    (∃ (s y u : State) (t : Nat) (v : PageCheck) (n : Fin 64) (d : Descriptor) (p pol : Nat), y = s.tick t ∧
      u = s.advance t ∧ s.still = false ∧ State.quiet { s with mem := { s.mem with checks := [] } } = true ∧
      s.mem.checks = [v] ∧ s.cycle < y.cycle ∧ v.channel = n ∧ p = y.ringPage v.cycle d.ringNo d.serial ∧
      pol = (y.tt d.tt).underrun.toNat ∧ v.again = false ∧ (y.chan n).queue.find? Descriptor.unchecked = some d ∧
      (y.mem.page p).ready = true) ∧
    (∃ (s y u : State) (t : Nat) (v : PageCheck) (n : Fin 64) (d : Descriptor) (p pol : Nat), y = s.tick t ∧
      u = s.advance t ∧ s.still = false ∧ State.quiet { s with mem := { s.mem with checks := [] } } = true ∧
      s.mem.checks = [v] ∧ s.cycle < y.cycle ∧ v.channel = n ∧ p = y.ringPage v.cycle d.ringNo d.serial ∧
      pol = (y.tt d.tt).underrun.toNat ∧ v.again = false ∧ (y.chan n).queue.find? Descriptor.unchecked = some d ∧
      (y.mem.page p).ready = false ∧ (pol % 4 ≠ 2 ∨ y.escapeUsable (bits pol 31 16) = false)) ∧
    (∃ (s y u : State) (t : Nat) (v : PageCheck) (n : Fin 64) (d : Descriptor) (p pol : Nat), y = s.tick t ∧
      u = s.advance t ∧ s.still = false ∧ State.quiet { s with mem := { s.mem with checks := [] } } = true ∧
      s.mem.checks = [v] ∧ s.cycle < y.cycle ∧ v.channel = n ∧ p = y.ringPage v.cycle d.ringNo d.serial ∧
      pol = (y.tt d.tt).underrun.toNat ∧ v.again = false ∧ (y.chan n).queue.find? Descriptor.unchecked = some d ∧
      (y.mem.page p).ready = false ∧ pol % 4 = 2 ∧ y.escapeUsable (bits pol 31 16) = true) ∧
    (∃ (s y u : State) (t : Nat) (v : PageCheck) (n : Fin 64) (d : Descriptor) (p pol : Nat), y = s.tick t ∧
      u = s.advance t ∧ s.still = false ∧ State.quiet { s with mem := { s.mem with checks := [] } } = true ∧
      s.mem.checks = [v] ∧ s.cycle < y.cycle ∧ v.channel = n ∧ p = y.ringPage v.cycle d.ringNo d.serial ∧
      pol = (y.tt d.tt).underrun.toNat ∧ ∃ k0 h, v.again = true ∧ (y.chan n).act = .late d k0 h ∧ d.missing = true ∧
      (y.mem.page p).ready = true) ∧
    (∃ (s y u : State) (t : Nat) (v : PageCheck) (n : Fin 64) (d : Descriptor) (p pol : Nat), y = s.tick t ∧
      u = s.advance t ∧ s.still = false ∧ State.quiet { s with mem := { s.mem with checks := [] } } = true ∧
      s.mem.checks = [v] ∧ s.cycle < y.cycle ∧ v.channel = n ∧ p = y.ringPage v.cycle d.ringNo d.serial ∧
      pol = (y.tt d.tt).underrun.toNat ∧ ∃ k0 h, v.again = true ∧ (y.chan n).act = .late d k0 h ∧ d.missing = true ∧
      (y.mem.page p).ready = false ∧ d.lateKeep = true ∧
      k0 + (y.mem.ring d.ringNo).granules h ≤ y.boundaryFrom n (y.boundaryFs n (v.k + 1) + leadFs)) := by
  refine ⟨⟨st0, _, 0, 0, rfl, ?_, 320, 0, ?_, ?_, ?_⟩,
    ⟨st1, _, 0, 0, rfl, ?_,
      { kind := DKind.stream, base := 0x3#27, visible := true, sched := some 500, late := true }, _, 500, 16, 1, ?_,
      rfl, ?_, ?_, ?_, ?_⟩,
    ⟨st2, _, 0, 0, rfl, ?_, { kind := DKind.stream, base := 0x3#27, visible := true, page := some 0 }, 0, 500, 0, 1,
      ?_, ?_, ?_⟩,
    ⟨st4, _, _, 2001000000, { cycle := 0, channel := 0, again := false, k := 1200, at_ := 1900000000 }, 0,
      { kind := DKind.stream, base := 0x3#27, visible := true }, _, _, rfl, rfl, ?_, ?_, ?_, ?_, ?_, rfl, rfl, ?_,
      ?_, ?_⟩,
    ⟨st5, _, _, 2001000000, { cycle := 0, channel := 0, again := false, k := 1200, at_ := 1900000000 }, 0,
      { kind := DKind.stream, base := 0x3#27, visible := true }, _, _, rfl, rfl, ?_, ?_, ?_, ?_, ?_, rfl, rfl, ?_,
      ?_, ?_, ?_⟩,
    ⟨st6, _, _, 2001000000, { cycle := 0, channel := 0, again := false, k := 1200, at_ := 1900000000 }, 0,
      { kind := DKind.stream, base := 0x3#27, visible := true }, _, _, rfl, rfl, ?_, ?_, ?_, ?_, ?_, rfl, rfl, ?_,
      ?_, ?_, ?_, ?_⟩,
    ⟨st7, _, _, 2001000000, { cycle := 0, channel := 0, again := true, k := 990, at_ := 1900000000 }, 0,
      { kind := DKind.stream, base := 0x3#27, visible := true, sched := some 500, late := true }, _, _, rfl, rfl, ?_,
      ?_, ?_, ?_, ?_, rfl, rfl, 500, 1, ?_, ?_, ?_, ?_⟩,
    ⟨st8, _, _, 2001000000, { cycle := 0, channel := 0, again := true, k := 990, at_ := 1900000000 }, 0,
      { kind := DKind.stream, base := 0x3#27, visible := true, sched := some 500, late := true, lateKeep := true },
      _, _, rfl, rfl, ?_, ?_, ?_, ?_, ?_, rfl, rfl, 500, 1, ?_, ?_, ?_, ?_, ?_, ?_⟩⟩ <;>
  first | decide +kernel | (constructor <;> decide +kernel)

end ForStreamPages

namespace ForChannelMoments

def st0 : State := clk { state := .playing, enable := true, act := .gap gapD 0, events := [1] }
def st1 : State :=
  clk { state := .playing, enable := true, act := .play { kind := .play, lenG := 5000, reps := 1, mken := true, mprog := [{ goff := 1, valid := true, mask := 1, level := true }, { goff := 2, valid := true, mask := 1 }] } 0 1 1, events := [1] }
def st3 : State :=
  clk { state := .playing, enable := true, act := .gap gapD 0, ramp := some (0, 0, 1000), profile := [(0, { step := 5, lenG := 2 })] }
def st4 : State :=
  clk { state := .playing, enable := true, act := .gap gapD 0, spanPending := some (2, 0, some 1000) }
def st5 : State := clk { state := .muted, under := .playing, muteEnd := 900, enable := true, act := .gap gapD 0 }

/-- The hypotheses of each clause of `Obligations.ChannelMoments` hold together. -/
theorem met_ChannelMoments :
    (∃ (s u : State) (t : Nat) (n : Fin 64), u = s.advance t ∧
      ∃ (e : Fin 4) (x : Nat) (c : Channel) (d : Descriptor) (k0 left h : Nat), c = u.chan n ∧ x = c.eventSample e ∧
      u.Plays n 0 ∧ c.act = .play d k0 left h ∧ c.events.Sublist [0, 1, 2, 3] ∧ e.val ∈ c.events ∧
      x ≤ u.sampleNow n ∧ u.clearTo n (x / 16) = true) ∧
    (∃ (s u : State) (t : Nat) (n : Fin 64), u = s.advance t ∧ u.still = false ∧ u.clockRuns n = true) ∧
    (∃ (s u : State) (t : Nat) (n : Fin 64), u = s.advance t ∧ ∃ p i k, u.still = false ∧ u.clockRuns n = true ∧
      k ≤ u.boundaryNow n ∧ (u.chan n).ramp = some (p, i, k) ∧ u.clearTo n k = true ∧ (u.chan n).pend = [] ∧
      ((u.chan n).act = .idle → ∀ d ∈ (u.chan n).queue.head?, d.kind ≠ .control)) ∧
    (∃ (s u : State) (t : Nat) (n : Fin 64), u = s.advance t ∧ ∃ v x k, u.still = false ∧ u.clockRuns n = true ∧
      k ≤ u.boundaryNow n ∧ (u.chan n).spanPending = some (v, x, some k) ∧ (u.chan n).state = .playing ∧
      v ≠ (u.chan n).span) ∧
    (∃ (s u : State) (t : Nat) (n : Fin 64), u = s.advance t ∧ ∃ st, u.still = false ∧ u.clockRuns n = true ∧
      (u.chan n).state = .muted ∧ (u.chan n).under = st ∧ (u.chan n).muteEnd ≤ u.boundaryNow n ∧
      (u.chan n).broke = .none) ∧
    (∃ (s u : State) (t : Nat) (n : Fin 64), u = s.advance t ∧ u.still = false ∧ u.clockRuns n = true ∧
      (u.chan n).clkStopped = false ∧ (u.chan n).ramp = none ∧ (∀ k,
      u.activityEnd n (u.chan n).act = some k → u.boundaryNow n ≤ k) ∧ (∀ p ∈ (u.chan n).pend,
      u.boundaryAfter n p.1 ≤ u.boundaryNow n)) := by
  refine ⟨⟨st1, _, 0, 0, rfl, 1, _, _,
      { kind := DKind.play, mken := true, lenG := 0x1388#32, reps := 0x1#32, mprog := [{ goff := 0x1#32, valid := true, level := true, soff := 0x0#4, mask := 0x1#16 }, { goff := 0x2#32, valid := true, level := false, soff := 0x0#4, mask := 0x1#16 }] }, 0, 1, 1, rfl, rfl, ?_, ?_, ?_, ?_, ?_, ?_⟩,
    ⟨st0, _, 0, 0, rfl, ?_, ?_⟩, ⟨st3, _, 0, 0, rfl, 0, 0, 1000, ?_, ?_, ?_, ?_, ?_, ?_, ?_⟩,
    ⟨st4, _, 0, 0, rfl, 0x2#3, 0, 1000, ?_, ?_, ?_, ?_, ?_, ?_⟩,
    ⟨st5, _, 0, 0, rfl, ChState.playing, ?_, ?_, ?_, ?_, ?_, ?_⟩, ⟨st0, _, 0, 0, rfl, ?_, ?_, ?_, ?_, ?_, ?_⟩⟩ <;>
  first | decide +kernel | (constructor <;> decide +kernel)

end ForChannelMoments

namespace ForHandoverPhases

def by_ (b : Bay) (c : Channel := { state := .substituted, enable := true, act := .gap gapD 0, begun := true }) : State :=
  { clk c with bays := [(0, b)], outs := [(0, { en := true }), (64, { en := true })] }
def st0 : State := by_ { phase := .settleIn, phaseK := 500 }
def st1 : State := by_ { phase := .settleOut, phaseK := 500 }
def st2 : State := by_ { phase := .fadeIn, phaseK := 984, fadeK := 16 }
def st3 : State :=
  { by_ { phase := .fadeIn, phaseK := 984, fadeK := 16 } with
    plumb := { run := some { core := 0, kind := .amp, first := none, handed := true, retries := 0 } }
    tiu := { slots := [(0, { cfg := 0x600 + 0, state := .running }), (1, { state := .running })] } }
def st4 : State :=
  by_ { phase := .fadeOut, phaseK := 984, fadeK := 16, holdMode := true } { state := .held, enable := true }
def st5 : State := by_ { phase := .fadeOut, phaseK := 984, fadeK := 16 }
def st6 : State := by_ { connecting := some 1000 } { state := .playing, enable := true, act := .gap gapD 0 }
def st8 : State := by_ { phase := .cover, leaving := some 1000 }
def st9 : State := by_ {} { state := .held, enable := true, returning := some 1000 }

/-- The hypotheses of each clause of `Obligations.HandoverPhases` hold together. -/
theorem met_HandoverPhases :
    (∃ (s u : State) (t : Nat) (b : Fin 8) (v : Bay) (k : Nat), u = s.advance t ∧ u.still = false ∧ v = u.bay b ∧
      u.clockRuns v.channel = true ∧ k ≤ u.boundaryNow v.channel ∧ v.phase = .settleIn ∧
      k = v.phaseK + u.settleGranules v.channel) ∧
    (∃ (s u : State) (t : Nat) (b : Fin 8) (v : Bay) (k : Nat), u = s.advance t ∧ u.still = false ∧ v = u.bay b ∧
      u.clockRuns v.channel = true ∧ k ≤ u.boundaryNow v.channel ∧ v.phase = .settleOut ∧
      k = v.phaseK + u.settleGranules v.channel) ∧
    (∃ (s u : State) (t : Nat) (b : Fin 8) (v : Bay) (k : Nat), u = s.advance t ∧ u.still = false ∧ v = u.bay b ∧
      u.clockRuns v.channel = true ∧ k ≤ u.boundaryNow v.channel ∧ v.phase = .fadeIn ∧ k = v.phaseK + v.fadeK ∧
      u.measures v.channel = false) ∧
    (∃ (s u : State) (t : Nat) (b : Fin 8) (v : Bay) (k : Nat), u = s.advance t ∧ u.still = false ∧ v = u.bay b ∧
      u.clockRuns v.channel = true ∧ k ≤ u.boundaryNow v.channel ∧ v.phase = .fadeIn ∧ k = v.phaseK + v.fadeK ∧
      u.measures v.channel = true) ∧
    (∃ (s u : State) (t : Nat) (b : Fin 8) (v : Bay) (k : Nat), u = s.advance t ∧ u.still = false ∧ v = u.bay b ∧
      u.clockRuns v.channel = true ∧ k ≤ u.boundaryNow v.channel ∧ ∃ n, n = v.channel ∧ v.phase = .fadeOut ∧
      k = v.phaseK + v.fadeK ∧ v.holdMode = true) ∧
    (∃ (s u : State) (t : Nat) (b : Fin 8) (v : Bay) (k : Nat), u = s.advance t ∧ u.still = false ∧ v = u.bay b ∧
      u.clockRuns v.channel = true ∧ k ≤ u.boundaryNow v.channel ∧ ∃ n, n = v.channel ∧ v.phase = .fadeOut ∧
      k = v.phaseK + v.fadeK ∧ v.holdMode = false ∧ (u.chan n).spanDeferred = none ∧ (u.chan n).broke ≠ .deferred ∧
      (u.chan n).state ≠ .muted) ∧
    (∃ (s : State) (n : Nat), s.still = false ∧ s.unsettled = false ∧ s.laneWaits = false ∧ s.net.traffic = 0 ∧
      s.upLanes = [] ∧ s.waitingChans = [n]) ∧
    (∃ (y u : State) (n k : Nat) (b : Bay), u = y.dueAt n ∧ b = y.bay (n / 8) ∧ y.reached n k = true ∧
      (y.chan n).resetK = none ∧ (y.chan n).reloadK = none ∧ (y.chan n).flushing = none ∧
      (y.chan n).disabling = none ∧ b.connecting = some k ∧ b.channel = n ∧ b.leaving = none ∧
      (y.chan n).returning = none) ∧
    (∃ (y u : State) (n k : Nat) (b : Bay), u = y.dueAt n ∧ b = y.bay (n / 8) ∧ y.reached n k = true ∧
      (y.chan n).resetK = none ∧ (y.chan n).reloadK = none ∧ (y.chan n).flushing = none ∧
      (y.chan n).disabling = none ∧ b.leaving = some k ∧ b.connecting = none ∧ y.serves n = true ∧
      (y.chan n).returning = none) ∧
    (∃ (y u : State) (n k : Nat) (b : Bay), u = y.dueAt n ∧ b = y.bay (n / 8) ∧ y.reached n k = true ∧
      (y.chan n).resetK = none ∧ (y.chan n).reloadK = none ∧ (y.chan n).flushing = none ∧
      (y.chan n).disabling = none ∧ b.connecting = none ∧ b.leaving = none ∧ (y.chan n).returning = some k ∧
      (y.chan n).spanDeferred = none ∧ (y.chan n).broke ≠ .deferred ∧ (y.chan n).state ≠ .muted) := by
  refine ⟨⟨st0, _, 0, 0, _, 1000, rfl, ?_, rfl, ?_, ?_, ?_, ?_⟩,
    ⟨st1, _, 0, 0, _, 1000, rfl, ?_, rfl, ?_, ?_, ?_, ?_⟩, ⟨st2, _, 0, 0, _, 1000, rfl, ?_, rfl, ?_, ?_, ?_, ?_, ?_⟩,
    ⟨st3, _, 0, 0, _, 1000, rfl, ?_, rfl, ?_, ?_, ?_, ?_, ?_⟩,
    ⟨st4, _, 0, 0, _, 1000, rfl, ?_, rfl, ?_, ?_, _, rfl, ?_, ?_, ?_⟩,
    ⟨st5, _, 0, 0, _, 1000, rfl, ?_, rfl, ?_, ?_, _, rfl, ?_, ?_, ?_, ?_, ?_, ?_⟩, ⟨st6, 0, ?_, ?_, ?_, ?_, ?_, ?_⟩,
    ⟨st6, _, 0, 1000, _, rfl, rfl, ?_, ?_, ?_, ?_, ?_, ?_, ?_, ?_, ?_⟩,
    ⟨st8, _, 0, 1000, _, rfl, rfl, ?_, ?_, ?_, ?_, ?_, ?_, ?_, ?_, ?_⟩,
    ⟨st9, _, 0, 1000, _, rfl, rfl, ?_, ?_, ?_, ?_, ?_, ?_, ?_, ?_, ?_, ?_, ?_⟩⟩ <;>
  decide +kernel

end ForHandoverPhases

namespace ForReferenceAndSynthesizerWrites

def rdy (m a : Synth) (rf : Ref := { present := true, mode := .refin }) : State :=
  { ready with synM := m, synA := a, ref := rf }
def bt : Sparse Band := [(0, { lo := 15000000, hi := 17000000, valid := true }), (1, { lo := 1, hi := 2 })]
def st0 : State := rdy {} {}
def st1 : State := rdy { en := true } {}
def st3 : State :=
  rdy { bands := bt } { bands := [(2, { lo := 11000000, hi := 13000000, valid := true })], nInt := 1200 }

/-- The hypotheses of each clause of `Obligations.ReferenceAndSynthesizerWrites` hold together. -/
theorem met_ReferenceAndSynthesizerWrites :
    (∃ (s u : State) (t : Nat) (r : Req) (x : Session) (data : Bytes) (v d n : Nat), u = s.advance t ∧
      v = leNat data ∧ u.Writes r x 0x2100 0x01 data ∧ data.length = 4 ∧ 10000000 ≤ v ∧ v ≤ 500000000 ∧
      tbWords v = some (d, n) ∧ u.synM.en = false ∧ u.synA.en = false) ∧
    (∃ (s u : State) (t : Nat) (r : Req) (x : Session) (data : Bytes) (v d n : Nat), u = s.advance t ∧
      v = leNat data ∧ u.Writes r x 0x2100 0x01 data ∧ data.length = 4 ∧ 10000000 ≤ v ∧ v ≤ 500000000 ∧
      tbWords v = some (d, n) ∧ (u.synM.en = true ∨ u.synA.en = true)) ∧
    (∃ (s u : State) (t : Nat) (r : Req) (x : Session) (data : Bytes) (v : Nat), u = s.advance t ∧ v = leNat data ∧
      u.Writes r x 0x2100 0x0E data ∧ data.length = 1 ∧ v ≤ 1) ∧
    (∃ (s u : State) (t : Nat) (r : Req) (x : Session) (y : Syn) (sub : Nat) (v : Synth), u = s.advance t ∧
      sub = (if y = .M then 0x10 else 0x30) ∧ u.Writes r x 0x2100 sub [1] ∧ (u.syn y).en = false ∧ v = u.enabled y ∧
      u.loopOk y v = true ∧ ∃ i, u.selectBand v = some i) ∧
    (∃ (s u : State) (t : Nat) (r : Req) (x : Session) (y : Syn) (sub : Nat) (v : Synth), u = s.advance t ∧
      sub = (if y = .M then 0x10 else 0x30) ∧ u.Writes r x 0x2100 sub [1] ∧ (u.syn y).en = false ∧ v = u.enabled y ∧
      u.loopOk y v = true ∧ u.selectBand v = none) ∧
    (∃ (s u : State) (t : Nat) (r : Req) (x : Session) (y : Syn) (sub : Nat), u = s.advance t ∧
      sub = (if y = .M then 0x10 else 0x30) ∧ u.Writes r x 0x2100 sub [1] ∧ (u.syn y).en = true) ∧
    (∃ (s u : State) (t : Nat) (r : Req) (x : Session) (y : Syn) (sub : Nat), u = s.advance t ∧
      sub = (if y = .M then 0x10 else 0x30) ∧ u.Writes r x 0x2100 sub [0] ∧
      ((u.syn y).en = true ∨ u.synRuns y = false)) ∧
    (∃ (s u : State) (t : Nat) (r : Req) (x : Session) (y : Syn) (sub : Nat) (data : Bytes), u = s.advance t ∧
      sub = (if y = .M then 0x16 else 0x36) ∧ u.Writes r x 0x2100 sub data ∧ data.length = 1024 ∧
      (u.syn y).en = false ∧ (∀ i, i < 64 → (bandOf data i).ok y = true)) := by
  refine ⟨⟨st0, _, 0, ask, ses, [0x80#8, 0x96#8, 0x98#8, 0x0#8], _, 1, 200, rfl, rfl, ?_, ?_, ?_, ?_, ?_, ?_, ?_⟩,
    ⟨st1, _, 0, ask, ses, [0x80#8, 0x96#8, 0x98#8, 0x0#8], _, 1, 200, rfl, rfl, ?_, ?_, ?_, ?_, ?_, ?_⟩,
    ⟨st0, _, 0, ask, ses, [0x0#8], _, rfl, rfl, ?_, ?_, ?_⟩,
    ⟨st3, _, 0, ask, ses, Syn.M, _, _, rfl, rfl, ?_, ?_, rfl, ?_, 0, ?_⟩,
    ⟨st0, _, 0, ask, ses, Syn.M, _, _, rfl, rfl, ?_, ?_, rfl, ?_, ?_⟩,
    ⟨st1, _, 0, ask, ses, Syn.M, _, rfl, rfl, ?_, ?_⟩, ⟨st0, _, 0, ask, ses, Syn.M, _, rfl, rfl, ?_, ?_⟩,
    ⟨st0, _, 0, ask, ses, Syn.M, _, (List.replicate 1024 0x0#8), rfl, rfl, ?_, ?_, ?_, ?_⟩⟩ <;>
  first
  | decide +kernel
  | exact noFiring (by decide +kernel)
  | exact noHead (by decide +kernel)
  | constructor <;> first | decide +kernel | (constructor <;> decide +kernel)

end ForReferenceAndSynthesizerWrites

namespace ForOutputAndRampCommands

def sl (i : Nat) : Selectors := (({} : Selectors).set 0x2100 0x20 i).set 0x2100 0x40 0
def st0 : State := ready (sl 0)
def st2 : State := { ready (sl 0) with outs := [(0, { en := true })], chans := [(0, { state := .parked })] }
def st6 : State := { ready (sl 0) with ref := { mode := .waitHost } }
def st7 : State :=
  { ready (sl 0) with
    synA := { nInt := 1200, entry := some 2, bands := [(2, { lo := 11000000, hi := 13000000, valid := true })] }
    ramp := { profile := [(0, { step := 5, dwell := 100000, count := 3 })] } }

/-- The hypotheses of each clause of `Obligations.OutputAndRampCommands` hold together. -/
theorem met_OutputAndRampCommands :
    (∃ (s u : State) (t : Nat) (r : Req) (x : Session) (y : Syn) (sub i v : Nat) (data : Bytes) (o : Output),
      u = s.advance t ∧ sub = (if y = .M then 0x21 else 0x41) ∧ u.Writes r x 0x2100 sub data ∧ data.length = 4 ∧
      v = leNat data ∧ i = (if y = .M then x.sel.get 0x2100 0x20 else 76 + x.sel.get 0x2100 0x40) ∧
      (y = .M → i < 72) ∧ o = u.output i ∧ bits v 27 24 ≠ 0 ∧ (y = .M → bits v 11 0 ∈ coreDivs) ∧ 2 ≤ bits v 11 0 ∧
      u.delayOk i (bits v 11 0) o.coarse o.fine = true ∧ bitOf v 31 = true ∧ o.en = false) ∧
    (∃ (s u : State) (t : Nat) (r : Req) (x : Session) (y : Syn) (sub i v : Nat) (data : Bytes) (o : Output),
      u = s.advance t ∧ sub = (if y = .M then 0x21 else 0x41) ∧ u.Writes r x 0x2100 sub data ∧ data.length = 4 ∧
      v = leNat data ∧ i = (if y = .M then x.sel.get 0x2100 0x20 else 76 + x.sel.get 0x2100 0x40) ∧
      (y = .M → i < 72) ∧ o = u.output i ∧ bits v 27 24 ≠ 0 ∧ (y = .M → bits v 11 0 ∈ coreDivs) ∧ 2 ≤ bits v 11 0 ∧
      u.delayOk i (bits v 11 0) o.coarse o.fine = true ∧ bitOf v 31 = false ∧ (o.en = true → bits v 11 0 = o.div) ∧
      (i < 64 → (u.chan i).state = .off) ∧
      (64 ≤ i → i < 72 → (u.bay (i - 64)).phase = .idle ∨ u.subUnavailable (i - 64) = true)) ∧
    (∃ (s u : State) (t : Nat) (r : Req) (x : Session) (y : Syn) (sub i v : Nat) (data : Bytes) (o : Output),
      u = s.advance t ∧ sub = (if y = .M then 0x21 else 0x41) ∧ u.Writes r x 0x2100 sub data ∧ data.length = 4 ∧
      v = leNat data ∧ i = (if y = .M then x.sel.get 0x2100 0x20 else 76 + x.sel.get 0x2100 0x40) ∧
      (y = .M → i < 72) ∧ o = u.output i ∧ bits v 27 24 ≠ 0 ∧ (y = .M → bits v 11 0 ∈ coreDivs) ∧ 2 ≤ bits v 11 0 ∧
      u.delayOk i (bits v 11 0) o.coarse o.fine = true ∧ bitOf v 31 = false ∧ (o.en = true → bits v 11 0 = o.div) ∧
      i < 64 ∧ (u.chan i).state ≠ .off) ∧
    (∃ (s u : State) (t : Nat) (r : Req) (x : Session) (y : Syn) (sub i v : Nat) (data : Bytes) (o : Output) (coarse
        fine : Int), u = s.advance t ∧ sub = (if y = .M then 0x22 else 0x42) ∧ u.Writes r x 0x2100 sub data ∧
      data.length = 4 ∧ v = leNat data ∧ i = (if y = .M then x.sel.get 0x2100 0x20 else 76 + x.sel.get 0x2100 0x40) ∧
      (y = .M → i < 72) ∧ o = u.output i ∧ coarse = signed 6 (bits v 31 26) ∧ fine = signed 17 (bits v 16 0) ∧
      u.delayOk i o.div coarse fine = true ∧ (o.en = true → coarse = o.coarse) ∧ (i < 72 → u.timingRun i = false)) ∧
    (∃ (s u : State) (t : Nat) (r : Req) (x : Session) (hop : Bool) (data : Bytes) (c : Instr), u = s.advance t ∧
      data = (if hop = true then [2] else [1]) ∧ c = (if hop = true then .refCmdHop t r else .refCmdSlew t r) ∧
      u.Writes r x 0x2100 0x09 data ∧ u.ref.mode = .waitHost) ∧
    (∃ (s u : State) (t : Nat) (r : Req) (x : Session) (hop : Bool) (data : Bytes) (c : Instr), u = s.advance t ∧
      data = (if hop = true then [2] else [1]) ∧ c = (if hop = true then .refCmdHop t r else .refCmdSlew t r) ∧
      u.Writes r x 0x2100 0x09 data ∧ u.ref.mode ≠ .waitHost) ∧
    (∃ (s u : State) (t : Nat) (r : Req) (x : Session) (i a b : Nat) (e : Band) (xs : List Int), u = s.advance t ∧
      u.Writes r x 0x2100 0x48 [1] ∧ (a, b) = u.fRef u.synA ∧
      xs = turnsFrom ((u.synA.words : Int) + u.ramp.shift) u.ramp.live ∧ u.synA.entry = some i ∧ e = u.synA.band i ∧
      (∀ z ∈ xs, 32 * 2 ^ 32 ≤ z ∧ z < 4092 * 2 ^ 32 ∧
      (e.lo : Int) * ((1000 * (b * u.synA.refDiv * 2 ^ 32) : Nat) : Int) ≤ z * (a : Int) ∧
      z * (a : Int) ≤ (e.hi : Int) * ((1000 * (b * u.synA.refDiv * 2 ^ 32) : Nat) : Int)) ∧
      (u.ramp.repeats = true → (u.ramp.live.map fun p => p.step.toInt * (p.count : Int)).foldl (· + ·) 0 = 0) ∧
      (∀ p ∈ u.ramp.live, p.dwell ≠ 0 ∧
      p.step.toInt.natAbs * a ^ 2 ≤ 10000000000000 * (2 ^ 32 * p.dwell * (b * u.synA.refDiv) ^ 2))) ∧
    (∃ (s u : State) (t : Nat) (r : Req) (x : Session), u = s.advance t ∧ u.Writes r x 0x2100 0x48 [2]) := by
  refine ⟨⟨st0, _, 0, ask, ses, Syn.M, _, _, _, [0x2#8, 0x0#8, 0x0#8, 0x85#8], _, rfl, rfl, ?_, ?_, rfl, rfl, ?_,
      rfl, ?_, ?_, ?_, ?_, ?_, ?_⟩,
    ⟨st0, _, 0, ask, ses, Syn.M, _, _, _, [0x2#8, 0x0#8, 0x0#8, 0x5#8], _, rfl, rfl, ?_, ?_, rfl, rfl, ?_, rfl, ?_,
      ?_, ?_, ?_, ?_, ?_, ?_, ?_⟩,
    ⟨st2, _, 0, ask, ses, Syn.M, _, _, _, [0x2#8, 0x0#8, 0x0#8, 0x5#8], _, rfl, rfl, ?_, ?_, rfl, rfl, ?_, rfl, ?_,
      ?_, ?_, ?_, ?_, ?_, ?_, ?_⟩,
    ⟨st0, _, 0, ask, ses, Syn.M, _, _, _, [0x2#8, 0x0#8, 0x0#8, 0x5#8], _, _, _, rfl, rfl, ?_, ?_, rfl, rfl, ?_, rfl,
      rfl, rfl, ?_, ?_, ?_⟩, ⟨st6, _, 0, ask, ses, false, _, _, rfl, rfl, rfl, ?_, ?_⟩,
    ⟨st0, _, 0, ask, ses, false, _, _, rfl, rfl, rfl, ?_, ?_⟩,
    ⟨st7, _, 0, ask, ses, 2, 10000000, 1, _, _, rfl, ?_, ?_, rfl, ?_, rfl, ?_, ?_, ?_⟩,
    ⟨st0, _, 0, ask, ses, rfl, ?_⟩⟩ <;>
  first
  | decide +kernel
  | exact noFiring (by decide +kernel)
  | exact noHead (by decide +kernel)
  | constructor <;> first | decide +kernel | (constructor <;> decide +kernel)

end ForOutputAndRampCommands

namespace ForReferenceEvents

def rr (r : Ref) (m : Synth := {}) (a : Synth := {}) : State :=
  { ready with now := 2000000000000000, ref := r, synM := m, synA := a }
def st0 : State := rr { present := true, ampOk := true, freqOk := true }
def st2 : State := rr { present := false, mode := .holdover, holdSince := some 5 }
def st4 : State := rr { mode := .qualifying, present := true, presentSince := some 0 }
def st5 : State := rr { present := true, measuring := some (0, 0) }
def st9 : State :=
  rr { present := true, measuring := some (4, 0) } { en := true, phase := .running } { en := true, phase := .running }
def st10 : State :=
  rr { present := true, mode := .slewing, slewEnd := some 5, warps := [{ dev := 5, syn := 5, scale := 1000000000 }, { dev := 0, syn := 0, scale := 999999000 }] }
def st11 : State := rr { present := true, gateSince := some 0 }
def st12 : State := rr {} { en := true, phase := .alignWait }
def st13 : State := rr { present := true, measuring := some (0, 0), ret := 2 }

/-- The hypotheses of each clause of `Obligations.ReferenceEvents` hold together. -/
theorem met_ReferenceEvents :
    (∃ (s u : State) (t x : Nat), u = s.advance t ∧ u.still = false ∧ x = u.now ∧ u.ref.present = true ∧
      ∃ (c : Instr), (c = .refinLoss t ∨ ∃ (ok : Bool) (n : Nat), c = .refinGateEnd t ok n ∧
      (ok = true → u.ref.window * u.ref.freq < ((n : Int) - u.ref.freq).natAbs * 1000000))) ∧
    (∃ (s u : State) (t x : Nat), u = s.advance t ∧ u.still = false ∧ x = u.now ∧ u.ref.present = false) ∧
    (∃ (s u : State) (t x : Nat), u = s.advance t ∧ u.still = false ∧ x = u.now ∧ u.ref.present = false ∧
      ∃ (ok : Bool) (n : Nat), (ok = true → u.ref.window * u.ref.freq < ((n : Int) - u.ref.freq).natAbs * 1000000)) ∧
    (∃ (s u : State) (t x : Nat), u = s.advance t ∧ u.still = false ∧ x = u.now ∧ ∃ (n : Nat),
      ((n : Int) - u.ref.freq).natAbs * 1000000 ≤ u.ref.window * u.ref.freq) ∧
    (∃ (s u : State) (t x : Nat), u = s.advance t ∧ u.still = false ∧ x = u.now ∧ ∃ z, u.ref.presentSince = some z ∧
      u.ref.mode = .qualifying ∧ u.ref.measuring = none ∧ z + u.ref.qual * msFs ≤ x) ∧
    (∃ (s u : State) (t x : Nat), u = s.advance t ∧ u.still = false ∧ x = u.now ∧ ∃ pol z mean d,
      u.ref.measuring = some (pol, z) ∧ z + 65536 * secFs / u.ref.freq ≤ x ∧ d = u.ref.wrapStep mean ∧
      d.natAbs ≤ 1000) ∧
    (∃ (s u : State) (t x : Nat), u = s.advance t ∧ u.still = false ∧ x = u.now ∧ ∃ pol z mean d,
      u.ref.measuring = some (pol, z) ∧ z + 65536 * secFs / u.ref.freq ≤ x ∧ d = u.ref.wrapStep mean ∧ ∃ span scale,
      1000 < d.natAbs ∧ ((pol = 0 ∧ u.ref.ret = 0) ∨ pol = 3) ∧ span = d.natAbs * 1000000000 / u.ref.slewRate ∧
      scale = (if 0 < d then 1000000000 - u.ref.slewRate else 1000000000 + u.ref.slewRate)) ∧
    (∃ (s u : State) (t x : Nat), u = s.advance t ∧ u.still = false ∧ x = u.now ∧ ∃ pol z mean d,
      u.ref.measuring = some (pol, z) ∧ z + 65536 * secFs / u.ref.freq ≤ x ∧ d = u.ref.wrapStep mean ∧
      1000 < d.natAbs ∧ ((pol = 0 ∧ u.ref.ret = 1) ∨ pol = 4)) ∧
    (∃ (s u : State) (t x : Nat), u = s.advance t ∧ u.still = false ∧ x = u.now ∧ ∃ pol z mean d,
      u.ref.measuring = some (pol, z) ∧ z + 65536 * secFs / u.ref.freq ≤ x ∧ d = u.ref.wrapStep mean ∧
      1000 < d.natAbs ∧ pol = 0 ∧ 2 ≤ u.ref.ret) ∧
    (∃ (s u : State) (t x : Nat), u = s.advance t ∧ u.still = false ∧ x = u.now ∧ ∃ z, u.ref.slewEnd = some z ∧
      u.ref.mode = .slewing ∧ z ≤ x) ∧
    (∃ (s u : State) (t x : Nat), u = s.advance t ∧ u.still = false ∧ x = u.now ∧ ∃ z, u.ref.gateSince = some z ∧
      u.ref.present = true ∧ z + secFs ≤ x) ∧
    (∃ (s u : State) (t x : Nat), u = s.advance t ∧ u.still = false ∧ x = u.now ∧ u.truss.ppsDue = none) ∧
    (∃ (s u : State) (t x : Nat), u = s.advance t ∧ u.still = false ∧ x = u.now ∧ ∃ y, (u.syn y).phase = .alignWait ∧
      (u.syn y).since + 1100 * msFs ≤ x) := by
  refine ⟨⟨st0, _, 0, _, rfl, ?_, rfl, ?_, Instr.refinLoss 0, ?_⟩, ⟨st2, _, 0, _, rfl, ?_, rfl, ?_⟩,
    ⟨st2, _, 0, _, rfl, ?_, rfl, ?_, false, 0, ?_⟩, ⟨st0, _, 0, _, rfl, ?_, rfl, 10000000, ?_⟩,
    ⟨st4, _, 0, _, rfl, ?_, rfl, 0, ?_, ?_, ?_, ?_⟩, ⟨st5, _, 0, _, rfl, ?_, rfl, 0, 0, 0, _, ?_, ?_, rfl, ?_⟩,
    ⟨st5, _, 0, _, rfl, ?_, rfl, 0, 0, 1001, _, ?_, ?_, rfl, _, _, ?_, ?_, rfl, rfl⟩,
    ⟨st9, _, 0, _, rfl, ?_, rfl, 4, 0, 1001, _, ?_, ?_, rfl, ?_, ?_⟩,
    ⟨st13, _, 0, _, rfl, ?_, rfl, 0, 0, 1001, _, ?_, ?_, rfl, ?_, ?_, ?_⟩,
    ⟨st10, _, 0, _, rfl, ?_, rfl, 5, ?_, ?_, ?_⟩, ⟨st11, _, 0, _, rfl, ?_, rfl, 0, ?_, ?_, ?_⟩,
    ⟨st0, _, 0, _, rfl, ?_, rfl, ?_⟩, ⟨st12, _, 0, _, rfl, ?_, rfl, Syn.M, ?_, ?_⟩⟩ <;>
  first | decide +kernel | (constructor <;> decide +kernel)

end ForReferenceEvents

namespace ForSynthesizerEvents

def rs (m : Synth := {}) (a : Synth := {}) (r : Ref := { present := true }) : State :=
  { ready with
    now := 2000000000000000
    ref := r
    synM := m
    synA := a
    outs := [(0, { en := true, fine := 500 }), (76, { en := true, fine := 100 })] }
def st0 : State := rs { en := true, phase := .acquiring } { en := true, phase := .acquiring, nInt := 1200 }
def st1 : State := rs { en := true, phase := .acquiring, tbLocked := true }
def st2 : State :=
  rs { en := true, phase := .acquiring, tbLocked := true, lost := true, onXtal := true, xtalY := some 0 } {} { present := true, qualAt := some 5, mode := .holdover }
def st3 : State := rs { en := true, phase := .settling } { en := true, phase := .settling, nInt := 1200 }
def st5 : State := rs { en := true, phase := .aligning } { en := true, phase := .aligning, nInt := 1200 }
def st6 : State :=
  rs { en := true, phase := .aligning, alignEdge := some 1000000000000000, locked := true } { en := true, phase := .aligning, nInt := 1200, alignEdge := some 1000000000000000 }
def st7 : State :=
  rs { en := true, phase := .running, locked := true, tbLocked := true } { en := true, phase := .running, nInt := 1200, locked := true }
def st10 : State :=
  { rs { en := true, phase := .running, locked := true, tbLocked := true } {} { present := true, qualAt := some 5 } with
    tiu := { tb := 3 }
    time := { count := 8, at_ := 5 } }

/-- The hypotheses of each clause of `Obligations.SynthesizerEvents` hold together. -/
theorem met_SynthesizerEvents :
    (∃ (s u : State) (t x : Nat), u = s.advance t ∧ u.still = false ∧ x = u.now ∧ ∃ (y : Syn) (v : Synth),
      v = u.syn y ∧ ∃ (l : Loop) (w : Synth), hasLoop y l = true ∧ v.en = true ∧ v.phase = .acquiring ∧
      v.parity = false ∧ v.since + u.lockFs y l ≤ x ∧
      w = (match l with | .main => { v with locked := true } | .timeBase => { v with tbLocked := true }) ∧
      (w.locked && (decide (y = .A) || w.tbLocked)) = false) ∧
    (∃ (s u : State) (t x : Nat), u = s.advance t ∧ u.still = false ∧ x = u.now ∧ ∃ (y : Syn) (v : Synth),
      v = u.syn y ∧ ∃ (l : Loop) (w : Synth), hasLoop y l = true ∧ v.en = true ∧ v.phase = .acquiring ∧
      v.parity = false ∧ v.since + u.lockFs y l ≤ x ∧
      w = (match l with | .main => { v with locked := true } | .timeBase => { v with tbLocked := true }) ∧
      (w.locked && (decide (y = .A) || w.tbLocked)) = true ∧
      (decide (y = .M) && v.lost && v.onXtal && !u.ref.xtalSrc && u.ref.qualAt.isSome) = false) ∧
    (∃ (s u : State) (t x : Nat), u = s.advance t ∧ u.still = false ∧ x = u.now ∧ ∃ (y : Syn) (v : Synth),
      v = u.syn y ∧ ∃ (l : Loop) (w : Synth), hasLoop y l = true ∧ v.en = true ∧ v.phase = .acquiring ∧
      v.parity = false ∧ v.since + u.lockFs y l ≤ x ∧
      w = (match l with | .main => { v with locked := true } | .timeBase => { v with tbLocked := true }) ∧
      (w.locked && (decide (y = .A) || w.tbLocked)) = true ∧
      (decide (y = .M) && v.lost && v.onXtal && !u.ref.xtalSrc && u.ref.qualAt.isSome) = true) ∧
    (∃ (s u : State) (t x : Nat), u = s.advance t ∧ u.still = false ∧ x = u.now ∧ ∃ (y : Syn) (v : Synth),
      v = u.syn y ∧ v.phase = .settling ∧ v.since + 20 * usFs ≤ x) ∧
    (∃ (s u : State) (t x : Nat), u = s.advance t ∧ u.still = false ∧ x = u.now ∧ ∃ (y : Syn) (v : Synth),
      v = u.syn y ∧ v.phase = .aligning ∧ v.alignEdge = none) ∧
    (∃ (s u : State) (t x : Nat), u = s.advance t ∧ u.still = false ∧ x = u.now ∧ ∃ (y : Syn) (v : Synth),
      v = u.syn y ∧ ∃ e, v.phase = .aligning ∧ v.alignEdge = some e ∧ e + releaseFs ≤ x) ∧
    (∃ (s u : State) (t x : Nat), u = s.advance t ∧ u.still = false ∧ x = u.now ∧ ∃ (y : Syn) (v : Synth),
      v = u.syn y ∧ ∃ l, hasLoop y l = true ∧ v.en = true ∧ v.loopLocked l = true) ∧
    (∃ (s u : State) (t x : Nat), u = s.advance t ∧ u.still = false ∧ x = u.now ∧ ∃ (y : Syn) (v : Synth),
      v = u.syn y ∧ v.en = true ∧ v.phase = .acquiring ∧
      v.since + (if v.retried = true then 10 * msFs else msFs) ≤ x) ∧
    (∃ (s u : State) (t x : Nat), u = s.advance t ∧ u.still = false ∧ x = u.now ∧ ∃ (i : Fin 80),
      u.guarded i = true ∧ u.synRuns (synOf i) = true ∧ (u.output i).ceilGated = false) ∧
    (∃ (s u : State) (t x : Nat), u = s.advance t ∧ u.still = false ∧ x = u.now ∧ ∃ (i : Fin 80),
      u.fineAtOnce i = false) ∧
    (∃ (s u : State) (t x : Nat), u = s.advance t ∧ u.still = false ∧ x = u.now ∧ ∃ z, u.ref.qualAt = some z ∧
      u.tiu.tb = 3 ∧ u.synRuns .M = true ∧ z + 20 * usFs ≤ x) := by
  refine ⟨⟨st0, _, 0, _, rfl, ?_, rfl, Syn.M, _, rfl, Loop.main, _, ?_, ?_, ?_, ?_, ?_, rfl, ?_⟩,
    ⟨st0, _, 0, _, rfl, ?_, rfl, Syn.A, _, rfl, Loop.main, _, ?_, ?_, ?_, ?_, ?_, rfl, ?_, ?_⟩,
    ⟨st2, _, 0, _, rfl, ?_, rfl, Syn.M, _, rfl, Loop.main, _, ?_, ?_, ?_, ?_, ?_, rfl, ?_, ?_⟩,
    ⟨st3, _, 0, _, rfl, ?_, rfl, Syn.M, _, rfl, ?_, ?_⟩, ⟨st5, _, 0, _, rfl, ?_, rfl, Syn.M, _, rfl, ?_, ?_⟩,
    ⟨st6, _, 0, _, rfl, ?_, rfl, Syn.M, _, rfl, 1000000000000000, ?_, ?_, ?_⟩,
    ⟨st1, _, 0, _, rfl, ?_, rfl, Syn.M, _, rfl, Loop.timeBase, ?_, ?_, ?_⟩,
    ⟨st0, _, 0, _, rfl, ?_, rfl, Syn.M, _, rfl, ?_, ?_, ?_⟩, ⟨st7, _, 0, _, rfl, ?_, rfl, 0, ?_, ?_, ?_⟩,
    ⟨st7, _, 0, _, rfl, ?_, rfl, 0, ?_⟩, ⟨st10, _, 0, _, rfl, ?_, rfl, 5, ?_, ?_, ?_, ?_⟩⟩ <;>
  decide +kernel

end ForSynthesizerEvents

namespace ForSynARampRuns

def ra (r : SynRamp) : State :=
  { ready with
    now := 2000000000
    time := { count := 0, at_ := 0, running := true }
    synA := { en := true, phase := .running, nInt := 1200 }
    ramp := r }
def st0 : State :=
  ra { startAt := some 20000, waiting := true, profile := [(0, { step := 5, dwell := 10, count := 2 })] }
def st2 : State :=
  ra { running := true, cycles := 1, profile := [(0, { step := 5, dwell := 1, count := 2 }), (1, { step := 5, dwell := 1, count := 2 })] }

/-- The hypotheses of each clause of `Obligations.SynARampRuns` hold together. -/
theorem met_SynARampRuns :
    (∃ (s u : State) (t x n : Nat) (e : Ticks), u = s.advance t ∧ u.still = false ∧ u.ramp.startAt = some e ∧
      u.ramp.waiting = true ∧ u.time.running = true ∧ ticksGe u.trussNow e = true ∧ x = u.loopFs (u.fsOfTicks e) ∧
      n = (u.pfdFs u.synA).1 / (u.pfdFs u.synA).2) ∧
    (∃ (s u : State) (t p : Nat) (q : SynPiece), u = s.advance t ∧ u.still = false ∧ u.ramp.running = true ∧
      u.synA.en = true ∧ u.ramp.from_ + u.ramp.cycles * (u.pfdFs u.synA).1 / (u.pfdFs u.synA).2 ≤ u.loopFs u.now ∧
      p = u.ramp.piece ∧ q = u.ramp.at_ p) := by
  refine ⟨⟨st0, _, 0, _, _, 0x4e20#64, rfl, ?_, ?_, ?_, ?_, ?_, rfl, rfl⟩,
    ⟨st2, _, 0, _, _, rfl, ?_, ?_, ?_, ?_, rfl, rfl⟩⟩ <;>
  decide +kernel

end ForSynARampRuns

namespace ForBellsAreRaised

def bs (tr : Truss) (ti : Tiu := {}) : State :=
  { clk { state := .playing, enable := true, act := .gap gapD 0 } with
    time := { count := 100, at_ := 1, running := true }
    truss := tr
    tiu := ti }
def hr : HeldRing := ⟨ask, 3, 7⟩
def st0 : State := bs {}
def st1 : State := bs { lastOrigin := [(3, some 32000)] }
def st2 : State := bs { owners := [(3, [(0, 1)])] }
def st3 : State := bs { heldRings := [hr] }
def st4 : State := bs { heldRings := [hr], owners := [(3, [(0, 1)])] }
def st6 : State := bs { mkCfg := [(0, 0x80000003)] }
def st8 : State := bs { mkCfg := [(0, 0xA0000003)] } { slots := [(0, { mkAt := [1999000000] })] }

/-- The hypotheses of each clause of `Obligations.BellsAreRaised` hold together. -/
theorem met_BellsAreRaised :
    (∃ (s u : State) (t : Nat) (r : Req) (x : Session) (data : Bytes) (number : Nat) (payload : Byte) (now : Ticks)
        (w : BellWord), u = s.advance t ∧ u.Writes r x 0x2500 0x09 data ∧ data.length = 2 ∧
      number = leNat data % 256 ∧ payload = BitVec.ofNat 8 (leNat data / 256) ∧ now = u.trussNow ∧
      w = u.bellWord 0 number payload now srcOda 0 ∧ u.owns number = true ∧ u.admissible number now = true) ∧
    (∃ (s u : State) (t : Nat) (r : Req) (x : Session) (data : Bytes) (number : Nat) (payload : Byte) (now : Ticks)
        (w : BellWord), u = s.advance t ∧ u.Writes r x 0x2500 0x09 data ∧ data.length = 2 ∧
      number = leNat data % 256 ∧ payload = BitVec.ofNat 8 (leNat data / 256) ∧ now = u.trussNow ∧
      w = u.bellWord 0 number payload now srcOda 0 ∧ u.owns number = true ∧ u.admissible number now = false) ∧
    (∃ (s u : State) (t : Nat) (r : Req) (x : Session) (data : Bytes) (number : Nat) (payload : Byte) (now : Ticks)
        (w : BellWord), u = s.advance t ∧ u.Writes r x 0x2500 0x09 data ∧ data.length = 2 ∧
      number = leNat data % 256 ∧ payload = BitVec.ofNat 8 (leNat data / 256) ∧ now = u.trussNow ∧
      w = u.bellWord 0 number payload now srcOda 0 ∧ u.owns number = false) ∧
    (∃ (s u v : State) (t : Nat) (h : HeldRing) (rest : List HeldRing) (now : Ticks) (w : BellWord),
      u = s.advance t ∧ u.still = false ∧ u.truss.heldRings = h :: rest ∧ u.oda.waiting = [] ∧ h.number < 256 ∧
      now = u.trussNow ∧ v = { u with truss := { u.truss with heldRings := rest } } ∧
      w = u.bellWord 0 h.number h.payload now srcOda 0 ∧ u.owns h.number = true ∧ u.admissible h.number now = true) ∧
    (∃ (s u v : State) (t : Nat) (h : HeldRing) (rest : List HeldRing) (now : Ticks) (w : BellWord),
      u = s.advance t ∧ u.still = false ∧ u.truss.heldRings = h :: rest ∧ u.oda.waiting = [] ∧ h.number < 256 ∧
      now = u.trussNow ∧ v = { u with truss := { u.truss with heldRings := rest } } ∧
      w = u.bellWord 0 h.number h.payload now srcOda 0 ∧ u.owns h.number = false) ∧
    (∃ (s u : State) (t : Nat) (p : Fin 16) (rising : Bool) (cfg number dead : Nat), u = s.advance t ∧
      u.still = false ∧ cfg = u.mkCfgOf p ∧ number = cfg % 256 ∧
      dead = (if u.tiu.cal = some p.val then 8 else 4) * nsFs ∧
      (u.time.running = false ∨ mkSelected cfg rising = false)) ∧
    (∃ (s u : State) (t : Nat) (p : Fin 16) (rising : Bool) (cfg number dead : Nat), u = s.advance t ∧
      u.still = false ∧ cfg = u.mkCfgOf p ∧ number = cfg % 256 ∧
      dead = (if u.tiu.cal = some p.val then 8 else 4) * nsFs ∧ ∃ z r, u.time.running = true ∧
      mkSelected cfg rising = true ∧ (u.slot p).mkAt = z :: r ∧ u.now < z + dead) ∧
    (∃ (s u : State) (t : Nat) (p : Fin 16) (rising : Bool) (cfg number dead : Nat), u = s.advance t ∧
      u.still = false ∧ cfg = u.mkCfgOf p ∧ number = cfg % 256 ∧
      dead = (if u.tiu.cal = some p.val then 8 else 4) * nsFs ∧ u.time.running = true ∧
      mkSelected cfg rising = true ∧ (∀ z r, (u.slot p).mkAt = z :: r → z + dead ≤ u.now)) := by
  refine ⟨⟨st0, _, 0, ask, ses, [0x3#8, 0x7#8], _, _, _, _, rfl, ?_, ?_, rfl, rfl, rfl, rfl, ?_, ?_⟩,
    ⟨st1, _, 0, ask, ses, [0x3#8, 0x7#8], _, _, _, _, rfl, ?_, ?_, rfl, rfl, rfl, rfl, ?_, ?_⟩,
    ⟨st2, _, 0, ask, ses, [0x3#8, 0x7#8], _, _, _, _, rfl, ?_, ?_, rfl, rfl, rfl, rfl, ?_⟩,
    ⟨st3, _, _, 0, { req := ask, number := 3, payload := 0x7#8 }, [], _, _, rfl, ?_, ?_, ?_, ?_, rfl, rfl, rfl, ?_,
      ?_⟩,
    ⟨st4, _, _, 0, { req := ask, number := 3, payload := 0x7#8 }, [], _, _, rfl, ?_, ?_, ?_, ?_, rfl, rfl, rfl, ?_⟩,
    ⟨st0, _, 0, 0, true, _, _, _, rfl, ?_, rfl, rfl, rfl, ?_⟩,
    ⟨st8, _, 0, 0, false, _, _, _, rfl, ?_, rfl, rfl, rfl, 1999000000, [], ?_, ?_, ?_, ?_⟩,
    ⟨st6, _, 0, 0, true, _, _, _, rfl, ?_, rfl, rfl, rfl, ?_, ?_, ?_⟩⟩ <;>
  first
  | decide +kernel
  | exact noFiring (by decide +kernel)
  | exact noHead (by decide +kernel)
  | constructor <;> first | decide +kernel | (constructor <;> decide +kernel)

end ForBellsAreRaised

namespace ForBellsAreDelivered

def w0 : BellWord := (ready.bellWord 0 3 7 32000 srcOda 0)
def dl (b : List PendingBell) (n : Nat := 2000000000) (p : Nat := 1) : State :=
  { clk { state := .playing, enable := true, act := .gap gapD 0, armed := some { d := { kind := .play, lenG := 16, reps := 1 }, bell := 3, k := 10 } } with
    now := n
    time := { count := 100, at_ := 1, running := true }
    truss := { bells := b, latePolicy := p }
    quads := [(0, { en := true, mode := 1 })]
    lanes := [(0, { link := .up, role := 1 }), (1, { link := .up, role := 1 })]
    tts := [(0, { listen := 8 }), (64, {})] }
def pb : PendingBell :=
  { word := w0, effective := 42240, releaseAt := 32000, arrived := 32000, late := false, released := false, passed := false, heard := false }
def st0 : State := dl []
def st2 : State := dl [pb]
def st4 : State := dl [{ pb with released := true, heard := true }] 2700000000

/-- The hypotheses of each clause of `Obligations.BellsAreDelivered` hold together. -/
theorem met_BellsAreDelivered :
    (∃ (s u : State) (t : Nat) (l : Fin 48) (b b' : BellWord) (now e : Ticks), u = s.advance t ∧ u.still = false ∧
      u.linkIsUp l = true ∧ b.kind = 0 ∧ now = u.trussNow ∧ e = u.effective b.origin ∧
      b' = (if (u.mixedAt b.origin || decide ((u.lane l).version = 1)) = true then { b with payload := 0 } else b) ∧
      (u.punctual b' now).isLate = false ∧ (u.punctual b' now).isSlow = false ∧ (∀ c ∈ u.truss.bells,
      (c.late = true → c.released = true ∧ c.passed = true) ∧ (c.isSlow = true → c.released = true))) ∧
    (∃ (s u : State) (t : Nat) (l : Fin 48) (b b' : BellWord) (now e : Ticks), u = s.advance t ∧ u.still = false ∧
      u.linkIsUp l = true ∧ b.kind = 0 ∧ now = u.trussNow ∧ e = u.effective b.origin ∧
      b' = (if (u.mixedAt b.origin || decide ((u.lane l).version = 1)) = true then { b with payload := 0 } else b) ∧
      (u.punctual b' now).isLate = true ∧ u.truss.bells = [] ∧ u.truss.latePolicy = 1 ∧ u.eclk.stopped = false ∧
      u.truss.heardCycle ≤ u.cycle ∧ (∀ p ∈ u.tts, p.2.state = .waiting → p.2.wait ≠ .bell)) ∧
    (∃ (s u : State) (t : Nat) (b : PendingBell) (pre post : List PendingBell) (bit : BitVec 256), u = s.advance t ∧
      u.still = false ∧ u.eclk.stopped = false ∧ u.truss.heardCycle ≤ u.cycle ∧ u.truss.bells = pre ++ b :: post ∧
      b.word.kind = 0 ∧ bit = BitVec.ofNat 256 (2 ^ b.word.number.toNat) ∧ (∀ c ∈ pre ++ post, (c.released = true ∧
      c.heard = true ∨ c.released = false ∧ ticksGe u.trussNow c.releaseAt = false) ∧
      (c.released && c.passed && c.heard && ticksGe u.trussNow c.effective) = false) ∧ b.released = false ∧
      b.late = false ∧ ticksGe u.trussNow b.releaseAt = true ∧ (∀ p ∈ u.tts,
      p.2.state = .waiting → p.2.wait ≠ .bell)) ∧
    (∃ (s u : State) (t : Nat) (b : PendingBell) (pre post : List PendingBell), u = s.advance t ∧ u.still = false ∧
      u.eclk.stopped = false ∧ u.synM.lost = false ∧ u.truss.bells = pre ++ b :: post ∧ b.word.kind ≠ 1 ∧
      (∀ c ∈ pre ++ post, (c.passed = true ∨ ticksGe u.trussNow (c.effective - nsTicks 160) = false) ∧
      (c.released && c.passed && c.heard && ticksGe u.trussNow c.effective) = false) ∧ b.passed = false ∧
      ticksGe u.trussNow (b.effective - nsTicks 160) = true) := by
  refine ⟨⟨st0, _, 0, 0,
      { kind := 0x0#4, originDev := 0x0#6, hops := 0x0#6, payload := 0x7#8, number := 0x3#8, origin := 0x80e8#64, source := 0x3#4, sourceId := 0x0#14 }, _, _, _, rfl, ?_, ?_, ?_, rfl, rfl, rfl, ?_, ?_, ?_⟩,
    ⟨st0, _, 0, 0,
      { kind := 0x0#4, originDev := 0x0#6, hops := 0x0#6, payload := 0x7#8, number := 0x3#8, origin := 0x0#64, source := 0x3#4, sourceId := 0x0#14 }, _, _, _, rfl, ?_, ?_, ?_, rfl, rfl, rfl, ?_, ?_, ?_, ?_, ?_, ?_⟩,
    ⟨st2, _, 0,
      { word := { kind := 0x0#4, originDev := 0x0#6, hops := 0x0#6, payload := 0x7#8, number := 0x3#8, origin := 0x7d00#64, source := 0x3#4, sourceId := 0x0#14 }, effective := 0xa500#64, releaseAt := 0x7d00#64, arrived := 0x7d00#64, late := false, released := false, passed := false, heard := false }, [], [], _, rfl, ?_, ?_, ?_, ?_, ?_, rfl, ?_, ?_, ?_, ?_, ?_⟩,
    ⟨st4, _, 0,
      { word := { kind := 0x0#4, originDev := 0x0#6, hops := 0x0#6, payload := 0x7#8, number := 0x3#8, origin := 0x7d00#64, source := 0x3#4, sourceId := 0x0#14 }, effective := 0xa500#64, releaseAt := 0x7d00#64, arrived := 0x7d00#64, late := false, released := true, passed := false, heard := true }, [], [], rfl, ?_, ?_, ?_, ?_, ?_, ?_, ?_, ?_⟩⟩ <;>
  decide +kernel

end ForBellsAreDelivered

namespace ForKingPostCommands

def dn : List (Nat × Lane) := [(0, { link := .up, role := 2, since := 1900000000, heardAt := 2000000000 })]
def upl : List (Nat × Lane) :=
  [(0, { link := .up, role := 1, since := 1900000000, heardAt := 2000000000 }), (1, { link := .up, role := 2 })]
def tr (x : Truss) (l : List (Nat × Lane) := []) (n : Nat := 2000000000) : State :=
  { clk { state := .playing, enable := true, act := .gap gapD 0 } with
    now := n
    time := { count := 100, at_ := 1, running := true }
    truss := x
    quads := [(0, { en := true, mode := 1 })]
    lanes := l }
def two : List (Nat × Member) := [(1, { present := true })]
def st0 : State := tr {}
def st1 : State := tr { map := two } dn
def st2 : State := tr { joined := true } upl
def st3 : State := { tr { epochSet := true } with ref := { ppsAt := some 1 } }
def st4 : State := { tr { map := two } dn with ref := { ppsAt := some 1 } }

/-- The hypotheses of each clause of `Obligations.KingPostCommands` hold together. -/
theorem met_KingPostCommands :
    (∃ (s u : State) (t : Nat) (r : Req) (x : Session) (now : Ticks), u = s.advance t ∧ now = u.trussNow ∧
      ∃ (c : Instr) (sub : Nat) (data : Bytes), u.ownKing = false ∧ u.Writes r x 0x2500 sub data ∧
      (c = .horizonWrite t r data ∧ sub = 3 ∧ data.length = 2 ∨ c = .bellOwnerWrite t r data ∧ sub = 0x0A ∧
      data.length = 256 ∨ c = .epochCmdNow t r ∧ sub = 8 ∧ data = [1] ∨ c = .epochCmdPps t r ∧ sub = 8 ∧
      data = [2] ∨ c = .trussResume t r ∧ sub = 0x1A ∧ data = [1] ∨ c = .trussResetCmd t r ∧ sub = 0x1A ∧
      data = [2])) ∧
    (∃ (s u : State) (t : Nat) (r : Req) (x : Session) (now : Ticks), u = s.advance t ∧ now = u.trussNow ∧
      ∃ (data : Bytes) (v : Nat), u.Writes r x 0x2500 3 data ∧ data.length = 2 ∧ v = leNat data ∧ u.ownKing = true ∧
      u.truss.hMin ≤ v ∧ v ≤ 16384 ∧ u.alone = true) ∧
    (∃ (s u : State) (t : Nat) (r : Req) (x : Session) (now : Ticks), u = s.advance t ∧ now = u.trussNow ∧
      ∃ (data : Bytes) (v : Nat) (c : SettingChange), u.Writes r x 0x2500 3 data ∧ data.length = 2 ∧ v = leNat data ∧
      u.ownKing = true ∧ u.truss.hMin ≤ v ∧ v ≤ 16384 ∧ u.alone = false ∧
      c = { setting := 1, item := 0, at_ := switchTime now, value := BitVec.ofNat 64 v }) ∧
    (∃ (s u : State) (t : Nat) (r : Req) (x : Session) (now : Ticks), u = s.advance t ∧ now = u.trussNow ∧
      ∃ (data : Bytes), u.Writes r x 0x2500 0x0A data ∧ data.length = 256 ∧ u.alone = true ∧ u.truss.settings = [] ∧
      (∀ b ∈ data, b.toNat ≤ 63)) ∧
    (∃ (s u : State) (t : Nat) (r : Req) (x : Session) (now : Ticks), u = s.advance t ∧ now = u.trussNow ∧
      u.Writes r x 0x2500 8 [1] ∧ u.ownKing = true ∧ u.epochTaken = false ∧ u.alone = true) ∧
    (∃ (s u : State) (t : Nat) (r : Req) (x : Session) (now : Ticks), u = s.advance t ∧ now = u.trussNow ∧
      u.Writes r x 0x2500 8 [1] ∧ u.ownKing = true ∧ ∃ (c : SettingChange), u.epochTaken = false ∧ u.alone = false ∧
      c = { setting := 3, item := 0, at_ := switchTime now, value := u.truss.epochValue }) ∧
    (∃ (s u : State) (t : Nat) (r : Req) (x : Session) (now : Ticks), u = s.advance t ∧ now = u.trussNow ∧
      u.Writes r x 0x2500 8 [1] ∧ u.ownKing = true ∧ u.epochTaken = true) ∧
    (∃ (s u : State) (t : Nat) (r : Req) (x : Session) (now : Ticks), u = s.advance t ∧ now = u.trussNow ∧
      ∃ (c : SettingChange) (e : Nat), u.Writes r x 0x2500 8 [2] ∧ u.ownKing = true ∧ u.epochTaken = false ∧
      u.ppsPresent = true ∧ e = u.ppsPredicted ∧
      c = { setting := 3, item := 0, at_ := u.trussAt e, value := u.truss.epochValue }) ∧
    (∃ (s u : State) (t : Nat) (r : Req) (x : Session) (now : Ticks), u = s.advance t ∧ now = u.trussNow ∧
      u.Writes r x 0x2500 0x1A [1] ∧ u.ownKing = true ∧ u.trussUp = true ∧ u.alone = true) ∧
    (∃ (s u : State) (t : Nat) (r : Req) (x : Session) (now : Ticks), u = s.advance t ∧ now = u.trussNow ∧
      ∃ (c : SettingChange), u.Writes r x 0x2500 0x1A [1] ∧ u.ownKing = true ∧ u.trussUp = true ∧ u.alone = false ∧
      c = { setting := 4, item := 0, at_ := switchTime now, value := 0 }) ∧
    (∃ (s u : State) (t : Nat) (r : Req) (x : Session) (now : Ticks), u = s.advance t ∧ now = u.trussNow ∧
      ∃ (w : BellWord), u.Writes r x 0x2500 0x1A [2] ∧ u.ownKing = true ∧ w = u.bellWord 1 0 0 now srcTrussCmd 0) := by
  refine ⟨⟨st2, _, 0, ask, ses, _, rfl, rfl, Instr.horizonWrite 0 ask [0x80#8, 0x2#8], 3, [0x80#8, 0x2#8], ?_, ?_,
      ?_⟩, ⟨st0, _, 0, ask, ses, _, rfl, rfl, [0x80#8, 0x2#8], _, ?_, ?_, rfl, ?_, ?_, ?_, ?_⟩,
    ⟨st1, _, 0, ask, ses, _, rfl, rfl, [0x80#8, 0x2#8], _, _, ?_, ?_, rfl, ?_, ?_, ?_, ?_, rfl⟩,
    ⟨st0, _, 0, ask, ses, _, rfl, rfl, (List.replicate 256 0x5#8), ?_, ?_, ?_, ?_, ?_⟩,
    ⟨st0, _, 0, ask, ses, _, rfl, rfl, ?_, ?_, ?_, ?_⟩, ⟨st1, _, 0, ask, ses, _, rfl, rfl, ?_, ?_, _, ?_, ?_, rfl⟩,
    ⟨st3, _, 0, ask, ses, _, rfl, rfl, ?_, ?_, ?_⟩,
    ⟨st4, _, 0, ask, ses, _, rfl, rfl, _, _, ?_, ?_, ?_, ?_, rfl, rfl⟩,
    ⟨st0, _, 0, ask, ses, _, rfl, rfl, ?_, ?_, ?_, ?_⟩, ⟨st1, _, 0, ask, ses, _, rfl, rfl, _, ?_, ?_, ?_, ?_, rfl⟩,
    ⟨st0, _, 0, ask, ses, _, rfl, rfl, _, ?_, ?_, rfl⟩⟩ <;>
  first
  | decide +kernel
  | exact noFiring (by decide +kernel)
  | exact noHead (by decide +kernel)
  | constructor <;> first | decide +kernel | (constructor <;> decide +kernel)

end ForKingPostCommands

namespace ForSettingsAndTrussResets

def upl : List (Nat × Lane) :=
  [(0, { link := .up, role := 1, since := 1900000000, heardAt := 2000000000 }), (1, { link := .up, role := 2 })]
def tr (x : Truss) (l : List (Nat × Lane) := []) (n : Nat := 2000000000) : State :=
  { clk { state := .playing, enable := true, act := .gap gapD 0 } with
    now := n
    time := { count := 100, at_ := 1, running := true }
    truss := x
    quads := [(0, { en := true, mode := 1 })]
    lanes := l }
def st0 : State := tr { settings := [{ setting := 1, item := 0, at_ := 31000, value := 700 }] }
def st4 : State := tr { joined := true } upl
def st5 : State := tr { resets := [31000], epochSet := true, lastOrigin := [(0, some 0)] }
def st7 : State := tr { recover := true, timeValid := false } upl

/-- The hypotheses of each clause of `Obligations.SettingsAndTrussResets` hold together. -/
theorem met_SettingsAndTrussResets :
    (∃ (s u : State) (t : Nat) (now : Ticks), u = s.advance t ∧ u.still = false ∧ now = u.trussNow ∧ ∃ c rest,
      u.truss.settings = c :: rest ∧ ticksGe now c.at_ = true ∧ (∀ d rest',
      rest = d :: rest' → ticksGe now d.at_ = false) ∧
      (c.setting = 1 ∨ c.setting = 2 ∨ c.setting = 5 ∨ c.setting = 6)) ∧
    (∃ (s u : State) (t : Nat) (now : Ticks), u = s.advance t ∧ u.still = false ∧ now = u.trussNow ∧
      ∃ (l : Fin 48) (c : SettingChange), u.upLane l = true ∧ ((u.lane l).link = .up ∨ (u.lane l).link = .join) ∧
      (ticksGe now c.at_ = false ∨ c.setting = 1)) ∧
    (∃ (s u : State) (t : Nat) (now : Ticks), u = s.advance t ∧ u.still = false ∧ now = u.trussNow ∧ ∃ e,
      u.truss.resets = [e] ∧ ticksGe now e = true) ∧
    (∃ (s u : State) (t : Nat) (now : Ticks), u = s.advance t ∧ u.still = false ∧ now = u.trussNow ∧
      ∃ (p : BitVec 80) (q : Int), u.truss.recover = true ∧ u.time.running = true ∧ u.timeLink.isSome = true ∧
      q = roundHalfEven ((p.toNat : Int) - (u.subTicks : Int)) 524288) ∧
    (∃ (s u : State) (t : Nat) (now : Ticks), u = s.advance t ∧ u.still = false ∧ now = u.trussNow) := by
  refine ⟨⟨st0, _, 0, _, rfl, ?_, rfl, { setting := 0x1#8, item := 0x0#8, at_ := 0x7918#64, value := 0x2bc#64 }, [],
      ?_, ?_, ?_, ?_⟩,
    ⟨st4, _, 0, _, rfl, ?_, rfl, 0, { setting := 0x1#8, item := 0x0#8, at_ := 0x7918#64, value := 0x2bc#64 }, ?_, ?_,
      ?_⟩, ⟨st5, _, 0, _, rfl, ?_, rfl, 0x7918#64, ?_, ?_⟩, ⟨st7, _, 0, _, rfl, ?_, rfl, 0x0#80, _, ?_, ?_, ?_, rfl⟩,
    ⟨st0, _, 0, _, rfl, ?_, rfl⟩⟩ <;>
  first
  | decide +kernel
  | exact noFiring (by decide +kernel)
  | exact noHead (by decide +kernel)
  | constructor <;> first | decide +kernel | (constructor <;> decide +kernel)

end ForSettingsAndTrussResets

namespace ForHeartbeatsAndBreaks

def dn : List (Nat × Lane) := [(0, { link := .up, role := 2, since := 1900000000, heardAt := 2000000000 })]
def tr (x : Truss) (l : List (Nat × Lane) := []) (n : Nat := 2000000000) : State :=
  { clk { state := .playing, enable := true, act := .gap gapD 0 } with
    now := n
    time := { count := 100, at_ := 1, running := true }
    truss := x
    quads := [(0, { en := true, mode := 1 })]
    lanes := l }
def st0 : State := tr {} dn 4000000000
def st1 : State := tr {} [(0, { link := .refused, role := 2 })] 9000000000
def st3 : State :=
  tr { joined := true } [(0, { link := .up, role := 1, since := 1900000000, heardAt := 2000000000, offBeats := 3 })] 8000000000
def st4 : State :=
  tr { joined := true, broken := true } [(0, { link := .up, role := 1, since := 1900000000, heardAt := 2000000000 })] 8000000000
def st5 : State := tr {} [(0, { link := .up, role := 0, since := 0, heardAt := 0 })] 8000000000
def st7 : State :=
  { tr { broken := true, breakTime := 31000 } with
    chans := [(0, { state := .playing, enable := true, act := .gap gapD 0, broke := .pending })] }
def st8 : State :=
  { tr { broken := true, breakTime := 31000, policy := [(0, 1)] } with
    chans := [(0, { state := .playing, enable := true, act := .gap gapD 0, broke := .pending })] }
def st9 : State :=
  { tr { broken := true, breakTime := 31000, policy := [(0, 2)] } with
    chans := [(0, { state := .playing, enable := true, act := .gap gapD 0, broke := .pending })] }

/-- The hypotheses of each clause of `Obligations.HeartbeatsAndBreaks` hold together. -/
theorem met_HeartbeatsAndBreaks :
    (∃ (s u : State) (t : Nat) (now : Ticks), u = s.advance t ∧ u.still = false ∧ now = u.trussNow ∧
      ∃ (l : Fin 48) (v : Lane), v = u.lane l ∧ u.ronzal l = true ∧ (v.link = .up ∨ v.link = .refused) ∧
      v.saidAt + usFs ≤ u.now) ∧
    (∃ (s u : State) (t : Nat) (now : Ticks), u = s.advance t ∧ u.still = false ∧ now = u.trussNow ∧
      ∃ (l : Fin 48) (v : Lane), v = u.lane l ∧ u.ronzal l = true ∧ ∃ (b : HeartbeatBlock) (off : Int),
      (v.link = .up ∨ v.link = .refused) ∧ off = ticksDiff now b.time * 65536 + u.subTicks - v.delay ∧
      (v.role = 0 ∨ v.link = .refused ∨ u.time.running = false ∨ u.truss.recover = true)) ∧
    (∃ (s u : State) (t : Nat) (now : Ticks), u = s.advance t ∧ u.still = false ∧ now = u.trussNow ∧
      ∃ (l : Fin 48) (v : Lane), v = u.lane l ∧ u.ronzal l = true ∧ ∃ (b : HeartbeatBlock) (off : Int),
      (v.link = .up ∨ v.link = .refused) ∧ off = ticksDiff now b.time * 65536 + u.subTicks - v.delay ∧ v.role ≠ 0 ∧
      v.link = .up ∧ u.time.running = true ∧ u.truss.recover = false ∧ off.natAbs ≤ 16 * 65536) ∧
    (∃ (s u : State) (t : Nat) (now : Ticks), u = s.advance t ∧ u.still = false ∧ now = u.trussNow ∧
      ∃ (l : Fin 48) (v : Lane), v = u.lane l ∧ u.ronzal l = true ∧ ∃ (b : HeartbeatBlock) (off : Int),
      (v.link = .up ∨ v.link = .refused) ∧ off = ticksDiff now b.time * 65536 + u.subTicks - v.delay ∧ v.role ≠ 0 ∧
      v.link = .up ∧ u.time.running = true ∧ u.truss.recover = false ∧ 16 * 65536 < off.natAbs ∧ v.offBeats < 3) ∧
    (∃ (s u : State) (t : Nat) (now : Ticks), u = s.advance t ∧ u.still = false ∧ now = u.trussNow ∧
      ∃ (l : Fin 48) (v : Lane), v = u.lane l ∧ u.ronzal l = true ∧ ∃ (b : HeartbeatBlock) (off : Int),
      (v.link = .up ∨ v.link = .refused) ∧ off = ticksDiff now b.time * 65536 + u.subTicks - v.delay ∧ v.role ≠ 0 ∧
      v.link = .up ∧ u.time.running = true ∧ u.truss.recover = false ∧ 16 * 65536 < off.natAbs ∧ 3 ≤ v.offBeats) ∧
    (∃ (s u : State) (t : Nat) (now : Ticks), u = s.advance t ∧ u.still = false ∧ now = u.trussNow ∧
      ∃ (l : Fin 48) (v : Lane), v = u.lane l ∧ u.ronzal l = true ∧ v.link = .up ∧ v.heardAt + 4 * usFs ≤ u.now ∧
      v.role = 0) ∧
    (∃ (s u : State) (t : Nat) (now : Ticks), u = s.advance t ∧ u.still = false ∧ now = u.trussNow ∧
      ∃ (l : Fin 48) (v : Lane), v = u.lane l ∧ u.ronzal l = true ∧ v.link = .up ∧ v.heardAt + 4 * usFs ≤ u.now ∧
      v.role ≠ 0 ∧ u.truss.broken = true) ∧
    (∃ (s u : State) (t : Nat) (now : Ticks), u = s.advance t ∧ u.still = false ∧ now = u.trussNow ∧
      ∃ (l : Fin 48) (v : Lane), v = u.lane l ∧ u.ronzal l = true ∧ v.link = .up ∧ v.heardAt + 4 * usFs ≤ u.now ∧
      v.role ≠ 0 ∧ u.truss.broken = false) ∧
    (∃ (s u : State) (t : Nat) (now : Ticks), u = s.advance t ∧ u.still = false ∧ now = u.trussNow ∧
      ∃ (l : Fin 48) (v : Lane), v = u.lane l ∧ u.ronzal l = true ∧ v.link = .refused ∧ v.role = roleDown ∧
      max v.heardAt v.since + 4 * usFs ≤ u.now) ∧
    (∃ (s u : State) (t : Nat) (now : Ticks), u = s.advance t ∧ u.still = false ∧ now = u.trussNow ∧ ∃ (l : Fin 48),
      u.linkIsUp l = true ∧ u.truss.broken = false) ∧
    (∃ (s u : State) (t : Nat) (now : Ticks), u = s.advance t ∧ u.still = false ∧ now = u.trussNow ∧ ∃ (l : Fin 48),
      u.linkIsUp l = true ∧ u.truss.broken = true) ∧
    (∃ (s u : State) (t : Nat) (now : Ticks), u = s.advance t ∧ u.still = false ∧ now = u.trussNow ∧ ∃ (n : Fin 64),
      u.truss.broken = true ∧ (u.chan n).broke = .pending ∧ u.clockRuns n = true ∧
      u.boundaryOfTicks n u.truss.breakTime ≤ u.boundaryNow n ∧ (u.chan n).state = .playing ∧
      u.breakPolicy n = breakHold ∧ u.serves n = false) ∧
    (∃ (s u : State) (t : Nat) (now : Ticks), u = s.advance t ∧ u.still = false ∧ now = u.trussNow ∧ ∃ (n : Fin 64),
      u.truss.broken = true ∧ (u.chan n).broke = .pending ∧ u.clockRuns n = true ∧
      u.boundaryOfTicks n u.truss.breakTime ≤ u.boundaryNow n ∧ (u.chan n).state = .playing ∧
      u.breakPolicy n = breakPark ∧ u.serves n = false) ∧
    (∃ (s u : State) (t : Nat) (now : Ticks), u = s.advance t ∧ u.still = false ∧ now = u.trussNow ∧ ∃ (n : Fin 64),
      u.truss.broken = true ∧ (u.chan n).broke = .pending ∧ u.clockRuns n = true ∧
      u.boundaryOfTicks n u.truss.breakTime ≤ u.boundaryNow n ∧ (u.chan n).state = .playing ∧
      u.breakPolicy n = breakHighz) := by
  refine ⟨⟨st0, _, 0, _, rfl, ?_, rfl, 0, _, rfl, ?_, ?_, ?_⟩,
    ⟨st1, _, 0, _, rfl, ?_, rfl, 0, _, rfl, ?_, { seq := 0x0#32, lstate := 0x7#4, time := 0xfa5c#64 }, _, ?_, rfl,
      ?_⟩,
    ⟨st0, _, 0, _, rfl, ?_, rfl, 0, _, rfl, ?_, { seq := 0x0#32, lstate := 0x7#4, time := 0xfa5c#64 }, _, ?_, rfl,
      ?_, ?_, ?_, ?_, ?_⟩,
    ⟨st0, _, 0, _, rfl, ?_, rfl, 0, _, rfl, ?_, { seq := 0x0#32, lstate := 0x7#4, time := 0x232dc#64 }, _, ?_, rfl,
      ?_, ?_, ?_, ?_, ?_, ?_⟩,
    ⟨st3, _, 0, _, rfl, ?_, rfl, 0, _, rfl, ?_, { seq := 0x0#32, lstate := 0x7#4, time := 0xfa5c#64 }, _, ?_, rfl,
      ?_, ?_, ?_, ?_, ?_, ?_⟩, ⟨st5, _, 0, _, rfl, ?_, rfl, 0, _, rfl, ?_, ?_, ?_, ?_⟩,
    ⟨st4, _, 0, _, rfl, ?_, rfl, 0, _, rfl, ?_, ?_, ?_, ?_, ?_⟩,
    ⟨st3, _, 0, _, rfl, ?_, rfl, 0, _, rfl, ?_, ?_, ?_, ?_, ?_⟩,
    ⟨st1, _, 0, _, rfl, ?_, rfl, 0, _, rfl, ?_, ?_, ?_, ?_⟩, ⟨st0, _, 0, _, rfl, ?_, rfl, 0, ?_, ?_⟩,
    ⟨st4, _, 0, _, rfl, ?_, rfl, 0, ?_, ?_⟩, ⟨st7, _, 0, _, rfl, ?_, rfl, 0, ?_, ?_, ?_, ?_, ?_, ?_, ?_⟩,
    ⟨st8, _, 0, _, rfl, ?_, rfl, 0, ?_, ?_, ?_, ?_, ?_, ?_, ?_⟩,
    ⟨st9, _, 0, _, rfl, ?_, rfl, 0, ?_, ?_, ?_, ?_, ?_, ?_⟩⟩ <;>
  decide +kernel

end ForHeartbeatsAndBreaks

namespace ForLaneCommands

def ql : List (Nat × Quad) := [(0, { en := true, mode := 1 }), (1, { en := true, mode := 2 })]
def tq (l : List (Nat × Lane)) (x : Truss := {}) (sel : Selectors := {}) (q : List (Nat × Quad) := ql) : State :=
  { clk {} with
    now := 200000000000000
    time := { count := 100, at_ := 1, running := true }
    truss := x
    quads := q
    lanes := l
    oda := { sessions := [ses sel] } }
def sl (a b c : Nat) : Selectors := ((({} : Selectors).set 0x2500 0x12 a).set 0x2600 1 b).set 0x2600 3 c
def st0 : State := tq [] {} (sl 8 2 8)
def st1 : State := tq [] {} (sl 0 0 0)
def st3 : State := tq [(0, { role := 0, link := .up })] {} (sl 1 1 0)
def st4 : State := tq [(0, { test := 4, link := .disabled })] {} (sl 1 0 0)

/-- The hypotheses of each clause of `Obligations.LaneCommands` hold together. -/
theorem met_LaneCommands :
    (∃ (s u : State) (t : Nat) (r : Req) (x : Session) (data : Bytes) (v : Nat), u = s.advance t ∧ v = leNat data ∧
      u.Writes r x 0x2500 1 data ∧ data.length = 1 ∧ 1 ≤ v ∧ v ≤ 63 ∧ (∀ l,
      l < 48 → u.trussLane l = true → (u.lane l).link = .disabled ∨ (u.lane l).link = .refused)) ∧
    (∃ (s u : State) (t : Nat) (r : Req) (x : Session) (data : Bytes) (v : Nat), u = s.advance t ∧ v = leNat data ∧
      ∃ l, u.Writes r x 0x2500 0x13 data ∧ data.length = 1 ∧ l = x.sel.get 0x2500 0x12 ∧ (u.laneQuad l).en = false ∧
      bits v 1 0 ≤ 2 ∧ (bits v 1 0 = 1 → ∀ i, i < 48 → i ≠ l → (u.lane i).role ≠ 1)) ∧
    (∃ (s u : State) (t : Nat) (r : Req) (x : Session) (data : Bytes) (v : Nat), u = s.advance t ∧ v = leNat data ∧
      ∃ l, u.Writes r x 0x2500 0x13 data ∧ data.length = 1 ∧ l = x.sel.get 0x2500 0x12 ∧ (u.laneQuad l).en = true) ∧
    (∃ (s u : State) (t : Nat) (r : Req) (x : Session) (data : Bytes) (v : Nat), u = s.advance t ∧ v = leNat data ∧
      ∃ q, u.Writes r x 0x2600 2 data ∧ data.length = 4 ∧ q = x.sel.get 0x2600 1 ∧ bitOf v 31 = true ∧
      (u.quad q).en = false ∧ (bits v 1 0 = 1 ∨ (bits v 1 0 = 2 ∧ q ≤ 3))) ∧
    (∃ (s u : State) (t : Nat) (r : Req) (x : Session) (data : Bytes) (v : Nat), u = s.advance t ∧ v = leNat data ∧
      ∃ q, u.Writes r x 0x2600 2 data ∧ data.length = 4 ∧ q = x.sel.get 0x2600 1 ∧ bitOf v 31 = false ∧
      (u.quad q).en = true ∧ bits v 1 0 = (u.quad q).mode ∧ bits v 1 0 ≠ 3 ∧ (q ≤ 3 ∨ bits v 1 0 ≠ 2)) ∧
    (∃ (s u : State) (t : Nat) (r : Req) (x : Session) (data : Bytes) (v : Nat), u = s.advance t ∧ v = leNat data ∧
      ∃ l, u.Writes r x 0x2600 5 data ∧ data.length = 1 ∧ l = x.sel.get 0x2600 3 ∧ v < 16 ∧ v ≠ 0 ∧ bits v 3 2 ≠ 3 ∧
      bits v 1 0 ≠ 3 ∧ (bits v 3 2 = 2 → bits v 1 0 = 0) ∧ (u.lane l).link ≠ .up) ∧
    (∃ (s u : State) (t : Nat) (r : Req) (x : Session) (data : Bytes) (v : Nat), u = s.advance t ∧ v = leNat data ∧
      ∃ l, u.Writes r x 0x2600 5 data ∧ data.length = 1 ∧ l = x.sel.get 0x2600 3 ∧ v < 16 ∧ v ≠ 0 ∧ bits v 3 2 ≠ 3 ∧
      bits v 1 0 ≠ 3 ∧ (bits v 3 2 = 2 → bits v 1 0 = 0) ∧ (u.lane l).link = .up) ∧
    (∃ (s u : State) (t : Nat) (r : Req) (x : Session) (data : Bytes) (v : Nat), u = s.advance t ∧ v = leNat data ∧
      ∃ l, u.Writes r x 0x2600 5 data ∧ data.length = 1 ∧ l = x.sel.get 0x2600 3 ∧ v < 16 ∧ data = [0] ∧
      (u.lane l).test ≠ 0) := by
  refine ⟨⟨st0, _, 0, ask, ses { vals := [(2424850, 8), (2490369, 2), (2490371, 8)] }, [0x1#8], _, rfl, rfl, ?_, ?_,
      ?_, ?_, ?_⟩,
    ⟨st0, _, 0, ask, ses { vals := [(2424850, 8), (2490369, 2), (2490371, 8)] }, [0x1#8], _, rfl, rfl, _, ?_, ?_,
      rfl, ?_, ?_, ?_⟩, ⟨st1, _, 0, ask, ses, [0x1#8], _, rfl, rfl, _, ?_, ?_, rfl, ?_⟩,
    ⟨st0, _, 0, ask, ses { vals := [(2424850, 8), (2490369, 2), (2490371, 8)] }, [0x1#8, 0x0#8, 0x0#8, 0x80#8], _,
      rfl, rfl, _, ?_, ?_, rfl, ?_, ?_, ?_⟩,
    ⟨st1, _, 0, ask, ses, [0x1#8, 0x0#8, 0x0#8, 0x0#8], _, rfl, rfl, _, ?_, ?_, rfl, ?_, ?_, ?_, ?_, ?_⟩,
    ⟨st0, _, 0, ask, ses { vals := [(2424850, 8), (2490369, 2), (2490371, 8)] }, [0x1#8], _, rfl, rfl, _, ?_, ?_,
      rfl, ?_, ?_, ?_, ?_, ?_, ?_⟩,
    ⟨st3, _, 0, ask, ses { vals := [(2424850, 1), (2490369, 1)] }, [0x1#8], _, rfl, rfl, _, ?_, ?_, rfl, ?_, ?_, ?_,
      ?_, ?_, ?_⟩,
    ⟨st4, _, 0, ask, ses { vals := [(2424850, 1)] }, [0x0#8], _, rfl, rfl, _, ?_, ?_, rfl, ?_, ?_, ?_⟩⟩ <;>
  first
  | decide +kernel
  | exact noFiring (by decide +kernel)
  | exact noHead (by decide +kernel)
  | constructor <;> first | decide +kernel | (constructor <;> decide +kernel)

end ForLaneCommands

namespace ForLinkTraining

def ql : List (Nat × Quad) := [(0, { en := true, mode := 1 }), (1, { en := true, mode := 2 })]
def tq (l : List (Nat × Lane)) (x : Truss := {}) (sel : Selectors := {}) (q : List (Nat × Quad) := ql) : State :=
  { clk {} with
    now := 200000000000000
    time := { count := 100, at_ := 1, running := true }
    truss := x
    quads := q
    lanes := l
    oda := { sessions := [ses sel] } }
def tb (v r : Nat) (f : Nat := 10000000) : TrainBlock :=
  { version := BitVec.ofNat 4 v, role := BitVec.ofNat 4 r, deviceNum := 5, king := false, part := 0x2412, refFreq := BitVec.ofNat 32 f, tbWords := BitVec.ofNat 32 (200 * 65536 + 256) }
def st0 : State := tq [(0, { link := .signal })]
def st2 : State := tq [(0, { link := .blockLock })]
def st3 : State := tq [(0, { link := .capability })]
def st4 : State := tq [(0, { link := .capability, role := 1 })]
def st5 : State := tq [(0, { link := .rate })]
def st6 : State := tq [(0, { link := .rate, role := 2 })]
def st7 : State := tq [(0, { link := .up, role := 2 })] { timeValid := true }
def st8 : State := tq [(0, { link := .delay, role := 2 })] { timeValid := true }
def st10 : State := tq [(0, { link := .delay, role := 2, exchanges := 1024 })]
def st12 : State := tq [(0, { link := .join, role := 1, delay := 77 })]

/-- The hypotheses of each clause of `Obligations.LinkTraining` hold together. -/
theorem met_LinkTraining :
    (∃ (s u : State) (t z : Nat) (l : Fin 48) (v : Lane), u = s.advance t ∧ u.still = false ∧ v = u.lane l ∧
      z = u.now ∧ v.link = .signal ∧ u.ronzal l = true) ∧
    (∃ (s u : State) (t z : Nat) (l : Fin 48) (v : Lane), u = s.advance t ∧ u.still = false ∧ v = u.lane l ∧
      z = u.now ∧ v.link = .signal ∧ u.ronzal l = true ∧ v.since + 100 * msFs ≤ z) ∧
    (∃ (s u : State) (t z : Nat) (l : Fin 48) (v : Lane), u = s.advance t ∧ u.still = false ∧ v = u.lane l ∧
      z = u.now ∧ v.link = .blockLock) ∧
    (∃ (s u : State) (t z : Nat) (l : Fin 48) (v : Lane), u = s.advance t ∧ u.still = false ∧ v = u.lane l ∧
      z = u.now ∧ (v.link = .blockLock ∨ v.link = .rate) ∧ v.since + 10 * msFs ≤ z) ∧
    (∃ (s u : State) (t z : Nat) (l : Fin 48) (v : Lane), u = s.advance t ∧ u.still = false ∧ v = u.lane l ∧
      z = u.now ∧ v.link = .capability ∧ v.since + 100 * msFs ≤ z) ∧
    (∃ (s u : State) (t z : Nat) (l : Fin 48) (v : Lane), u = s.advance t ∧ u.still = false ∧ v = u.lane l ∧
      z = u.now ∧ v.link = .capability ∧ ∃ (b : TrainBlock) (w : Lane),
      w = { v with partner := b.deviceNum.toNat, partnerOld := decide (v.role ≠ 0 ∧ b.part = 0x2412) } ∧
      rolesFit v.role b.role.toNat = false) ∧
    (∃ (s u : State) (t z : Nat) (l : Fin 48) (v : Lane), u = s.advance t ∧ u.still = false ∧ v = u.lane l ∧
      z = u.now ∧ v.link = .capability ∧ ∃ (b : TrainBlock) (w : Lane),
      w = { v with partner := b.deviceNum.toNat, partnerOld := decide (v.role ≠ 0 ∧ b.part = 0x2412) } ∧
      rolesFit v.role b.role.toNat = true ∧ v.role ≠ 0 ∧
      (b.refFreq ≠ (u.trainBlock l).refFreq ∨ b.tbWords ≠ (u.trainBlock l).tbWords)) ∧
    (∃ (s u : State) (t z : Nat) (l : Fin 48) (v : Lane), u = s.advance t ∧ u.still = false ∧ v = u.lane l ∧
      z = u.now ∧ v.link = .capability ∧ ∃ (b : TrainBlock) (w : Lane),
      w = { v with partner := b.deviceNum.toNat, partnerOld := decide (v.role ≠ 0 ∧ b.part = 0x2412) } ∧
      rolesFit v.role b.role.toNat = true ∧ (v.role = 0 ∨ b.refFreq = (u.trainBlock l).refFreq ∧
      b.tbWords = (u.trainBlock l).tbWords) ∧ b.version = 2) ∧
    (∃ (s u : State) (t z : Nat) (l : Fin 48) (v : Lane), u = s.advance t ∧ u.still = false ∧ v = u.lane l ∧
      z = u.now ∧ v.link = .capability ∧ ∃ (b : TrainBlock) (w : Lane),
      w = { v with partner := b.deviceNum.toNat, partnerOld := decide (v.role ≠ 0 ∧ b.part = 0x2412) } ∧
      rolesFit v.role b.role.toNat = true ∧ (v.role = 0 ∨ b.refFreq = (u.trainBlock l).refFreq ∧
      b.tbWords = (u.trainBlock l).tbWords) ∧ b.version = 1 ∧ v.role ≠ 0) ∧
    (∃ (s u : State) (t z : Nat) (l : Fin 48) (v : Lane), u = s.advance t ∧ u.still = false ∧ v = u.lane l ∧
      z = u.now ∧ v.link = .rate ∧ v.role = 0) ∧
    (∃ (s u : State) (t z : Nat) (l : Fin 48) (v : Lane), u = s.advance t ∧ u.still = false ∧ v = u.lane l ∧
      z = u.now ∧ v.link = .rate ∧ v.role ≠ 0) ∧
    (∃ (s u : State) (t z : Nat) (l : Fin 48) (v : Lane), u = s.advance t ∧ u.still = false ∧ v = u.lane l ∧
      z = u.now ∧ ∃ (b : TimeBlock) (x : Nat), u.trussLane l = true ∧ x = u.departure 90 ∧ b.kind = 0 ∧
      v.link = .up ∧ u.truss.timeValid = true ∧ u.time.running = true) ∧
    (∃ (s u : State) (t z : Nat) (l : Fin 48) (v : Lane), u = s.advance t ∧ u.still = false ∧ v = u.lane l ∧
      z = u.now ∧ ∃ (b : TimeBlock) (x : Nat), u.trussLane l = true ∧ x = u.departure 90 ∧ b.kind = 0 ∧
      (v.link = .delay ∨ v.link = .join)) ∧
    (∃ (s u : State) (t z : Nat) (l : Fin 48) (v : Lane), u = s.advance t ∧ u.still = false ∧ v = u.lane l ∧
      z = u.now ∧ ∃ (b : TimeBlock) (x : Nat), u.trussLane l = true ∧ x = u.departure 90 ∧ b.kind = 1 ∧
      v.link = .delay ∧ v.exchanges < 1024 ∧ b.exchange.toNat = v.exchanges) ∧
    (∃ (s u : State) (t z : Nat) (l : Fin 48) (v : Lane), u = s.advance t ∧ u.still = false ∧ v = u.lane l ∧
      z = u.now ∧ ∃ (x : Nat) (block : Nat → Nat → Nat → LinkBlock), x = u.departure 90 ∧
      block = (fun setting item value => LinkBlock.settings { setting := BitVec.ofNat 8 setting, item := BitVec.ofNat 8 item, at_ := u.trussNow, value := BitVec.ofNat 64 value }) ∧
      v.link = .delay ∧ v.exchanges = 1024) ∧
    (∃ (s u : State) (t z : Nat) (l : Fin 48) (v : Lane), u = s.advance t ∧ u.still = false ∧ v = u.lane l ∧
      z = u.now ∧ ∃ (b : TimeBlock) (q exact : Int), b.kind = 2 ∧ u.time.running = true ∧ (u.upLane l = true ∧
      v.link = .join ∨ u.truss.recover = true ∧ u.timeLink = some l.val) ∧
      exact = ((b.ta.toNat * 65536 + b.tb.toNat % 65536 + v.delay : Nat) : Int) - (u.subTicks : Int) ∧
      q = roundHalfEven exact 524288) := by
  refine ⟨⟨st0, _, 0, _, 0, _, rfl, ?_, rfl, rfl, ?_, ?_⟩, ⟨st0, _, 0, _, 0, _, rfl, ?_, rfl, rfl, ?_, ?_, ?_⟩,
    ⟨st2, _, 0, _, 0, _, rfl, ?_, rfl, rfl, ?_⟩, ⟨st2, _, 0, _, 0, _, rfl, ?_, rfl, rfl, ?_, ?_⟩,
    ⟨st3, _, 0, _, 0, _, rfl, ?_, rfl, rfl, ?_, ?_⟩,
    ⟨st3, _, 0, _, 0, _, rfl, ?_, rfl, rfl, ?_,
      { version := 0x2#4, role := 0x1#4, deviceNum := 0x5#6, king := false, part := 0x2412#16, refFreq := 0x989680#32, tbWords := 0xc80100#32 }, _, rfl, ?_⟩,
    ⟨st4, _, 0, _, 0, _, rfl, ?_, rfl, rfl, ?_,
      { version := 0x2#4, role := 0x2#4, deviceNum := 0x5#6, king := false, part := 0x2412#16, refFreq := 0x5#32, tbWords := 0xc80100#32 }, _, rfl, ?_, ?_, ?_⟩,
    ⟨st3, _, 0, _, 0, _, rfl, ?_, rfl, rfl, ?_,
      { version := 0x2#4, role := 0x3#4, deviceNum := 0x5#6, king := false, part := 0x2412#16, refFreq := 0x989680#32, tbWords := 0xc80100#32 }, _, rfl, ?_, ?_, ?_⟩,
    ⟨st4, _, 0, _, 0, _, rfl, ?_, rfl, rfl, ?_,
      { version := 0x1#4, role := 0x2#4, deviceNum := 0x5#6, king := false, part := 0x2412#16, refFreq := 0x989680#32, tbWords := 0xc80100#32 }, _, rfl, ?_, ?_, ?_, ?_⟩,
    ⟨st5, _, 0, _, 0, _, rfl, ?_, rfl, rfl, ?_, ?_⟩, ⟨st6, _, 0, _, 0, _, rfl, ?_, rfl, rfl, ?_, ?_⟩,
    ⟨st7, _, 0, _, 0, _, rfl, ?_, rfl, rfl, { kind := 0x0#8, exchange := 0x0#10, ta := 0x5#64, tb := 0x6#64 }, _, ?_,
      rfl, ?_, ?_, ?_, ?_⟩,
    ⟨st8, _, 0, _, 0, _, rfl, ?_, rfl, rfl, { kind := 0x0#8, exchange := 0x0#10, ta := 0x5#64, tb := 0x6#64 }, _, ?_,
      rfl, ?_, ?_⟩,
    ⟨st8, _, 0, _, 0, _, rfl, ?_, rfl, rfl, { kind := 0x1#8, exchange := 0x0#10, ta := 0x5#64, tb := 0x6#64 }, _, ?_,
      rfl, ?_, ?_, ?_, ?_⟩, ⟨st10, _, 0, _, 0, _, rfl, ?_, rfl, rfl, _, _, rfl, rfl, ?_, ?_⟩,
    ⟨st12, _, 0, _, 0, _, rfl, ?_, rfl, rfl,
      { kind := 0x2#8, exchange := 0x0#10, ta := 0x4c4b40#64, tb := 0x11170#64 }, _, _, ?_, ?_, ?_, rfl, rfl⟩⟩ <;>
  decide +kernel

end ForLinkTraining

namespace ForJoiningCreditAndEth

theorem arp_taken {s : State} {f : EthFrame} {a : Word} (l : 64 ≤ f.length ∧ f.length ≤ 9216) (c : f.fcsOk = true)
    (v : f.vlans = []) (d : f.dst = broadcast) (k : f.carries = .arp a) : s.frameTaken .mgmt f = true := by
  simp [State.frameTaken, State.frameWanted, Lane.vlanOk, isArp, State.carriedWanted, *]
theorem echo_taken {s : State} {f : EthFrame} {a : Word} (l : 64 ≤ f.length ∧ f.length ≤ 9216) (c : f.fcsOk = true)
    (v : f.vlans = []) (d : f.dst = Config.macBase) (k : f.carries = .echo a) (z : a ≠ 0) (w : a = s.portAddr .mgmt) :
    s.frameTaken .mgmt f = true := by
  simp only [State.frameTaken, State.frameWanted, Lane.vlanOk, State.portMac, State.carriedWanted, c, v, d, k]
  rw [← w]; simpa [l] using z
theorem broken_not_taken {s : State} {p : Port} {f : EthFrame} (c : f.fcsOk = false) : s.frameTaken p f = false := by
  simp [State.frameTaken, c]
def ql : List (Nat × Quad) := [(0, { en := true, mode := 1 }), (1, { en := true, mode := 2 })]
def tq (l : List (Nat × Lane)) (x : Truss := {}) (sel : Selectors := {}) (q : List (Nat × Quad) := ql) : State :=
  { clk {} with
    now := 200000000000000
    time := { count := 100, at_ := 1, running := true }
    truss := x
    quads := q
    lanes := l
    oda := { sessions := [ses sel] } }
def st0 : State := tq [(0, { link := .join, role := 2, partner := 5 })]
def st1 : State := tq [(0, { link := .up, role := 2, below := [5] })] { map := [(5, { present := true })] }
def st2 : State := tq [(0, { link := .join, role := 1 })] { num := 5 }
def st3 : State :=
  tq [(0, { link := .up, role := 1 }), (1, { link := .join, role := 2, partner := 5, below := [5] }), (2, { link := .up, role := 2, below := [5] })] { num := 7, joined := true }
def st6 : State := tq [(0, { link := .up, role := 0, discarding := true, rxDue := 2 })]
def st7 : State := tq [(0, { link := .up, role := 0, landing := List.replicate 512 (some 0) })]
def st9 : State := tq [(0, { link := .up, ipv4 := 9 })] {} {} [(0, { en := true, mode := 2 })]
def st11 : State := tq [(0, { link := .signal, ipv4 := 9 })] {} {} [(0, { en := true, mode := 2 })]

/-- The hypotheses of each clause of `Obligations.JoiningCreditAndEth` hold together. -/
theorem met_JoiningCreditAndEth :
    (∃ (s u : State) (t z : Nat), u = s.advance t ∧ u.still = false ∧ z = u.now ∧
      ∃ (l : Fin 48) (v : Lane) (b : JoinBlock) (d : Nat), v = u.lane l ∧ d = b.device.toNat ∧ b.kind = 0 ∧
      u.downLane l = true ∧ (v.link = .join ∨ v.link = .up) ∧ u.king = false) ∧
    (∃ (s u : State) (t z : Nat), u = s.advance t ∧ u.still = false ∧ z = u.now ∧
      ∃ (l : Fin 48) (v : Lane) (b : JoinBlock) (d : Nat), v = u.lane l ∧ d = b.device.toNat ∧ b.kind = 0 ∧
      u.downLane l = true ∧ (v.link = .join ∨ v.link = .up) ∧ u.king = true ∧ u.joinReason b = 0) ∧
    (∃ (s u : State) (t z : Nat), u = s.advance t ∧ u.still = false ∧ z = u.now ∧
      ∃ (l : Fin 48) (v : Lane) (b : JoinBlock) (d : Nat), v = u.lane l ∧ d = b.device.toNat ∧ b.kind = 0 ∧
      u.downLane l = true ∧ (v.link = .join ∨ v.link = .up) ∧ u.king = true ∧ u.joinReason b ≠ 0) ∧
    (∃ (s u : State) (t z : Nat), u = s.advance t ∧ u.still = false ∧ z = u.now ∧
      ∃ (l : Fin 48) (v : Lane) (b : JoinBlock) (d : Nat), v = u.lane l ∧ d = b.device.toNat ∧ u.upLane l = true ∧
      v.link = .join ∧ d = u.truss.num ∧ b.kind = 1) ∧
    (∃ (s u : State) (t z : Nat), u = s.advance t ∧ u.still = false ∧ z = u.now ∧
      ∃ (l : Fin 48) (v : Lane) (b : JoinBlock) (d : Nat), v = u.lane l ∧ d = b.device.toNat ∧ u.upLane l = true ∧
      v.link = .join ∧ d = u.truss.num ∧ b.kind = 2) ∧
    (∃ (s u : State) (t z : Nat), u = s.advance t ∧ u.still = false ∧ z = u.now ∧
      ∃ (l : Fin 48) (v : Lane) (b : JoinBlock) (d : Nat), v = u.lane l ∧ d = b.device.toNat ∧ u.upLane l = true ∧
      v.link = .up ∧ ∃ (c : Instr) (to_ : LinkState), (c = .joinAdmitRx t l b ∧ b.kind = 1 ∧
      to_ = .up ∨ c = .joinRefuseRx t l b ∧ b.kind = 2 ∧ to_ = .refused)) ∧
    (∃ (s u : State) (t z : Nat), u = s.advance t ∧ u.still = false ∧ z = u.now ∧ ∃ (l : Fin 48) (v : Lane),
      v = u.lane l ∧ u.ronzal l = true ∧ ∃ (kind : BitVec 8), (kind = 0 ∨ 8 < kind.toNat)) ∧
    (∃ (s u : State) (t z : Nat), u = s.advance t ∧ u.still = false ∧ z = u.now ∧ ∃ (l : Fin 48) (v : Lane),
      v = u.lane l ∧ u.ronzal l = true ∧ v.link = .up) ∧
    (∃ (s u : State) (t z : Nat), u = s.advance t ∧ u.still = false ∧ z = u.now ∧ ∃ (l : Fin 48) (v : Lane),
      v = u.lane l ∧ u.ronzal l = true ∧ v.link = .up ∧ v.held < 512 ∧ (v.discarding = false ∨ v.rxDue = 0)) ∧
    (∃ (s u : State) (t z : Nat), u = s.advance t ∧ u.still = false ∧ z = u.now ∧ ∃ (l : Fin 48) (v : Lane),
      v = u.lane l ∧ u.ronzal l = true ∧ v.link = .up ∧ v.held < 512 ∧ v.discarding = true ∧ v.rxDue ≠ 0) ∧
    (∃ (s u : State) (t z : Nat), u = s.advance t ∧ u.still = false ∧ z = u.now ∧ ∃ (l : Fin 48) (v : Lane),
      v = u.lane l ∧ u.ronzal l = true ∧ v.link = .up ∧ 512 ≤ v.held) ∧
    (∃ (s u : State) (t z : Nat), u = s.advance t ∧ u.still = false ∧ z = u.now ∧
      ∃ (p : Fin 16) (v : Lane) (f : EthFrame), v = u.lane p ∧ u.ethPort p = true ∧ v.link = .up ∧ ∃ (c : Instr),
      (c = .ethFrameRx t p f ∨ c = .arpRequest t (.eth p) f ∨ c = .icmpEchoRequest t (.eth p) f)) ∧
    (∃ (s u : State) (t z : Nat), u = s.advance t ∧ u.still = false ∧ z = u.now ∧ ∃ (p : Fin 16) (v : Lane),
      v = u.lane p ∧ u.ethPort p = true ∧ v.link ≠ .up ∧ v.test = 0) ∧
    (∃ (s u : State) (t z : Nat), u = s.advance t ∧ u.still = false ∧ z = u.now ∧ ∃ (p : Fin 16) (v : Lane),
      v = u.lane p ∧ u.ethPort p = true ∧ v.link = .up) ∧
    (∃ (s u : State) (t z : Nat), u = s.advance t ∧ u.still = false ∧ z = u.now ∧
      ∃ (p : Port) (f : EthFrame) (a : Word), u.portUp p = true ∧ u.frameTaken p f = true ∧ a ≠ 0 ∧
      f.carries = .arp a) ∧
    (∃ (s u : State) (t z : Nat), u = s.advance t ∧ u.still = false ∧ z = u.now ∧
      ∃ (p : Port) (f : EthFrame) (a : Word), u.portUp p = true ∧ u.frameTaken p f = true ∧ a ≠ 0 ∧
      f.carries = .echo a) ∧
    (∃ (s u : State) (t z : Nat), u = s.advance t ∧ u.still = false ∧ z = u.now ∧ ∃ (f : EthFrame) (c : Instr),
      (c = .arpRequest t .mgmt f ∨ c = .icmpEchoRequest t .mgmt f) ∧ u.frameTaken .mgmt f = false) := by
  refine ⟨⟨st3, _, 0, _, rfl, ?_, rfl, 1, _,
      { kind := 0x0#8, device := 0x5#6, parent := 0x0#6, old := false, reason := 0x0#8, delay := 0x3e8#64 }, _, rfl,
      rfl, ?_, ?_, ?_, ?_⟩,
    ⟨st0, _, 0, _, rfl, ?_, rfl, 0, _,
      { kind := 0x0#8, device := 0x5#6, parent := 0x0#6, old := false, reason := 0x0#8, delay := 0x3e8#64 }, _, rfl,
      rfl, ?_, ?_, ?_, ?_, ?_⟩,
    ⟨st0, _, 0, _, rfl, ?_, rfl, 0, _,
      { kind := 0x0#8, device := 0x0#6, parent := 0x0#6, old := false, reason := 0x0#8, delay := 0x3e8#64 }, _, rfl,
      rfl, ?_, ?_, ?_, ?_, ?_⟩,
    ⟨st2, _, 0, _, rfl, ?_, rfl, 0, _,
      { kind := 0x1#8, device := 0x5#6, parent := 0x0#6, old := false, reason := 0x0#8, delay := 0x3e8#64 }, _, rfl,
      rfl, ?_, ?_, ?_, ?_⟩,
    ⟨st2, _, 0, _, rfl, ?_, rfl, 0, _,
      { kind := 0x2#8, device := 0x5#6, parent := 0x0#6, old := false, reason := 0x0#8, delay := 0x3e8#64 }, _, rfl,
      rfl, ?_, ?_, ?_, ?_⟩,
    ⟨st3, _, 0, _, rfl, ?_, rfl, 0, _,
      { kind := 0x1#8, device := 0x5#6, parent := 0x0#6, old := false, reason := 0x0#8, delay := 0x3e8#64 }, _, rfl,
      rfl, ?_, ?_,
      Instr.joinAdmitRx 0 0 { kind := 0x1#8, device := 0x5#6, parent := 0x0#6, old := false, reason := 0x0#8, delay := 0x3e8#64 }, LinkState.up, ?_⟩,
    ⟨st0, _, 0, _, rfl, ?_, rfl, 0, _, rfl, ?_, 0x0#8, ?_⟩, ⟨st1, _, 0, _, rfl, ?_, rfl, 0, _, rfl, ?_, ?_⟩,
    ⟨st1, _, 0, _, rfl, ?_, rfl, 0, _, rfl, ?_, ?_, ?_, ?_⟩,
    ⟨st6, _, 0, _, rfl, ?_, rfl, 0, _, rfl, ?_, ?_, ?_, ?_, ?_⟩, ⟨st7, _, 0, _, rfl, ?_, rfl, 0, _, rfl, ?_, ?_, ?_⟩,
    ⟨st9, _, 0, _, rfl, ?_, rfl, 0, _,
      { length := 64, fcsOk := true, dst := 0xffffffffffff#48, vlans := [], carries := Carried.other, src := 0x3#32 }, rfl, ?_, ?_, Instr.ethFrameRx 0 0 { length := 64, fcsOk := true, dst := 0xffffffffffff#48, vlans := [], carries := Carried.other, src := 0x3#32 }, ?_⟩,
    ⟨st11, _, 0, _, rfl, ?_, rfl, 0, _, rfl, ?_, ?_, ?_⟩, ⟨st9, _, 0, _, rfl, ?_, rfl, 0, _, rfl, ?_, ?_⟩,
    ⟨st0, _, 0, _, rfl, ?_, rfl, Port.mgmt,
      { length := 64, fcsOk := true, dst := 0xffffffffffff, vlans := [], carries := .arp 9, src := 3 }, 0x9#32, ?_,
      arp_taken (by decide) rfl rfl rfl rfl, ?_, rfl⟩,
    ⟨{ st0 with oda := { ipv4 := 9 } }, _, 0, _, rfl, ?_, rfl, Port.mgmt,
      { length := 64, fcsOk := true, dst := Config.macBase, vlans := [], carries := .echo 9, src := 3 }, 9, ?_,
      echo_taken (by decide) rfl rfl rfl rfl (by decide) (by decide +kernel), ?_, rfl⟩,
    ⟨st0, _, 0, _, rfl, ?_, rfl,
      { length := 64, fcsOk := false, dst := 0xffffffffffff, vlans := [], carries := .arp 9, src := 3 },
      .arpRequest 0 .mgmt { length := 64, fcsOk := false, dst := 0xffffffffffff, vlans := [], carries := .arp 9, src := 3 }, .inl rfl, broken_not_taken rfl⟩⟩ <;>
  decide +kernel

end ForJoiningCreditAndEth

namespace ForPowerAndDeviceStates

def yb0 : YbRecord :=
  { sealed := true, type := 1, seq := 1, utc := 0, failedCores := 0, tempMean := 0, vrefNom := 0, refFreq := 10000000, trims := [], bandsM := [], bandsA := [], tiu := [], intact := true, words := 981 }
def rd (y : Sys) (e : Eclk := {}) : State := { ready with now := 2000000000000, sys := y, eclk := e }
def st0 : State := rd { state := .ready }
def st1 : State := rd { state := .boot }
def st3 : State := rd { state := .standby } { stopped := true, ceiling := 1000 }
def st4 : State := { rd { state := .ready } with plumb := { commit := some (0, yb0) } }
def st5 : State := rd { state := .run } { droop := some .light, hz := 1000000000 }
def st6 : State :=
  rd { state := .run } { droop := some .light, hz := 1000000000, release := some (1990000000000, 1000000000, 0) }

/-- The hypotheses of each clause of `Obligations.PowerAndDeviceStates` hold together. -/
theorem met_PowerAndDeviceStates :
    (∃ (s u : State) (t : Nat), u = s.advance t ∧ u.held = false ∧ ∃ (rail : Fin 13) (bit : BitVec 13),
      bit = BitVec.ofNat 13 (2 ^ rail.val)) ∧
    (∃ (s u : State) (t : Nat), u = s.advance t ∧ u.held = false ∧ ∃ (rail : Fin 13), rail ≠ 0 ∧ rail ≠ 11 ∧
      rail ≠ 12 ∧ rail ≠ 4 ∧ rail ≠ 5 ∧ rail ≠ 6 ∧
      (u.sys.state = .ready ∨ u.sys.state = .run ∨ u.sys.state = .standby)) ∧
    (∃ (s u : State) (t : Nat), u = s.advance t ∧ u.held = false ∧ ∃ (rail : Fin 13),
      (rail = 4 ∨ rail = 5 ∨ rail = 6)) ∧
    (∃ (s u : State) (t : Nat), u = s.advance t ∧ u.held = false ∧ ∃ (rail : Fin 13), (rail = 0 ∨ rail = 11)) ∧
    (∃ (s u : State) (t : Nat), u = s.advance t ∧ u.held = false) ∧
    (∃ (s u : State) (t : Nat), u = s.advance t ∧ u.held = false ∧ ∃ (c : Instr) (cause : Nat) (rail : Fin 13),
      ((c = .railFault t rail ∧ cause = 1 ∧ rail ≠ 0 ∧ rail ≠ 11 ∧ rail ≠ 12 ∧ rail ≠ 4 ∧ rail ≠ 5 ∧
      rail ≠ 6) ∨ c = .overtemp t ∧ cause = 2) ∧ (u.sys.state = .boot ∨ u.sys.state = .recess)) ∧
    (∃ (s u : State) (t : Nat), u = s.advance t ∧ u.held = false ∧
      (u.sys.state = .ready ∨ u.sys.state = .run ∨ u.sys.state = .standby)) ∧
    (∃ (s u : State) (t : Nat), u = s.advance t ∧ u.held = false ∧ u.eclk.stopped = false) ∧
    (∃ (s u : State) (t : Nat), u = s.advance t ∧ u.held = false ∧ u.eclk.stopped = false ∧ ∃ c,
      u.eclk.droop = some c ∧ u.eclk.release = none) ∧
    (∃ (s u : State) (t : Nat), u = s.advance t ∧ u.held = false ∧ u.eclk.stopped = false ∧ ∃ z f0 k,
      u.eclk.release = some (z, f0, k) ∧ z + 250 * nsFs * (k + 1) ≤ u.now) ∧
    (∃ (s u : State) (t : Nat), u = s.advance t ∧ u.held = false ∧ u.eclk.stopped = true) ∧
    (∃ (s u : State) (t : Nat), u = s.advance t ∧ u.held = false ∧ ∃ (r : Req) (x : Session),
      u.Writes r x 0x2000 2 [1] ∧ u.sys.state = .ready ∧ u.standbyBlocked = false) ∧
    (∃ (s u : State) (t : Nat), u = s.advance t ∧ u.held = false ∧ ∃ (r : Req) (x : Session),
      u.Writes r x 0x2000 2 [1] ∧ u.sys.state ≠ .ready) ∧
    (∃ (s u : State) (t : Nat), u = s.advance t ∧ u.held = false ∧ ∃ (r : Req) (x : Session),
      u.Writes r x 0x2000 2 [1] ∧ u.sys.state = .ready ∧ u.standbyBlocked = true) ∧
    (∃ (s u : State) (t : Nat), u = s.advance t ∧ u.held = false ∧ ∃ (r : Req) (x : Session),
      u.Writes r x 0x2000 2 [2] ∧ u.sys.state = .standby) ∧
    (∃ (s u : State) (t : Nat), u = s.advance t ∧ u.held = false ∧ ∃ (r : Req) (x : Session),
      u.Writes r x 0x2000 2 [3] ∧ u.standbyBlocked = false ∧ (u.sys.state = .standby ∨ u.sys.state = .ready)) ∧
    (∃ (s u : State) (t : Nat), u = s.advance t ∧ u.held = false ∧ ∃ (r : Req) (x : Session),
      u.Writes r x 0x2000 2 [3] ∧ u.standbyBlocked = true ∧ (u.sys.state = .standby ∨ u.sys.state = .ready)) ∧
    (∃ (s u : State) (t : Nat), u = s.advance t ∧ u.held = false ∧ ∃ (r : Req) (x : Session),
      u.Writes r x 0x2000 2 [4] ∧ (u.sys.state = .ready ∨ u.sys.state = .run ∨ u.sys.state = .standby)) := by
  refine ⟨⟨st0, _, 0, rfl, ?_, 0, _, rfl⟩, ⟨st0, _, 0, rfl, ?_, 1, ?_, ?_, ?_, ?_, ?_, ?_, ?_⟩,
    ⟨st0, _, 0, rfl, ?_, 4, ?_⟩, ⟨st0, _, 0, rfl, ?_, 0, ?_⟩, ⟨st0, _, 0, rfl, ?_⟩,
    ⟨st1, _, 0, rfl, ?_, Instr.overtemp 0, 2, 0, ?_, ?_⟩, ⟨st0, _, 0, rfl, ?_, ?_⟩, ⟨st0, _, 0, rfl, ?_, ?_⟩,
    ⟨st5, _, 0, rfl, ?_, ?_, DroopClass.light, ?_, ?_⟩,
    ⟨st6, _, 0, rfl, ?_, ?_, 1990000000000, 1000000000, 0, ?_, ?_⟩, ⟨st3, _, 0, rfl, ?_, ?_⟩,
    ⟨st0, _, 0, rfl, ?_, ask, ses, ?_, ?_, ?_⟩, ⟨st3, _, 0, rfl, ?_, ask, ses, ?_, ?_⟩,
    ⟨st4, _, 0, rfl, ?_, ask, ses, ?_, ?_, ?_⟩, ⟨st3, _, 0, rfl, ?_, ask, ses, ?_, ?_⟩,
    ⟨st0, _, 0, rfl, ?_, ask, ses, ?_, ?_, ?_⟩, ⟨st4, _, 0, rfl, ?_, ask, ses, ?_, ?_, ?_⟩,
    ⟨st0, _, 0, rfl, ?_, ask, ses, ?_, ?_⟩⟩ <;>
  first
  | decide +kernel
  | exact noFiring (by decide +kernel)
  | exact noHead (by decide +kernel)
  | constructor <;> first | decide +kernel | (constructor <;> decide +kernel)

end ForPowerAndDeviceStates

namespace ForDeviceResets

def rd (y : Sys) (e : Eclk := {}) : State := { ready with now := 2000000000000, sys := y, eclk := e }
def st0 : State := rd { state := .ready }
def st1 : State := rd { state := .boot, por := true, rstLow := true }
def st2 : State := rd { state := .boot, pin := true, rstLow := true }
def st3 : State := { rd { state := .ready } with cfg := { state := .building } }
def st5 : State := { rd { state := .boot } with sec := { flash := [(0, none)] } }
def st6 : State := rd { state := .boot }
def st7 : State := rd { state := .boot, stepsDone := true }
def st8 : State := { rd { state := .boot, stepsDone := true } with synM := { en := true, phase := .acquiring } }

/-- The hypotheses of each clause of `Obligations.DeviceResets` hold together. -/
theorem met_DeviceResets :
    (∃ (s u : State) (t : Nat), u = s.advance t ∧ u.sys.por = false) ∧
    (∃ (s u : State) (t : Nat), u = s.advance t ∧ u.sys.por = true) ∧
    (∃ (s u : State) (t : Nat), u = s.advance t ∧ u.held = false) ∧
    (∃ (s u : State) (t : Nat), u = s.advance t ∧ u.held = true) ∧
    (∃ (s u : State) (t : Nat), u = s.advance t ∧
      (u.sys.pin = false ∨ u.sys.por = true ∨ u.recess.pinControl = true)) ∧
    (∃ (s u : State) (t : Nat), u = s.advance t ∧ u.sys.pin = true ∧ u.sys.por = false ∧ u.recess.pinControl = false) ∧
    (∃ (s u : State) (t : Nat), u = s.advance t ∧ ∃ (r : Req) (x : Session) (target : BitVec 8),
      u.Writes r x 0x2000 3 (resetBytes 1 target) ∧ target = 0 ∧ u.plumb.commit = none ∧ u.cfg.state = .idle) ∧
    (∃ (s u : State) (t : Nat), u = s.advance t ∧ ∃ (r : Req) (x : Session) (target : BitVec 8),
      u.Writes r x 0x2000 3 (resetBytes 1 target) ∧ target ≠ 0 ∧ u.plumb.commit = none ∧ u.cfg.state = .idle) ∧
    (∃ (s u : State) (t : Nat), u = s.advance t ∧ ∃ (r : Req) (x : Session) (target : BitVec 8),
      u.Writes r x 0x2000 3 (resetBytes 1 target) ∧ target = 0 ∧
      (u.plumb.commit.isSome = true ∨ u.cfg.state ≠ .idle)) ∧
    (∃ (s u : State) (t : Nat), u = s.advance t ∧ ∃ (c : Instr) (cause : Nat), u.held = false ∧
      (c = .warmResetBegin t ∧ cause = 3 ∧ (∃ z, u.sys.warmAt = some z ∧ z ≤ u.now) ∨ c = .watchdogReset t ∧
      cause = 4 ∧ u.sys.state ≠ .boot)) ∧
    (∃ (s u : State) (t : Nat), u = s.advance t ∧ ∃ (w : State), u.held = false ∧ u.sys.state = .boot ∧
      w = { u with sec := { u.sec with bootRollback := u.sec.rollback } } ∧ w.takenCopy imFirmware = none) ∧
    (∃ (s u : State) (t : Nat), u = s.advance t ∧ ∃ (w : State), u.held = false ∧ u.sys.state = .boot ∧
      w = { u with sec := { u.sec with bootRollback := u.sec.rollback } } ∧ ∃ (side : Nat) (c : FlashCopy),
      w.takenCopy imFirmware = some (side, c) ∧ u.sys.stepsDone = false) ∧
    (∃ (s u : State) (t : Nat), u = s.advance t ∧ ∃ (w : State), u.held = false ∧ u.sys.state = .boot ∧
      w = { u with sec := { u.sec with bootRollback := u.sec.rollback } } ∧ (w.takenCopy imFirmware).isSome = true ∧
      u.sys.stepsDone = true ∧ u.bootWaits = true) ∧
    (∃ (s u : State) (t : Nat), u = s.advance t ∧ ∃ (f : BootFindings) (w : State), u.held = false ∧
      u.sys.state = .boot ∧ w = { u with sec := { u.sec with bootRollback := u.sec.rollback } } ∧
      (w.takenCopy imFirmware).isSome = true ∧ u.sys.stepsDone = true ∧ u.bootWaits = false ∧ u.sys.fsCause = 0 ∧
      f.railFault = false ∧ f.hot = false ∧ f.frzLow = false ∧ u.busy = false) := by
  refine ⟨⟨st0, _, 0, rfl, ?_⟩, ⟨st1, _, 0, rfl, ?_⟩, ⟨st0, _, 0, rfl, ?_⟩, ⟨st1, _, 0, rfl, ?_⟩,
    ⟨st0, _, 0, rfl, ?_⟩, ⟨st2, _, 0, rfl, ?_, ?_, ?_⟩, ⟨st0, _, 0, rfl, ask, ses, 0x0#8, ?_, ?_, ?_, ?_⟩,
    ⟨st0, _, 0, rfl, ask, ses, 0x1#8, ?_, ?_, ?_, ?_⟩, ⟨st3, _, 0, rfl, ask, ses, 0x0#8, ?_, ?_, ?_⟩,
    ⟨st0, _, 0, rfl, Instr.watchdogReset 0, 4, ?_, ?_⟩, ⟨st5, _, 0, rfl, _, ?_, ?_, rfl, ?_⟩,
    ⟨st6, _, 0, rfl, _, ?_, ?_, rfl, 0,
      { seq := 1, signed := true, payload := [0x57#8, 0x46#8, 0x1#8, 0x1#8, 0x0#8, 0x0#8, 0x0#8, 0x1#8, 0x0#8, 0x0#8, 0x0#8, 0x0#8, 0x48#8, 0x64#8, 0x0#8, 0x0#8, 0xb0#8, 0x0#8, 0x0#8, 0x0#8, 0x0#8, 0x0#8, 0x0#8, 0x0#8, 0x0#8, 0x0#8, 0x0#8, 0x0#8, 0x0#8, 0x0#8, 0x0#8, 0x0#8, 0x0#8, 0x0#8, 0x0#8, 0x0#8, 0x0#8, 0x0#8, 0x0#8, 0x0#8, 0x0#8, 0x0#8, 0x0#8, 0x0#8, 0x0#8, 0x0#8, 0x0#8, 0x0#8, 0x0#8, 0x0#8, 0x0#8, 0x0#8, 0x0#8, 0x0#8, 0x0#8, 0x0#8, 0x0#8, 0x0#8, 0x0#8, 0x0#8, 0x0#8, 0x0#8, 0x0#8, 0x0#8], sig := [], good := true, built := true }, ?_, ?_⟩,
    ⟨st8, _, 0, rfl, _, ?_, ?_, rfl, ?_, ?_, ?_⟩,
    ⟨st7, _, 0, rfl,
      { hbmTrained := true, railFault := false, hot := false, frzLow := false, coreTemps := [0x0#16, 0x0#16, 0x0#16, 0x0#16, 0x0#16, 0x0#16, 0x0#16, 0x0#16, 0x0#16, 0x0#16, 0x0#16, 0x0#16, 0x0#16, 0x0#16, 0x0#16, 0x0#16, 0x0#16, 0x0#16, 0x0#16, 0x0#16, 0x0#16, 0x0#16, 0x0#16, 0x0#16, 0x0#16, 0x0#16, 0x0#16, 0x0#16, 0x0#16, 0x0#16, 0x0#16, 0x0#16, 0x0#16, 0x0#16, 0x0#16, 0x0#16, 0x0#16, 0x0#16, 0x0#16, 0x0#16, 0x0#16, 0x0#16, 0x0#16, 0x0#16, 0x0#16, 0x0#16, 0x0#16, 0x0#16, 0x0#16, 0x0#16, 0x0#16, 0x0#16, 0x0#16, 0x0#16, 0x0#16, 0x0#16, 0x0#16, 0x0#16, 0x0#16, 0x0#16, 0x0#16, 0x0#16, 0x0#16, 0x0#16, 0x0#16, 0x0#16, 0x0#16, 0x0#16, 0x0#16, 0x0#16, 0x0#16, 0x0#16] }, _, ?_, ?_, rfl, ?_, ?_, ?_, ?_, ?_, ?_, ?_, ?_⟩⟩ <;>
  first
  | decide +kernel
  | exact noFiring (by decide +kernel)
  | exact noHead (by decide +kernel)
  | constructor <;> first | decide +kernel | (constructor <;> decide +kernel)

end ForDeviceResets

namespace ForBlockResets

def st0 : State := ready
def st5 : State :=
  { ready with
    joiners := [(0, { resetting := true, bells := [(1, {})] })]
    tts := [(0, {state := .ready}), (64, {})] }
def st6 : State :=
  clk { state := .playing, enable := true, act := .gap gapD 0, marks := 1, resetK := some (10, false) }

/-- The hypotheses of each clause of `Obligations.BlockResets` hold together. -/
theorem met_BlockResets :
    (∃ (s u : State) (t : Nat) (r : Req) (x : Session) (n : BitVec 8), u = s.advance t ∧ u.sys.state ≠ .recess ∧
      u.Writes r x 0x2000 3 (resetBytes 2 n) ∧ n.toNat < 64) ∧
    (∃ (s u : State) (t : Nat) (r : Req) (x : Session) (n : BitVec 8), u = s.advance t ∧ u.sys.state ≠ .recess ∧
      u.Writes r x 0x2000 3 (resetBytes 3 n) ∧ n.toNat < 96) ∧
    (∃ (s u : State) (t : Nat) (r : Req) (x : Session) (n : BitVec 8), u = s.advance t ∧ u.sys.state ≠ .recess ∧
      u.Writes r x 0x2000 3 (resetBytes 4 n) ∧ n.toNat < 48) ∧
    (∃ (s u : State) (t : Nat) (r : Req) (x : Session) (n : BitVec 8), u = s.advance t ∧ u.sys.state ≠ .recess ∧
      u.Writes r x 0x2000 3 (resetBytes 3 n) ∧ 96 ≤ n.toNat) ∧
    (∃ (y u : State) (n k : Nat) (v : Channel) (truss : Bool), u = y.dueAt n ∧ v = y.chan n ∧ y.reached n k = true ∧
      v.resetK = some (k, truss) ∧ v.reloadK = none ∧ v.flushing = none ∧ v.disabling = none ∧
      v.spanDeferred = none ∧ (y.bay (n / 8)).connecting = none ∧ (y.bay (n / 8)).leaving = none) ∧
    (∃ (y u : State) (n k : Nat) (v : Channel) (truss : Bool), u = y.dueAt n ∧ v = y.chan n ∧ y.reached n k = true ∧
      v.resetK = some (k, truss) ∧ v.reloadK = none ∧ v.flushing = none ∧ v.disabling = none ∧
      v.spanDeferred = none ∧ (y.bay (n / 8)).connecting = none ∧ (y.bay (n / 8)).leaving = none) ∧
    (∃ (y u : State) (n k : Nat) (v : Channel) (truss : Bool), u = y.dueAt n ∧ v = y.chan n ∧ y.reached n k = true ∧
      v.resetK = some (k, truss) ∧ v.reloadK = none ∧ v.flushing = none ∧ v.disabling = none ∧
      v.spanDeferred = none ∧ (y.bay (n / 8)).connecting = none ∧ (y.bay (n / 8)).leaving = none) ∧
    (∃ (s u : State) (t : Nat) (j : Fin 96), u = s.advance t ∧ u.still = false ∧ (u.joiner j).resetting = true ∧
      (u.joiner j).jobs = []) := by
  refine ⟨⟨st0, _, 0, ask, ses, 0x0#8, rfl, ?_, ?_, ?_⟩, ⟨st0, _, 0, ask, ses, 0x0#8, rfl, ?_, ?_, ?_⟩,
    ⟨st0, _, 0, ask, ses, 0x0#8, rfl, ?_, ?_, ?_⟩, ⟨st0, _, 0, ask, ses, 0x60#8, rfl, ?_, ?_, ?_⟩,
    ⟨st6, _, 0, 10, _, false, rfl, rfl, ?_, ?_, ?_, ?_, ?_, ?_, ?_, ?_⟩,
    ⟨st6, _, 0, 10, _, false, rfl, rfl, ?_, ?_, ?_, ?_, ?_, ?_, ?_, ?_⟩,
    ⟨st6, _, 0, 10, _, false, rfl, rfl, ?_, ?_, ?_, ?_, ?_, ?_, ?_, ?_⟩, ⟨st5, _, 0, 0, rfl, ?_, ?_, ?_⟩⟩ <;>
  first
  | decide +kernel
  | exact noFiring (by decide +kernel)
  | exact noHead (by decide +kernel)
  | constructor <;> first | decide +kernel | (constructor <;> decide +kernel)

end ForBlockResets

namespace ForSessionsAndRequests

def st0 : State := ready
def st2 : State := { ready with oda := { sessions := List.replicate 16 ses } }

/-- The hypotheses of each clause of `Obligations.SessionsAndRequests` hold together. -/
theorem met_SessionsAndRequests :
    (∃ (s u : State) (t : Nat) (r : Req) (versions : BitVec 8), u = s.advance t ∧ u.portOpen r.port = true ∧
      u.fromKing r.port = false ∧ ∃ v, chosenVersion r.ver versions = some v ∧ u.sessionCount false < 16) ∧
    (∃ (s u : State) (t : Nat) (r : Req) (versions : BitVec 8), u = s.advance t ∧ u.portOpen r.port = true ∧
      u.fromKing r.port = false ∧ ∃ v, chosenVersion r.ver versions = some v ∧ 16 ≤ u.sessionCount false) ∧
    (∃ (s u : State) (t : Nat) (r : Req) (versions : BitVec 8), u = s.advance t ∧ u.portOpen r.port = true ∧
      u.fromKing r.port = false ∧ chosenVersion r.ver versions = none) ∧
    (∃ (s u : State) (t : Nat) (r : Req) (x : Session), u = s.advance t ∧ u.Serves (plainMsg r 0x02 0 0 0 []) x) ∧
    (∃ (s u : State) (t : Nat) (r : Req) (x : Session) (e : EntryRef) (ix sub : Nat), u = s.advance t ∧
      ix = e.index.toNat ∧ sub = e.sub.toNat ∧ u.entry? ix sub = none ∧ u.Serves (readMsg r 0x10 ix sub) x) ∧
    (∃ (s u : State) (t : Nat) (r : Req) (x : Session) (e : EntryRef) (ix sub : Nat) (data : Bytes),
      u = s.advance t ∧ ix = e.index.toNat ∧ sub = e.sub.toNat ∧ u.entry? ix sub = none ∧
      u.Serves (writeMsg r ix sub data) x) ∧
    (∃ (s u : State) (t : Nat) (r : Req) (x : Session) (e : EntryRef) (ix sub : Nat), u = s.advance t ∧
      ix = e.index.toNat ∧ sub = e.sub.toNat ∧ u.entry? ix sub = none ∧ u.Serves (readMsg r 0x12 ix sub) x) ∧
    (∃ (s u : State) (t : Nat) (r : Req) (x : Session) (e : EntryRef) (ix sub : Nat) (data : Bytes),
      u = s.advance t ∧ ix = e.index.toNat ∧ sub = e.sub.toNat ∧ ∃ en, u.entry? ix sub = some en ∧
      u.Writes r x ix sub data ∧ en.access = .ro ∧ classOf ix ≠ 0x2400) ∧
    (∃ (s u : State) (t : Nat) (r : Req) (x : Session) (e : EntryRef) (ix sub : Nat) (data : Bytes),
      u = s.advance t ∧ ix = e.index.toNat ∧ sub = e.sub.toNat ∧ ∃ en, u.entry? ix sub = some en ∧ ∃ m,
      u.Writes r x ix sub data ∧ selectorMax ix sub = some m ∧ data.length = en.hi ∧ en.access = .rw ∧
      en.lo = en.hi ∧ leNat data ≤ m) ∧
    (∃ (s u : State) (t : Nat) (r : Req) (x : Session) (e : EntryRef) (ix sub : Nat) (data : Bytes),
      u = s.advance t ∧ ix = e.index.toNat ∧ sub = e.sub.toNat ∧ ∃ en, u.entry? ix sub = some en ∧ ∃ m,
      u.Writes r x ix sub data ∧ selectorMax ix sub = some m ∧ data.length = en.hi ∧ en.access = .rw ∧
      en.lo = en.hi ∧ m < leNat data) ∧
    (∃ (s u : State) (t : Nat) (r : Req) (x : Session) (e : EntryRef) (ix sub : Nat), u = s.advance t ∧
      ix = e.index.toNat ∧ sub = e.sub.toNat ∧ ∃ en, u.entry? ix sub = some en ∧ ∃ m, u.Reads r x ix sub ∧
      selectorMax ix sub = some m) ∧
    (∃ (s u : State) (t : Nat) (r : Req) (x : Session) (e : EntryRef) (ix sub : Nat), u = s.advance t ∧
      ix = e.index.toNat ∧ sub = e.sub.toNat ∧ ∃ en, u.entry? ix sub = some en ∧ u.Reads r x ix sub ∧ ix = 0x2100 ∧
      isSelector ix sub = false ∧ en.access ≠ .wo ∧ en.access ≠ .rc) ∧
    (∃ (s u : State) (t : Nat) (r : Req) (x : Session) (e : EntryRef) (ix sub : Nat), u = s.advance t ∧
      ix = e.index.toNat ∧ sub = e.sub.toNat ∧ ∃ en, u.entry? ix sub = some en ∧ u.Reads r x ix sub ∧
      rawIndex ix = false ∧ isSelector ix sub = false ∧ en.access ≠ .wo ∧ (ix, sub) ∉ [(0x1200, 0x04), (0x2300,
      0x03), (0x2300, 0x14), (0x2B00, 0x06)]) ∧
    (∃ (s u : State) (t : Nat) (r : Req) (x : Session) (e : EntryRef) (ix sub : Nat), u = s.advance t ∧
      ix = e.index.toNat ∧ sub = e.sub.toNat ∧ ∃ en, u.entry? ix sub = some en ∧ u.Reads r x ix sub ∧ ix = 0x1100 ∧
      sub = 0x07) ∧
    (∃ (s u : State) (t : Nat) (r : Req) (x : Session) (e : EntryRef) (ix sub : Nat), u = s.advance t ∧
      ix = e.index.toNat ∧ sub = e.sub.toNat ∧ ∃ en, u.entry? ix sub = some en ∧ u.Serves (readMsg r 0x12 ix sub) x ∧
      u.outOfReach ix sub = false) ∧
    (∃ (s u : State) (t : Nat) (r : Req) (x : Session) (e : EntryRef) (ix sub : Nat) (data : Bytes),
      u = s.advance t ∧ ix = e.index.toNat ∧ sub = e.sub.toNat ∧ ∃ v, v = leNat data ∧ ix = 0x1100 ∧ sub = 0x03 ∧
      u.Writes r x ix sub data ∧ data.length = 2 ∧ (5 ≤ v ∧ v ≤ 3600)) ∧
    (∃ (s u : State) (t : Nat) (r : Req) (x : Session) (e : EntryRef) (ix sub : Nat) (data : Bytes),
      u = s.advance t ∧ ix = e.index.toNat ∧ sub = e.sub.toNat ∧ ∃ v, v = leNat data ∧ ix = 0x1100 ∧ sub = 0x03 ∧
      u.Writes r x ix sub data ∧ data.length = 2 ∧ (¬ (5 ≤ v ∧ v ≤ 3600))) ∧
    (∃ (s u : State) (t : Nat) (r : Req) (x : Session) (e : EntryRef) (ix sub : Nat) (data : Bytes),
      u = s.advance t ∧ ix = e.index.toNat ∧ sub = e.sub.toNat ∧ ∃ v, v = leNat data ∧ ix = 0x1100 ∧ sub = 0x03 ∧
      u.Writes r x ix sub data ∧ data.length ≠ 2) ∧
    (∃ (s u : State) (t : Nat) (r : Req) (x : Session) (addr : BitVec 37) (length : BitVec 32) (m : OdaMsg) (a n :
        Nat) (rs : List WordRead), u = s.advance t ∧
      m = plainMsg r 0x20 (addr.setWidth 32) ((addr >>> 32).setWidth 32) length [] ∧ u.Serves m x ∧ a = addr.toNat ∧
      n = length.toNat ∧ u.sys.state ≠ .standby ∧ u.sys.state ≠ .recess ∧ rs = u.mem.readWords u.draws 0 a (n / 8) ∧
      a % 8 = 0 ∧ n % 8 = 0 ∧ 8 ≤ n ∧ n ≤ 8960 ∧ a + n ≤ 103079215104 ∧ anyBad rs = false) ∧
    (∃ (s u : State) (t : Nat) (r : Req) (x : Session) (addr : BitVec 37) (length : BitVec 32) (m : OdaMsg) (a n :
        Nat) (rs : List WordRead), u = s.advance t ∧
      m = plainMsg r 0x20 (addr.setWidth 32) ((addr >>> 32).setWidth 32) length [] ∧ u.Serves m x ∧ a = addr.toNat ∧
      n = length.toNat ∧ u.sys.state ≠ .standby ∧ u.sys.state ≠ .recess ∧ rs = u.mem.readWords u.draws 0 a (n / 8) ∧
      a % 8 = 0 ∧ n % 8 = 0 ∧ 8 ≤ n ∧ n ≤ 8960 ∧ a + n ≤ 103079215104 ∧ anyBad rs = true) ∧
    (∃ (s u : State) (t : Nat) (r : Req) (x : Session) (addr : BitVec 37) (length : BitVec 32) (m : OdaMsg) (a n :
        Nat) (rs : List WordRead), u = s.advance t ∧
      m = plainMsg r 0x20 (addr.setWidth 32) ((addr >>> 32).setWidth 32) length [] ∧ u.Serves m x ∧ a = addr.toNat ∧
      n = length.toNat ∧ u.sys.state ≠ .standby ∧ u.sys.state ≠ .recess ∧ rs = u.mem.readWords u.draws 0 a (n / 8) ∧
      (a % 8 ≠ 0 ∨ n % 8 ≠ 0 ∨ n < 8 ∨ 8960 < n ∨ 103079215104 < a + n)) := by
  refine ⟨⟨st0, _, 0, ask, 0x2#8, rfl, ?_, ?_, 1, ?_, ?_⟩, ⟨st2, _, 0, ask, 0x2#8, rfl, ?_, ?_, 1, ?_, ?_⟩,
    ⟨st0, _, 0, ask, 0x0#8, rfl, ?_, ?_, ?_⟩, ⟨st0, _, 0, ask, ses, rfl, ?_⟩,
    ⟨st0, _, 0, ask, ses, { index := 0x1000#16, sub := 0x1#8 }, _, _, rfl, rfl, rfl, ?_, ?_⟩,
    ⟨st0, _, 0, ask, ses, { index := 0x1000#16, sub := 0x1#8 }, _, _, [0x0#8], rfl, rfl, rfl, ?_, ?_⟩,
    ⟨st0, _, 0, ask, ses, { index := 0x1000#16, sub := 0x1#8 }, _, _, rfl, rfl, rfl, ?_, ?_⟩,
    ⟨st0, _, 0, ask, ses, { index := 0x2000#16, sub := 0x1#8 }, _, _, [0x0#8], rfl, rfl, rfl,
      { index := 8192, sub := 1, type := VType.u8, access := Access.ro, lo := 1, hi := 1, frac := 0, dflt := 1, sel := 0 }, ?_, ?_, ?_, ?_⟩,
    ⟨st0, _, 0, ask, ses, { index := 0x2100#16, sub := 0x20#8 }, _, _, [0x0#8], rfl, rfl, rfl,
      { index := 8448, sub := 32, type := VType.u8, access := Access.rw, lo := 1, hi := 1, frac := 0, dflt := 0, sel := 0 }, ?_, 75, ?_, ?_, ?_, ?_, ?_, ?_⟩,
    ⟨st0, _, 0, ask, ses, { index := 0x2100#16, sub := 0x20#8 }, _, _, [0x50#8], rfl, rfl, rfl,
      { index := 8448, sub := 32, type := VType.u8, access := Access.rw, lo := 1, hi := 1, frac := 0, dflt := 0, sel := 0 }, ?_, 75, ?_, ?_, ?_, ?_, ?_, ?_⟩,
    ⟨st0, _, 0, ask, ses, { index := 0x2100#16, sub := 0x20#8 }, _, _, rfl, rfl, rfl,
      { index := 8448, sub := 32, type := VType.u8, access := Access.rw, lo := 1, hi := 1, frac := 0, dflt := 0, sel := 0 }, ?_, 75, ?_, ?_⟩,
    ⟨st0, _, 0, ask, ses, { index := 0x2100#16, sub := 0x21#8 }, _, _, rfl, rfl, rfl,
      { index := 8448, sub := 33, type := VType.u32, access := Access.rw, lo := 4, hi := 4, frac := 0, dflt := 83886082, sel := 32 }, ?_, ?_, ?_, ?_, ?_, ?_⟩,
    ⟨st0, _, 0, ask, ses, { index := 0x2100#16, sub := 0x21#8 }, _, _, rfl, rfl, rfl,
      { index := 8448, sub := 33, type := VType.u32, access := Access.rw, lo := 4, hi := 4, frac := 0, dflt := 83886082, sel := 32 }, ?_, ?_, ?_, ?_, ?_, ?_⟩,
    ⟨st0, _, 0, ask, ses, { index := 0x1100#16, sub := 0x7#8 }, _, _, rfl, rfl, rfl,
      { index := 4352, sub := 7, type := VType.u32, access := Access.rc, lo := 4, hi := 4, frac := 0, dflt := 0, sel := 0 }, ?_, ?_, ?_, ?_⟩,
    ⟨st0, _, 0, ask, ses, { index := 0x2100#16, sub := 0x20#8 }, _, _, rfl, rfl, rfl,
      { index := 8448, sub := 32, type := VType.u8, access := Access.rw, lo := 1, hi := 1, frac := 0, dflt := 0, sel := 0 }, ?_, ?_, ?_⟩,
    ⟨st0, _, 0, ask, ses, { index := 0x1100, sub := 3 }, _, _, [0x5#8, 0x0#8], rfl, rfl, rfl, _, rfl, ?_, ?_, ?_, ?_,
      ?_⟩,
    ⟨st0, _, 0, ask, ses, { index := 0x1100, sub := 3 }, _, _, [0x4#8, 0x0#8], rfl, rfl, rfl, _, rfl, ?_, ?_, ?_, ?_,
      ?_⟩, ⟨st0, _, 0, ask, ses, { index := 0x1100, sub := 3 }, _, _, [0x5#8], rfl, rfl, rfl, _, rfl, ?_, ?_, ?_, ?_⟩,
    ⟨{ st0 with mem := ({} : SegMem).write 0 (List.replicate 8 7) }, _, 0, ask, ses, 0x0#37, 0x8#32, _, _, _, _, rfl,
      rfl, ?_, rfl, rfl, ?_, ?_, rfl, ?_, ?_, ?_, ?_, ?_, ?_⟩,
    ⟨{ st0 with mem := { ({} : SegMem).write 0 (List.replicate 8 7) with ue := [0] } }, _, 0, ask, ses, 0x0#37, 8, _,
      _, _, _, rfl, rfl, ?_, rfl, rfl, ?_, ?_, rfl, ?_, ?_, ?_, ?_, ?_, ?_⟩,
    ⟨st0, _, 0, ask, ses, 0x0#37, 0x0#32, _, _, _, _, rfl, rfl, ?_, rfl, rfl, ?_, ?_, rfl, ?_⟩⟩ <;>
  first
  | decide +kernel
  | exact noFiring (by decide +kernel)
  | exact noHead (by decide +kernel)
  | constructor <;> first | decide +kernel | (constructor <;> decide +kernel)

end ForSessionsAndRequests

namespace ForErrorsRoutesAndParity

def rt : Routed :=
  { session := 1, seq := 9, type := 0x10, field0 := 5, device := 3, sentAt := 0, port := .mgmt, peer := { addr := 7, udp := 9 } }
def st0 : State := ready
def st1 : State := { ready with now := 61000000000000000, oda := { sessions := [ses] } }
def st2 : State := { ready with oda := { sessions := [ses], routed := [rt] } }
def st3 : State := { ready with oda := { sessions := [], routed := [rt] } }
def st4 : State := { ready with now := 20000000000000, oda := { sessions := [ses], routed := [rt] } }
def st5 : State := { ready with sys := { state := .ready, rawEn := true } }
def st6 : State := { ready with sys := { state := .ready, debugLock := true } }
def st7 : State := { ready with sys := { state := .ready, parity := [({ index := 0x2500, sub := 3 }, 0)] } }

/-- The hypotheses of each clause of `Obligations.ErrorsRoutesAndParity` hold together. -/
theorem met_ErrorsRoutesAndParity :
    (∃ (s u : State) (t : Nat) (r : Req) (type : BitVec 8) (m : OdaMsg), u = s.advance t ∧
      m = plainMsg r type 0 (if type = 0x11 then 1 else 0) 0 (if typeDefined type && !decide (type = 0x11) then [0]
        else []) ∧ u.portOpen r.port = true ∧ (∀ x,
      u.session? (u.fromKing r.port) r.session = some x → (x.cache.find? fun c => decide (c.seq = r.seq)) = none ∧
      x.open_.contains r.seq = false)) ∧
    (∃ (s u : State) (t : Nat), u = s.advance t ∧ u.held = false ∧ u.sys.state ≠ .boot) ∧
    (∃ (s u : State) (t : Nat) (x : Session) (pre post : List Session), u = s.advance t ∧
      u.oda.sessions = pre ++ x :: post ∧ (∀ y ∈ pre ++ post, y.id ≠ x.id) ∧
      x.lastAt + u.oda.timeout * secFs ≤ u.now) ∧
    (∃ (s u : State) (t : Nat) (x : Session) (pre post : List Session), u = s.advance t ∧
      u.oda.sessions = pre ++ x :: post ∧ (∀ y ∈ pre ++ post, y.id ≠ x.id) ∧
      u.now < x.lastAt + u.oda.timeout * secFs) ∧
    (∃ (s u : State) (t : Nat) (y : Routed) (rest : List Routed), u = s.advance t ∧ u.oda.routed = y :: rest ∧
      (∀ z ∈ rest, z.session ≠ y.session ∨ z.seq ≠ y.seq) ∧ u.fromKing y.port = false ∧ u.still = false ∧
      (u.session? false y.session).isSome = true) ∧
    (∃ (s u : State) (t : Nat) (y : Routed) (rest : List Routed), u = s.advance t ∧ u.oda.routed = y :: rest ∧
      (∀ z ∈ rest, z.session ≠ y.session ∨ z.seq ≠ y.seq) ∧ u.fromKing y.port = false ∧ u.still = false ∧
      u.session? false y.session = none) ∧
    (∃ (s u : State) (t : Nat) (y : Routed) (rest : List Routed), u = s.advance t ∧ u.oda.routed = y :: rest ∧
      (∀ z ∈ rest, z.session ≠ y.session ∨ z.seq ≠ y.seq) ∧ u.fromKing y.port = false ∧
      y.sentAt + u.oda.routeTimeout * usFs ≤ u.now) ∧
    (∃ (s u : State) (t : Nat) (y : Routed) (rest : List Routed), u = s.advance t ∧ u.oda.routed = y :: rest ∧
      (∀ z ∈ rest, z.session ≠ y.session ∨ z.seq ≠ y.seq) ∧ u.fromKing y.port = false ∧
      u.now < y.sentAt + u.oda.routeTimeout * usFs) ∧
    (∃ (s u : State) (t : Nat) (r : Req) (x : Session) (block : Fin 4096) (word : Fin 256) (data : Bytes) (m :
        OdaMsg), u = s.advance t ∧ m = writeMsg r (0x3000 + block) word data ∧
      u.Writes r x (0x3000 + block) word data) ∧
    (∃ (s u : State) (t : Nat) (r : Req) (x : Session) (e : EntryRef), u = s.advance t ∧
      e = { index := 0x2B00, sub := 0x07 } ∧ u.Writes r x 0x2B00 0x07 [1] ∧ u.sys.debugLock = false) ∧
    (∃ (s u : State) (t : Nat) (r : Req) (x : Session) (e : EntryRef), u = s.advance t ∧
      e = { index := 0x2B00, sub := 0x07 } ∧ u.Writes r x 0x2B00 0x07 [1] ∧ u.sys.debugLock = true) ∧
    (∃ (s u : State) (t : Nat) (e : EntryRef) (element : Fin 65536) (stands : Bool), u = s.advance t ∧
      u.still = false ∧ stands = u.sys.parity.any (fun p => decide (p.1.index.toNat = e.index.toNat ∧
      p.1.sub.toNat = e.sub.toNat ∧ p.2 = element)) ∧ u.hasParity e.index.toNat e.sub.toNat = true ∧ stands = false) ∧
    (∃ (s u : State) (t : Nat) (e : EntryRef) (element : Fin 65536) (stands : Bool), u = s.advance t ∧
      u.still = false ∧ stands = u.sys.parity.any (fun p => decide (p.1.index.toNat = e.index.toNat ∧
      p.1.sub.toNat = e.sub.toNat ∧ p.2 = element)) ∧ u.hasParity e.index.toNat e.sub.toNat = true ∧ stands = true) ∧
    (∃ (s u : State) (t : Nat) (e : EntryRef) (element : Fin 65536) (stands : Bool), u = s.advance t ∧
      u.still = false ∧ stands = u.sys.parity.any (fun p => decide (p.1.index.toNat = e.index.toNat ∧
      p.1.sub.toNat = e.sub.toNat ∧ p.2 = element)) ∧ stands = false) := by
  refine ⟨⟨st0, _, 0, ask, 0x0#8, _, rfl, rfl, ?_, ?_⟩, ⟨st0, _, 0, rfl, ?_, ?_⟩,
    ⟨st1, _, 0, ses, [], [], rfl, ?_, ?_, ?_⟩, ⟨st0, _, 0, ses, [], [], rfl, ?_, ?_, ?_⟩,
    ⟨st2, _, 0,
      { session := 0x1#32, seq := 0x9#32, type := 0x10#8, field0 := 0x5#32, device := 3, sentAt := 0, port := Port.mgmt, peer := { addr := 0x7#32, udp := 0x9#16 } }, [], rfl, ?_, ?_, ?_, ?_, ?_⟩,
    ⟨st3, _, 0,
      { session := 0x1#32, seq := 0x9#32, type := 0x10#8, field0 := 0x5#32, device := 3, sentAt := 0, port := Port.mgmt, peer := { addr := 0x7#32, udp := 0x9#16 } }, [], rfl, ?_, ?_, ?_, ?_, ?_⟩,
    ⟨st4, _, 0,
      { session := 0x1#32, seq := 0x9#32, type := 0x10#8, field0 := 0x5#32, device := 3, sentAt := 0, port := Port.mgmt, peer := { addr := 0x7#32, udp := 0x9#16 } }, [], rfl, ?_, ?_, ?_, ?_⟩,
    ⟨st2, _, 0,
      { session := 0x1#32, seq := 0x9#32, type := 0x10#8, field0 := 0x5#32, device := 3, sentAt := 0, port := Port.mgmt, peer := { addr := 0x7#32, udp := 0x9#16 } }, [], rfl, ?_, ?_, ?_, ?_⟩,
    ⟨st5, _, 0, ask, ses, 4095, 255, [1, 2, 3, 4], _, rfl, rfl, ?_⟩, ⟨st0, _, 0, ask, ses, _, rfl, rfl, ?_, ?_⟩,
    ⟨st6, _, 0, ask, ses, _, rfl, rfl, ?_, ?_⟩,
    ⟨st0, _, 0, { index := 0x2b00#16, sub := 0x7#8 }, 0, _, rfl, ?_, rfl, ?_, ?_⟩,
    ⟨st7, _, 0, { index := 0x2500#16, sub := 0x3#8 }, 0, _, rfl, ?_, rfl, ?_, ?_⟩,
    ⟨st0, _, 0, { index := 0x2b00#16, sub := 0x7#8 }, 0, _, rfl, ?_, rfl, ?_⟩⟩ <;>
  first
  | decide +kernel
  | exact noFiring (by decide +kernel)
  | exact noHead (by decide +kernel)
  | constructor <;> first | decide +kernel | (constructor <;> decide +kernel)

end ForErrorsRoutesAndParity

namespace ForConfigurationCommands

def sl (n : Nat) : Selectors := (({} : Selectors).set 0x1200 3 n)
def im0 : FlashCopy := { seq := 3, signed := false, payload := [1, 2, 3], sig := [], good := true }
def st0 : State := ready
def st1 : State := { ready with sec := { ownerDigest := List.replicate 48 1 } }
def st2 : State := { ready with cfg := { state := .building } }
def st3 : State := { ready (sl 10) with cfg := { length := 12, staging := [(10, 5), (11, 6)] } }
def st4 : State := ready (sl 1048572)
def st5 : State := { ready with cfg := { state := .checking, job := some (3, 0x09000001, none) } }
def st6 : State := { ready with cfg := { state := .building, job := some (2, 0, some im0) } }
def st7 : State :=
  { ready with
    cfg := { state := .writing, job := some (1, 0, some im0) }
    sec := { job := some { kind := 2, copy := im0 } } }

/-- The hypotheses of each clause of `Obligations.ConfigurationCommands` hold together. -/
theorem met_ConfigurationCommands :
    (∃ (s u : State) (t : Nat) (r : Req) (x : Session), u = s.advance t ∧ u.Writes r x 0x1200 0x01 [2] ∧
      u.cfg.state = .idle) ∧
    (∃ (s u : State) (t : Nat) (r : Req) (x : Session), u = s.advance t ∧ u.Writes r x 0x1200 0x01 [1] ∧
      u.cfg.state = .idle ∧ u.ownerSet = false) ∧
    (∃ (s u : State) (t : Nat) (r : Req) (x : Session), u = s.advance t ∧ u.Writes r x 0x1200 0x01 [1] ∧
      u.cfg.state = .idle ∧ u.ownerSet = true) ∧
    (∃ (s u : State) (t : Nat) (r : Req) (x : Session), u = s.advance t ∧ u.Writes r x 0x1200 0x01 [3] ∧
      u.cfg.state = .idle) ∧
    (∃ (s u : State) (t : Nat) (r : Req) (x : Session), u = s.advance t ∧ ∃ (c : Instr) (v : Byte),
      (c = .cfgSave t r ∧ v = 1 ∨ c = .cfgBuild t r ∧ v = 2 ∨ c = .cfgInstall t r ∧ v = 3) ∧
      u.Writes r x 0x1200 0x01 [v] ∧ u.cfg.state ≠ .idle) ∧
    (∃ (s u : State) (t : Nat) (r : Req) (x : Session), u = s.advance t ∧ ∃ (data : Bytes) (o : Nat),
      u.Writes r x 0x1200 0x04 data ∧ 4 ≤ data.length ∧ data.length ≤ 8960 ∧ o = x.sel.get 0x1200 0x03 ∧
      o + data.length ≤ 1048576) ∧
    (∃ (s u : State) (t : Nat) (r : Req) (x : Session), u = s.advance t ∧ ∃ (data : Bytes) (o : Nat),
      u.Writes r x 0x1200 0x04 data ∧ 4 ≤ data.length ∧ data.length ≤ 8960 ∧ o = x.sel.get 0x1200 0x03 ∧
      1048576 < o + data.length) ∧
    (∃ (s u : State) (t : Nat) (r : Req) (x : Session), u = s.advance t ∧ ∃ (o : Nat), u.Reads r x 0x1200 0x04 ∧
      o = x.sel.get 0x1200 0x03 ∧ o < u.cfg.length) ∧
    (∃ (s u : State) (t : Nat) (r : Req) (x : Session), u = s.advance t ∧ ∃ (o : Nat), u.Reads r x 0x1200 0x04 ∧
      o = x.sel.get 0x1200 0x03 ∧ u.cfg.length ≤ o) ∧
    (∃ (s u : State) (t : Nat), u = s.advance t ∧ u.still = false ∧ ∃ k x, u.cfg.job = some (k, x, none) ∧ x ≠ 0) ∧
    (∃ (s u : State) (t : Nat), u = s.advance t ∧ u.still = false ∧ ∃ img, u.cfg.job = some (2, 0, some img)) ∧
    (∃ (s u : State) (t : Nat), u = s.advance t ∧ u.still = false ∧ ∃ k img j, u.cfg.job = some (k, 0, some img) ∧
      k ≠ 2 ∧ u.sec.job = some j ∧ j.kind = imConfig) := by
  refine ⟨⟨st0, _, 0, ask, ses, rfl, ?_, ?_⟩, ⟨st0, _, 0, ask, ses, rfl, ?_, ?_, ?_⟩,
    ⟨st1, _, 0, ask, ses, rfl, ?_, ?_, ?_⟩, ⟨st0, _, 0, ask, ses, rfl, ?_, ?_⟩,
    ⟨st2, _, 0, ask, ses, rfl, Instr.cfgSave 0 ask, 0x1#8, ?_, ?_, ?_⟩,
    ⟨st0, _, 0, ask, ses, rfl, [0x1#8, 0x2#8, 0x3#8, 0x4#8], _, ?_, ?_, ?_, rfl, ?_⟩,
    ⟨st4, _, 0, ask, ses { vals := [(1179651, 1048572)] }, rfl, [0x1#8, 0x2#8, 0x3#8, 0x4#8, 0x5#8], _, ?_, ?_, ?_,
      rfl, ?_⟩, ⟨st3, _, 0, ask, ses { vals := [(1179651, 10)] }, rfl, _, ?_, rfl, ?_⟩,
    ⟨st0, _, 0, ask, ses, rfl, _, ?_, rfl, ?_⟩, ⟨st5, _, 0, rfl, ?_, 3, 0x9000001#32, ?_, ?_⟩,
    ⟨st6, _, 0, rfl, ?_, { seq := 3, signed := false, payload := [0x1#8, 0x2#8, 0x3#8], sig := [], good := true },
      ?_⟩,
    ⟨st7, _, 0, rfl, ?_, 1, { seq := 3, signed := false, payload := [0x1#8, 0x2#8, 0x3#8], sig := [], good := true },
      { kind := 2, copy := { seq := 3, signed := false, payload := [0x1#8, 0x2#8, 0x3#8], sig := [], good := true } }, ?_, ?_, ?_, ?_⟩⟩ <;>
  first
  | decide +kernel
  | exact noFiring (by decide +kernel)
  | exact noHead (by decide +kernel)
  | constructor <;> first | decide +kernel | (constructor <;> decide +kernel)

end ForConfigurationCommands

namespace ForFirmwareAndOwner

def im0 : FlashCopy := { seq := 3, signed := true, payload := [1, 2, 3], sig := [], good := true }
def rec_ (o : Bool := true) : State :=
  { ready with
    sys := { state := .faultSafe }
    sec := { recovery := true, erased := o, recLength := 64, flash := [(0, none)] } }
def st0 : State := { ready with sec := { fwLen := 272 } }
def st1 : State := { ready with sec := { fwLen := 272, fwJob := some (0, im0) } }
def st4 : State := { ready with sec := { runLevel := 2 }, plumb := { holdupOk := true } }
def st6 : State := { ready with sec := { ownerDigest := List.replicate 48 1 } }
def st7 : State := { ready with sec := { ownerDigest := List.replicate 48 1, reqSigned := true } }
def st8 : State := rec_
def st11 : State := { ready with sec := { fwJob := some (0x09000003, im0) } }
def st12 : State := { ready with sec := { advancing := true, runLevel := 4, rollback := 2 } }

/-- The hypotheses of each clause of `Obligations.FirmwareAndOwner` hold together. -/
theorem met_FirmwareAndOwner :
    (∃ (s u : State) (t : Nat) (r : Req) (x : Session), u = s.advance t ∧ ∃ (n : Nat) (rs : List WordRead),
      n = u.sec.fwLen ∧ u.Writes r x 0x2900 0x0F [1] ∧ u.sec.fwSrc % 8 = 0 ∧ 272 ≤ n ∧
      u.sec.fwSrc + n ≤ 103079215104 ∧ rs = u.mem.readWords u.draws 0 u.sec.fwSrc (ceilDiv n 8) ∧
      ∃ (bs : Bytes) (v : Word) (c : FlashCopy), u.fwBlocked = false ∧ anyBad rs = false ∧
      bs = (readBytes rs).take n ∧ v = verdictWord (u.firmwareChecks (bs.take (n - 208)) (bs.drop (n - 208))) ∧
      c = { seq := 0, signed := true, payload := bs.take (n - 208), sig := bs.drop (n - 208), good := true }) ∧
    (∃ (s u : State) (t : Nat) (r : Req) (x : Session), u = s.advance t ∧ ∃ (n : Nat) (rs : List WordRead),
      n = u.sec.fwLen ∧ u.Writes r x 0x2900 0x0F [1] ∧ u.sec.fwSrc % 8 = 0 ∧ 272 ≤ n ∧
      u.sec.fwSrc + n ≤ 103079215104 ∧ rs = u.mem.readWords u.draws 0 u.sec.fwSrc (ceilDiv n 8) ∧ u.fwBlocked = true) ∧
    (∃ (s u : State) (t : Nat) (r : Req) (x : Session), u = s.advance t ∧ u.Writes r x 0x2900 0x0F [2] ∧
      u.plumb.commit = none ∧ u.sec.fwJob = none ∧ u.sec.advancing = false ∧ u.plumb.holdupOk = true) ∧
    (∃ (s u : State) (t : Nat) (r : Req) (x : Session), u = s.advance t ∧ u.Writes r x 0x2900 0x0F [2] ∧
      u.plumb.commit = none ∧ u.sec.fwJob = none ∧ u.sec.advancing = false ∧ u.plumb.holdupOk = false) ∧
    (∃ (s u : State) (t : Nat) (r : Req) (x : Session), u = s.advance t ∧ ∃ (data : Bytes),
      u.Writes r x 0x2900 0x06 data ∧ data.length = 48 ∧ u.ownerSet = false ∧
      (data.all fun b => decide (b = 0)) = false ∧ u.plumb.holdupOk = true ∧ u.plumb.commit = none ∧
      u.cfg.state = .idle ∧ u.sec.advancing = false) ∧
    (∃ (s u : State) (t : Nat) (r : Req) (x : Session), u = s.advance t ∧ ∃ (data : Bytes),
      u.Writes r x 0x2900 0x06 data ∧ data.length = 48 ∧ u.ownerSet = true) ∧
    (∃ (s u : State) (t : Nat) (r : Req) (x : Session), u = s.advance t ∧ ∃ (data : Bytes) (b : Bool),
      u.Writes r x 0x2900 0x07 data ∧ data.length = 4 ∧ b = bitOf (leNat data) 0 ∧ (b = true ∧
      u.ownerSet = true ∨ b = false ∧ (u.ownerSet = false ∨ u.sec.reqSigned = false))) ∧
    (∃ (s u : State) (t : Nat) (r : Req) (x : Session), u = s.advance t ∧ ∃ (data : Bytes) (b : Bool),
      u.Writes r x 0x2900 0x07 data ∧ data.length = 4 ∧ b = bitOf (leNat data) 0 ∧ b = true ∧ u.ownerSet = false) ∧
    (∃ (s u : State) (t : Nat) (r : Req) (x : Session), u = s.advance t ∧ ∃ (data : Bytes) (b : Bool),
      u.Writes r x 0x2900 0x07 data ∧ data.length = 4 ∧ b = bitOf (leNat data) 0 ∧ b = false ∧ u.ownerSet = true ∧
      u.sec.reqSigned = true) ∧
    (∃ (s u : State) (t : Nat) (r : Req) (x : Session), u = s.advance t ∧ u.sec.recovery = true ∧ x.version = 2 ∧
      u.sys.parity = [] ∧ u.outOfReach 0x2900 0x17 = false ∧ u.outOfReach 0x2900 0x16 = false ∧
      ({ u with sec := { u.sec with recovery := false } } : State).Serves (writeMsg r 0x2900 0x17 [1]) x) ∧
    (∃ (s u : State) (t : Nat) (r : Req) (x : Session), u = s.advance t ∧ u.sec.recovery = true ∧ x.version = 2 ∧
      u.sys.parity = [] ∧ u.outOfReach 0x2900 0x17 = false ∧ u.outOfReach 0x2900 0x16 = false ∧
      ∃ (data : Bytes) (o : Nat),
      ({ u with sec := { u.sec with recovery := false } } : State).Serves (writeMsg r 0x2900 0x16 data) x ∧
      16 ≤ data.length ∧ data.length ≤ 8960 ∧ data.length % 8 = 0 ∧ o = leAt data 0 4 ∧ o % 8 = 0 ∧
      leAt data 4 4 = 0 ∧ o + (data.length - 8) ≤ 16777152) ∧
    (∃ (s u : State) (t : Nat) (r : Req) (x : Session), u = s.advance t ∧ u.sec.recovery = true ∧ x.version = 2 ∧
      u.sys.parity = [] ∧ u.outOfReach 0x2900 0x17 = false ∧ u.outOfReach 0x2900 0x16 = false ∧
      ∃ (data : Bytes) (o : Nat),
      ({ u with sec := { u.sec with recovery := false } } : State).Serves (writeMsg r 0x2900 0x16 data) x ∧
      16 ≤ data.length ∧ data.length ≤ 8960 ∧ data.length % 8 = 0 ∧ o = leAt data 0 4 ∧ o % 8 ≠ 0) ∧
    (∃ (s u : State) (t : Nat) (r : Req) (x : Session), u = s.advance t ∧ u.sec.recovery = true ∧ x.version = 2 ∧
      u.sys.parity = [] ∧ u.outOfReach 0x2900 0x17 = false ∧ u.outOfReach 0x2900 0x16 = false ∧
      ∃ (p b : Bytes) (v : Word),
      ({ u with sec := { u.sec with recovery := false } } : State).Serves (writeMsg r 0x2900 0x17 [2]) x ∧
      p = u.recImage 0 u.sec.recLength ∧ b = u.recImage u.sec.recLength 208 ∧ v = verdictWord (u.firmwareChecks p b)) ∧
    (∃ (s u : State) (t : Nat), u = s.advance t ∧ ∃ v c, u.sec.fwJob = some (v, c) ∧ v = 0) ∧
    (∃ (s u : State) (t : Nat), u = s.advance t ∧ ∃ v c, u.sec.fwJob = some (v, c) ∧ v ≠ 0) ∧
    (∃ (s u : State) (t : Nat), u = s.advance t ∧ u.sec.advancing = true) := by
  refine ⟨⟨{ st0 with mem := ({} : SegMem).write 0 (List.replicate 272 7) }, _, 0, ask, ses, rfl, _, _, rfl, ?_, ?_,
      ?_, ?_, rfl, _, _, _, ?_, ?_, rfl, rfl, rfl⟩, ⟨st1, _, 0, ask, ses, rfl, _, _, rfl, ?_, ?_, ?_, ?_, rfl, ?_⟩,
    ⟨st4, _, 0, ask, ses, rfl, ?_, ?_, ?_, ?_, ?_⟩, ⟨st0, _, 0, ask, ses, rfl, ?_, ?_, ?_, ?_, ?_⟩,
    ⟨st4, _, 0, ask, ses, rfl, (List.replicate 48 0x7#8), ?_, ?_, ?_, ?_, ?_, ?_, ?_, ?_⟩,
    ⟨st6, _, 0, ask, ses, rfl, (List.replicate 48 0x0#8), ?_, ?_, ?_⟩,
    ⟨st0, _, 0, ask, ses, rfl, [0x0#8, 0x0#8, 0x0#8, 0x0#8], _, ?_, ?_, rfl, ?_⟩,
    ⟨st0, _, 0, ask, ses, rfl, [0x1#8, 0x0#8, 0x0#8, 0x0#8], _, ?_, ?_, rfl, ?_, ?_⟩,
    ⟨st7, _, 0, ask, ses, rfl, [0x0#8, 0x0#8, 0x0#8, 0x0#8], _, ?_, ?_, rfl, ?_, ?_, ?_⟩,
    ⟨st8, _, 0, ask, ses, rfl, ?_, ?_, ?_, ?_, ?_, ?_⟩,
    ⟨st8, _, 0, ask, ses, rfl, ?_, ?_, ?_, ?_, ?_, (List.replicate 48 0x0#8), _, ?_, ?_, ?_, ?_, rfl, ?_, ?_, ?_⟩,
    ⟨st8, _, 0, ask, ses, rfl, ?_, ?_, ?_, ?_, ?_, (List.replicate 48 0x7#8), _, ?_, ?_, ?_, ?_, rfl, ?_⟩,
    ⟨st8, _, 0, ask, ses, rfl, ?_, ?_, ?_, ?_, ?_, _, _, _, ?_, rfl, rfl, rfl⟩,
    ⟨st1, _, 0, rfl, 0x0#32,
      { seq := 3, signed := true, payload := [0x1#8, 0x2#8, 0x3#8], sig := [], good := true, built := false }, ?_,
      ?_⟩,
    ⟨st11, _, 0, rfl, 0x9000003#32,
      { seq := 3, signed := true, payload := [0x1#8, 0x2#8, 0x3#8], sig := [], good := true, built := false }, ?_,
      ?_⟩, ⟨st12, _, 0, rfl, ?_⟩⟩ <;>
  first
  | decide +kernel
  | exact noFiring (by decide +kernel)
  | exact noHead (by decide +kernel)
  | constructor <;> first | decide +kernel | (constructor <;> decide +kernel)

end ForFirmwareAndOwner

namespace ForCodeImagesAndAttestation

def st0 : State := { ready with sec := { codeLen := 88 } }
def st2 : State := { ready with sec := { codeLen := 88, codeJob := some (0, 3, 5, [7, 8]) } }
def st4 : State := { ready with sec := { codeJob := some (0x09000003, 3, 5, [7, 8]) } }
def st5 : State := { ready with sec := { nonce := List.replicate 32 7 } }
def st6 : State := { ready with sec := { nonce := List.replicate 32 7, building := some [1, 2] } }

/-- The hypotheses of each clause of `Obligations.CodeImagesAndAttestation` hold together. -/
theorem met_CodeImagesAndAttestation :
    (∃ (s u : State) (t : Nat) (r : Req) (x : Session), u = s.advance t ∧ ∃ (n : Nat) (rs : List WordRead),
      n = u.sec.codeLen ∧ u.Writes r x 0x2900 0x12 [1] ∧ u.sec.codeSrc + n ≤ 103079215104 ∧
      rs = u.mem.readWords u.draws 0 u.sec.codeSrc (ceilDiv n 8) ∧ ∃ (bs p : Bytes), u.sec.codeJob = none ∧
      anyBad rs = false ∧ bs = (readBytes rs).take n ∧ p = (bs.drop 64).take (leAt bs 8 4)) ∧
    (∃ (s u : State) (t : Nat) (r : Req) (x : Session), u = s.advance t ∧ ∃ (n : Nat) (rs : List WordRead),
      n = u.sec.codeLen ∧ u.Writes r x 0x2900 0x12 [1] ∧ u.sec.codeSrc + n ≤ 103079215104 ∧
      rs = u.mem.readWords u.draws 0 u.sec.codeSrc (ceilDiv n 8) ∧ u.sec.codeJob.isSome = true) ∧
    (∃ (s u : State) (t : Nat) (r : Req) (x : Session), u = s.advance t ∧ ∃ (c : Instr) (kind : Byte),
      (c = .attestStatementReq t r ∧ kind = 1 ∨ c = .attestTrimsReq t r ∧ kind = 2) ∧
      u.Writes r x 0x2900 0x09 [kind] ∧ ((u.sec.nonceIn u.cycle).all fun b => decide (b = 0)) = false ∧
      u.sec.building = none) ∧
    (∃ (s u : State) (t : Nat) (r : Req) (x : Session), u = s.advance t ∧ ∃ (c : Instr) (kind : Byte),
      (c = .attestStatementReq t r ∧ kind = 1 ∨ c = .attestTrimsReq t r ∧ kind = 2) ∧
      u.Writes r x 0x2900 0x09 [kind] ∧ ((u.sec.nonceIn u.cycle).all fun b => decide (b = 0)) = true ∧
      u.sec.building = none) ∧
    (∃ (s u : State) (t : Nat) (r : Req) (x : Session), u = s.advance t ∧ ∃ (c : Instr) (kind : Byte),
      (c = .attestStatementReq t r ∧ kind = 1 ∨ c = .attestTrimsReq t r ∧ kind = 2) ∧
      u.Writes r x 0x2900 0x09 [kind] ∧ ((u.sec.nonceIn u.cycle).all fun b => decide (b = 0)) = false ∧
      u.sec.building.isSome = true) ∧
    (∃ (s u : State) (t : Nat), u = s.advance t ∧ u.still = false ∧ ∃ v mask o ws, u.sec.codeJob = some (v, mask, o,
      ws) ∧ v = 0) ∧
    (∃ (s u : State) (t : Nat), u = s.advance t ∧ u.still = false ∧ ∃ v mask o ws, u.sec.codeJob = some (v, mask, o,
      ws) ∧ v ≠ 0) ∧
    (∃ (s u : State) (t : Nat), u = s.advance t ∧ u.still = false ∧ ∃ b, u.sec.building = some b) := by
  refine ⟨⟨{ st0 with mem := ({} : SegMem).write 0 (List.replicate 88 7) }, _, 0, ask, ses, rfl, _, _, rfl, ?_, ?_,
      rfl, _, _, ?_, ?_, rfl, rfl⟩, ⟨st2, _, 0, ask, ses, rfl, _, _, rfl, ?_, ?_, rfl, ?_⟩,
    ⟨st5, _, 0, ask, ses, rfl, Instr.attestStatementReq 0 ask, 0x1#8, ?_, ?_, ?_, ?_⟩,
    ⟨st0, _, 0, ask, ses, rfl, Instr.attestStatementReq 0 ask, 0x1#8, ?_, ?_, ?_, ?_⟩,
    ⟨st6, _, 0, ask, ses, rfl, Instr.attestStatementReq 0 ask, 0x1#8, ?_, ?_, ?_, ?_⟩,
    ⟨st2, _, 0, rfl, ?_, 0x0#32, 3, 5, [0x7#32, 0x8#32], ?_, ?_⟩,
    ⟨st4, _, 0, rfl, ?_, 0x9000003#32, 3, 5, [0x7#32, 0x8#32], ?_, ?_⟩, ⟨st6, _, 0, rfl, ?_, [0x1#8, 0x2#8], ?_⟩⟩ <;>
  first
  | decide +kernel
  | exact noFiring (by decide +kernel)
  | exact noHead (by decide +kernel)
  | constructor <;> first | decide +kernel | (constructor <;> decide +kernel)

end ForCodeImagesAndAttestation

namespace ForReportCard

def fresh (k : Nat) : Nat × Nat := ((Config.pairRatio k).1 + 1, (Config.pairRatio k).2 + 1)
theorem fresh_good (die k : Nat) : pairBad (degradation die k (fresh (4 * die + k))) = false := by
  simp only [pairBad, degradation, fresh, Nat.mul_comm ((Config.pairRatio (4 * die + k)).2 + 1)]
  simp
  omega
theorem stopped_bad (die k : Nat) : pairBad (degradation die k (0, 1)) = true := by
  simp only [pairBad, degradation]
  simp
def im0 : FlashCopy := { seq := 3, signed := false, payload := [1, 2, 3], sig := [], good := true }
def rd (c : Card) (e : Sec := {}) (y : Sys := { state := .ready, readyAt := some 0 }) (n : Nat := 2000000000000000000) : State :=
  { ready with now := n, card := c, sec := e, sys := y }
def st0 : State := rd { loaded := true, ageing := some [] }
def st1 : State := rd { loaded := true } { job := some { kind := 1, copy := im0 } }
def st2 : State := rd { savedAt := 1 } {} { state := .ready } 5
def st3 : State := rd { saving := some 5 }
def st4 : State := rd { saving := some 5 } { job := some { kind := 3, copy := im0 } }

/-- The hypotheses of each clause of `Obligations.ReportCard` hold together. -/
theorem met_ReportCard :
    (∃ (s u : State) (t : Nat), u = s.advance t ∧ u.held = false ∧ ∃ (c : Instr) (savedAt : Nat),
      (c = .rcSavePeriodic t ∧ u.sys.state ≠ .boot ∧ u.card.loaded = true ∧ u.card.savedAt + 900 ≤ u.powerOnSeconds ∧
      savedAt = u.powerOnSeconds / 900 * 900 ∨ c = .rcSaveAfterBoot t ∧ savedAt = u.card.savedAt ∧ (∃ z,
      u.sys.readyAt = some z ∧ z + 10 * secFs ≤ u.now)) ∧ u.sec.job = none ∧ ∃ x, x = u.catchUpAll) ∧
    (∃ (s u : State) (t : Nat), u = s.advance t ∧ u.held = false ∧ ∃ (c : Instr) (savedAt : Nat),
      (c = .rcSavePeriodic t ∧ u.sys.state ≠ .boot ∧ u.card.loaded = true ∧ u.card.savedAt + 900 ≤ u.powerOnSeconds ∧
      savedAt = u.powerOnSeconds / 900 * 900 ∨ c = .rcSaveAfterBoot t ∧ savedAt = u.card.savedAt ∧ (∃ z,
      u.sys.readyAt = some z ∧ z + 10 * secFs ≤ u.now)) ∧ u.sec.job.isSome = true) ∧
    (∃ (s u : State) (t : Nat), u = s.advance t ∧ u.held = false ∧ u.powerOnSeconds < u.card.savedAt + 900) ∧
    (∃ (s u : State) (t : Nat), u = s.advance t ∧ u.held = false) ∧
    (∃ (s u : State) (t : Nat) (r : Req) (x : Session), u = s.advance t ∧ u.Writes r x 0x2A00 0x0A [1] ∧
      u.card.saving = none ∧ u.sec.job = none ∧ ∃ y, y = u.catchUpAll) ∧
    (∃ (s u : State) (t : Nat) (r : Req) (x : Session), u = s.advance t ∧ u.Writes r x 0x2A00 0x0A [1] ∧
      u.card.saving = none ∧ u.sec.job.isSome = true) ∧
    (∃ (s u : State) (t : Nat) (r : Req) (x : Session), u = s.advance t ∧ u.Writes r x 0x2A00 0x0A [1] ∧
      u.card.saving.isSome = true) ∧
    (∃ (s u : State) (t : Nat) (j : FlashJob), u = s.advance t ∧ u.sec.job = some j ∧ j.kind = imCard ∧
      u.sec.saveDue = false) ∧
    (∃ (s u : State) (t : Nat) (die : Fin 6), u = s.advance t ∧ u.still = false ∧
      ∃ (a b : Nat × Nat) (x y : Int × Nat), x = degradation die 0 a ∧ y = degradation die 1 b ∧ die ≠ 0 ∧
      u.ageingDue die = true ∧ u.card.excluded.contains (4 * die.val) = false ∧
      u.card.excluded.contains (4 * die.val + 1) = false ∧ pairBad y = false ∧ pairBad x = false) ∧
    (∃ (s u : State) (t : Nat) (die : Fin 6), u = s.advance t ∧ u.still = false ∧
      ∃ (a b : Nat × Nat) (x y : Int × Nat), x = degradation die 0 a ∧ y = degradation die 1 b ∧ die ≠ 0 ∧
      u.ageingDue die = true ∧ u.card.excluded.contains (4 * die.val) = false ∧
      u.card.excluded.contains (4 * die.val + 1) = false ∧ pairBad y = false ∧ pairBad x = true) ∧
    (∃ (s u : State) (t : Nat) (die : Fin 6), u = s.advance t ∧ u.still = false ∧
      ∃ (a b c d : Nat × Nat) (w : Bool → Int),
      w = (fun up => max (max (max (wholePpm (degradation 0 0 a) up) (wholePpm (degradation 0 1 b) up)) (wholePpm
        (degradation 0 2 c) up)) (wholePpm (degradation 0 3 d) up)) ∧ die = 0 ∧ u.ageingDue die = true ∧ (∀ k,
      k < 4 → u.card.excluded.contains k = false) ∧ pairBad (degradation 0 0 a) = false ∧
      pairBad (degradation 0 1 b) = false ∧ pairBad (degradation 0 2 c) = false ∧
      pairBad (degradation 0 3 d) = false ∧ u.eclk.stopped = false ∧ u.eclk.droop = none ∧ u.eclk.release = none) ∧
    (∃ (s u : State) (t : Nat) (die : Fin 6), u = s.advance t ∧ u.still = false ∧ u.ageingDue die = false) := by
  refine ⟨⟨st0, _, 0, rfl, ?_, Instr.rcSavePeriodic 0, 1800, ?_, ?_, _, rfl⟩,
    ⟨st1, _, 0, rfl, ?_, Instr.rcSavePeriodic 0, 1800, ?_, ?_⟩, ⟨st2, _, 0, rfl, ?_, ?_⟩, ⟨st0, _, 0, rfl, ?_⟩,
    ⟨st0, _, 0, ask, ses, rfl, ?_, ?_, ?_, _, rfl⟩, ⟨st1, _, 0, ask, ses, rfl, ?_, ?_, ?_⟩,
    ⟨st3, _, 0, ask, ses, rfl, ?_, ?_⟩,
    ⟨st4, _, 0,
      { kind := 3, copy := { seq := 3, signed := false, payload := [0x1#8, 0x2#8, 0x3#8], sig := [], good := true, built := false } }, rfl, ?_, ?_, ?_⟩,
    ⟨st0, _, 0, 2, rfl, ?_, fresh 8, fresh 9, _, _, rfl, rfl, ?_, ?_, ?_, ?_, fresh_good 2 1, fresh_good 2 0⟩,
    ⟨st0, _, 0, 2, rfl, ?_, (0, 1), fresh 9, _, _, rfl, rfl, ?_, ?_, ?_, ?_, fresh_good 2 1, stopped_bad 2 0⟩,
    ⟨st0, _, 0, _, rfl, ?_, fresh 0, fresh 1, fresh 2, fresh 3, _, rfl, rfl, ?_, ?_, fresh_good 0 0, fresh_good 0 1,
      fresh_good 0 2, fresh_good 0 3, ?_, ?_, ?_⟩, ⟨st1, _, 0, 0, rfl, ?_, ?_⟩⟩ <;>
  first
  | decide +kernel
  | exact noFiring (by decide +kernel)
  | exact noHead (by decide +kernel)
  | constructor <;> first | decide +kernel | (constructor <;> decide +kernel)

end ForReportCard

namespace ForRecessAndTap

def fz (r : Recess) (y : Sys := { state := .recess }) (s : Selectors := {}) : State :=
  { ready s with
    now := 2000000000
    recess := r
    sys := y
    time := { count := 5, at_ := 0, running := false }
    tts := [(0, { state := .ready })] }
def st0 : State := fz { bellEn := true, bell := 7, dues := [(7, 4, false)] } { state := .ready }
def st1 : State := fz { ignore := true } { state := .ready }
def st2 : State := fz { cause := 3, cycleEnd := 3000000000 }
def st3 : State := fz { capture := 1 }
def st4 : State := fz { capture := 2 }
def st6 : State := fz { capture := 2 } { state := .recess, debugLock := true }
def st7 : State := fz {} { state := .ready, por := true }
def st8 : State := fz { ir := 0 } { state := .ready, pin := true }
def st10 : State := fz { ir := 0x20, capture := 2, word := 3 }
def st11 : State := fz { ir := 0x20, capture := 2, word := 3 } { state := .recess, debugLock := true }

/-- The hypotheses of each clause of `Obligations.RecessAndTap` hold together. -/
theorem met_RecessAndTap :
    (∃ (s u : State) (t : Nat), u = s.advance t ∧ u.canFreeze = true ∧ ∃ (c : Instr) (cause : Nat), (c = .frzNLow t ∧
      cause = 1 ∧ u.recess.ignore = false ∨ c = .recessBell t ∧ cause = 2 ∧ u.recess.bellEn = true ∧
      (∃ p ∈ u.recess.dues, p.1 = u.recess.bell ∧ (p.2.2 = true ∨ ticksGe u.trussNow p.2.1 = true)) ∨ (∃ r x,
      c = .recessCmd t r ∧ cause = 3 ∧ u.Writes r x 0x2B00 0x01 [1]))) ∧
    (∃ (s u : State) (t : Nat), u = s.advance t ∧ u.canFreeze = true ∧ u.recess.ignore = true) ∧
    (∃ (s u : State) (t : Nat), u = s.advance t ∧ u.sys.state = .recess ∧ u.now < u.recess.cycleEnd ∧
      1 < u.recess.cause ∧ u.recess.ignore = false ∧ u.sys.por = false ∧ u.sys.pin = false) ∧
    (∃ (s u : State) (t : Nat), u = s.advance t ∧ u.sys.state = .recess ∧ u.recess.capture = 1) ∧
    (∃ (s u : State) (t : Nat), u = s.advance t ∧ ∃ (r : Req) (x : Session) (o : Nat), u.Reads r x 0x2B00 0x06 ∧
      o = x.sel.get 0x2B00 0x05 ∧ u.sys.debugLock = false ∧ u.recess.capture = 2 ∧ o < u.captureLength) ∧
    (∃ (s u : State) (t : Nat), u = s.advance t ∧ ∃ (r : Req) (x : Session) (o : Nat), u.Reads r x 0x2B00 0x06 ∧
      o = x.sel.get 0x2B00 0x05 ∧ u.sys.debugLock = false ∧ u.recess.capture = 2 ∧ u.captureLength ≤ o) ∧
    (∃ (s u : State) (t : Nat), u = s.advance t ∧ ∃ (r : Req) (x : Session) (o : Nat), u.Reads r x 0x2B00 0x06 ∧
      o = x.sel.get 0x2B00 0x05 ∧ u.sys.debugLock = false ∧ u.recess.capture ≠ 2) ∧
    (∃ (s u : State) (t : Nat), u = s.advance t ∧ ∃ (r : Req) (x : Session) (o : Nat), u.Reads r x 0x2B00 0x06 ∧
      o = x.sel.get 0x2B00 0x05 ∧ u.sys.debugLock = true ∧ u.recess.capture = 2 ∧ o < u.captureLength) ∧
    (∃ (s u : State) (t : Nat), u = s.advance t ∧ u.sys.por = true) ∧
    (∃ (s u : State) (t : Nat), u = s.advance t ∧ u.sys.por = false ∧ ∃ (ir : BitVec 8),
      (ir = 0 ∨ ir = 3 ∨ ir = 4 ∨ ir = 5 ∨ ir = 6) ∧ u.sys.pin = false) ∧
    (∃ (s u : State) (t : Nat), u = s.advance t ∧ u.sys.por = false ∧ ∃ (ir : BitVec 8),
      ((ir = 0 ∨ ir = 3 ∨ ir = 4 ∨ ir = 5 ∨ ir = 6) ∨ u.sys.rstLow = true) ∧ u.sys.pin = true) ∧
    (∃ (s u : State) (t : Nat), u = s.advance t ∧ u.sys.por = false ∧ ∃ (ir : BitVec 8), ir ≠ 0 ∧ ir ≠ 3 ∧ ir ≠ 4 ∧
      ir ≠ 5 ∧ ir ≠ 6 ∧ u.sys.pin = false) ∧
    (∃ (s u : State) (t : Nat), u = s.advance t ∧ u.sys.por = false ∧ ∃ (ir : BitVec 8), ir ≠ 0 ∧ ir ≠ 3 ∧ ir ≠ 4 ∧
      ir ≠ 5 ∧ ir ≠ 6 ∧ u.sys.pin = true ∧ u.sys.rstLow = false) ∧
    (∃ (s u : State) (t : Nat), u = s.advance t ∧ (u.sys.pin = false ∨ u.sys.por = true ∨ u.sys.rstLow = true)) ∧
    (∃ (s u : State) (t : Nat), u = s.advance t ∧ u.sys.pin = true ∧ u.sys.por = false ∧ u.sys.rstLow = false) ∧
    (∃ (s u : State) (t : Nat), u = s.advance t ∧ u.recess.ir = 0x20 ∧ ∃ w v, w = u.recess.word ∧
      v = (if 4 * w < u.captureLength then u.captureWord w else 0) ∧ u.captureShut = false) ∧
    (∃ (s u : State) (t : Nat), u = s.advance t ∧ u.recess.ir = 0x20 ∧ u.captureShut = true) ∧
    (∃ (s u : State) (t : Nat), u = s.advance t ∧ u.recess.ir ≠ 0x20) := by
  refine ⟨⟨st0, _, 0, rfl, ?_, Instr.frzNLow 0, 1, ?_⟩, ⟨st1, _, 0, rfl, ?_, ?_⟩,
    ⟨st2, _, 0, rfl, ?_, ?_, ?_, ?_, ?_, ?_⟩, ⟨st3, _, 0, rfl, ?_, ?_⟩,
    ⟨st4, _, 0, rfl, ask, ses, _, ?_, rfl, ?_, ?_, capture_not_empty (by decide +kernel)⟩,
    ⟨fz { capture := 2 } { state := .recess } { vals := [(0x2B0005, crossingsAt + crossingsLength)] }, _, 0, rfl,
      ask, ses { vals := [(0x2B0005, crossingsAt + crossingsLength)] }, _,
      ⟨⟨by decide +kernel, rfl, rfl, rfl,
      by decide +kernel, rfl, by decide +kernel, by decide +kernel, by decide +kernel, by decide +kernel,
      by decide +kernel, by decide +kernel⟩, by decide +kernel⟩, rfl, ?_, ?_,
            (capture_length (by decide +kernel)).le⟩, ⟨st0, _, 0, rfl, ask, ses, _, ?_, rfl, ?_, ?_⟩,
    ⟨st6, _, 0, rfl, ask, ses, _, ?_, rfl, ?_, ?_, capture_not_empty (by decide +kernel)⟩, ⟨st7, _, 0, rfl, ?_⟩,
    ⟨st0, _, 0, rfl, ?_, 0x0#8, ?_, ?_⟩, ⟨st8, _, 0, rfl, ?_, 0x0#8, ?_, ?_⟩,
    ⟨st0, _, 0, rfl, ?_, 0x1#8, ?_, ?_, ?_, ?_, ?_, ?_⟩, ⟨st8, _, 0, rfl, ?_, 0x1#8, ?_, ?_, ?_, ?_, ?_, ?_, ?_⟩,
    ⟨st0, _, 0, rfl, ?_⟩, ⟨st8, _, 0, rfl, ?_, ?_, ?_⟩, ⟨st10, _, 0, rfl, ?_, _, _, rfl, rfl, ?_⟩,
    ⟨st11, _, 0, rfl, ?_, ?_⟩, ⟨st0, _, 0, rfl, ?_⟩⟩ <;>
  first
  | decide +kernel
  | exact noFiring (by decide +kernel)
  | exact noHead (by decide +kernel)
  | constructor <;> first | decide +kernel | (constructor <;> decide +kernel)

end ForRecessAndTap

namespace ForStampsAndResults

def tu (l : List (Nat × TiuSlot)) (x : Tiu := {}) (sel : Selectors := {}) : State :=
  { clk {} with
    now := 2000000000
    time := { count := 100, at_ := 1, running := true }
    tiu := { x with slots := l }
    ref := { present := true }
    oda := { sessions := [ses sel] } }
def stp (f : Int) (c : Nat := 0) : Stamp :=
  { fu := f, rising := true, tbXtal := false, src := 0, seq := 5, channel := c, gap := false }
def st0 : State := tu [(0, { gap := true })]
def st2 : State := { tu [] with time := { count := 100, at_ := 1, running := false } }
def st3 : State := tu [(0, { queue := List.replicate 256 (stp 5) })]
def st6 : State :=
  { tu [(0, { state := .running, meas := 0x50000000, armAt := some 0, queue := [stp 500] })] with
    eclk := { stopped := true } }
def st7 : State := tu [(0, { state := .running, meas := 0x50000000, armAt := some 0, queue := [stp 500], n := 2 })]
def st8 : State :=
  tu [(0, { state := .running, meas := 0x20000000, armAt := some 0, queue := [stp 500], starts := [stp 300], n := 1 })]

/-- The hypotheses of each clause of `Obligations.StampsAndResults` hold together. -/
theorem met_StampsAndResults :
    (∃ (s u : State) (t : Nat) (c : Fin 17) (rising : Bool) (v : TiuSlot), u = s.advance t ∧ u.still = false ∧
      v = u.slot c ∧ (∀ k, k < 16 → (u.slot k).state ≠ .armed) ∧
      (v.qualifies rising = false ∨ u.sourceMute c = true ∨ u.tiu.cal = some c.val)) ∧
    (∃ (s u : State) (t : Nat) (c : Fin 17) (rising : Bool) (v : TiuSlot), u = s.advance t ∧ u.still = false ∧
      v = u.slot c ∧ (∀ k, k < 16 → (u.slot k).state ≠ .armed) ∧ v.qualifies rising = true ∧ u.sourceMute c = false ∧
      u.tiu.cal ≠ some c.val ∧ u.time.running = true ∧ (∀ x ∈ v.stampedAt, x + 32 * nsFs ≤ u.now) ∧
      v.queue.length < 256) ∧
    (∃ (s u : State) (t : Nat) (c : Fin 17) (rising : Bool) (v : TiuSlot), u = s.advance t ∧ u.still = false ∧
      v = u.slot c ∧ (∀ k, k < 16 → (u.slot k).state ≠ .armed) ∧ v.qualifies rising = true ∧ u.sourceMute c = false ∧
      u.tiu.cal ≠ some c.val ∧ (∀ k, k < 16 → (u.slot k).state ≠ .running) ∧ u.time.running = true ∧
      (∀ x ∈ v.stampedAt, x + 32 * nsFs ≤ u.now) ∧ 256 ≤ v.queue.length) ∧
    (∃ (s u : State) (t : Nat) (c : Fin 17) (rising : Bool) (v : TiuSlot), u = s.advance t ∧ u.still = false ∧
      v = u.slot c ∧ (∀ k, k < 16 → (u.slot k).state ≠ .armed) ∧ v.qualifies rising = true ∧ u.sourceMute c = false ∧
      u.tiu.cal ≠ some c.val ∧ (∀ k, k < 16 → (u.slot k).state ≠ .running) ∧ (u.time.running = false ∨ (∃ y ys,
      v.stampedAt = y :: ys ∧ (u.now - y) * 10 < 19 * nsFs))) ∧
    (∃ (s u : State) (t : Nat) (c : Fin 17) (rising : Bool) (v : TiuSlot), u = s.advance t ∧ u.still = false ∧
      v = u.slot c ∧ (∀ k, k < 16 → (u.slot k).state ≠ .armed) ∧ v.qualifies rising = true ∧ u.sourceMute c = false ∧
      u.tiu.cal ≠ some c.val ∧ u.time.running = false) ∧
    (∃ (s u : State) (t : Nat), u = s.advance t ∧ u.still = false ∧ (∀ k, k < 16 → (u.slot k).state ≠ .armed) ∧
      (u.eclk.stopped = true ∨ u.now < u.tiu.drainNext)) ∧
    (∃ (s u : State) (t : Nat), u = s.advance t ∧ u.still = false ∧ (∀ k, k < 16 → (u.slot k).state ≠ .armed) ∧
      ∃ (c : Nat) (v : TiuSlot) (a : Stamp) (r : List Stamp) (y : Int), u.eclk.stopped = false ∧
      u.tiu.drainNext ≤ u.now ∧ c = u.tiu.drainAt ∧ c < 16 ∧ v = u.slot c ∧ v.queue = a :: r ∧ (∀ k,
      k < 16 → k ≠ c → (u.slot k).takes k c = false) ∧ v.state = .running ∧ v.skipA = 0 ∧ v.armAt = some y ∧
      0 ≤ fuDiff a.fu y ∧ a.tbXtal = false ∧ (∀ b ∈ u.truss.bells, b.late = false ∧ b.isSlow = false) ∧ v.kind = 5 ∧
      (u.tiu.head - u.tiu.tail).toNat < 65536) ∧
    (∃ (s u : State) (t : Nat), u = s.advance t ∧ u.still = false ∧ (∀ k, k < 16 → (u.slot k).state ≠ .armed) ∧
      ∃ (c : Nat) (v : TiuSlot) (a : Stamp) (r : List Stamp) (y : Int), u.eclk.stopped = false ∧
      u.tiu.drainNext ≤ u.now ∧ c = u.tiu.drainAt ∧ c < 16 ∧ v = u.slot c ∧ v.queue = a :: r ∧ (∀ k,
      k < 16 → k ≠ c → (u.slot k).takes k c = false) ∧ v.state = .running ∧ v.skipA = 0 ∧ v.armAt = some y ∧
      0 ≤ fuDiff a.fu y ∧ a.tbXtal = false ∧ (∀ b ∈ u.truss.bells, b.late = false ∧ b.isSlow = false) ∧
      ∃ (b : Stamp) (d : Int), (v.kind = 2 ∧ v.starts = [b] ∧ a.gap = false ∧ d = fuDiff a.fu b.fu ∨ v.kind = 1 ∧
      v.starts = [] ∧ v.stops.head? = some b ∧ d = fuDiff b.fu a.fu) ∧ bitOf v.meas.toNat 16 = false ∧
      d.natAbs < 2 ^ 48) := by
  refine ⟨⟨st0, _, 0, 0, false, _, rfl, ?_, rfl, ?_, ?_⟩,
    ⟨st0, _, 0, 0, true, _, rfl, ?_, rfl, ?_, ?_, ?_, ?_, ?_, ?_, ?_⟩,
    ⟨st3, _, 0, 0, true, _, rfl, ?_, rfl, ?_, ?_, ?_, ?_, ?_, ?_, ?_, ?_⟩,
    ⟨st2, _, 0, 0, true, _, rfl, ?_, rfl, ?_, ?_, ?_, ?_, ?_, ?_⟩,
    ⟨st2, _, 0, 0, true, _, rfl, ?_, rfl, ?_, ?_, ?_, ?_, ?_⟩, ⟨st6, _, 0, rfl, ?_, ?_, ?_⟩,
    ⟨st7, _, 0, rfl, ?_, ?_, _, _,
      { fu := 500, rising := true, tbXtal := false, src := 0, seq := 0x5#16, channel := 0, gap := false }, [], 0, ?_,
      ?_, rfl, ?_, rfl, ?_, ?_, ?_, ?_, ?_, ?_, ?_, ?_, ?_, ?_⟩,
    ⟨st8, _, 0, rfl, ?_, ?_, _, _,
      { fu := 500, rising := true, tbXtal := false, src := 0, seq := 0x5#16, channel := 0, gap := false }, [], 0, ?_,
      ?_, rfl, ?_, rfl, ?_, ?_, ?_, ?_, ?_, ?_, ?_, ?_,
      { fu := 300, rising := true, tbXtal := false, src := 0, seq := 0x5#16, channel := 0, gap := false }, 200, ?_,
      ?_, ?_⟩⟩ <;>
  first | decide +kernel | (constructor <;> decide +kernel)

end ForStampsAndResults

namespace ForTiuCommands

def tu (l : List (Nat × TiuSlot)) (x : Tiu := {}) (sel : Selectors := {}) : State :=
  { clk {} with
    now := 2000000000
    time := { count := 100, at_ := 1, running := true }
    tiu := { x with slots := l }
    ref := { present := true }
    oda := { sessions := [ses sel] } }
def sl (n : Nat) : Selectors := (({} : Selectors).set 0x2700 4 n)
def st0 : State := tu [] {} (sl 3)
def st1 : State := tu [(3, { meas := 0x50000000, made := 4, count := 3 })] {} (sl 3)
def st3 : State := tu [(3, { meas := 0x50000000, state := .running })] {} (sl 3)
def st4 : State := tu [(3, { meas := 0x50000000, state := .armed, armAt := some 5 })] { head := 70000 } (sl 3)
def st5 : State := tu [(3, { meas := 0x50000000, state := .armed, armAt := some 500000000000 })] {} (sl 3)
def st6 : State := tu [(3, { meas := 0x50000000 })] { tb := 3 } (sl 3)

/-- The hypotheses of each clause of `Obligations.TiuCommands` hold together. -/
theorem met_TiuCommands :
    (∃ (s u : State) (t : Nat) (r : Req) (x : Session) (c : Nat) (v : TiuSlot), u = s.advance t ∧
      c = x.sel.get 0x2700 0x04 ∧ v = u.slot c ∧ u.Writes r x 0x2700 0x0C [1] ∧ v.kind ≠ 0 ∧ v.active = false ∧
      u.calBlocks c = false ∧ u.tbCode ≠ 3) ∧
    (∃ (s u : State) (t : Nat) (r : Req) (x : Session) (c : Nat) (v : TiuSlot), u = s.advance t ∧
      c = x.sel.get 0x2700 0x04 ∧ v = u.slot c ∧ u.Writes r x 0x2700 0x0C [1] ∧ v.kind = 0 ∧ v.active = false ∧
      u.calBlocks c = false ∧ u.tbCode ≠ 3) ∧
    (∃ (s u : State) (t : Nat) (r : Req) (x : Session) (c : Nat) (v : TiuSlot), u = s.advance t ∧
      c = x.sel.get 0x2700 0x04 ∧ v = u.slot c ∧ u.Writes r x 0x2700 0x0C [1] ∧
      (v.active = true ∨ u.calBlocks c = true) ∧ u.tbCode ≠ 3) ∧
    (∃ (s u : State) (t : Nat) (r : Req) (x : Session) (c : Nat) (v : TiuSlot), u = s.advance t ∧
      c = x.sel.get 0x2700 0x04 ∧ v = u.slot c ∧ u.Writes r x 0x2700 0x0C [1] ∧ u.tbCode = 3) ∧
    (∃ (s u : State) (t : Nat) (r : Req) (x : Session) (c : Nat) (v : TiuSlot), u = s.advance t ∧
      c = x.sel.get 0x2700 0x04 ∧ v = u.slot c ∧ u.Writes r x 0x2700 0x0C [2] ∧ (∀ k,
      k < 16 → (u.slot k).state ≠ .armed) ∧ v.state = .running ∧ v.kind ≠ 4) ∧
    (∃ (s u : State) (t : Nat) (r : Req) (x : Session) (c : Nat) (v : TiuSlot), u = s.advance t ∧
      c = x.sel.get 0x2700 0x04 ∧ v = u.slot c ∧ u.Writes r x 0x2700 0x0C [2] ∧ (∀ k,
      k < 16 → (u.slot k).state ≠ .armed) ∧ v.state ≠ .running ∧ v.state ≠ .armed) ∧
    (∃ (s u : State) (t : Nat) (r : Req) (x : Session) (c : Nat) (v : TiuSlot), u = s.advance t ∧
      c = x.sel.get 0x2700 0x04 ∧ v = u.slot c ∧ u.Writes r x 0x2700 0x0C [3] ∧ v.state ≠ .running ∧
      v.state ≠ .armed) ∧
    (∃ (s u : State) (t : Nat) (r : Req) (x : Session) (c : Nat) (v : TiuSlot), u = s.advance t ∧
      c = x.sel.get 0x2700 0x04 ∧ v = u.slot c ∧ u.Writes r x 0x2700 0x0C [3] ∧
      (v.state = .running ∨ v.state = .armed)) ∧
    (∃ (s u : State) (t : Nat) (r : Req) (x : Session) (c : Nat) (v : TiuSlot), u = s.advance t ∧
      c = x.sel.get 0x2700 0x04 ∧ v = u.slot c ∧ ∃ (data : Bytes) (w : Word), u.Writes r x 0x2700 0x19 data ∧
      data.length = 4 ∧ w = BitVec.ofNat 32 (leNat data) ∧ (u.tiu.head - w).toNat ≤ 65536) ∧
    (∃ (s u : State) (t : Nat) (r : Req) (x : Session) (c : Nat) (v : TiuSlot), u = s.advance t ∧
      c = x.sel.get 0x2700 0x04 ∧ v = u.slot c ∧ ∃ (data : Bytes) (w : Word), u.Writes r x 0x2700 0x19 data ∧
      data.length = 4 ∧ w = BitVec.ofNat 32 (leNat data) ∧ 65536 < (u.tiu.head - w).toNat) ∧
    (∃ (s u : State) (t : Nat) (c : Fin 16) (y : Int), u = s.advance t ∧ u.still = false ∧
      (u.slot c).state = .armed ∧ (u.slot c).armAt = some y ∧ 0 ≤ fuDiff u.nowFu y) ∧
    (∃ (s u : State) (t : Nat) (c : Fin 16) (y : Int), u = s.advance t ∧ u.still = false ∧
      (u.slot c).state = .armed ∧ (u.slot c).armAt = some y ∧ fuDiff u.nowFu y < 0) := by
  refine ⟨⟨st1, _, 0, ask, ses { vals := [(2555908, 3)] }, _, _, rfl, rfl, rfl, ?_, ?_, ?_, ?_, ?_⟩,
    ⟨st0, _, 0, ask, ses { vals := [(2555908, 3)] }, _, _, rfl, rfl, rfl, ?_, ?_, ?_, ?_, ?_⟩,
    ⟨st3, _, 0, ask, ses { vals := [(2555908, 3)] }, _, _, rfl, rfl, rfl, ?_, ?_, ?_⟩,
    ⟨st6, _, 0, ask, ses { vals := [(2555908, 3)] }, _, _, rfl, rfl, rfl, ?_, ?_⟩,
    ⟨st3, _, 0, ask, ses { vals := [(2555908, 3)] }, _, _, rfl, rfl, rfl, ?_, ?_, ?_, ?_⟩,
    ⟨st0, _, 0, ask, ses { vals := [(2555908, 3)] }, _, _, rfl, rfl, rfl, ?_, ?_, ?_, ?_⟩,
    ⟨st0, _, 0, ask, ses { vals := [(2555908, 3)] }, _, _, rfl, rfl, rfl, ?_, ?_, ?_⟩,
    ⟨st3, _, 0, ask, ses { vals := [(2555908, 3)] }, _, _, rfl, rfl, rfl, ?_, ?_⟩,
    ⟨st0, _, 0, ask, ses { vals := [(2555908, 3)] }, _, _, rfl, rfl, rfl, [0x0#8, 0x0#8, 0x0#8, 0x0#8], _, ?_, ?_,
      rfl, ?_⟩,
    ⟨st0, _, 0, ask, ses { vals := [(2555908, 3)] }, _, _, rfl, rfl, rfl, [0x1#8, 0x0#8, 0x0#8, 0x0#8], _, ?_, ?_,
      rfl, ?_⟩, ⟨st4, _, 0, 3, 5, rfl, ?_, ?_, ?_, ?_⟩, ⟨st5, _, 0, 3, 500000000000, rfl, ?_, ?_, ?_, ?_⟩⟩ <;>
  first
  | decide +kernel
  | exact noFiring (by decide +kernel)
  | exact noHead (by decide +kernel)
  | constructor <;> first | decide +kernel | (constructor <;> decide +kernel)

end ForTiuCommands

namespace ForCodeDensityRuns

def flat : Sparse Nat := (List.range' 0 2048).map fun i => (i, 2048)
def runHits : List (Fin 100 × Sparse Nat) := (calInterps 16).map fun i => (Fin.ofNat 100 i, flat)
theorem sum_flat (j n : Nat) : ∀ s a, ((((List.range' s n).map fun i => (i, 2048)).takeWhile fun p => decide (p.1 < j)).map
    (·.2)).foldl (· + ·) a = a + 2048 * min n (j - s) := by
  induction n with
  | zero => intro s a; simp
  | succ n ih =>
    intro s a
    by_cases h : s < j
    · have := ih (s + 1) (a + 2048)
      simp only [List.range'_succ, List.map_cons, List.takeWhile_cons, h, decide_true, if_true, List.foldl_cons] at this ⊢
      omega
    · simp [List.range'_succ, h, Nat.sub_eq_zero_of_le (Nat.le_of_not_lt h)]
theorem flat_below (j : Nat) : hitsBelow flat j = 2048 * min 2048 j := by
  simpa [hitsBelow, flat] using sum_flat j 2048 0 0
theorem flat_cum (j : Nat) : (BinTable.counted flat).cum j = 512 * (min 2048 j : Nat) := by
  have h : (1048576 * (2048 * min 2048 j : Nat) : Int) = 512 * (min 2048 j : Nat) * (4194304 : Nat) := by push_cast; omega
  simp only [BinTable.cum, hitsAll, flat_below, roundHalfEven, show 2048 * min 2048 4096 = 4194304 from rfl, h,
    Int.mul_ediv_cancel _ (show ((4194304 : Nat) : Int) ≠ 0 by decide), Int.mul_emod_left]
  simp
theorem flat_width (j : Nat) : (BinTable.counted flat).width j = if j < 2048 then 512 else 0 := by
  simp only [BinTable.width, flat_cum]
  split <;> omega
theorem flat_passes : hitsPass flat = true := by
  have h : ∀ j, (BinTable.counted flat).width j = if j < 2048 then 512 else 0 := flat_width
  simp only [hitsPass, hitsAll, flat_below, h]
  decide +kernel
theorem agrees_self (h : Sparse Nat) : tablesAgree h h = true := by
  unfold tablesAgree; exact List.all_eq_true.2 fun j _ => decide_eq_true (by rw [Int.sub_self]; decide)
theorem same_run_passes : (calInterps 16).all (fun i => hitsPass (hitsOf runHits i) && hitsPass (hitsOf runHits i)
    && tablesAgree (hitsOf runHits i) (hitsOf runHits i)) = true := by
  have h : ∀ i ∈ calInterps 16, hitsOf runHits i = flat := by
    intro i hi
    simp [calInterps] at hi
    rcases hi with rfl | rfl | rfl | rfl <;> rfl
  exact List.all_eq_true.2 fun i hi => by rw [h i hi, flat_passes, agrees_self]; rfl
def tu (l : List (Nat × TiuSlot)) (x : Tiu := {}) (sel : Selectors := {}) : State :=
  { clk {} with
    now := 2000000000
    time := { count := 100, at_ := 1, running := true }
    tiu := { x with slots := l }
    ref := { present := true }
    oda := { sessions := [ses sel] } }
def st0 : State := { tu [] with plumb := { tiuFlag := some .commanded } }
def st1 : State := { tu [] with plumb := { tiuFlag := some .temperature, tiuHeld := true } }
def st3 : State :=
  { tu [] with
    plumb := { tiuFlag := some .commanded, tiuRun := some 1 }
    tiu := { cal := some 1, slots := [(1, { state := .calibrating, before := .done })] } }
def st5 : State :=
  { tu [] with
    plumb := { tiuFlag := some .temperature, tiuRun := some 16, tiuFirst := some [], tiuRetries := 3 }
    tiu := { cal := some 16 } }
def st6 : State :=
  { tu [] with
    plumb := { tiuFlag := some .temperature, tiuRun := some 16, tiuFirst := some [] }
    tiu := { cal := some 16 } }

/-- The hypotheses of each clause of `Obligations.CodeDensityRuns` hold together. -/
theorem met_CodeDensityRuns :
    (∃ (s u : State) (t : Nat) (c : Fin 17) (e : PlumbConditions), u = s.advance t ∧ u.still = false ∧
      u.tiu.cal = none ∧ u.calFree c = true ∧ (c ≠ 16 ∨ u.timing = false) ∧
      (u.plumb.tiuRun = some c.val ∨ u.plumb.tiuRun = none ∧ u.plumb.tiuFlag.isSome = true ∧ c = 0 ∧
      u.plumb.mode ≠ 2 ∧ u.plumb.parity = false) ∧ u.tiuPrecondition e = true) ∧
    (∃ (s u : State) (t : Nat) (c : Fin 17) (e : PlumbConditions), u = s.advance t ∧ u.still = false ∧
      u.tiu.cal = none ∧ u.calFree c = true ∧ (c ≠ 16 ∨ u.timing = false) ∧
      (u.plumb.tiuRun = some c.val ∨ u.plumb.tiuRun = none ∧ u.plumb.tiuFlag.isSome = true ∧ c = 0 ∧
      u.plumb.mode ≠ 2 ∧ u.plumb.parity = false) ∧ u.tiuPrecondition e = false ∧
      (u.plumb.tiuHeld = false ∨ u.plumb.tiuRun.isSome = true)) ∧
    (∃ (s u : State) (t : Nat) (c : Fin 17) (e : PlumbConditions), u = s.advance t ∧ u.still = false ∧
      u.tiu.cal = none ∧ u.calFree c = true ∧ (c ≠ 16 ∨ u.timing = false) ∧
      (u.plumb.tiuRun = some c.val ∨ u.plumb.tiuRun = none ∧ u.plumb.tiuFlag.isSome = true ∧ c = 0 ∧
      u.plumb.mode ≠ 2 ∧ u.plumb.parity = false) ∧ u.tiuPrecondition e = false ∧ u.plumb.tiuHeld = true ∧
      u.plumb.tiuRun = none) ∧
    (∃ (s u : State) (t : Nat) (c : Fin 17) (e : PlumbConditions), u = s.advance t ∧ u.still = false ∧
      u.tiu.cal = some c.val ∧ u.tiuPrecondition e = false) ∧
    (∃ (s u : State) (t : Nat) (c : Fin 17) (e : PlumbConditions), u = s.advance t ∧ u.still = false ∧
      u.tiu.cal = some c.val ∧ u.tiuPrecondition e = true ∧ u.plumb.tiuFirst = none) ∧
    (∃ (s u : State) (t : Nat) (c : Fin 17) (e : PlumbConditions), u = s.advance t ∧ u.still = false ∧
      ∃ (hits : List (Fin 100 × Sparse Nat)), u.tiu.cal = some c.val ∧
      ∃ (one : List (Fin 100 × Sparse Nat)) (ok : Bool), u.tiuPrecondition e = true ∧ u.plumb.tiuFirst = some one ∧
      ok = (calInterps c.val).all (fun i => hitsPass (hitsOf one i) && hitsPass (hitsOf hits i) && tablesAgree
        (hitsOf one i) (hitsOf hits i)) ∧ ok = true) ∧
    (∃ (s u : State) (t : Nat) (c : Fin 17) (e : PlumbConditions), u = s.advance t ∧ u.still = false ∧
      ∃ (hits : List (Fin 100 × Sparse Nat)), u.tiu.cal = some c.val ∧
      ∃ (one : List (Fin 100 × Sparse Nat)) (ok : Bool), u.tiuPrecondition e = true ∧ u.plumb.tiuFirst = some one ∧
      ok = (calInterps c.val).all (fun i => hitsPass (hitsOf one i) && hitsPass (hitsOf hits i) && tablesAgree
        (hitsOf one i) (hitsOf hits i)) ∧ ok = false ∧ u.plumb.tiuRetries < 3) ∧
    (∃ (s u : State) (t : Nat) (c : Fin 17) (e : PlumbConditions), u = s.advance t ∧ u.still = false ∧
      ∃ (hits : List (Fin 100 × Sparse Nat)), u.tiu.cal = some c.val ∧
      ∃ (one : List (Fin 100 × Sparse Nat)) (ok : Bool), u.tiuPrecondition e = true ∧ u.plumb.tiuFirst = some one ∧
      ok = (calInterps c.val).all (fun i => hitsPass (hitsOf one i) && hitsPass (hitsOf hits i) && tablesAgree
        (hitsOf one i) (hitsOf hits i)) ∧ ok = false ∧ 3 ≤ u.plumb.tiuRetries) := by
  refine ⟨⟨st0, _, 0, 0, { vref := 0, temp := 0x28#16, moved := 8 }, rfl, ?_, ?_, ?_, ?_, ?_, ?_⟩,
    ⟨st0, _, 0, 0, { vref := 0, temp := 0x28#16, moved := 9 }, rfl, ?_, ?_, ?_, ?_, ?_, ?_, ?_⟩,
    ⟨st1, _, 0, 0, { vref := 0, temp := 0x28#16, moved := 9 }, rfl, ?_, ?_, ?_, ?_, ?_, ?_, ?_, ?_⟩,
    ⟨st3, _, 0, 1, { vref := 0, temp := 0x28#16, moved := 9 }, rfl, ?_, ?_, ?_⟩,
    ⟨st3, _, 0, 1, { vref := 0, temp := 0x28#16, moved := 8 }, rfl, ?_, ?_, ?_, ?_⟩,
    ⟨{ tu [] with plumb := { tiuFlag := some .temperature, tiuRun := some 16, tiuFirst := some runHits }, tiu := { cal := some 16, slots := [(16, { state := .calibrating })] } }, _, 0, 16, { vref := 0, temp := 40, moved := 8 }, rfl, ?_, runHits, ?_, runHits, _, ?_, ?_, rfl, same_run_passes⟩,
    ⟨st6, _, 0, 16, { vref := 0, temp := 0x28#16, moved := 8 }, rfl, ?_, [], ?_, [], _, ?_, ?_, rfl, ?_, ?_⟩,
    ⟨st5, _, 0, 16, { vref := 0, temp := 0x28#16, moved := 8 }, rfl, ?_, [], ?_, [], _, ?_, ?_, rfl, ?_, ?_⟩⟩ <;>
  decide +kernel

end ForCodeDensityRuns

namespace ForPlumbTriggersAndCommands

def hot_ (l : List (Nat × Core)) (p : Plumb := {}) (c : Channel := { state := .playing, enable := true, act := .gap gapD 0 }) : State :=
  { clk c with
    now := 3000000000000000
    time := { count := 100, at_ := 1, running := true }
    ref := { present := true, mode := .refin }
    cores := l
    plumb := { p with vrefNom := 1000 }
    oda := { sessions := [ses] }
    outs := [(0, { en := true }), (1, { en := true }), (8, { en := true }), (64, { en := true })] }
def run_ (i : Nat) (k : RunKind) (f : Option PlumbResult := none) (r : Nat := 0) : CoreRun :=
  { core := i, kind := k, first := f, handed := false, retries := r }
def st0 : State := hot_ [(0, { amp := some .periodic, tempAtAmp := 10 })]
def st1 : State := hot_ [(0, { failed := true })]
def st2 : State := hot_ [] { run := some (run_ 0 .amp) }
def st4 : State := hot_ [] { tiuRun := some 3, tiuTemp := some 30 }
def st5 : State := hot_ [] { period := 3000, tiuTemp := some 0 }
def st6 : State := hot_ [] { period := 1, tiuTemp := some 100 }
def st8 : State :=
  hot_ [(0, { amp := some .commanded, time := some .periodic })] {} { state := .playing, enable := true, act := .gap gapD 0, reloadK := some 10 }

/-- The hypotheses of each clause of `Obligations.PlumbTriggersAndCommands` hold together. -/
theorem met_PlumbTriggersAndCommands :
    (∃ (s u : State) (t : Nat) (r : Req) (x : Session), u = s.advance t ∧
      ∃ (kinds : BitVec 3) (target : BitVec 8) (i : Nat) (data : Bytes), i = target.toNat ∧
      data = plumbBytes 1 kinds.toNat target ∧ u.Writes r x 0x2800 0x07 data ∧ i < 72 ∧ kinds.toNat < 4 ∧ kinds ≠ 0 ∧
      u.flagAllowed i = true ∧ u.measures i = false) ∧
    (∃ (s u : State) (t : Nat) (r : Req) (x : Session), u = s.advance t ∧
      ∃ (kinds : BitVec 3) (target : BitVec 8) (i : Nat) (data : Bytes), i = target.toNat ∧
      data = plumbBytes 1 kinds.toNat target ∧ u.Writes r x 0x2800 0x07 data ∧ i < 72 ∧ kinds.toNat < 4 ∧ kinds ≠ 0 ∧
      u.flagAllowed i = true ∧ u.measures i = true) ∧
    (∃ (s u : State) (t : Nat) (r : Req) (x : Session), u = s.advance t ∧
      ∃ (kinds : BitVec 3) (target : BitVec 8) (i : Nat) (data : Bytes), i = target.toNat ∧
      data = plumbBytes 1 kinds.toNat target ∧ u.Writes r x 0x2800 0x07 data ∧ i < 72 ∧ kinds.toNat < 4 ∧ kinds ≠ 0 ∧
      u.flagAllowed i = false ∧ (u.core i).failed = false ∧ u.plumb.mode ≠ 2) ∧
    (∃ (s u : State) (t : Nat) (r : Req) (x : Session), u = s.advance t ∧
      ∃ (kinds : BitVec 3) (target : BitVec 8) (i : Nat) (data : Bytes), i = target.toNat ∧
      data = plumbBytes 1 kinds.toNat target ∧ u.Writes r x 0x2800 0x07 data ∧ i = 255 ∧ kinds.toNat < 4 ∧
      kinds ≠ 0 ∧ u.plumb.mode ≠ 2) ∧
    (∃ (s u : State) (t : Nat) (r : Req) (x : Session), u = s.advance t ∧
      ∃ (kinds : BitVec 3) (target : BitVec 8) (i : Nat) (data : Bytes), i = target.toNat ∧
      data = plumbBytes 1 kinds.toNat target ∧ u.Writes r x 0x2800 0x07 data ∧ kinds = 4 ∧ u.plumb.mode ≠ 2 ∧
      u.plumb.parity = false) ∧
    (∃ (s u : State) (t : Nat) (r : Req) (x : Session), u = s.advance t ∧
      ∃ (kinds : BitVec 3) (target : BitVec 8) (i : Nat) (data : Bytes), i = target.toNat ∧
      data = plumbBytes 1 kinds.toNat target ∧ u.Writes r x 0x2800 0x07 data ∧ kinds = 0 ∧ u.plumb.mode ≠ 2) ∧
    (∃ (s u : State) (t : Nat) (r : Req) (x : Session), u = s.advance t ∧
      ∃ (kinds : BitVec 3) (target : BitVec 8) (i : Nat) (data : Bytes), i = target.toNat ∧
      data = plumbBytes 1 kinds.toNat target ∧ u.Writes r x 0x2800 0x07 data ∧ (u.plumb.mode = 2 ∨ i < 72 ∧
      kinds.toNat % 4 ≠ 0 ∧ (u.core i).failed = true)) ∧
    (∃ (s u : State) (t : Nat) (r : Req) (x : Session), u = s.advance t ∧
      ∃ (target : BitVec 8) (i : Nat) (data : Bytes), i = target.toNat ∧ data = plumbBytes 2 0 target ∧
      u.Writes r x 0x2800 0x07 data ∧ i < 72) ∧
    (∃ (s u : State) (t : Nat) (r : Req) (x : Session), u = s.advance t ∧
      ∃ (target : BitVec 8) (i : Nat) (data : Bytes), i = target.toNat ∧ data = plumbBytes 2 0 target ∧
      u.Writes r x 0x2800 0x07 data ∧ i = 255) ∧
    (∃ (s u : State) (t : Nat) (r : Req) (x : Session), u = s.advance t ∧
      ∃ (target : BitVec 8) (i : Nat) (data : Bytes), i = target.toNat ∧ data = plumbBytes 2 0 target ∧
      u.Writes r x 0x2800 0x07 data ∧ 72 ≤ i ∧ i ≠ 255) ∧
    (∃ (s u : State) (t : Nat) (r : Req) (x : Session), u = s.advance t ∧
      u.Writes r x 0x2800 0x07 (plumbBytes 3 0 0) ∧ u.plumb.run = none ∧ u.plumb.tiuRun = none) ∧
    (∃ (s u : State) (t : Nat) (r : Req) (x : Session), u = s.advance t ∧
      u.Writes r x 0x2800 0x07 (plumbBytes 3 0 0) ∧ ∃ v, u.plumb.run = some v ∧ v.core < 72 ∧ u.plumb.tiuRun = none) ∧
    (∃ (s u : State) (t : Nat) (r : Req) (x : Session), u = s.advance t ∧
      u.Writes r x 0x2800 0x07 (plumbBytes 3 0 0) ∧ u.plumb.run = none ∧ u.plumb.tiuRun.isSome = true) ∧
    (∃ (s u : State) (t : Nat) (r : Req) (x : Session), u = s.advance t ∧ ∃ (data : Bytes) (v : Nat),
      u.Writes r x 0x2800 0x01 data ∧ data.length = 1 ∧ v = leNat data ∧ v ≤ 2 ∧
      (u.coreBusy = true ∨ u.plumb.tiuRun.isSome = true ∨ u.plumb.commit.isSome = true)) ∧
    (∃ (s u : State) (t : Nat) (r : Req) (x : Session), u = s.advance t ∧ ∃ (data : Bytes) (v : Nat),
      u.Writes r x 0x2800 0x01 data ∧ data.length = 1 ∧ v = leNat data ∧ v ≤ 2 ∧ u.coreBusy = false ∧
      u.plumb.tiuRun = none ∧ u.plumb.commit = none ∧ v ≠ u.plumb.mode) ∧
    (∃ (y u : State) (n k : Nat), u = y.dueAt n ∧ y.reached n k = true ∧ (y.chan n).reloadK = some k ∧
      (y.chan n).resetK = none ∧ (y.chan n).flushing = none ∧ (y.chan n).disabling = none ∧
      (y.chan n).returning = none ∧ (y.bay (n / 8)).connecting = none ∧ (y.bay (n / 8)).leaving = none) ∧
    (∃ (y u : State) (n k : Nat), u = y.dueAt n ∧ y.reached n k = true ∧ (y.chan n).reloadK = some k ∧
      (y.chan n).resetK = none ∧ (y.chan n).flushing = none ∧ (y.chan n).disabling = none ∧
      (y.chan n).returning = none ∧ (y.bay (n / 8)).connecting = none ∧ (y.bay (n / 8)).leaving = none) ∧
    (∃ (s u : State) (t : Nat), u = s.advance t ∧ u.still = false ∧ u.plumb.mode = 0 ∧ ∃ (i : Fin 72),
      u.flagAllowed i = true ∧ u.measures i = false) ∧
    (∃ (s u : State) (t : Nat), u = s.advance t ∧ u.still = false ∧ u.plumb.mode = 0 ∧ ∃ (last : BitVec 16),
      u.plumb.tiuTemp = some last ∧ u.plumb.parity = false) ∧
    (∃ (s u : State) (t : Nat), u = s.advance t ∧ u.still = false ∧ u.plumb.mode = 0 ∧ u.plumb.period ≠ 0 ∧
      u.plumb.periodAt + u.plumb.period * secFs ≤ u.now ∧ u.plumb.parity = false) ∧
    (∃ (s u : State) (t : Nat), u = s.advance t ∧ u.still = false ∧ u.plumb.mode = 0 ∧
      (u.plumb.period = 0 ∨ u.now < u.plumb.periodAt + u.plumb.period * secFs)) := by
  refine ⟨⟨st0, _, 0, ask, ses, rfl, 0x1#3, 0x0#8, _, _, rfl, rfl, ?_, ?_, ?_, ?_, ?_, ?_⟩,
    ⟨st2, _, 0, ask, ses, rfl, 0x1#3, 0x0#8, _, _, rfl, rfl, ?_, ?_, ?_, ?_, ?_, ?_⟩,
    ⟨st0, _, 0, ask, ses, rfl, 0x1#3, 0x47#8, _, _, rfl, rfl, ?_, ?_, ?_, ?_, ?_, ?_, ?_⟩,
    ⟨st0, _, 0, ask, ses, rfl, 0x1#3, 0xff#8, _, _, rfl, rfl, ?_, ?_, ?_, ?_, ?_⟩,
    ⟨st0, _, 0, ask, ses, rfl, 0x4#3, 0x0#8, _, _, rfl, rfl, ?_, ?_, ?_, ?_⟩,
    ⟨st0, _, 0, ask, ses, rfl, 0x0#3, 0x0#8, _, _, rfl, rfl, ?_, ?_, ?_⟩,
    ⟨st1, _, 0, ask, ses, rfl, 0x1#3, 0x0#8, _, _, rfl, rfl, ?_, ?_⟩,
    ⟨st0, _, 0, ask, ses, rfl, 0x0#8, _, _, rfl, rfl, ?_, ?_⟩,
    ⟨st0, _, 0, ask, ses, rfl, 0xff#8, _, _, rfl, rfl, ?_, ?_⟩,
    ⟨st0, _, 0, ask, ses, rfl, 0x48#8, _, _, rfl, rfl, ?_, ?_, ?_⟩, ⟨st0, _, 0, ask, ses, rfl, ?_, ?_, ?_⟩,
    ⟨st2, _, 0, ask, ses, rfl, ?_, { core := 0, kind := RunKind.amp, first := none, handed := false, retries := 0 },
      ?_, ?_, ?_⟩, ⟨st4, _, 0, ask, ses, rfl, ?_, ?_, ?_⟩,
    ⟨st2, _, 0, ask, ses, rfl, [0x0#8], _, ?_, ?_, rfl, ?_, ?_⟩,
    ⟨st0, _, 0, ask, ses, rfl, [0x1#8], _, ?_, ?_, rfl, ?_, ?_, ?_, ?_, ?_⟩,
    ⟨st8, _, 0, 10, rfl, ?_, ?_, ?_, ?_, ?_, ?_, ?_, ?_⟩, ⟨st8, _, 0, 10, rfl, ?_, ?_, ?_, ?_, ?_, ?_, ?_, ?_⟩,
    ⟨st0, _, 0, rfl, ?_, ?_, 0, ?_, ?_⟩, ⟨st5, _, 0, rfl, ?_, ?_, 0x0#16, ?_, ?_⟩,
    ⟨st6, _, 0, rfl, ?_, ?_, ?_, ?_, ?_⟩, ⟨st0, _, 0, rfl, ?_, ?_, ?_⟩⟩ <;>
  first
  | decide +kernel
  | exact noFiring (by decide +kernel)
  | exact noHead (by decide +kernel)
  | constructor <;> first | decide +kernel | (constructor <;> decide +kernel)

end ForPlumbTriggersAndCommands

namespace ForPlumbRuns

def hot_ (l : List (Nat × Core)) (p : Plumb := {}) (c : Channel := { state := .playing, enable := true, act := .gap gapD 0 }) : State :=
  { clk c with
    now := 3000000000000000
    time := { count := 100, at_ := 1, running := true }
    ref := { present := true, mode := .refin }
    cores := l
    plumb := { p with vrefNom := 1000 }
    oda := { sessions := [ses] }
    outs := [(0, { en := true }), (1, { en := true }), (8, { en := true }), (64, { en := true })] }
def run_ (i : Nat) (k : RunKind) (f : Option PlumbResult := none) (r : Nat := 0) : CoreRun :=
  { core := i, kind := k, first := f, handed := false, retries := r }
def hot2 (l : List (Nat × Core)) (p : Plumb := {}) (c : Channel := { state := .playing, enable := true, act := .gap gapD 0 }) : State :=
  { hot_ l p c with now := 2000000000 }
def am (g : Int) : PlumbResult := .amp (List.replicate 63 5) g 7
def st0 : State := hot2 [(0, { amp := some .periodic })]
def st3 : State := hot2 [(8, { time := some .periodic })] {} { state := .off }
def st5 : State := hot2 [(64, { amp := some .periodic })] {} { state := .off }
def st6 : State := hot2 []
def st7 : State :=
  { hot2 [(0, { amp := some .commanded })] { run := some (run_ 0 .amp) } with outs := [(0, { en := true })] }
def st8 : State := hot2 [(0, { amp := some .commanded })] { run := some (run_ 0 .amp (some (am 3))) }
def st9 : State := hot2 [(0, { amp := some .commanded })] { run := some (run_ 0 .amp (some (am 2047))) }
def st11 : State := hot2 [(0, { time := some .commanded })] { run := some (run_ 0 .time (some (.time 500))) }
def st12 : State := hot2 [(0, { time := some .temperature })] { run := some (run_ 0 .time (some (.time 500)) 3) }
def st15 : State := { hot2 [(0, { amp := some .temperature })] {} { state := .held, enable := true } with bays := [] }

/-- The hypotheses of each clause of `Obligations.PlumbRuns` hold together. -/
theorem met_PlumbRuns :
    (∃ (s u : State) (t : Nat) (e : PlumbConditions), u = s.advance t ∧ u.still = false ∧
      (u.coreBusy = true ∨ u.plumb.mode = 2 ∨ u.plumb.parity = true ∨ u.nextCore (u.passesOver e) = none)) ∧
    (∃ (s u : State) (t : Nat) (e : PlumbConditions), u = s.advance t ∧ u.still = false ∧
      ∃ (i : Nat) (k : RunKind) (vref : Nat), u.coreBusy = false ∧ u.plumb.mode ≠ 2 ∧ u.plumb.parity = false ∧
      u.nextCore (u.passesOver e) = some i ∧ k = (u.core i).nextRun ∧ (k = .amp ∨ u.calStep = false) ∧
      vref = (if k = .amp then e.vref else u.plumb.vrefMeas) ∧ ∃ reason, ((u.core i).failed = true ∧
      reason = 0x09 ∨ (u.core i).failed = false ∧ u.precondition i k e = some reason)) ∧
    (∃ (s u : State) (t : Nat) (e : PlumbConditions), u = s.advance t ∧ u.still = false ∧
      ∃ (i : Nat) (k : RunKind) (vref : Nat), u.coreBusy = false ∧ u.plumb.mode ≠ 2 ∧ u.plumb.parity = false ∧
      u.nextCore (u.passesOver e) = some i ∧ k = (u.core i).nextRun ∧ (k = .amp ∨ u.calStep = false) ∧
      vref = (if k = .amp then e.vref else u.plumb.vrefMeas) ∧ (u.core i).failed = false ∧
      u.precondition i k e = none ∧ i < 64 ∧ (u.chan i).state = .off ∧ (u.chan i).enable = false) ∧
    (∃ (s u : State) (t : Nat) (e : PlumbConditions), u = s.advance t ∧ u.still = false ∧
      ∃ (i : Nat) (k : RunKind) (vref : Nat), u.coreBusy = false ∧ u.plumb.mode ≠ 2 ∧ u.plumb.parity = false ∧
      u.nextCore (u.passesOver e) = some i ∧ k = (u.core i).nextRun ∧ (k = .amp ∨ u.calStep = false) ∧
      vref = (if k = .amp then e.vref else u.plumb.vrefMeas) ∧ (u.core i).failed = false ∧
      u.precondition i k e = none ∧ 64 ≤ i) ∧
    (∃ (s u : State) (t : Nat) (e : PlumbConditions), u = s.advance t ∧ u.still = false ∧
      ∃ (i : Nat) (k : RunKind) (vref : Nat), u.coreBusy = false ∧ u.plumb.mode ≠ 2 ∧ u.plumb.parity = false ∧
      u.nextCore (u.passesOver e) = some i ∧ k = (u.core i).nextRun ∧ (k = .amp ∨ u.calStep = false) ∧
      vref = (if k = .amp then e.vref else u.plumb.vrefMeas) ∧ (u.core i).failed = false ∧
      u.precondition i k e = none ∧ i < 64 ∧ (¬((u.chan i).state = .off ∧ (u.chan i).enable = false)) ∧
      u.canHandOver i = true) ∧
    (∃ (s u : State) (t : Nat) (e : PlumbConditions), u = s.advance t ∧ u.still = false ∧
      ∃ (i : Nat) (k : RunKind) (vref : Nat), u.coreBusy = false ∧ u.plumb.mode ≠ 2 ∧ u.plumb.parity = false ∧
      u.nextCore (u.passesOver e) = some i ∧ k = (u.core i).nextRun ∧ (k = .amp ∨ u.calStep = false) ∧
      vref = (if k = .amp then e.vref else u.plumb.vrefMeas) ∧ (u.core i).failed = false ∧
      u.precondition i k e = none ∧ i < 64 ∧ (¬((u.chan i).state = .off ∧ (u.chan i).enable = false)) ∧
      u.canHandOver i = false) ∧
    (∃ (s u : State) (t : Nat) (e : PlumbConditions) (m : PlumbResult) (v : CoreRun) (c : Core) (vref : Nat),
      u = s.advance t ∧ u.still = false ∧ u.plumb.run = some v ∧ c = u.core v.core ∧ v.core < 72 ∧
      (v.handed = false ∨ (u.bay (v.core / 8)).phase = .cover ∧ (u.bay (v.core / 8)).channel = v.core) ∧
      resultFits m v.kind = true ∧ (v.kind = .amp ∨ u.calStep = false) ∧
      vref = (if v.kind = .amp then e.vref else u.plumb.vrefMeas) ∧ ∃ reason,
      u.precondition v.core v.kind e = some reason) ∧
    (∃ (s u : State) (t : Nat) (e : PlumbConditions) (m : PlumbResult) (v : CoreRun) (c : Core) (vref : Nat),
      u = s.advance t ∧ u.still = false ∧ u.plumb.run = some v ∧ c = u.core v.core ∧ v.core < 72 ∧
      (v.handed = false ∨ (u.bay (v.core / 8)).phase = .cover ∧ (u.bay (v.core / 8)).channel = v.core) ∧
      resultFits m v.kind = true ∧ (v.kind = .amp ∨ u.calStep = false) ∧
      vref = (if v.kind = .amp then e.vref else u.plumb.vrefMeas) ∧ u.precondition v.core v.kind e = none ∧
      v.first = none) ∧
    (∃ (s u : State) (t : Nat) (e : PlumbConditions) (m : PlumbResult) (v : CoreRun) (c : Core) (vref : Nat),
      u = s.advance t ∧ u.still = false ∧ u.plumb.run = some v ∧ c = u.core v.core ∧ v.core < 72 ∧
      (v.handed = false ∨ (u.bay (v.core / 8)).phase = .cover ∧ (u.bay (v.core / 8)).channel = v.core) ∧
      resultFits m v.kind = true ∧ (v.kind = .amp ∨ u.calStep = false) ∧
      vref = (if v.kind = .amp then e.vref else u.plumb.vrefMeas) ∧ u.precondition v.core v.kind e = none ∧ ∃ m1,
      v.first = some m1 ∧ ∃ cells g o, v.kind = .amp ∧ m = .amp cells g o ∧ resultsAgree m1 m = true ∧
      c.failed = false ∧ (∀ x ∈ cells, 0 ≤ x ∧ x ≤ 255) ∧ -2048 ≤ g ∧ g ≤ 2047 ∧ -2048 ≤ o ∧ o ≤ 2047) ∧
    (∃ (s u : State) (t : Nat) (e : PlumbConditions) (m : PlumbResult) (v : CoreRun) (c : Core) (vref : Nat),
      u = s.advance t ∧ u.still = false ∧ u.plumb.run = some v ∧ c = u.core v.core ∧ v.core < 72 ∧
      (v.handed = false ∨ (u.bay (v.core / 8)).phase = .cover ∧ (u.bay (v.core / 8)).channel = v.core) ∧
      resultFits m v.kind = true ∧ (v.kind = .amp ∨ u.calStep = false) ∧
      vref = (if v.kind = .amp then e.vref else u.plumb.vrefMeas) ∧ u.precondition v.core v.kind e = none ∧ ∃ m1,
      v.first = some m1 ∧ ∃ cells g o, v.kind = .amp ∧ m = .amp cells g o ∧ resultsAgree m1 m = true ∧
      c.failed = false ∧ (g < -2048 ∨ 2047 < g)) ∧
    (∃ (s u : State) (t : Nat) (e : PlumbConditions) (m : PlumbResult) (v : CoreRun) (c : Core) (vref : Nat),
      u = s.advance t ∧ u.still = false ∧ u.plumb.run = some v ∧ c = u.core v.core ∧ v.core < 72 ∧
      (v.handed = false ∨ (u.bay (v.core / 8)).phase = .cover ∧ (u.bay (v.core / 8)).channel = v.core) ∧
      resultFits m v.kind = true ∧ (v.kind = .amp ∨ u.calStep = false) ∧
      vref = (if v.kind = .amp then e.vref else u.plumb.vrefMeas) ∧ u.precondition v.core v.kind e = none ∧ ∃ m1,
      v.first = some m1 ∧ ∃ (pad fine : Int) (ok : Bool), v.kind = .time ∧ m = .time pad ∧ resultsAgree m1 m = true ∧
      fine = u.fineFrom v.core (u.runError v.core pad) ∧ ok = (decide (-8388608 ≤ fine ∧
      fine < 8388608) && (u.modCore v.core fun c => { c with trims := { c.trims with fine := fine } }).delayOk v.core (u.output v.core).div (u.output v.core).coarse (u.output v.core).fine)) ∧
    (∃ (s u : State) (t : Nat) (e : PlumbConditions) (m : PlumbResult) (v : CoreRun) (c : Core) (vref : Nat),
      u = s.advance t ∧ u.still = false ∧ u.plumb.run = some v ∧ c = u.core v.core ∧ v.core < 72 ∧
      (v.handed = false ∨ (u.bay (v.core / 8)).phase = .cover ∧ (u.bay (v.core / 8)).channel = v.core) ∧
      resultFits m v.kind = true ∧ (v.kind = .amp ∨ u.calStep = false) ∧
      vref = (if v.kind = .amp then e.vref else u.plumb.vrefMeas) ∧ u.precondition v.core v.kind e = none ∧ ∃ m1,
      v.first = some m1 ∧ resultsAgree m1 m = false ∧ v.retries < 3) ∧
    (∃ (s u : State) (t : Nat) (e : PlumbConditions) (m : PlumbResult) (v : CoreRun) (c : Core) (vref : Nat),
      u = s.advance t ∧ u.still = false ∧ u.plumb.run = some v ∧ c = u.core v.core ∧ v.core < 72 ∧
      (v.handed = false ∨ (u.bay (v.core / 8)).phase = .cover ∧ (u.bay (v.core / 8)).channel = v.core) ∧
      resultFits m v.kind = true ∧ (v.kind = .amp ∨ u.calStep = false) ∧
      vref = (if v.kind = .amp then e.vref else u.plumb.vrefMeas) ∧ u.precondition v.core v.kind e = none ∧ ∃ m1,
      v.first = some m1 ∧ resultsAgree m1 m = false ∧ 3 ≤ v.retries) := by
  refine ⟨⟨st6, _, 0, { vref := 1000, temp := 0x28#16, moved := 8 }, rfl, ?_, ?_⟩,
    ⟨st0, _, 0, { vref := 1000, temp := 0x28#16, moved := 9 }, rfl, ?_, 0, _, _, ?_, ?_, ?_, ?_, rfl, ?_, rfl, 5, ?_⟩,
    ⟨st3, _, 0, { vref := 1000, temp := 0x28#16, moved := 8 }, rfl, ?_, 8, _, _, ?_, ?_, ?_, ?_, rfl, ?_, rfl, ?_,
      ?_, ?_, ?_, ?_⟩,
    ⟨st5, _, 0, { vref := 1000, temp := 0x28#16, moved := 8 }, rfl, ?_, 64, _, _, ?_, ?_, ?_, ?_, rfl, ?_, rfl, ?_,
      ?_, ?_⟩,
    ⟨st0, _, 0, { vref := 1000, temp := 0x28#16, moved := 8 }, rfl, ?_, 0, _, _, ?_, ?_, ?_, ?_, rfl, ?_, rfl, ?_,
      ?_, ?_, ?_, ?_⟩,
    ⟨st15, _, 0, { vref := 1000, temp := 0x28#16, moved := 8 }, rfl, ?_, 0, _, _, ?_, ?_, ?_, ?_, rfl, ?_, rfl, ?_,
      ?_, ?_, ?_, ?_⟩,
    ⟨st7, _, 0, { vref := 1000, temp := 0x28#16, moved := 9 }, PlumbResult.amp (List.replicate 63 5) 3 7,
      { core := 0, kind := RunKind.amp, first := none, handed := false, retries := 0 }, _, _, rfl, ?_, ?_, rfl, ?_,
      ?_, ?_, ?_, rfl, 5, ?_⟩,
    ⟨st7, _, 0, { vref := 1000, temp := 0x28#16, moved := 8 }, PlumbResult.amp (List.replicate 63 5) 3 7,
      { core := 0, kind := RunKind.amp, first := none, handed := false, retries := 0 }, _, _, rfl, ?_, ?_, rfl, ?_,
      ?_, ?_, ?_, rfl, ?_, ?_⟩,
    ⟨st8, _, 0, { vref := 1000, temp := 0x28#16, moved := 8 }, PlumbResult.amp (List.replicate 63 5) 3 7,
      { core := 0, kind := RunKind.amp, first := some (PlumbResult.amp (List.replicate 63 5) 3 7), handed := false, retries := 0 }, _, _, rfl, ?_, ?_, rfl, ?_, ?_, ?_, ?_, rfl, ?_, PlumbResult.amp (List.replicate 63 5) 3 7, ?_, (List.replicate 63 5), 3, 7, ?_, ?_, ?_, ?_, ?_, ?_, ?_, ?_, ?_⟩,
    ⟨st9, _, 0, { vref := 1000, temp := 0x28#16, moved := 8 }, PlumbResult.amp (List.replicate 63 5) 2048 7,
      { core := 0, kind := RunKind.amp, first := some (PlumbResult.amp (List.replicate 63 5) 2047 7), handed := false, retries := 0 }, _, _, rfl, ?_, ?_, rfl, ?_, ?_, ?_, ?_, rfl, ?_, PlumbResult.amp (List.replicate 63 5) 2047 7, ?_, (List.replicate 63 5), 2048, 7, ?_, ?_, ?_, ?_, ?_⟩,
    ⟨st11, _, 0, { vref := 1000, temp := 0x28#16, moved := 8 }, PlumbResult.time 500,
      { core := 0, kind := RunKind.time, first := some (PlumbResult.time 500), handed := false, retries := 0 }, _, _,
      rfl, ?_, ?_, rfl, ?_, ?_, ?_, ?_, rfl, ?_, PlumbResult.time 500, ?_, 500, _, _, ?_, ?_, ?_, rfl, rfl⟩,
    ⟨st8, _, 0, { vref := 1000, temp := 0x28#16, moved := 8 }, PlumbResult.amp (List.replicate 63 5) 2047 7,
      { core := 0, kind := RunKind.amp, first := some (PlumbResult.amp (List.replicate 63 5) 3 7), handed := false, retries := 0 }, _, _, rfl, ?_, ?_, rfl, ?_, ?_, ?_, ?_, rfl, ?_, PlumbResult.amp (List.replicate 63 5) 3 7, ?_, ?_, ?_⟩,
    ⟨st12, _, 0, { vref := 1000, temp := 0x28#16, moved := 8 }, PlumbResult.time 20000000000,
      { core := 0, kind := RunKind.time, first := some (PlumbResult.time 500), handed := false, retries := 3 }, _, _,
      rfl, ?_, ?_, rfl, ?_, ?_, ?_, ?_, rfl, ?_, PlumbResult.time 500, ?_, ?_, ?_⟩⟩ <;>
  decide +kernel

end ForPlumbRuns

namespace ForYearbookCommits

theorem program_within (s : State) : s.ybProgramAt ≤ s.plumb.commitAt.1 + 32 * msFs :=
  Nat.add_le_add_left (Nat.le_of_lt (Nat.mod_lt _ (by decide))) _
theorem seal_within (s : State) : s.ybSealAt ≤ s.plumb.commitAt.1 + 40 * msFs := by
  have := program_within s
  have := Nat.mod_lt (Config.freeValue s.plumb.commitAt.2 96).toNat (show 160 * usFs > 0 by decide)
  simp only [State.ybSealAt, ybWordsMax, ybWordFs, msFs, usFs] at *
  omega
theorem seal_after (s : State) : s.plumb.commitAt.1 + ybWordFs ≤ s.ybSealAt := by
  simp only [State.ybSealAt, State.ybProgramAt, ybWordsMax, ybWordFs]
  omega
def yb0 : YbRecord :=
  { sealed := false, type := 1, seq := 1, utc := 0, failedCores := 0, tempMean := 0, vrefNom := 0, refFreq := 10000000, trims := [], bandsM := [], bandsA := [], tiu := [], intact := true, words := 981 }
def st0 : State := { ready with plumb := {} }
def st1 : State := { ready with now := 5000000000000000, plumb := { holdupAt := some 0 } }
def st2 : State := { ready with plumb := { holdupOk := true } }
def st4 : State := { ready with plumb := { holdupOk := true, commit := some (3, yb0), commitAt := (0, 0) } }

/-- The hypotheses of each clause of `Obligations.YearbookCommits` hold together. -/
theorem met_YearbookCommits :
    (∃ (s u : State) (t : Nat) (r : Req) (x : Session), u = s.advance t ∧ u.Writes r x 0x2800 0x18 [1] ∧
      u.plumb.mode ≠ 2 ∧ u.plumb.commit = none ∧ u.ybFree ≠ 0 ∧ u.plumb.holdupOk = true) ∧
    (∃ (s u : State) (t : Nat) (r : Req) (x : Session), u = s.advance t ∧ u.Writes r x 0x2800 0x18 [1] ∧ ∃ code,
      (u.plumb.mode = 2 ∧ code = Abort.wrongState.code ∨ u.plumb.mode ≠ 2 ∧ u.plumb.commit.isSome = true ∧
      code = Abort.blockRunning.code ∨ u.plumb.mode ≠ 2 ∧ u.plumb.commit = none ∧ u.ybFree = 0 ∧
      code = Abort.yearbookFull.code ∨ u.plumb.mode ≠ 2 ∧ u.plumb.commit = none ∧ u.ybFree ≠ 0 ∧
      u.plumb.holdupOk = false ∧ code = Abort.fuseHoldup.code)) ∧
    (∃ (s u : State) (t k : Nat) (v : YbRecord), u = s.advance t ∧ u.plumb.commit = some (k, v) ∧
      u.ybSealAt ≤ u.now ∧ u.plumb.utcAt ≠ some u.moment) ∧
    (∃ (s u : State) (t k : Nat) (v : YbRecord), u = s.advance t ∧ u.plumb.commit = some (k, v) ∧
      u.ybProgramAt + ybWordFs ≤ u.now) ∧
    (∃ (s u : State) (t k : Nat) (v : YbRecord), u = s.advance t ∧ u.plumb.commit = some (k, v) ∧
      u.now < u.ybProgramAt + ybWordFs) ∧
    (∃ (s u : State) (t k : Nat) (v : YbRecord), u = s.advance t ∧ u.plumb.commit = some (k, v) ∧ u.now < u.ybSealAt) ∧
    (∃ (s u : State) (t k : Nat) (v : YbRecord), u = s.advance t ∧ u.plumb.commit = some (k, v)) ∧
    (∃ (s u : State) (t : Nat), u = s.advance t ∧ u.held = false ∧ u.plumb.holdupDue = none ∧
      (∀ z ∈ u.plumb.holdupAt, z + 10 * secFs ≤ u.now) ∧ u.programming = false) ∧
    (∃ (s u : State) (t : Nat), u = s.advance t ∧ u.held = false ∧ u.plumb.holdupDue = none ∧
      (∀ z ∈ u.plumb.holdupAt, z + 10 * secFs ≤ u.now) ∧ u.programming = true) ∧
    (∃ (s u : State) (t : Nat), u = s.advance t ∧ ∃ z, u.plumb.holdupAt = some z ∧ u.now < z + 10 * secFs) := by
  refine ⟨⟨st2, _, 0, ask, ses, rfl, ?_, ?_, ?_, ?_, ?_⟩, ⟨st0, _, 0, ask, ses, rfl, ?_, 50331657, ?_⟩,
    ⟨{ ready with now := 40 * msFs, plumb := { commit := some (3, yb0), commitAt := (0, 0) } }, _, 0, 3, yb0, rfl,
      ?_, (seal_within _).trans (by decide +kernel), ?_⟩,
    ⟨{ ready with now := 40 * msFs, plumb := { commit := some (3, yb0), commitAt := (0, 0) } }, _, 0, 3, yb0, rfl,
      ?_, (Nat.add_le_add_right (program_within _) _).trans (by decide +kernel)⟩,
    ⟨{ ready with plumb := { commit := some (3, yb0), commitAt := (0, 0) } }, _, 0, 3, yb0, rfl, ?_,
      Nat.lt_of_lt_of_le (by decide +kernel : _ < ybWordFs) (Nat.le_add_left _ _)⟩,
    ⟨{ ready with plumb := { commit := some (3, yb0), commitAt := (0, 0) } }, _, 0, 3, yb0, rfl, ?_,
      Nat.lt_of_lt_of_le (by decide +kernel) (seal_after _)⟩, ⟨st4, _, 0, 3, yb0, rfl, ?_⟩,
    ⟨st0, _, 0, rfl, ?_, ?_, ?_, ?_⟩, ⟨{ ready with sec := { advancing := true } }, _, 0, rfl, ?_, ?_, ?_, ?_⟩,
    ⟨st1, _, 0, rfl, 0, ?_, ?_⟩⟩ <;>
  first
  | decide +kernel
  | exact noFiring (by decide +kernel)
  | exact noHead (by decide +kernel)
  | constructor <;> first | decide +kernel | (constructor <;> decide +kernel)

end ForYearbookCommits

end Sys2Proof.Tests
end

section
/-! SUPPORT. What segment memory holds and reads after a write (02_segment_memory.md, R26, R40, R42): O15. -/

namespace Sys2Proof.Machine

/-! ## Numbers and bytes (R9) -/

theorem leNat_leBytes (n : Nat) : ∀ v, v < 256 ^ n → leNat (leBytes n v) = v := by
  induction n with
  | zero => intro v h; simp at h; simp [leBytes, leNat, h]
  | succ m ih =>
    intro v h
    rw [leBytes, leNat, ih (v / 256) (Nat.div_lt_of_lt_mul (by rw [pow_succ] at h; omega)), BitVec.toNat_ofNat]
    exact Nat.mod_add_div v 256

/-! ## Words after a write (R26, R40, R42) -/

/-- Reads that succeed one by one succeed together. -/
theorem mapM_eq_some_map {α β : Type} (f : α → Option β) (g : α → β) (xs : List α) (h : ∀ x ∈ xs, f x = some (g x)) :
    xs.mapM f = some (xs.map g) := by
  induction xs with
  | nil => rfl
  | cons x r ih =>
    rw [List.mapM_cons, h x List.mem_cons_self, ih fun y hy => h y (List.mem_cons_of_mem x hy)]
    rfl

theorem mapM_option_congr {α β : Type} (f g : α → Option β) (xs : List α) (h : ∀ x ∈ xs, f x = g x) :
    xs.mapM f = xs.mapM g := by
  induction xs with
  | nil => rfl
  | cons x r ih =>
    rw [List.mapM_cons, List.mapM_cons, h x List.mem_cons_self, ih fun y hy => h y (List.mem_cons_of_mem x hy)]

/-- The word of eight bytes written at `a`. -/
theorem SegMem.word?_write_same (m : SegMem) (a : Nat) {bs : Bytes} (hl : bs.length = 8) : (m.write a bs).word? a = some bs := by
  have hcell : ∀ i ∈ List.range 8, cellAt (m.write a bs).bytes (a + i) = some (bs.getD i 0) := fun i hi => by
    have hi' : i < bs.length := hl ▸ List.mem_range.mp hi
    show cellAt (cellPuts m.bytes a bs) (a + i) = _
    rw [cellAt_cellPuts, if_pos (by omega), Nat.add_sub_cancel_left, List.getD_eq_getElem?_getD,
      List.getElem?_eq_getElem hi']
    rfl
  refine (mapM_eq_some_map _ _ _ hcell).trans (congrArg some (List.ext_getElem (by simp [hl]) fun i h1 h2 => ?_))
  simp [List.getD_eq_getElem?_getD, List.getElem?_eq_getElem h2]

/-- A write leaves the words beside it. -/
theorem SegMem.word?_write_apart (m : SegMem) {a w : Nat} {bs : Bytes} (h : w + 8 ≤ a ∨ a + bs.length ≤ w) :
    (m.write a bs).word? w = m.word? w :=
  mapM_option_congr _ _ _ fun i hi => by
    have hi' := List.mem_range.mp hi
    show cellAt (cellPuts m.bytes a bs) (w + i) = _
    rw [cellAt_cellPuts, if_neg (by omega)]

/-- A write ends the error marks of the words that it meets and leaves the others (R42). -/
theorem contains_unmarked (xs : List Nat) (a n w : Nat) :
    (xs.filter fun x => decide (x + 8 ≤ a ∨ a + n ≤ x)).contains w = (xs.contains w && decide (w + 8 ≤ a ∨ a + n ≤ w)) := by
  rw [Bool.eq_iff_iff]
  simp [List.mem_filter]

/-- The word of eight bytes written reads as these bytes, without an error. -/
theorem SegMem.readWord_write_same (m : SegMem) (draw reader a : Nat) {bs : Bytes} (hl : bs.length = 8) :
    (m.write a bs).readWord draw reader a = .data (BitVec.ofNat 64 (leNat bs)) := by
  have hmark : ∀ xs : List Nat, (xs.filter fun x => decide (x + 8 ≤ a ∨ a + bs.length ≤ x)).contains a = false := fun xs => by
    rw [contains_unmarked, decide_eq_false (by omega), Bool.and_false]
  have hue : (m.write a bs).ue.contains a = false := hmark m.ue
  have hce : (m.write a bs).ce.contains a = false := hmark m.ce
  unfold SegMem.readWord
  rw [hue, m.word?_write_same a hl, hce]
  rfl

/-- A word beside a write reads as before it. -/
theorem SegMem.readWord_write_apart (m : SegMem) {a w : Nat} {bs : Bytes} (draw reader : Nat)
    (h : w + 8 ≤ a ∨ a + bs.length ≤ w) : (m.write a bs).readWord draw reader w = m.readWord draw reader w := by
  have hmark : ∀ xs : List Nat, (xs.filter fun x => decide (x + 8 ≤ a ∨ a + bs.length ≤ x)).contains w = xs.contains w :=
    fun xs => by rw [contains_unmarked, decide_eq_true h, Bool.and_true]
  have hue : (m.write a bs).ue.contains w = m.ue.contains w := hmark m.ue
  have hce : (m.write a bs).ce.contains w = m.ce.contains w := hmark m.ce
  unfold SegMem.readWord
  rw [hue, m.word?_write_apart h, hce]

end Sys2Proof.Machine

namespace Sys2Proof.Machine

/-- Settles O15: bytes by `cellAt_cellPuts`, words by those of the write and those beside it. -/
theorem segmentMemoryWrites : Obligations.SegmentMemoryWrites := by
  unfold Obligations.SegmentMemoryWrites
  intro m a bs
  refine ⟨m.wf_write a bs, cellAt_cellPuts bs m.bytes a, fun draw reader v hb hv => ?_,
    fun w draw reader h => m.readWord_write_apart draw reader h⟩
  have hl : bs.length = 8 := hb ▸ leBytes_length 8 v
  have hn : leNat bs = v := hb ▸ leNat_leBytes 8 v hv
  rw [m.readWord_write_same draw reader a hl, hn]

end Sys2Proof.Machine
end

section
/-! SUPPORT. What a command leaves alone, what a write of segment memory leaves alone, and the patrol scrubber (R43): O21. -/

namespace Sys2Proof.Machine

/-! ## The end of a command -/

/-- What a command's end sets is what `graft` puts back. -/
@[simp] theorem State.graft_close (u x : State) (q : List Instr) : u.graft (x.close q) = u.graft x := by
  obtain ⟨d, hd⟩ := x.close_eq q
  rw [hd]; rfl

/-- The end of a command leaves ALERT_STATUS. -/
@[simp] theorem State.close_alert (s : State) (q : List Instr) : (s.close q).sys.alert = s.sys.alert := by
  have h := congrArg Sys.alert (s.close_sys q)
  exact h

/-! ## Corrected errors only count up (R40) -/

theorem State.forAll_le {α : Type} (P : State → Nat) (f : State → α → State) (h : ∀ (s : State) (a : α), P s ≤ P (f s a))
    (xs : List α) : ∀ s : State, P s ≤ P (s.forAll xs f) := by
  induction xs with
  | nil => intro s; exact Nat.le_refl _
  | cons a r ih => intro s; exact (h s a).trans (ih (f s a))

theorem State.ceCount_le_render (s : State) (n k : Nat) : s.mem.ceCount ≤ (s.render n k).mem.ceCount := by
  unfold State.render
  split
  next c ce ue _ =>
  extract_lets s1
  have h : s.mem.ceCount ≤ s1.mem.ceCount := Nat.le_add_right _ _
  split <;> exact h

theorem State.ceCount_le_takeSettings (n k : Nat) (xs : List (Nat × SettingValue)) :
    ∀ s : State, s.mem.ceCount ≤ (s.takeSettings n k xs).mem.ceCount := by
  induction xs with
  | nil => intro s; exact Nat.le_refl _
  | cons p r ih =>
    obtain ⟨x, v⟩ := p
    intro s
    simp only [State.takeSettings]
    split
    · exact (s.ceCount_le_render n _).trans (ih ((s.render n _).modChan n _))
    · exact Nat.le_refl _

theorem State.ceCount_le_settle (s : State) (n k : Nat) : s.mem.ceCount ≤ (s.settle n k).mem.ceCount := by
  unfold State.settle
  extract_lets s1
  have h1 : s.mem.ceCount ≤ s1.mem.ceCount := by
    unfold s1
    split
    · exact Nat.le_refl _
    · exact State.ceCount_le_takeSettings n k _ s
  exact h1.trans (s1.ceCount_le_render n k)

theorem State.ceCount_le_syncGo (n k fuel : Nat) : ∀ s : State, s.mem.ceCount ≤ (s.syncGo fuel n k).mem.ceCount := by
  induction fuel with
  | zero => intro s; exact s.ceCount_le_settle n k
  | succ m ih =>
    intro s
    have h (k' : Nat) (f : Channel → Channel) :
        s.mem.ceCount ≤ (State.syncGo m ((s.settle n k').modChan n f) n k).mem.ceCount :=
      (s.ceCount_le_settle n k').trans (ih ((s.settle n k').modChan n f))
    simp only [State.syncGo]
    split
    · exact s.ceCount_le_settle n k
    · exact h _ _
    · exact h _ _
    · split <;> exact h _ _

theorem State.ceCount_le_catchUp (s : State) (n : Nat) : s.mem.ceCount ≤ (s.catchUp n).mem.ceCount := by
  unfold State.catchUp
  split
  · exact State.ceCount_le_syncGo n _ _ s
  · exact Nat.le_refl _

theorem State.ceCount_le_writeMem (s : State) (a : Nat) (bs : Bytes) : s.mem.ceCount ≤ (s.writeMem a bs).mem.ceCount := by
  have hold : s.mem.ceCount ≤ (s.holdFetched a bs.length).mem.ceCount := by
    unfold State.holdFetched
    extract_lets s1 xs
    have hs1 : s.mem.ceCount ≤ s1.mem.ceCount := State.forAll_le (fun s => s.mem.ceCount) _ State.ceCount_le_catchUp _ s
    refine hs1.trans (State.forAll_le (fun s => s.mem.ceCount) (fun s n => s.modChan n fun c => c.behind s n xs) ?_ _ s1)
    exact fun _ _ => Nat.le_refl _
  exact hold

/-! ## What a write of segment memory leaves alone (R15, R42) -/

/-- Of segment memory and its tables a write changes bytes, error marks and counts of errors. -/
theorem State.writeMem_mem (s : State) (a : Nat) (bs : Bytes) :
    { (s.writeMem a bs).mem with
      bytes := s.mem.bytes, ue := s.mem.ue, ce := s.mem.ce, ceCount := s.mem.ceCount
      ueGranules := s.mem.ueGranules } = s.mem :=
  congrArg (fun m : SegMem => { m with bytes := s.mem.bytes, ue := s.mem.ue, ce := s.mem.ce })
    (s.onOutput_holdFetched a bs.length).2

/-- Outside segment memory a write changes what channels have played and fetched ahead, and what comes of that. -/
theorem State.writeMem_rest (s : State) (a : Nat) (bs : Bytes) :
    { s.writeMem a bs with chans := s.chans, mem := s.mem, card := s.card, sys := s.sys } = s :=
  (s.onOutput_holdFetched a bs.length).1

/-- No word that a write meets is marked as correctable after it. -/
theorem State.writeMem_unmarks (s : State) {a w : Nat} {bs : Bytes} (h : a < w + 8 ∧ w < a + bs.length) :
    w ∉ (s.writeMem a bs).mem.ce := fun hw => by
  have hw : w ∈ ((s.holdFetched a bs.length).mem.write a bs).ce := hw
  simp only [SegMem.write, List.mem_filter, decide_eq_true_eq] at hw
  omega

/-! ## The patrol scrubber (R43) -/

theorem State.countCe_word? (s : State) (n a : Nat) : (s.countCe n).mem.word? a = s.mem.word? a := rfl

/-- PATROL_SCRUB while the clocks run and segment memory is awake. -/
theorem exec_patrolScrub {s u : State} {t : Nat} {w : Fin 12884901888} {raced : Bool} (hu : u = s.advance t)
    (hs : u.still = false) : exec (.patrolScrub t w raced) s = .next ((opPatrolScrub u w raced).close s.pending) := by
  subst hu
  exact event_next s t (fun s => opPatrolScrub s w raced) hs

/-- Settles O21: one case for each outcome of the read. -/
theorem patrolScrub : Obligations.PatrolScrub := by
  unfold Obligations.PatrolScrub
  intro s u t w raced hu hs hb hy
  have hawake : ¬ (u.sys.state = .boot ∨ u.sys.state = .standby) := fun h => h.elim hb hy
  refine ⟨fun v hr => ⟨_, exec_patrolScrub hu hs, ?_⟩, fun v hr hn => ⟨_, exec_patrolScrub hu hs, ?_⟩,
    fun v bs hr hn hw => ⟨_, exec_patrolScrub hu hs, ?_⟩, fun hr => ⟨_, exec_patrolScrub hu hs, ?_⟩⟩
  · have hop : opPatrolScrub u w raced = u := by
      unfold opPatrolScrub; rw [if_neg hawake, hr]
    rw [State.graft_close, hop]; rfl
  · have hop : opPatrolScrub u w raced = u.countCe 1 := by
      unfold opPatrolScrub
      rw [if_neg hawake, hr]
      exact if_pos (by rcases hn with h | h <;> simp [State.countCe_word?, h])
    rw [hop, State.graft_close, State.close_mem, State.close_card]
    exact ⟨rfl, rfl, rfl⟩
  · have hop : opPatrolScrub u w raced = (u.countCe 1).writeMem (8 * w.val) (leBytes 8 v.toNat) := by
      unfold opPatrolScrub
      rw [if_neg hawake, hr]
      exact if_neg (by simp [State.countCe_word?, hn, hw])
    rw [hop, State.graft_close, State.close_mem]
    refine ⟨(u.countCe 1).ceCount_le_writeMem _ _, fun i => ?_, State.writeMem_unmarks _ ?_, ?_, ?_⟩
    · rw [State.writeMem_byte, leBytes_length]; rfl
    · rw [leBytes_length]; omega
    · exact congrArg (fun m : SegMem => { m with ceCount := u.mem.ceCount })
        ((u.countCe 1).writeMem_mem (8 * w.val) (leBytes 8 v.toNat))
    · have hrest := (u.countCe 1).writeMem_rest (8 * w.val) (leBytes 8 v.toNat)
      generalize (u.countCe 1).writeMem (8 * w.val) (leBytes 8 v.toNat) = x at hrest ⊢
      exact congrArg (fun x : State => ({ u.graft x with mem := u.mem, card := u.card, sys := u.sys } : State)) hrest
  · have hop : opPatrolScrub u w raced = ({ u with
        mem := { u.mem with ueScrub := u.mem.ueScrub + 1 }
        card := { u.card with hbmUe := satInc 64 u.card.hbmUe } } : State).alert alHbmUe := by
      unfold opPatrolScrub; rw [if_neg hawake, hr]
    rw [hop, State.graft_close, State.close_mem, State.close_card, State.close_alert]
    exact ⟨rfl, rfl, rfl, rfl⟩

end Sys2Proof.Machine
end

section
/-! SUPPORT. Entries written twice, messages that leave, and bulk messages taken and refused (R207, R213, R215, R220). -/

namespace Sys2Proof.Machine

/-! ## An entry written twice -/

theorem sput_sput {α : Type} (xs : Sparse α) (k : Nat) (v w : α) : sput (sput xs k v) k w = sput xs k w := by
  induction xs with
  | nil => simp [sput]
  | cons p r ih =>
    obtain ⟨j, x⟩ := p
    by_cases h1 : k < j
    · simp [sput, h1]
    · by_cases h2 : j = k
      · simp [sput, h2]
      · simp [sput, h1, h2, ih]

theorem sdrop_sput {α : Type} (xs : Sparse α) (k : Nat) (v : α) : sdrop (sput xs k v) k = sdrop xs k := by
  induction xs with
  | nil => simp [sput, sdrop]
  | cons p r ih =>
    obtain ⟨j, x⟩ := p
    simp only [sdrop, ne_eq, decide_not] at ih ⊢
    by_cases h1 : k < j
    · simp [sput, h1]
    · by_cases h2 : j = k
      · simp [sput, h2]
      · simp [sput, h1, h2, ih]

/-- Of two writes of an entry the second stands, where the first left it listed. -/
theorem sset_sset_of_ne {α : Type} [DecidableEq α] (d : Nat → α) (xs : Sparse α) (k : Nat) {v : α} (w : α) (h : v ≠ d k) :
    sset d (sset d xs k v) k w = sset d xs k w := by
  have hput : sset d xs k v = sput xs k v := if_neg h
  rw [hput]
  unfold sset
  split
  · exact sdrop_sput xs k v
  · exact sput_sput xs k v w

/-- A write of what has just been written changes nothing. -/
theorem sset_sset_self {α : Type} [DecidableEq α] (d : Nat → α) (xs : Sparse α) (k : Nat) (v : α) :
    sset d (sset d xs k v) k v = sset d xs k v := by
  by_cases h : v = d k
  · have hdrop : ∀ ys : Sparse α, sset d ys k v = sdrop ys k := fun ys => if_pos h
    rw [hdrop, hdrop]
    unfold sdrop
    rw [List.filter_filter]
    simp
  · exact sset_sset_of_ne d xs k v h

/-! ## The record of a port -/

@[simp] theorem State.modPort_mem (s : State) (p : Port) (f : Lane → Lane) : (s.modPort p f).mem = s.mem := by cases p <;> rfl
@[simp] theorem State.modPort_oda (s : State) (p : Port) (f : Lane → Lane) : (s.modPort p f).oda = s.oda := by cases p <;> rfl
@[simp] theorem State.modPort_sys (s : State) (p : Port) (f : Lane → Lane) : (s.modPort p f).sys = s.sys := by cases p <;> rfl

/-- A change of a port's record is one of the management port or of a lane. -/
theorem State.modPort_eq (s : State) (p : Port) (f : Lane → Lane) :
    ∃ g ls, s.modPort p f = { s with mgmt := g, lanes := ls } := by
  cases p
  · exact ⟨f s.mgmt, s.lanes, rfl⟩
  · exact ⟨s.mgmt, _, rfl⟩
  · exact ⟨s.mgmt, _, rfl⟩

/-- Of two changes of a port's record the second acts on what the first has made, where that is listed. -/
theorem State.modPort_modPort (s : State) (p : Port) (f g : Lane → Lane) (h : ∀ v, f v ≠ {}) :
    (s.modPort p f).modPort p g = s.modPort p fun v => g (f v) := by
  have hlane : ∀ l : Nat, (s.modLane l f).modLane l g = s.modLane l fun v => g (f v) := fun l => by
    rw [State.modLane_eq, State.modLane_eq, State.modLane_eq, State.lane_setLane_self]
    exact congrArg (fun ls => { s with lanes := ls }) (sset_sset_of_ne (fun _ => {}) s.lanes l (g (f (s.lane l))) (h (s.lane l)))
  cases p
  · rfl
  · exact hlane _
  · exact hlane _

/-- The record of the port stands in the state as a write of it would leave it. -/
def State.Listed (s : State) (p : Port) : Prop := (s.modPort p fun v => v) = s

theorem State.listed_setLane (s : State) (l : Nat) (v : Lane) : ((s.setLane l v).modLane l fun w => w) = s.setLane l v := by
  rw [State.modLane_eq, State.lane_setLane_self]
  exact congrArg (fun ls => { s with lanes := ls }) (sset_sset_self _ s.lanes l v)

theorem State.listed_modPort (s : State) (p : Port) (f : Lane → Lane) : (s.modPort p f).Listed p := by
  cases p
  · rfl
  · exact s.listed_setLane _ _
  · exact s.listed_setLane _ _

/-- A state is listed at a port by its lanes alone. -/
theorem State.Listed.congr {s x : State} {p : Port} (h : s.Listed p) (hl : x.lanes = s.lanes) : x.Listed p := by
  unfold State.Listed at *
  cases p with
  | mgmt => rfl
  | eth l =>
    have e : sset (fun _ => ({} : Lane)) s.lanes l (sget (fun _ => {}) s.lanes l) = s.lanes := congrArg State.lanes h
    show ({ x with lanes := sset (fun _ => {}) x.lanes l (sget (fun _ => {}) x.lanes l) } : State) = x
    rw [hl, e, ← hl]
  | lane l =>
    have e : sset (fun _ => ({} : Lane)) s.lanes l (sget (fun _ => {}) s.lanes l) = s.lanes := congrArg State.lanes h
    show ({ x with lanes := sset (fun _ => {}) x.lanes l (sget (fun _ => {}) x.lanes l) } : State) = x
    rw [hl, e, ← hl]

/-! ## Messages that leave (R207, R213) -/

/-- What a lane sends changes its record and the messages sent. -/
theorem State.runLane_eq (s : State) (l : Nat) :
    ∃ (x : State) (v : Lane) (o : List OutMsg), s.runLane l = { s with lanes := (x.setLane l v).lanes, out := o } := by
  unfold State.runLane
  simp only [State.forAll_send]
  split
  · exact ⟨s, _, _, rfl⟩
  · exact ⟨s, _, _, rfl⟩

/-- A message that is to leave on a lane changes the lane's record and the messages sent. -/
theorem State.sendBlocks_eq (s : State) (l n : Nat) (m : OutMsg) :
    ∃ (x : State) (v : Lane) (o : List OutMsg), s.sendBlocks l n m = { s with lanes := (x.setLane l v).lanes, out := o } := by
  unfold State.sendBlocks State.when
  extract_lets s1
  have hs1 : ∃ v, s1 = { s with lanes := (s.setLane l v).lanes } := ⟨_, rfl⟩
  obtain ⟨v1, hs1⟩ := hs1
  clear_value s1
  generalize hls : (s.setLane l v1).lanes = ls at hs1
  subst hs1
  split
  · obtain ⟨x, v, o, h⟩ := ({ s with lanes := ls } : State).runLane_eq l
    exact ⟨x, v, o, h⟩
  · exact ⟨s, v1, s.out, by rw [hls]⟩

/-- A message that leaves by a port changes the record of its lane and the messages sent. -/
theorem State.sendPort_eq (s : State) (p : Port) (n : Nat) (m : OutMsg) :
    ∃ ls o, s.sendPort p n m = { s with lanes := ls, out := o } := by
  cases p with
  | lane l =>
    obtain ⟨x, v, o, h⟩ := s.sendBlocks_eq l (blocksOf n) m
    exact ⟨_, o, h⟩
  | mgmt => exact ⟨s.lanes, _, rfl⟩
  | eth l => exact ⟨s.lanes, _, rfl⟩

theorem State.Listed.sendPort {s : State} {p : Port} (h : s.Listed p) (n : Nat) (m : OutMsg) : (s.sendPort p n m).Listed p := by
  cases p with
  | lane l =>
    obtain ⟨x, v, o, e⟩ := s.sendBlocks_eq l (blocksOf n) m
    have e : s.sendPort (.lane l) n m = { s with lanes := (x.setLane l v).lanes, out := o } := e
    have hl : (x.setLane l v).Listed (.lane l) := x.listed_setLane l v
    rw [e]
    exact hl.congr rfl
  | mgmt => rfl
  | eth l => exact h.congr rfl

/-! ## Bulk messages taken from a port (R213, R215, R220) -/

/-- Whether a port takes bulk messages depends on the lanes and quads only. -/
theorem State.bulkOpen_congr {x y : State} (hl : x.lanes = y.lanes) (hq : x.quads = y.quads) (p : Port) :
    x.bulkOpen p = y.bulkOpen p := by
  cases p with
  | eth l => unfold State.bulkOpen State.ethPort State.laneQuad State.quad State.lane; rw [hl, hq]
  | mgmt => rfl
  | lane l => rfl

theorem State.lane_modLane (s : State) (l k : Nat) (f : Lane → Lane) :
    (s.modLane l f).lane k = if l = k then f (s.lane k) else s.lane k := by
  rw [State.modLane_eq, State.lane_setLane]
  split
  · next h => rw [h]
  · rfl

/-- A change of a port's record that leaves link and address leaves what ports take. -/
theorem State.bulkOpen_modPort (s : State) (p q : Port) {f : Lane → Lane} (hf : ∀ v, (f v).link = v.link ∧ (f v).ipv4 = v.ipv4) :
    (s.modPort p f).bulkOpen q = s.bulkOpen q := by
  have hlane : ∀ l k : Nat, ((s.modLane l f).lane k).link = (s.lane k).link ∧ ((s.modLane l f).lane k).ipv4 = (s.lane k).ipv4 :=
    fun l k => by
      rw [State.lane_modLane]
      split
      · exact hf (s.lane k)
      · exact ⟨rfl, rfl⟩
  have hmod : ∀ l : Nat, (s.modLane l f).bulkOpen q = s.bulkOpen q := fun l => by
    cases q with
    | eth k =>
      show (s.ethPort k && decide (((s.modLane l f).lane k).link = .up ∧ ((s.modLane l f).lane k).ipv4 ≠ 0)) = _
      rw [(hlane l k).1, (hlane l k).2]
      rfl
    | mgmt => rfl
    | lane k => rfl
  cases p with
  | mgmt => cases q <;> rfl
  | eth l => exact hmod l
  | lane l => exact hmod l

@[simp] theorem Lane.meetSeq_link (v : Lane) (q : Word) : (v.meetSeq q).link = v.link := by
  unfold Lane.meetSeq; extract_lets g l; split <;> rfl
@[simp] theorem Lane.meetSeq_ipv4 (v : Lane) (q : Word) : (v.meetSeq q).ipv4 = v.ipv4 := by
  unfold Lane.meetSeq; extract_lets g l; split <;> rfl
@[simp] theorem Lane.meetSeq_bulkSeq (v : Lane) (q : Word) : (v.meetSeq q).bulkSeq = some q := by
  unfold Lane.meetSeq; extract_lets g l; split <;> rfl

theorem Lane.meetSeq_ne_init (v : Lane) (q : Word) : v.meetSeq q ≠ {} := fun h => by
  have := congrArg Lane.bulkSeq h
  rw [Lane.meetSeq_bulkSeq] at this
  cases this

/-- An answer to a bulk message changes what lanes hold and the messages sent. -/
theorem State.bulkAnswer_eq (s : State) (type : Nat) (m : BulkMsg) (abort : Nat) :
    ∃ ls o, s.bulkAnswer type m abort = { s with lanes := ls, out := o } := by
  unfold State.bulkAnswer
  split
  · exact s.sendPort_eq _ _ _
  · exact ⟨s.lanes, s.out, rfl⟩

theorem State.Listed.bulkAnswer {s : State} {m : BulkMsg} (h : s.Listed m.port) (type abort : Nat) :
    (s.bulkAnswer type m abort).Listed m.port := by
  unfold State.bulkAnswer
  split
  · exact h.sendPort _ _
  · exact h

/-- What `BulkReplies` says of an answer after which the command ends, `y` being a state with the same lanes and messages
sent before it. -/
theorem State.bulkReplies_close {y x : State} {m : BulkMsg} (type abort : Nat) (q : List Instr)
    (hopen : x.bulkOpen m.port = true) (ho : x.out = y.out) (hl : x.lanes = y.lanes) (hq : x.quads = y.quads)
    (hn : x.now = y.now) : y.BulkReplies ((x.bulkAnswer type m abort).close q) m type abort := by
  have hmem : (x.bulkAnswer type m abort).mem = x.mem := by
    obtain ⟨ls, o, h⟩ := x.bulkAnswer_eq type m abort
    rw [h]
  unfold State.BulkReplies
  rw [State.close_out, State.close_lanes, State.close_mem, hmem]
  unfold State.bulkAnswer
  rw [hopen, Bool.and_true]
  cases m.ack
  · exact ⟨ho, hl⟩
  · exact State.sendPort_congr ho hl hq hn _ _ _

/-! ## A bulk message refused (R216, R220, R288) -/

/-- What a refusal leaves before it is answered. -/
def State.bulkCounted (s : State) (type : Nat) (m : BulkMsg) (a : Abort) : State :=
  { s.modPort m.port fun l => { l with refused := l.refused + 1 } with
    oda := { s.oda with aborts := s.oda.aborts + 1 }
    mem := if type = 0x40 ∧ a = .pageNotHeld then { s.mem with refused := s.mem.refused + 1 } else s.mem }

/-- A refusal for a reason other than security: it counts at the port and in ODA_ABORTS, and is answered. -/
theorem State.bulkRefuse_eq (s : State) (type : Nat) (m : BulkMsg) {a : Abort} (ha : a.code < 0x09000000) :
    s.bulkRefuse type m a = (s.bulkCounted type m a).bulkAnswer type m a.code := by
  have hsec : s.countAbort (some a) = { s with oda := { s.oda with aborts := s.oda.aborts + 1 } } := by
    unfold State.countAbort
    simp only [if_neg (Nat.not_le_of_lt ha)]
    rfl
  unfold State.bulkRefuse State.bulkCounted
  rw [hsec]
  cases m.port <;> (dsimp only; split <;> rfl)

theorem State.listed_bulkRefuse (s : State) (type : Nat) (m : BulkMsg) {a : Abort} (ha : a.code < 0x09000000) :
    (s.bulkRefuse type m a).Listed m.port := by
  have hl : (s.bulkCounted type m a).Listed m.port :=
    (s.listed_modPort m.port fun l => { l with refused := l.refused + 1 }).congr rfl
  rw [s.bulkRefuse_eq type m ha]
  exact hl.bulkAnswer type a.code

/-- A bulk message refused at a port that takes it, none of its data on the way. -/
theorem State.bulkIn_refused {u : State} {m : BulkMsg} (type : Nat) (checks : Checks) (f : State → State) {a : Abort}
    (hb : u.sys.state ≠ .boot) (ho : u.bulkOpen m.port = true)
    (hv : Checks.verdict (((u.oda.sessions.any fun x => decide (x.port = m.port ∧ x.version = 1) && !x.proxy), .version)
      :: (decide (u.sys.state = .standby ∨ u.sys.state = .recess), .wrongState) :: checks) = some a)
    (ha : a.code < 0x09000000) :
    u.bulkIn m type 0 checks f = (u.modPort m.port fun l => l.meetSeq m.seq).bulkRefuse type m a := by
  unfold State.bulkIn
  rw [if_neg (by simp [hb, ho])]
  simp only [State.modPort_oda, State.modPort_sys, hv, if_true]
  exact State.listed_bulkRefuse _ type m ha

/-- A bulk message that nothing refuses. -/
theorem State.bulkIn_taken {u : State} {m : BulkMsg} (h : u.TakesBulk m) (type left : Nat) {checks : Checks} (f : State → State)
    (hv : checks.verdict = none) : u.bulkIn m type left checks f = f (u.modPort m.port fun l => l.meetSeq m.seq) := by
  have hr : u.sys.state ≠ .recess := fun e => by
    have := h.clocked
    simp [State.still, e] at this
  have hverdict : Checks.verdict ((false, .version) :: (decide (u.sys.state = .standby ∨ u.sys.state = .recess), .wrongState)
      :: checks) = none := by
    rw [decide_eq_false (by simp [h.awake, hr])]; exact hv
  unfold State.bulkIn
  rw [if_neg (by simp [h.booted, h.link])]
  simp only [State.modPort_oda, State.modPort_sys, h.version, hverdict]

end Sys2Proof.Machine
end

section
/-! BULK_WRITE stored, refused, and over a lane (R216 to R220, R356): O20. -/

namespace Sys2Proof.Machine

/-! ## When a bulk message is taken -/

theorem State.TakesBulk.not_recess {u : State} {m : BulkMsg} (h : u.TakesBulk m) : u.sys.state ≠ .recess := fun e => by
  have := h.clocked
  simp [State.still, e] at this

/-- A message at a port that the device's state does not close. -/
theorem portEvent_next {s u : State} {t : Nat} {p : Port} (f : State → State) (hu : u = s.advance t) (hpor : u.sys.por = false)
    (hpin : u.sys.pin = false) (hr : u.sys.state = .recess → p = .mgmt) :
    portEvent s t p f = .next ((f u).close s.pending) := by
  subst hu
  have hr : ¬ ((s.advance t).sys.state = .recess ∧ p ≠ .mgmt) := fun e => e.2 (hr e.1)
  simp only [portEvent, always, hpor, hpin, decide_eq_false hr, Bool.or_self, Bool.false_eq_true, if_false]

theorem State.TakesBulk.portEvent {s u : State} {t : Nat} {m : BulkMsg} (h : u.TakesBulk m) (f : State → State)
    (hu : u = s.advance t) : portEvent s t m.port f = .next ((f u).close s.pending) := by
  have hc := h.clocked
  simp only [State.still, Bool.or_eq_false_iff, decide_eq_false_iff_not] at hc
  exact portEvent_next f hu hc.1.1 hc.1.2 fun e => absurd e hc.2

/-! ## What refuses a BULK_WRITE (R216) -/

/-- The length of a BULK_WRITE is wrong. -/
def badLength (m : BulkMsg) (data : Bytes) : Bool :=
  decide (m.length = 0 ∨ m.length % 16 ≠ 0) ||
    if m.port.isLane then decide (m.length < data.length) || decide (2097152 < m.length)
    else decide (data.length ≠ m.length) || decide (8960 < m.length)

/-- The page, offset or address of a BULK_WRITE is out of range. -/
def State.badPlace (s : State) (m : BulkMsg) : Bool :=
  if m.abs then decide (m.addr s.mem.bulkBase % 16 ≠ 0) || decide (hbmBytes < m.addr s.mem.bulkBase + m.length)
    || decide (s.mem.bulkPages ≠ 0 ∧ m.addr s.mem.bulkBase < s.mem.bulkBase * pageBytes + s.mem.bulkPages * pageBytes
      ∧ s.mem.bulkBase * pageBytes < m.addr s.mem.bulkBase + m.length)
  else decide (s.mem.bulkPages ≤ m.page) || decide (m.w1.toNat % 16 ≠ 0) || decide (pageBytes < m.w1.toNat + m.length)

/-- The host does not hold the page of a BULK_WRITE. -/
def State.notHeld (s : State) (m : BulkMsg) : Bool :=
  !m.abs && decide ((s.mem.page m.page).pass ≠ .host ∨ (s.mem.page m.page).closing = true)

theorem State.bulkWriteChecks_eq (s : State) (m : BulkMsg) (data : Bytes) :
    s.bulkWriteChecks m data = [(badLength m data, .length), rangeIf (s.badPlace m), (s.notHeld m, .pageNotHeld)] := rfl

theorem bulkVerdict_length : ∀ b c, Checks.verdict [(true, .length), rangeIf b, (c, .pageNotHeld)] = some .length := by decide
theorem bulkVerdict_range : ∀ c, Checks.verdict [(false, .length), rangeIf true, (c, .pageNotHeld)] = some .range := by decide
theorem asleepVerdict : ∀ b c, Checks.verdict [(false, .version), (true, .wrongState), (false, .length), rangeIf b, (c, .pageNotHeld)]
    = some .wrongState := by decide
theorem bulkVerdict_none : Checks.verdict [(false, .length), rangeIf false, (false, .pageNotHeld)] = none := by decide

theorem badLength_iff {m : BulkMsg} {data : Bytes} (h : m.port.isLane = true → m.length = data.length) :
    badLength m data = true ↔ m.length = 0 ∨ m.length % 16 ≠ 0 ∨ m.length ≠ data.length ∨
      (if m.port.isLane = true then 2097152 else 8960) < m.length := by
  unfold badLength
  cases hp : m.port.isLane
  · simp only [Bool.or_eq_true, decide_eq_true_eq, Bool.false_eq_true, if_false]
    omega
  · have := h hp
    simp only [Bool.or_eq_true, decide_eq_true_eq, if_true]
    omega

/-- Over a lane the data may come short of the length (R218). -/
theorem badLength_lane {m : BulkMsg} {data : Bytes} (hp : m.port.isLane = true) (h : data.length < m.length)
    (h16 : m.length % 16 = 0) (hmax : m.length ≤ 2097152) : badLength m data = false := by
  unfold badLength
  rw [hp, if_pos rfl, decide_eq_false (by omega), decide_eq_false (by omega), decide_eq_false (by omega)]
  rfl

theorem State.badPlace_page {s : State} {m : BulkMsg} (h : m.abs = false) :
    s.badPlace m = true ↔ s.mem.bulkPages ≤ m.page ∨ m.w1.toNat % 16 ≠ 0 ∨ 2097152 < m.w1.toNat + m.length := by
  unfold State.badPlace pageBytes
  simp [h, or_assoc]

theorem State.badPlace_abs {s : State} {m : BulkMsg} {a : Nat} (h : m.abs = true) (ha : a = m.addr s.mem.bulkBase) :
    s.badPlace m = true ↔ a % 16 ≠ 0 ∨ hbmBytes < a + m.length ∨
      (s.mem.bulkPages ≠ 0 ∧ a < (s.mem.bulkBase + s.mem.bulkPages) * 2097152 ∧ s.mem.bulkBase * 2097152 < a + m.length) := by
  unfold State.badPlace pageBytes
  rw [← ha, h, if_pos rfl, Nat.add_mul]
  simp only [Bool.or_eq_true, decide_eq_true_eq, or_assoc]

theorem State.notHeld_abs {s : State} {m : BulkMsg} (h : m.abs = true) : s.notHeld m = false := by
  unfold State.notHeld; rw [h]; rfl

theorem State.notHeld_page {s : State} {m : BulkMsg} (h : m.abs = false) :
    s.notHeld m = true ↔ (s.mem.page m.page).pass ≠ .host ∨ (s.mem.page m.page).closing = true := by
  unfold State.notHeld; rw [h]; simp

/-! ## A refusal, seen at the end of the command -/

/-- Of the device outside segment memory `x` differs from `u` in the port's record, what lanes hold, what was sent and
ODA_ABORTS. -/
theorem bulkRefuse_close {u y z : State} {m : BulkMsg} {f : Lane → Lane} (type : Nat) {a : Abort} (q : List Instr)
    (ha : a.code < 0x09000000) (hy : y = u.modPort m.port f) (hf : ∀ v, (f v).link = v.link ∧ (f v).ipv4 = v.ipv4)
    (ho : u.bulkOpen m.port = true) (hz : z = y.modPort m.port fun l => { l with refused := l.refused + 1 }) :
    z.BulkReplies ((y.bulkRefuse type m a).close q) m type a.code ∧ ((y.bulkRefuse type m a).close q).mgmt = z.mgmt ∧
      ((y.bulkRefuse type m a).close q).oda = { u.oda with aborts := u.oda.aborts + 1 } ∧
      ((y.bulkRefuse type m a).close q).mem =
        (if type = 0x40 ∧ a = .pageNotHeld then { u.mem with refused := u.mem.refused + 1 } else u.mem) ∧
      { u.graft ((y.bulkRefuse type m a).close q) with
        mem := u.mem, mgmt := u.mgmt, lanes := u.lanes, out := u.out, oda := u.oda } = u := by
  have hopen : (y.bulkCounted type m a).bulkOpen m.port = true := by
    have e : (y.bulkCounted type m a).bulkOpen m.port = z.bulkOpen m.port := State.bulkOpen_congr (by rw [hz]; rfl) (by rw [hz]; rfl) _
    rw [e, hz, State.bulkOpen_modPort, hy, State.bulkOpen_modPort, ho]
    · exact hf
    · exact fun v => ⟨rfl, rfl⟩
  have hreply := State.bulkReplies_close (y := z) type a.code q hopen (by rw [hz]; rfl) (by rw [hz]; rfl) (by rw [hz]; rfl)
    (by rw [hz]; rfl)
  obtain ⟨ls, o, hans⟩ := (y.bulkCounted type m a).bulkAnswer_eq type m a.code
  obtain ⟨g1, l1, hy1⟩ := u.modPort_eq m.port f
  obtain ⟨g2, l2, hz1⟩ := y.modPort_eq m.port fun l => { l with refused := l.refused + 1 }
  rw [y.bulkRefuse_eq type m ha, State.graft_close, State.close_mgmt, State.close_oda, State.close_mem]
  refine ⟨hreply, ?_⟩
  rw [hans]
  unfold State.bulkCounted
  rw [hz, hz1, hy, hy1]
  exact ⟨rfl, rfl, rfl, rfl⟩

/-! ## A write stored (R42, R217) -/

/-- Of an accepted BULK_WRITE: its data stored at address `a` and counted, and the traffic of the management port. -/
def State.bulkStored (y : State) (m : BulkMsg) (a : Nat) (data : Bytes) : State :=
  (y.bulkStore (if m.abs then none else some m.page) a data).when (decide (m.port = .mgmt)) fun s => s.addTraffic (32 + data.length)

/-- Of segment memory the bytes written and what they end, and of the page the count of its bytes. -/
theorem State.bulkStore_eq (y : State) (p : Option Nat) (a : Nat) (data : Bytes) :
    ∃ ps, y.bulkStore p a data = { y.writeMem a data with mem := { (y.writeMem a data).mem with pages := ps } } ∧
      (p = none → ps = y.mem.pages) ∧
      ∀ q, sget (fun _ => {}) ps q = if p = some q then { y.mem.page q with accepted := (y.mem.page q).accepted + data.length }
        else y.mem.page q := by
  have hpages : (y.writeMem a data).mem.pages = y.mem.pages := by
    have e := congrArg SegMem.pages (y.writeMem_mem a data)
    exact e
  have hpage : ∀ q, (y.writeMem a data).mem.page q = y.mem.page q := fun q => by
    have e := congrArg (fun m : SegMem => m.page q) (y.writeMem_mem a data)
    exact e
  unfold State.bulkStore
  extract_lets s1
  cases p with
  | none => exact ⟨s1.mem.pages, rfl, fun _ => hpages, fun q => hpage q⟩
  | some p =>
    refine ⟨(s1.modPage p fun v => { v with accepted := v.accepted + data.length }).mem.pages, rfl, fun e => (by cases e), fun q => ?_⟩
    show (s1.mem.setPage p { s1.mem.page p with accepted := (s1.mem.page p).accepted + data.length }).page q = _
    have hset : ∀ v, (s1.mem.setPage p v).page q = if p = q then v else s1.mem.page q := fun v => sget_sset _ _ p q v
    rw [hset, hpage, hpage]
    simp only [Option.some.injEq]
    split
    · next h => rw [h]
    · rfl

/-- `x` is `y` after `data` has been stored at address `a` for message `m`: bytes, the count of the page, what channels
have played and fetched ahead, and traffic; nothing else. -/
structure State.StoresBulk (y x : State) (m : BulkMsg) (a : Nat) (data : Bytes) : Prop where
  bytes : ∀ i, cellAt x.mem.bytes i = if a ≤ i ∧ i < a + data.length then data[i - a]? else cellAt y.mem.bytes i
  page : ∀ q, x.mem.page q = if m.abs = false ∧ m.page = q
    then { y.mem.page q with accepted := (y.mem.page q).accepted + data.length } else y.mem.page q
  pages : m.abs = true → x.mem.pages = y.mem.pages
  tables : { x.mem with
    pages := y.mem.pages, bytes := y.mem.bytes, ue := y.mem.ue, ce := y.mem.ce, ceCount := y.mem.ceCount
    ueGranules := y.mem.ueGranules } = y.mem
  played : x.chans = (y.holdFetched a data.length).chans
  net : m.port ≠ .mgmt → x.net = y.net
  rest : { x with mem := y.mem, chans := y.chans, card := y.card, sys := y.sys, net := y.net } = y

theorem State.storesBulk (y : State) (m : BulkMsg) (a : Nat) (data : Bytes) :
    y.StoresBulk (y.bulkStored m a data) m a data := by
  obtain ⟨ps, hs, habs, hp⟩ := y.bulkStore_eq (if m.abs then none else some m.page) a data
  have hrest := y.writeMem_rest a data
  have hnet : (y.writeMem a data).net = y.net := by
    have e := congrArg State.net hrest
    exact e
  have hbytes := fun i => y.writeMem_byte a i data
  have htab := y.writeMem_mem a data
  have hplayed : (y.writeMem a data).chans = (y.holdFetched a data.length).chans := rfl
  have hx : ∃ n, y.bulkStored m a data = { y.writeMem a data with mem := { (y.writeMem a data).mem with pages := ps }, net := n }
      ∧ (m.port ≠ .mgmt → n = y.net) := by
    unfold State.bulkStored State.when
    rw [hs]
    split
    · next h => exact ⟨_, rfl, fun e => absurd (of_decide_eq_true h) e⟩
    · exact ⟨(y.writeMem a data).net, rfl, fun _ => hnet⟩
  obtain ⟨n, hx, hn⟩ := hx
  rw [hx]
  generalize y.writeMem a data = w at hrest hnet hbytes htab hplayed
  exact {
    bytes := hbytes
    page := fun q => (hp q).trans (by cases m.abs <;> simp)
    pages := fun e => habs (by rw [e]; rfl)
    tables := congrArg (fun v : SegMem => { v with pages := y.mem.pages }) htab
    played := hplayed
    net := hn
    rest := congrArg (fun v : State => ({ v with net := y.net } : State)) hrest }

/-- A BULK_WRITE whose data has come whole is stored and answered. -/
theorem opBulkWrite_whole {u y : State} {m : BulkMsg} {data : Bytes} {a : Nat} (h : u.TakesBulk m)
    (hv : (u.bulkWriteChecks m data).verdict = none) (hl : m.length = data.length) (ha : a = m.addr u.mem.bulkBase)
    (hy : y = u.modPort m.port fun l => l.meetSeq m.seq) :
    opBulkWrite u m data = (y.bulkStored m a data).bulkAnswer 0x40 m 0 := by
  have hya : m.addr y.mem.bulkBase = a := by rw [ha, hy, State.modPort_mem]
  unfold opBulkWrite
  rw [State.bulkIn_taken h _ _ _ hv]
  simp only [← hy, hya, if_neg (show ¬ data.length < m.length by omega)]
  rfl

/-- A BULK_WRITE over a lane whose data is still on the way: what has come is stored, and the lane waits for the rest. -/
theorem opBulkWrite_part {u y : State} {m : BulkMsg} {data : Bytes} {a : Nat} {l : Fin 48} (h : u.TakesBulk m)
    (hv : (u.bulkWriteChecks m data).verdict = none) (hl : data.length < m.length) (ha : a = m.addr u.mem.bulkBase)
    (hp : m.port = .lane l) (hy : y = u.modPort m.port fun l => l.meetSeq m.seq) :
    opBulkWrite u m data = ((y.bulkStored m a data).modLane l fun v => { v with msg := some {
      page := if m.abs then none else some m.page, addr := a + data.length, due := m.length - data.length, skip := false }
      }).bulkAnswer 0x40 m 0 := by
  have hya : m.addr y.mem.bulkBase = a := by rw [ha, hy, State.modPort_mem]
  unfold opBulkWrite
  rw [State.bulkIn_taken h _ _ _ hv]
  simp only [← hy, hya, if_pos hl]
  unfold State.bulkStored
  rw [hp]
  rfl

@[simp] theorem State.close_net (s : State) (q : List Instr) : (s.close q).net = s.net := by
  obtain ⟨d, hd⟩ := s.close_eq q
  rw [hd]

/-- What of a stored write is left when it has been answered and the command has ended. -/
theorem State.StoresBulk.bulkAnswer_close {u x y z : State} {m : BulkMsg} {a : Nat} {data : Bytes} {f : Lane → Lane}
    (hx : y.StoresBulk x m a data) (hz : ∃ ls, z = { x with lanes := ls }) (hy : y = u.modPort m.port f) (q : List Instr) :
    ((z.bulkAnswer 0x40 m 0).close q).mgmt = y.mgmt ∧ ((z.bulkAnswer 0x40 m 0).close q).chans = x.chans ∧
      ((z.bulkAnswer 0x40 m 0).close q).mem = x.mem ∧
      (m.port ≠ .mgmt → ((z.bulkAnswer 0x40 m 0).close q).net = u.net) ∧
      { u.graft ((z.bulkAnswer 0x40 m 0).close q) with
        mem := u.mem, mgmt := u.mgmt, lanes := u.lanes, out := u.out, chans := u.chans, card := u.card, sys := u.sys
        net := u.net } = u := by
  obtain ⟨ls, hz⟩ := hz
  obtain ⟨ls', o, hans⟩ := z.bulkAnswer_eq 0x40 m 0
  obtain ⟨g, l, hm⟩ := u.modPort_eq m.port f
  have hrest := hx.rest
  have hmgmt : x.mgmt = y.mgmt := by
    have e := congrArg State.mgmt hrest
    exact e
  have hnet : y.net = u.net := by rw [hy, hm]
  refine ⟨?_, ?_, ?_, ?_, ?_⟩
  · rw [State.close_mgmt, hans, hz]; exact hmgmt
  · rw [State.close_chans, hans, hz]
  · rw [State.close_mem, hans, hz]
  · intro e
    rw [State.close_net, hans, hz, ← hnet]
    exact hx.net e
  · rw [State.graft_close, hans, hz]
    have e := congrArg (fun v : State => ({ u.graft v with
      mem := u.mem, mgmt := u.mgmt, lanes := u.lanes, out := u.out, chans := u.chans, card := u.card, sys := u.sys
      net := u.net } : State)) hrest
    refine e.trans ?_
    rw [hy, hm]
    rfl

/-- A stored write is answered (R220). -/
theorem State.StoresBulk.replies {x y z w : State} {m : BulkMsg} {a : Nat} {data : Bytes} (hx : y.StoresBulk x m a data)
    (hz : ∃ ls, z = { x with lanes := ls } ∧ w = { y with lanes := ls }) (ho : z.bulkOpen m.port = true) (q : List Instr) :
    w.BulkReplies ((z.bulkAnswer 0x40 m 0).close q) m 0x40 0 := by
  obtain ⟨ls, hz, hw⟩ := hz
  have hout : x.out = y.out := by
    have e := congrArg State.out hx.rest
    exact e
  have hquads : x.quads = y.quads := by
    have e := congrArg State.quads hx.rest
    exact e
  have hnow : x.now = y.now := by
    have e := congrArg State.now hx.rest
    exact e
  refine State.bulkReplies_close 0x40 0 q ho ?_ ?_ ?_ ?_
  · rw [hz, hw]; exact hout
  · rw [hz, hw]
  · rw [hz, hw]; exact hquads
  · rw [hz, hw]; exact hnow

/-- What clause 1 and clause 3 of O20 share: a BULK_WRITE come whole that no check refuses. -/
theorem bulkWrite_stored {s u y : State} {t : Nat} {m : BulkMsg} {data : Bytes} {a : Nat} (hu : u = s.advance t)
    (h : u.TakesBulk m) (hv : (u.bulkWriteChecks m data).verdict = none) (hl : m.length = data.length)
    (ha : a = m.addr u.mem.bulkBase) (hy : y = u.modPort m.port fun l => l.meetSeq m.seq) :
    ∃ s' x, exec (.bulkWrite t m data) s = .next s' ∧ y.StoresBulk x m a data ∧ y.BulkReplies s' m 0x40 0 ∧
      s'.mgmt = y.mgmt ∧ s'.chans = x.chans ∧ s'.mem = x.mem ∧
      { u.graft s' with
        mem := u.mem, mgmt := u.mgmt, lanes := u.lanes, out := u.out, chans := u.chans, card := u.card, sys := u.sys
        net := u.net } = u := by
  have hs := y.storesBulk m a data
  have hlanes : (y.bulkStored m a data).lanes = y.lanes := by
    have e := congrArg State.lanes hs.rest
    exact e
  have hquads : (y.bulkStored m a data).quads = y.quads := by
    have e := congrArg State.quads hs.rest
    exact e
  have hopen : (y.bulkStored m a data).bulkOpen m.port = true := by
    rw [State.bulkOpen_congr hlanes hquads, hy, State.bulkOpen_modPort u m.port m.port fun v => ⟨v.meetSeq_link _, v.meetSeq_ipv4 _⟩,
      h.link]
  have hexec : exec (.bulkWrite t m data) s = .next ((opBulkWrite u m data).close s.pending) :=
    h.portEvent (fun s => opBulkWrite s m data) hu
  rw [opBulkWrite_whole h hv hl ha hy] at hexec
  generalize y.bulkStored m a data = x at *
  obtain ⟨hmgmt, hch, hmem, -, hrest⟩ := hs.bulkAnswer_close (z := x) ⟨x.lanes, rfl⟩ hy s.pending
  exact ⟨_, x, hexec, hs, hs.replies ⟨x.lanes, rfl, by rw [hlanes]⟩ hopen s.pending, hmgmt, hch, hmem, hrest⟩

/-- A BULK_WRITE refused by its checks, none of its data on the way. -/
theorem bulkWrite_refused {s u y z : State} {t : Nat} {m : BulkMsg} {data : Bytes} {a : Abort} (hu : u = s.advance t)
    (h : u.TakesBulk m) (hv : (u.bulkWriteChecks m data).verdict = some a) (ha : a.code < 0x09000000)
    (hl : m.port.isLane = true → m.length = data.length) (hy : y = u.modPort m.port fun l => l.meetSeq m.seq)
    (hz : z = y.modPort m.port fun l => { l with refused := l.refused + 1 }) :
    ∃ s', exec (.bulkWrite t m data) s = .next s' ∧ z.BulkReplies s' m 0x40 a.code ∧ s'.mgmt = z.mgmt ∧
      s'.oda = { u.oda with aborts := u.oda.aborts + 1 } ∧
      s'.mem = (if a = .pageNotHeld then { u.mem with refused := u.mem.refused + 1 } else u.mem) ∧
      { u.graft s' with mem := u.mem, mgmt := u.mgmt, lanes := u.lanes, out := u.out, oda := u.oda } = u := by
  have hleft : (if m.port.isLane then m.length - data.length else 0) = 0 := by
    split
    · next hp => rw [hl hp, Nat.sub_self]
    · rfl
  have hverdict : Checks.verdict (((u.oda.sessions.any fun x => decide (x.port = m.port ∧ x.version = 1) && !x.proxy), .version)
      :: (decide (u.sys.state = .standby ∨ u.sys.state = .recess), .wrongState) :: u.bulkWriteChecks m data) = some a := by
    rw [h.version, decide_eq_false (by simp [h.awake, h.not_recess])]; exact hv
  have hop : opBulkWrite u m data = y.bulkRefuse 0x40 m a := by
    unfold opBulkWrite
    rw [hleft, State.bulkIn_refused 0x40 _ _ h.booted h.link hverdict ha, hy]
  have hexec : exec (.bulkWrite t m data) s = .next ((opBulkWrite u m data).close s.pending) :=
    h.portEvent (fun s => opBulkWrite s m data) hu
  rw [hop] at hexec
  obtain ⟨hreply, hmgmt, hoda, hmem, hrest⟩ := bulkRefuse_close (u := u) 0x40 s.pending ha hy
    (fun v => ⟨v.meetSeq_link _, v.meetSeq_ipv4 _⟩) h.link hz
  exact ⟨_, hexec, hreply, hmgmt, hoda, by rw [hmem]; simp, hrest⟩

/-- A bulk message on the management port in STANDBY and in recess (R356), its own checks refusing it for nothing that
goes before WRONG_STATE. -/
theorem bulkIn_asleep {s u z : State} {t : Nat} {m : BulkMsg} (type left : Nat) (checks : State → Checks) (f : State → State)
    (hu : u = s.advance t) (hpor : u.sys.por = false) (hpin : u.sys.pin = false)
    (hs : u.sys.state = .standby ∨ u.sys.state = .recess) (hm : m.port = .mgmt)
    (hold : (u.oda.sessions.any fun x => decide (x.port = m.port ∧ x.version = 1) && !x.proxy) = false)
    (hz : z = { u with mgmt := { u.mgmt.meetSeq m.seq with refused := (u.mgmt.meetSeq m.seq).refused + 1 } })
    (hleft : left = 0) (hc : Checks.verdict ((false, .version) :: (true, .wrongState) :: checks u) = some .wrongState) :
    ∃ s', portEvent s t m.port (fun s => s.bulkIn m type left (checks s) f) = .next s' ∧
      z.BulkReplies s' m type Abort.wrongState.code ∧ s'.mgmt = z.mgmt ∧ s'.oda = { u.oda with aborts := u.oda.aborts + 1 } ∧
      { u.graft s' with mgmt := u.mgmt, out := u.out, lanes := u.lanes, oda := u.oda } = u := by
  have hopen : u.bulkOpen m.port = true := by rw [hm]; rfl
  have hb : u.sys.state ≠ .boot := by rcases hs with e | e <;> simp [e]
  have hv : Checks.verdict (((u.oda.sessions.any fun x => decide (x.port = m.port ∧ x.version = 1) && !x.proxy), .version)
      :: (decide (u.sys.state = .standby ∨ u.sys.state = .recess), .wrongState) :: checks u) = some .wrongState := by
    rw [hold, decide_eq_true hs]; exact hc
  have hz' : z = (u.modPort m.port fun l => l.meetSeq m.seq).modPort m.port fun l => { l with refused := l.refused + 1 } := by
    rw [hz, hm]; rfl
  obtain ⟨hreply, hmgmt, hoda, hmem, hrest⟩ := bulkRefuse_close (u := u) (a := .wrongState) type s.pending (by decide) rfl
    (fun v => ⟨v.meetSeq_link _, v.meetSeq_ipv4 _⟩) hopen hz'
  rw [portEvent_next _ hu hpor hpin fun _ => hm, hleft, State.bulkIn_refused type (checks u) f hb hopen hv (by decide)]
  generalize ((u.modPort m.port fun l => l.meetSeq m.seq).bulkRefuse type m .wrongState).close s.pending = x at *
  refine ⟨x, rfl, hreply, hmgmt, hoda, ?_⟩
  rw [if_neg (by simp)] at hmem
  refine Eq.trans ?_ hrest
  rw [← hmem]
  rfl

/-- A BULK_WRITE over a lane that no check refuses, some of its data still on the way. -/
theorem bulkWrite_part {s u y w : State} {t : Nat} {m : BulkMsg} {l : Fin 48} {data : Bytes} {a : Nat} (hu : u = s.advance t)
    (h : u.TakesBulk m) (hv : (u.bulkWriteChecks m data).verdict = none) (hport : m.port = .lane l)
    (hl : data.length < m.length) (ha : a = m.addr u.mem.bulkBase) (hy : y = u.modPort m.port fun l => l.meetSeq m.seq)
    (hw : w = y.modLane l fun v => { v with msg := some {
      page := if m.abs then none else some m.page, addr := a + data.length, due := m.length - data.length, skip := false } }) :
    ∃ s' x, exec (.bulkWrite t m data) s = .next s' ∧ y.StoresBulk x m a data ∧ w.BulkReplies s' m 0x40 0 ∧
      s'.chans = x.chans ∧ s'.mem = x.mem ∧
      { u.graft s' with
        mem := u.mem, lanes := u.lanes, out := u.out, chans := u.chans, card := u.card, sys := u.sys } = u := by
  have hs := y.storesBulk m a data
  have hlanes : (y.bulkStored m a data).lanes = y.lanes := by
    have e := congrArg State.lanes hs.rest
    exact e
  have hexec : exec (.bulkWrite t m data) s = .next ((opBulkWrite u m data).close s.pending) :=
    h.portEvent (fun s => opBulkWrite s m data) hu
  rw [opBulkWrite_part h hv hl ha hport hy] at hexec
  generalize y.bulkStored m a data = x at *
  have hz : ∀ f : Lane → Lane, x.modLane l f = { x with lanes := (y.modLane l f).lanes } := fun f => by
    rw [State.modLane_eq, State.modLane_eq]
    unfold State.lane State.setLane
    rw [hlanes]
  have hw' : w = { y with lanes := w.lanes } := by
    rw [hw, State.modLane_eq]
    rfl
  rw [hz, ← hw] at hexec
  obtain ⟨hmgmt, hch, hmem, hnet, hrest⟩ := hs.bulkAnswer_close (z := { x with lanes := w.lanes }) ⟨w.lanes, rfl⟩ hy s.pending
  have hnet := hnet (by rw [hport]; simp)
  have hreply := hs.replies (z := { x with lanes := w.lanes }) ⟨w.lanes, rfl, hw'⟩ (by rw [hport]; rfl) s.pending
  rw [show y.mgmt = u.mgmt by rw [hy, hport]; rfl] at hmgmt
  generalize (({ x with lanes := w.lanes } : State).bulkAnswer 0x40 m 0).close s.pending = s' at *
  refine ⟨s', x, hexec, hs, hreply, hch, hmem, Eq.trans ?_ hrest⟩
  rw [← hmgmt, ← hnet]
  rfl

/-- Settles O20: a BULK_WRITE that passes its checks is stored and answered, and one refused counts and is answered. -/
theorem bulkWrites : Obligations.BulkWrites := by
  unfold Obligations.BulkWrites
  refine ⟨?_, ?_, ?_, ?_⟩
  · intro s u x y z t m data p a hu ht hp hl h16 hmax hmod ha hy hx hz
    have hlen : badLength m data = false := by
      rw [← Bool.not_eq_true, badLength_iff fun _ => hl, hl]; omega
    have hymem : y.mem = u.mem := by rw [hy, State.modPort_mem]
    refine ⟨?_, ?_, ?_⟩
    · intro habs hpage hoff hend hpass hclosing
      have hplace : u.badPlace m = false := by
        rw [← Bool.not_eq_true, State.badPlace_page habs, hl]; omega
      have hheld : u.notHeld m = false := by
        rw [← Bool.not_eq_true, State.notHeld_page habs, ← hp, hpass, hclosing]; simp
      have hv : (u.bulkWriteChecks m data).verdict = none := by
        rw [State.bulkWriteChecks_eq, hlen, hplace, hheld]; exact bulkVerdict_none
      obtain ⟨s', v, hexec, hs, hreply, hmgmt, hch, hmem, hrest⟩ := bulkWrite_stored hu ht hv hl ha hy
      obtain ⟨hbytes, hpg, -, htab, hplayed, -, -⟩ := hs
      rw [hymem] at hbytes hpg htab
      refine ⟨s', hexec, hreply, hmgmt, ?_, ?_, ?_, ?_, ?_, hrest⟩
      · rw [hmem]; exact hbytes
      · rw [hmem, hpg, if_pos ⟨habs, rfl⟩, hp]
      · intro q hq
        rw [hmem, hpg, if_neg fun e => hq e.2.symm]
      · rw [hch, hplayed, hx]
      · rw [hmem]; exact htab
    · intro habs hpage hoff hend hpass
      have hplace : u.badPlace m = false := by
        rw [← Bool.not_eq_true, State.badPlace_page habs, hl]; omega
      have hheld : u.notHeld m = true := by rw [State.notHeld_page habs, ← hp]; exact hpass
      have hv : (u.bulkWriteChecks m data).verdict = some .pageNotHeld := by
        rw [State.bulkWriteChecks_eq, hlen, hplace, hheld]; rfl
      obtain ⟨s', hexec, hreply, hmgmt, hoda, hmem, hrest⟩ := bulkWrite_refused hu ht hv (by decide) (fun _ => hl) hy hz
      exact ⟨s', hexec, hreply, hmgmt, hmem, hoda, hrest⟩
    · intro habs ha16 hend hwin
      have hplace : u.badPlace m = false := by
        rw [← Bool.not_eq_true, State.badPlace_abs habs ha, hl]; omega
      have hv : (u.bulkWriteChecks m data).verdict = none := by
        rw [State.bulkWriteChecks_eq, hlen, hplace, State.notHeld_abs habs]; exact bulkVerdict_none
      obtain ⟨s', v, hexec, hs, hreply, hmgmt, hch, hmem, hrest⟩ := bulkWrite_stored hu ht hv hl ha hy
      obtain ⟨hbytes, -, hpages, htab, hplayed, -, -⟩ := hs
      have hpages := hpages habs
      rw [hymem] at hbytes htab hpages
      refine ⟨s', hexec, hreply, hmgmt, ?_, ?_, ?_, hrest⟩
      · rw [hmem]; exact hbytes
      · rw [hch, hplayed, hx]
      · rw [hmem]; rw [← hpages] at htab; exact htab
  · intro s u x y w t m l data p a hu ht hport hp hl hmax hmod ha hy hx habs hpage hoff hend hpass hclosing hw
    have hlen : badLength m data = false := badLength_lane (by rw [hport]; rfl) hl hmod hmax
    have hplace : u.badPlace m = false := by
      rw [← Bool.not_eq_true, State.badPlace_page habs]; omega
    have hheld : u.notHeld m = false := by
      rw [← Bool.not_eq_true, State.notHeld_page habs, ← hp, hpass, hclosing]; simp
    have hv : (u.bulkWriteChecks m data).verdict = none := by
      rw [State.bulkWriteChecks_eq, hlen, hplace, hheld]; exact bulkVerdict_none
    have hymem : y.mem = u.mem := by rw [hy, State.modPort_mem]
    obtain ⟨s', v, hexec, hs, hreply, hch, hmem, hrest⟩ := bulkWrite_part hu ht hv hport hl ha hy (w := w) (by rw [habs]; exact hw)
    obtain ⟨hbytes, hpg, -, -, hplayed, -, -⟩ := hs
    rw [hymem] at hbytes hpg
    refine ⟨s', hexec, hreply, ?_, ?_, ?_, ?_, hrest⟩
    · rw [hmem]; exact hbytes
    · rw [hmem, hpg, if_pos ⟨habs, rfl⟩, hp]
    · intro q hq
      rw [hmem, hpg, if_neg fun e => hq e.2.symm]
    · rw [hch, hplayed, hx]
  · intro s u z t m data a hu ht ha hz hlane code hcode
    have hz : z = (u.modPort m.port fun l => l.meetSeq m.seq).modPort m.port fun l => { l with refused := l.refused + 1 } := by
      rw [hz, State.modPort_modPort _ _ _ _ fun v => v.meetSeq_ne_init _]
    have key : ∃ e : Abort, code = e.code ∧ e ≠ .pageNotHeld ∧ e.code < 0x09000000 ∧
        (u.bulkWriteChecks m data).verdict = some e := by
      rw [State.bulkWriteChecks_eq]
      rcases hcode with ⟨hc, h⟩ | ⟨hc, h1, h2, h3, h4, h5⟩
      · rw [(badLength_iff hlane).2 h]
        exact ⟨.length, hc, by simp, by decide, bulkVerdict_length _ _⟩
      · have hlen : badLength m data = false := by rw [← Bool.not_eq_true, badLength_iff hlane]; omega
        have hplace : u.badPlace m = true := by
          rcases h5 with ⟨habs, h⟩ | ⟨habs, h⟩
          · exact (State.badPlace_page habs).2 h
          · exact (State.badPlace_abs habs ha).2 h
        rw [hlen, hplace]
        exact ⟨.range, hc, by simp, by decide, bulkVerdict_range _⟩
    obtain ⟨e, rfl, hne, he, hv⟩ := key
    obtain ⟨s', hexec, hreply, hmgmt, hoda, hmem, hrest⟩ := bulkWrite_refused hu ht hv he hlane rfl hz
    refine ⟨s', hexec, hreply, hmgmt, hoda, ?_⟩
    rw [if_neg hne] at hmem
    refine Eq.trans ?_ hrest
    rw [← hmem]
    rfl
  · intro s u z t m data hu hpor hpin hs hm hold hz p hp hlen
    have hpass := fun type => bulkIn_asleep (m := m) type 0 (fun _ => [])
      (fun s => s.modMem fun v => { v with passes := v.passes ++ [{ cycle := s.cycle, type := type, msg := m }] })
      hu hpor hpin hs hm hold hz rfl rfl
    simp only [List.mem_cons, List.not_mem_nil, or_false] at hp
    rcases hp with rfl | rfl | rfl | rfl | rfl
    · obtain ⟨hl, h16, hmod, hmax⟩ := hlen
      have hlane : m.port.isLane = false := by rw [hm]; rfl
      have hgood : badLength m data = false := by
        rw [← Bool.not_eq_true, badLength_iff (by simp [hlane]), hlane]
        simp
        omega
      refine bulkIn_asleep 0x40 _ (fun s => s.bulkWriteChecks m data) _ hu hpor hpin hs hm hold hz (by rw [hlane]; rfl) ?_
      rw [State.bulkWriteChecks_eq, hgood]
      exact asleepVerdict _ _
    · exact hpass 0x41
    · exact hpass 0x42
    · exact hpass 0x43
    · exact hpass 0x44

end Sys2Proof.Machine
end

section
/-! Requests answered and refused, and writes of the tables of segment memory (R31 to R51, R288): O22. -/

namespace Sys2Proof.Machine

/-! ## The device's number and the reply (R197, R281) -/

/-- A device has its number from the roles of its lanes, its quads and its truss. -/
theorem State.deviceNum_congr {x y : State} (hr : ∀ k, (x.lane k).role = (y.lane k).role) (hq : x.quads = y.quads)
    (ht : x.truss.num = y.truss.num) : x.deviceNum = y.deviceNum := by
  have hup : ∀ l, x.upLane l = y.upLane l := fun l => by
    unfold State.upLane State.ronzal State.laneQuad State.quad
    rw [hq, hr]
  unfold State.deviceNum State.king
  simp only [hup, ht]

theorem State.role_setLane (s : State) (l k : Nat) {v : Lane} (hv : v.role = (s.lane l).role) :
    ((s.setLane l v).lane k).role = (s.lane k).role := by
  rw [State.lane_setLane]
  split
  · next h => rw [hv, h]
  · rfl

theorem State.role_runLane (s : State) (l k : Nat) : ((s.runLane l).lane k).role = (s.lane k).role := by
  unfold State.runLane
  simp only [State.forAll_send]
  split
  · exact s.role_setLane l k rfl
  · exact s.role_setLane l k rfl

/-- A message that leaves keeps the roles of the lanes. -/
theorem State.role_sendPort (s : State) (p : Port) (n : Nat) (m : OutMsg) (k : Nat) :
    ((s.sendPort p n m).lane k).role = (s.lane k).role := by
  cases p with
  | mgmt => rfl
  | eth l => rfl
  | lane l =>
    show ((s.sendBlocks l (blocksOf n) m).lane k).role = _
    unfold State.sendBlocks State.when
    extract_lets s1
    have hs1 : (s1.lane k).role = (s.lane k).role := s.role_setLane l k rfl
    split
    · rw [State.role_runLane, hs1]
    · exact hs1

theorem State.replyTo_congr {x y : State} (h : x.deviceNum = y.deviceNum) (m : OdaMsg) (c : Nat) (d : Bytes) :
    x.replyTo m c d = y.replyTo m c d := by
  unfold State.replyTo
  rw [h]

/-- The reply that a state gives is the one it has just sent. -/
theorem State.replyTo_sent (x y : State) (m : OdaMsg) (p : Port) (n c : Nat) (d : Bytes) (o : OutMsg) (q : List Instr)
    (hl : x.lanes = y.lanes) (hq : x.quads = y.quads) (ht : x.truss = y.truss) :
    ((x.sendPort p n o).close q).replyTo m c d = y.replyTo m c d := by
  refine State.replyTo_congr (State.deviceNum_congr (fun k => ?_) ?_ ?_) m c d
  · rw [State.close_lane, State.role_sendPort]
    unfold State.lane
    rw [hl]
  · obtain ⟨ls, o, h⟩ := x.sendPort_eq p n o
    rw [State.close_quads, h, ← hq]
  · obtain ⟨ls, o, h⟩ := x.sendPort_eq p n o
    rw [State.close_truss, h, ← ht]

/-! ## A request answered, at the end of its command (R282, R288) -/

/-- What the reply depends on is as in `u`. -/
structure State.Answers (u y : State) : Prop where
  lanes : y.lanes = u.lanes
  quads : y.quads = u.quads
  truss : y.truss = u.truss
  out : y.out = u.out
  now : y.now = u.now

/-- The reply that `x` gives, sent from `y`. -/
theorem State.Answers.replies {u x y : State} (hx : u.Answers x) (hy : u.Answers y) (m : OdaMsg) (c : Nat) (q : List Instr) :
    u.Replies ((y.sendPort m.req.port 0 (x.replyTo m c [])).close q) m c [] := by
  have hxy : x.replyTo m c [] = y.replyTo m c [] := State.replyTo_congr
    (State.deviceNum_congr (fun k => by unfold State.lane; rw [hx.lanes, hy.lanes]) (by rw [hx.quads, hy.quads])
      (by rw [hx.truss, hy.truss])) m c []
  rw [hxy]
  exact State.replies_close (d := []) q hy.out hy.lanes hy.quads hy.now (State.replyTo_sent y y m _ _ c [] _ q rfl rfl rfl)

/-- A request that has changed segment memory and its tables, answered. -/
theorem State.answered_close {u x y : State} {m : OdaMsg} {ss ss' : List Session} {mb : List Mail} {n : Nat} {v : SegMem}
    (q : List Instr) (hx : x = { u.withMail ss mb n with mem := v })
    (hy : y = { x with oda := { x.oda with sessions := ss' } }) :
    u.Replies ((y.sendPort m.req.port 0 (x.replyTo m 0 [])).close q) m 0 [] ∧
      ((y.sendPort m.req.port 0 (x.replyTo m 0 [])).close q).mem = v ∧
      { u.graftReply ((y.sendPort m.req.port 0 (x.replyTo m 0 [])).close q) with mem := u.mem } = u := by
  have hux : u.Answers x := by rw [hx]; exact ⟨rfl, rfl, rfl, rfl, rfl⟩
  have huy : u.Answers y := by rw [hy, hx]; exact ⟨rfl, rfl, rfl, rfl, rfl⟩
  refine ⟨hux.replies huy m 0 q, ?_⟩
  obtain ⟨ls, o, h⟩ := y.sendPort_eq m.req.port 0 (x.replyTo m 0 [])
  unfold State.graftReply
  rw [State.close_mem, State.graft_close, State.close_net, State.close_oda, h, hy, hx]
  exact ⟨rfl, rfl⟩

/-- A request refused for a reason other than security, answered. -/
theorem State.turnsAway_close {u x y : State} {m : OdaMsg} {ss ss' : List Session} {mb : List Mail} {n : Nat} {b : Abort}
    (q : List Instr) (hb : b.code < 0x09000000) (hx : x = u.withMail ss mb n) (hy : y = x.aborted ss' b) :
    u.TurnsAway ((y.sendPort m.req.port 0 (x.replyTo m b.code [])).close q) m b.code := by
  have hux : u.Answers x := by rw [hx]; exact ⟨rfl, rfl, rfl, rfl, rfl⟩
  have hsec : y = { u.withMail ss' mb n with oda := { u.oda with sessions := ss', mailbox := mb, aborts := u.oda.aborts + 1 } } := by
    rw [hy, hx]
    unfold State.aborted
    rw [if_neg (Nat.not_le_of_lt hb)]
    rfl
  have huy : u.Answers y := by rw [hsec]; exact ⟨rfl, rfl, rfl, rfl, rfl⟩
  refine ⟨hux.replies huy m b.code q, ?_⟩
  obtain ⟨ls, o, h⟩ := y.sendPort_eq m.req.port 0 (x.replyTo m b.code [])
  unfold State.graftRefusal State.graftReply
  rw [State.graft_close, State.close_net, State.close_oda, h, hsec]
  exact ⟨rfl, rfl⟩

/-! ## A write of a table entry (R288, R293) -/

/-- The index and the subindex that a WRITE names. -/
theorem entry_writeMsg (r : Req) {ix sub : Nat} (data : Bytes) (hix : ix < 0x3000) (hsub : sub < 256) :
    indexOf (writeMsg r ix sub data) = ix ∧ subOf (writeMsg r ix sub data) = sub := by
  unfold indexOf subOf writeMsg entryWord
  simp only [BitVec.toNat_ofNat]
  omega

/-- A write of a table entry of a wrong length, which refuses it before anything else of the entry does. -/
theorem State.hostWrite_badLength {s u : State} {r : Req} {x : Session} {ix sub : Nat} {data : Bytes} (t : Nat) (en : Entry)
    (hu : u = s.advance t) (he : blobEntry ix sub en = true) (h : u.Writes r x ix sub data)
    (hl : data.length < en.lo ∨ en.hi < data.length)
    (hv : ∀ y : State, Checks.verdict ((true, .length) :: (y.writeBlob ix sub (x.sel.element en ix) data).checks) = some .length)
    (hkeep : ∀ y : State, (y.writeBlob ix sub (x.sel.element en ix) data).refused .length = y) :
    ∃ s', s.hostWrite t r ix sub data = .next s' ∧ u.TurnsAway s' (writeMsg r ix sub data) Abort.length.code := by
  obtain ⟨hentry, hix, hsub, hsel, htype, hro, hrc, hx1, hx2, hx3, hring, hreset, hcmd⟩ := of_decide_eq_true he
  obtain ⟨hi, hs⟩ := entry_writeMsg r data hix hsub
  have hh : u.holdsRing (writeMsg r ix sub data) = false := by
    unfold State.holdsRing
    rw [hi, hs, decide_eq_false fun e => hring e.2]
    rfl
  obtain ⟨ss, mb, H⟩ := State.handle_served h.serves (by decide : (0x11 : BitVec 8) ≠ 0x02) hh
  generalize hy : u.withMail ss mb (u.net.traffic + 1000000 * (32 + (writeMsg r ix sub data).data.length)) = y at H
  have hfind : y.find ix sub = some en := by
    rw [← hy]
    unfold State.find
    rw [show (u.withMail ss mb _).sec.recovery = false from h.serves.firmware]
    exact (State.entry?_normal h.serves.firmware ix sub).trans hentry
  have hreach : y.outOfReach ix sub = false := by rw [← hy]; exact h.reach
  have hrec : y.sec.recovery = false := by rw [← hy]; exact h.serves.firmware
  have hraw : rawIndex ix = false := decide_eq_false (by omega)
  have hwe : y.writeEntry x.sel ix sub en data r.session
      = (y.writeAt ix sub (x.sel.element en ix) en data r.session).served x.sel [] := by
    unfold State.writeEntry
    simp only [hraw, hsel, Bool.false_eq_true, if_false]
    split
    · exact absurd ⟨rfl, rfl⟩ hx1
    · exact absurd ⟨rfl, rfl⟩ hx2
    · exact absurd ⟨rfl, rfl⟩ hx3
    · rfl
  have hreq : y.request (writeMsg r ix sub data) x.sel = y.serveWrite x.sel ix sub data r.session := by
    show y.serveWrite x.sel (indexOf _) (subOf _) _ _ = _
    rw [hi, hs]; rfl
  have hserve : (y.serveWrite x.sel ix sub data r.session).checks.verdict = some .length ∧
      (y.serveWrite x.sel ix sub data r.session).refused .length = y := by
    have hother : decide (ix = 0x2000 ∧ sub = 0x03 ∧ leNat data / 2 ^ 24 ≠ 1) = false :=
      decide_eq_false fun e => hreset ⟨e.1, e.2.1⟩
    unfold State.serveWrite
    rw [hfind]
    dsimp only
    rw [hwe]
    unfold State.writeAt Act.served
    simp only [if_pos (show en.type = .domain ∨ en.type = .string from .inl htype), hreach, hother,
      decide_eq_false (fun e : en.access = .ro ∨ en.access = .rc => e.elim hro hrc), decide_eq_true hl,
      decide_eq_false (fun e : en.type = .bool ∧ 1 < leNat data => by rw [htype] at e; cases e.1)]
    exact ⟨hv y, hkeep y⟩
  obtain ⟨-, H⟩ := H _ hreq.symm
  obtain ⟨ss', e⟩ := H .length hserve.1
  rw [hserve.2] at e
  unfold State.hostWrite always
  rw [← hu]
  dsimp only
  rw [e]
  exact ⟨_, rfl, State.turnsAway_close s.pending (by decide) hy.symm rfl⟩

/-- How the write of a table or of the bulk window with the action `a` ends. -/
def State.WriteEnds (s : State) (t : Nat) (r : Req) (ix sub : Nat) (data : Bytes) (a : Act) : Prop :=
  (a.checks.verdict = none → a.after.sys.parity = [] → ∃ ss', s.hostWrite t r ix sub data = .next
    ((({ a.after with oda := { a.after.oda with sessions := ss' } } : State).sendPort r.port 0
      (a.after.replyTo (writeMsg r ix sub data) 0 [])).close s.pending)) ∧
  (∀ b, a.checks.verdict = some b → ∃ ss', s.hostWrite t r ix sub data = .next
    ((((a.refused b).aborted ss' b).sendPort r.port 0 ((a.refused b).replyTo (writeMsg r ix sub data) b.code [])).close s.pending))

/-- A write that has changed segment memory's tables to `v` is answered, and one refused is turned away. -/
theorem State.WriteEnds.answers {s u : State} {t : Nat} {r : Req} {x : Session} {ix sub : Nat} {data : Bytes} {a : Act}
    (h : s.WriteEnds t r ix sub data a) (hw : u.Writes r x ix sub data) {ss : List Session} {mb : List Mail} {n : Nat}
    {cs : Checks} {v : SegMem} (ha : a = (u.withMail ss mb n).act cs { u.withMail ss mb n with mem := v }) :
    (cs.verdict = none → ∃ s', s.hostWrite t r ix sub data = .next s' ∧ u.Replies s' (writeMsg r ix sub data) 0 [] ∧
      s'.mem = v ∧ { u.graftReply s' with mem := u.mem } = u) ∧
    (∀ b, cs.verdict = some b → b.code < 0x09000000 →
      ∃ s', s.hostWrite t r ix sub data = .next s' ∧ u.TurnsAway s' (writeMsg r ix sub data) b.code) := by
  obtain ⟨hnone, hsome⟩ := h
  have hafter : a.after = { u.withMail ss mb n with mem := v } := by rw [ha]; rfl
  have hkept : ∀ b, a.refused b = u.withMail ss mb n := fun b => by rw [ha]; rfl
  have hchecks : a.checks = cs := by rw [ha]; rfl
  rw [hchecks] at hnone hsome
  constructor
  · intro hv
    obtain ⟨ss', e⟩ := hnone hv (by rw [hafter]; exact hw.parity)
    have hanswer := State.answered_close (m := writeMsg r ix sub data) (ss' := ss') s.pending hafter rfl
    exact ⟨_, e, hanswer⟩
  · intro b hv hb
    obtain ⟨ss', e⟩ := hsome b hv
    have haway := State.turnsAway_close (m := writeMsg r ix sub data) (ss' := ss') s.pending hb (hkept b) rfl
    exact ⟨_, e, haway⟩

/-- A write of a table entry of the right length. -/
theorem State.hostWrite_table {s u : State} {r : Req} {x : Session} {ix sub : Nat} {data : Bytes} (t : Nat) (en : Entry)
    (hu : u = s.advance t) (he : blobEntry ix sub en = true) (h : u.Writes r x ix sub data)
    (hl : en.lo ≤ data.length ∧ data.length ≤ en.hi) (cs : Checks) (v : SegMem)
    (ha : ∀ ss mb n, (u.withMail ss mb n).writeBlob ix sub (x.sel.element en ix) data =
      (u.withMail ss mb n).act cs { u.withMail ss mb n with mem := v }) :
    (cs.verdict = none → ∃ s', s.hostWrite t r ix sub data = .next s' ∧ u.Replies s' (writeMsg r ix sub data) 0 [] ∧
      s'.mem = v ∧ { u.graftReply s' with mem := u.mem } = u) ∧
    (∀ b, cs.verdict = some b → b.code < 0x09000000 →
      ∃ s', s.hostWrite t r ix sub data = .next s' ∧ u.TurnsAway s' (writeMsg r ix sub data) b.code) := by
  obtain ⟨ss, mb, H⟩ := State.hostWrite_blob t en hu he h hl
  have hend : s.WriteEnds t r ix sub data _ := H _ (ha ss mb _).symm
  exact hend.answers h rfl

/-! ## The segment table (R31, R32, R36) -/

/-- Entry `i` of the segment table replaced. -/
def State.withSeg (u : State) (i : Nat) (data : Bytes) : SegMem :=
  { u.mem with segsOld := keepOld u.mem.segsOld u.cycle u.mem.seg [i], segs := sset (fun _ => {}) u.mem.segs i (segOf data) }

theorem State.seg_withSeg (u : State) (i k : Nat) (data : Bytes) :
    (u.withSeg i data).seg k = if k = i then segOf data else u.mem.seg k := by
  have h : (u.withSeg i data).seg k = if i = k then segOf data else u.mem.seg k := sget_sset _ _ i k _
  simp only [h, eq_comm]

theorem State.segEntry_write {s u : State} {r : Req} {x : Session} {data : Bytes} (t : Nat) (hu : u = s.advance t)
    (h : u.Writes r x 0x2200 0x02 data) (hl : data.length = 32) :
    ((segOf data).ok = true → ∃ s', s.hostWrite t r 0x2200 0x02 data = .next s' ∧
      u.Replies s' (writeMsg r 0x2200 0x02 data) 0 [] ∧ s'.mem = u.withSeg (x.sel.get 0x2200 0x01) data ∧
      { u.graftReply s' with mem := u.mem } = u) ∧
    ((segOf data).ok = false → ∃ s', s.hostWrite t r 0x2200 0x02 data = .next s' ∧
      u.TurnsAway s' (writeMsg r 0x2200 0x02 data) Abort.range.code) := by
  obtain ⟨hdone, haway⟩ := State.hostWrite_table t (Entry.blob 0x2200 0x02 .domain .rw 32 32 0x01) hu (by decide) h
    (by rw [hl]; decide) [(decide (data.length ≠ 32), .length), rangeIf (!(segOf data).ok)]
    (u.withSeg (x.sel.get 0x2200 0x01) data) fun _ _ _ => rfl
  rw [hl] at hdone haway
  refine ⟨fun hok => hdone (by rw [hok]; rfl), fun hok => haway .range (by rw [hok]; rfl) (by decide)⟩

/-- What R32 asks of a segment whose VALID is set. -/
theorem SegEntry.not_ok {e : SegEntry} (hv : e.valid = true)
    (h : e.lenG.toNat < 16 ∨ 2 ≤ e.format.toNat ∨
      103079215104 < 768 * e.base.toNat + e.lenG.toNat * (if e.format = 0 then 24 else 32)) : e.ok = false := by
  unfold SegEntry.ok segBytes hbmBytes
  rw [hv, ← Bool.not_eq_true]
  simp only [Bool.not_true, Bool.false_or, Bool.and_eq_true, decide_eq_true_eq]
  omega

/-! ## The marker-program table (R36, R37) -/

/-- The four events of program `i` replaced. -/
def State.withProgram (u : State) (i : Nat) (data : Bytes) : SegMem :=
  { u.mem with
    eventsOld := keepOld u.mem.eventsOld u.cycle (sget (fun _ => {}) u.mem.events) ((List.range 4).map (4 * i + ·))
    events := [0, 1, 2, 3].foldl (fun es e => sset (fun _ => {}) es (4 * i + e) (eventOf data e)) u.mem.events }

theorem State.event_withProgram (u : State) (i k e : Nat) (data : Bytes) (he : e < 4) :
    (u.withProgram i data).event k e = if k = i then eventOf data e else u.mem.event k e := by
  unfold State.withProgram SegMem.event
  simp only [List.foldl_cons, List.foldl_nil, sget_sset]
  by_cases hk : k = i
  · subst hk
    rw [if_pos rfl]
    have hcase : e = 0 ∨ e = 1 ∨ e = 2 ∨ e = 3 := by omega
    rcases hcase with rfl | rfl | rfl | rfl <;> simp
  · rw [if_neg hk]
    have hne : ∀ j, j < 4 → 4 * i + j ≠ 4 * k + e := fun j hj => by omega
    simp only [hne 3 (by decide), hne 2 (by decide), hne 1 (by decide), hne 0 (by decide), if_false]

theorem State.mprogEntry_write {s u : State} {r : Req} {x : Session} {data : Bytes} (t : Nat) (hu : u = s.advance t)
    (h : u.Writes r x 0x2200 0x04 data) (hl : data.length = 32) :
    ∃ s', s.hostWrite t r 0x2200 0x04 data = .next s' ∧
      u.Replies s' (writeMsg r 0x2200 0x04 data) 0 [] ∧ s'.mem = u.withProgram (x.sel.get 0x2200 0x03) data ∧
      { u.graftReply s' with mem := u.mem } = u := by
  obtain ⟨hdone, -⟩ := State.hostWrite_table t (Entry.blob 0x2200 0x04 .domain .rw 32 32 0x03) hu (by decide) h
    (by rw [hl]; decide) [(decide (data.length ≠ 32), .length)]
    (u.withProgram (x.sel.get 0x2200 0x03) data) fun _ _ _ => rfl
  exact hdone (by rw [hl]; rfl)

/-! ## The ring table (R50, R51) -/

/-- The ring bit of pages set to `b`. -/
def ringBits (b : Bool) (ps : List Nat) (pages : Sparse Page) : Sparse Page :=
  ps.foldl (fun pg p => sset (fun _ => {}) pg p { sget (fun _ => {}) pg p with ring := b }) pages

theorem sget_ringBits (b : Bool) (ps : List Nat) : ∀ (pages : Sparse Page) (q : Nat),
    sget (fun _ => {}) (ringBits b ps pages) q =
      if q ∈ ps then { sget (fun _ => {}) pages q with ring := b } else sget (fun _ => {}) pages q := by
  induction ps with
  | nil => intro pages q; rfl
  | cons p ps ih =>
    intro pages q
    refine (ih _ q).trans ?_
    rw [sget_sset]
    by_cases h : p = q
    · subst h
      simp
    · simp [h, Ne.symm h]

theorem State.forAll_ringBit (b : Bool) (ps : List Nat) : ∀ s : State,
    s.forAll ps (fun s p => s.modPage p fun v => { v with ring := b })
      = { s with mem := { s.mem with pages := ringBits b ps s.mem.pages } } := by
  induction ps with
  | nil => intro s; rfl
  | cons p ps ih => intro s; exact ih (s.modPage p fun v => { v with ring := b })

/-- Ring `i` replaced, and RING moved to its pages. -/
def SegMem.withRing (m : SegMem) (i : Nat) (data : Bytes) : SegMem :=
  { m.setRing i (ringOf data) with pages := ringBits true (ringOf data).pages (ringBits false (m.ring i).pages m.pages) }

theorem SegMem.page_withRing (m : SegMem) (i q : Nat) (data : Bytes) :
    (m.withRing i data).page q = { m.page q with
      ring := if q ∈ (ringOf data).pages then true else if q ∈ (m.ring i).pages then false else (m.page q).ring } := by
  refine (sget_ringBits true _ _ q).trans ?_
  rw [sget_ringBits]
  unfold SegMem.page
  split
  · split <;> rfl
  · split <;> rfl

theorem SegMem.ring_withRing (m : SegMem) (i k : Nat) (data : Bytes) :
    (m.withRing i data).ring k = if k = i then ringOf data else m.ring k := by
  have h : (m.withRing i data).ring k = if i = k then ringOf data else m.ring k := sget_sset _ _ i k _
  simp only [h, eq_comm]

theorem State.writeRing_act (s : State) (i : Nat) (data : Bytes) :
    s.writeRing i data = s.act
      [(decide (data.length ≠ 16), .length), (s.streams (some i), .blockRunning), rangeIf (!s.mem.ringOk i (ringOf data))]
      { s with mem := s.mem.withRing i data } := by
  unfold State.writeRing
  simp only [State.forAll_ringBit]
  rfl

theorem ringVerdict_running : ∀ b, Checks.verdict [(false, .length), (true, .blockRunning), rangeIf b] = some .blockRunning := by
  decide

theorem State.ringEntry_write {s u : State} {r : Req} {x : Session} {data : Bytes} {i : Nat} (t : Nat) (hu : u = s.advance t)
    (h : u.Writes r x 0x2200 0x06 data) (hl : data.length = 16) (hi : i = x.sel.get 0x2200 0x05) :
    (u.streams (some i) = false → u.mem.ringOk i (ringOf data) = true → ∃ s', s.hostWrite t r 0x2200 0x06 data = .next s' ∧
      u.Replies s' (writeMsg r 0x2200 0x06 data) 0 [] ∧ s'.mem = u.mem.withRing i data ∧
      { u.graftReply s' with mem := u.mem } = u) ∧
    (u.streams (some i) = true → ∃ s', s.hostWrite t r 0x2200 0x06 data = .next s' ∧
      u.TurnsAway s' (writeMsg r 0x2200 0x06 data) Abort.blockRunning.code) ∧
    (u.streams (some i) = false → u.mem.ringOk i (ringOf data) = false → ∃ s', s.hostWrite t r 0x2200 0x06 data = .next s' ∧
      u.TurnsAway s' (writeMsg r 0x2200 0x06 data) Abort.range.code) := by
  obtain ⟨hdone, haway⟩ := State.hostWrite_table t (Entry.blob 0x2200 0x06 .domain .rw 16 16 0x05) hu (by decide) h
    (by rw [hl]; decide)
    [(decide (data.length ≠ 16), .length), (u.streams (some i), .blockRunning), rangeIf (!u.mem.ringOk i (ringOf data))]
    (u.mem.withRing i data) fun ss mb n => by rw [hi]; exact State.writeRing_act _ _ data
  rw [hl] at hdone haway
  refine ⟨fun hs hok => hdone (by rw [hs, hok]; rfl), fun hs => haway .blockRunning ?_ (by decide),
    fun hs hok => haway .range (by rw [hs, hok]; rfl) (by decide)⟩
  rw [hs]
  exact ringVerdict_running _

theorem Ring.mem_pages {g : Ring} {q : Nat} : q ∈ g.pages ↔ g.valid = true ∧ g.first ≤ q ∧ q < g.first + g.count := by
  unfold Ring.pages
  cases g.valid
  · simp
  · simp only [if_true, List.mem_map, List.mem_range, true_and]
    constructor
    · rintro ⟨a, ha, rfl⟩
      omega
    · exact fun h => ⟨q - g.first, by omega, by omega⟩

/-- Rings that have a page in common meet. -/
theorem Ring.meets_of_mem {g p : Ring} {q : Nat} (hg : q ∈ g.pages) (hp : q ∈ p.pages) : g.meets p = true := by
  obtain ⟨hgv, hg1, hg2⟩ := Ring.mem_pages.1 hg
  obtain ⟨hpv, hp1, hp2⟩ := Ring.mem_pages.1 hp
  unfold Ring.meets
  rw [hgv, hpv, Bool.and_true, Bool.true_and, decide_eq_true_eq]
  omega

/-- What R51 asks of a ring whose VALID is set. -/
theorem SegMem.not_ringOk {m : SegMem} {i : Nat} {g : Ring} (hv : g.valid = true)
    (h : m.bulkPages < g.first + g.count ∨ g.count = 0 ∨ 2 ≤ g.format.toNat ∨ g.lenG < 16 ∨
      (g.format = 0 ∧ 87360 < g.lenG) ∨ (g.format = 1 ∧ 65520 < g.lenG) ∨
      (∃ p ∈ m.rings, p.1 ≠ i ∧ (∃ q ∈ g.pages, q ∈ p.2.pages))) : m.ringOk i g = false := by
  unfold SegMem.ringOk
  rw [hv, ← Bool.not_eq_true]
  simp only [Bool.not_true, Bool.false_or, Bool.and_eq_true, decide_eq_true_eq, Bool.not_eq_true', List.any_eq_false]
  rintro ⟨⟨⟨⟨hcount, -, hend⟩, hformat⟩, hlow, hhigh⟩, hapart⟩
  rcases h with h | h | h | h | ⟨hf, h⟩ | ⟨hf, h⟩ | ⟨p, hp, hne, q, hg, hq⟩
  · omega
  · omega
  · omega
  · omega
  · rw [if_pos hf] at hhigh; omega
  · rw [if_neg (by rw [hf]; decide)] at hhigh; omega
  · exact hapart p hp ⟨hne, Ring.meets_of_mem hg hq⟩

/-! ## The bulk window (R44) -/

/-- The bulk window moved: its pages FREE, without pins and out of every ring, and no ring valid. -/
def SegMem.withWindow (m : SegMem) (base n : Nat) : SegMem :=
  { m with
    bulkBase := base, bulkPages := n
    pages := smap (fun _ => {}) (fun _ p => { p with
      pass := .free, pins := 0, closing := false, ring := false, handover := none, waiting := none }) 16384 m.pages
    rings := smap (fun _ => {}) (fun _ r => { r with valid := false, playPtr := 0 }) 256 m.rings }

theorem SegMem.page_withWindow (m : SegMem) (base n q : Nat) (hq : q < 16384) :
    ((m.withWindow base n).page q).pass = .free ∧ ((m.withWindow base n).page q).pins = 0 := by
  have h : (m.withWindow base n).page q = _ := sget_smap _ _ _ _ q
  rw [h, if_pos hq]
  exact ⟨rfl, rfl⟩

theorem SegMem.ring_withWindow (m : SegMem) (base n k : Nat) (hk : k < 256) : ((m.withWindow base n).ring k).valid = false := by
  have h : (m.withWindow base n).ring k = _ := sget_smap _ _ _ _ k
  rw [h, if_pos hk]

/-- The entry of BULK_PAGES, or of BULK_BASE. -/
def windowEntry (pages : Bool) : Entry := if pages then Entry.num 0x2200 0x09 .u16 .rwl 0 else Entry.num 0x2200 0x08 .u32 .rwl 0

theorem State.bulkWindow_write {s u : State} {r : Req} {x : Session} {pages : Bool} {data : Bytes} {base n : Nat} (t : Nat)
    (hu : u = s.advance t) (h : u.Writes r x 0x2200 (if pages then 0x09 else 0x08) data)
    (hl : data.length = (if pages then 2 else 4)) (hbase : base = (if pages then u.mem.bulkBase else leNat data))
    (hn : n = (if pages then leNat data else u.mem.bulkPages)) (hfits : base ≤ 49151 ∧ n ≤ 16384 ∧ base + n ≤ 49152)
    (hidle : (u.mem.pages.any (fun p => decide (p.2.pass = .device ∨ p.2.pass = .reading) || p.2.closing) || u.streams none)
      = false) :
    ∃ s', s.hostWrite t r 0x2200 (if pages then 0x09 else 0x08) data = .next s' ∧
      u.Replies s' (writeMsg r 0x2200 (if pages then 0x09 else 0x08) data) 0 [] ∧ s'.mem = u.mem.withWindow base n ∧
      { u.graftReply s' with mem := u.mem } = u := by
  have hplain : plainEntry 0x2200 (if pages then 0x09 else 0x08) (windowEntry pages) = true := by
    clear h hl hbase hn
    revert pages
    decide
  obtain ⟨ss, mb, H⟩ := State.hostWrite_plain t (windowEntry pages) hu hplain h
    (by rw [hl]; cases pages <;> decide) (by cases pages <;> (intro e; cases e))
  have hact : ∀ ss mb n', (u.withMail ss mb n').writeNum 0x2200 (if pages then 0x09 else 0x08)
      (x.sel.element (windowEntry pages) 0x2200) (leNat data) r.session = (u.withMail ss mb n').act
      [rangeIf (decide (49151 < base ∨ 16384 < n ∨ 49152 < base + n)),
       (u.mem.pages.any (fun p => decide (p.2.pass = .device ∨ p.2.pass = .reading) || p.2.closing) || u.streams none,
         .blockRunning)] { u.withMail ss mb n' with mem := u.mem.withWindow base n } := fun ss mb n' => by
    rw [hbase, hn]
    cases pages <;> rfl
  have hend : s.WriteEnds t r 0x2200 (if pages then 0x09 else 0x08) data _ := H _ (hact ss mb _).symm
  refine (hend.answers h rfl).1 ?_
  rw [hidle, decide_eq_false (by omega)]
  rfl

/-! ## The obligation -/

theorem badLengthVerdict_seg : ∀ b c, Checks.verdict [(true, .length), (b, .length), rangeIf c] = some .length := by decide
theorem badLengthVerdict_mprog : ∀ b, Checks.verdict [(true, .length), (b, .length)] = some .length := by decide
theorem badLengthVerdict_ring : ∀ b c d,
    Checks.verdict [(true, .length), (b, .length), (c, .blockRunning), rangeIf d] = some .length := by decide

/-- Settles O22: each write passes or fails the checks of its table, and one that passes leaves the table as it gives it. -/
theorem segmentTables : Obligations.SegmentTables := by
  unfold Obligations.SegmentTables
  intro s u t r x data hu
  refine ⟨?_, ?_, ?_, ?_, ?_, ?_, ?_⟩
  · intro i h hl hi hok
    obtain ⟨s', hexec, hreply, hmem, hrest⟩ := (State.segEntry_write t hu h hl).1 hok
    rw [← hi] at hmem
    exact ⟨s', hexec, hreply, fun k => by rw [hmem, State.seg_withSeg], by rw [hmem]; rfl, hrest⟩
  · intro h hl hv hbad
    exact (State.segEntry_write t hu h hl).2 (SegEntry.not_ok hv hbad)
  · intro i h hl hi
    obtain ⟨s', hexec, hreply, hmem, hrest⟩ := State.mprogEntry_write t hu h hl
    rw [← hi] at hmem
    exact ⟨s', hexec, hreply, fun k e he => by rw [hmem, State.event_withProgram u i k e data he], by rw [hmem]; rfl, hrest⟩
  · intro i h hl hi hs hok
    obtain ⟨s', hexec, hreply, hmem, hrest⟩ := (State.ringEntry_write t hu h hl hi).1 hs hok
    refine ⟨s', hexec, hreply, fun k => by rw [hmem, SegMem.ring_withRing], fun q => ?_, fun q => ?_, by rw [hmem]; rfl, hrest⟩
    · rw [hmem, SegMem.page_withRing]
    · rw [hmem, SegMem.page_withRing]
  · intro i g h hl hi hg
    obtain ⟨-, hrunning, hrange⟩ := State.ringEntry_write t hu h hl hi
    exact ⟨hrunning, fun hs hv hbad => hrange hs (hg ▸ SegMem.not_ringOk hv hbad)⟩
  · intro p hp h hl
    simp only [List.mem_cons, List.not_mem_nil, or_false] at hp
    rcases hp with rfl | rfl | rfl
    · exact State.hostWrite_badLength t (Entry.blob 0x2200 0x02 .domain .rw 32 32 0x01) hu (by decide) h
        (Nat.lt_or_gt_of_ne hl) (fun _ => badLengthVerdict_seg _ _) fun _ => rfl
    · exact State.hostWrite_badLength t (Entry.blob 0x2200 0x04 .domain .rw 32 32 0x03) hu (by decide) h
        (Nat.lt_or_gt_of_ne hl) (fun _ => badLengthVerdict_mprog _) fun _ => rfl
    · exact State.hostWrite_badLength t (Entry.blob 0x2200 0x06 .domain .rw 16 16 0x05) hu (by decide) h
        (Nat.lt_or_gt_of_ne hl) (fun _ => badLengthVerdict_ring _ _ _) fun _ => rfl
  · intro pages base n h hl hbase hn hb1 hn1 hbn hidle hs
    have hpages : u.mem.pages.any (fun p => decide (p.2.pass = .device ∨ p.2.pass = .reading) || p.2.closing) = false := by
      rw [List.any_eq_false]
      rintro ⟨k, q⟩ hq
      obtain ⟨h1, h2, h3⟩ := hidle q ⟨k, hq⟩
      simp [h1, h2, h3]
    obtain ⟨s', hexec, hreply, hmem, hrest⟩ := State.bulkWindow_write t hu h hl hbase hn ⟨hb1, hn1, hbn⟩ (by rw [hpages, hs]; rfl)
    refine ⟨s', hexec, hreply, by rw [hmem]; rfl, by rw [hmem]; rfl, fun q hq => ?_, fun k hk => ?_, by rw [hmem]; rfl,
      by rw [hmem]; rfl, hrest⟩
    · rw [hmem]; exact SegMem.page_withWindow _ _ _ q hq
    · rw [hmem]; exact SegMem.ring_withWindow _ _ _ k hk

end Sys2Proof.Machine
end

section
/-! Stream pages: what comes of a check, a re-check and the end of a page, and how the end of a cycle settles them
(R46, R49, R52, R53, R109 to R112): O29. -/

namespace Sys2Proof.Machine

/-! ## What a channel plays while its output is worked out (R118, R126, R393) -/

theorem Channel.playGranule_act (c : Channel) (s : State) (n : Nat) (src : Source) (g : Nat) :
    (c.playGranule s n src g).1.act = c.act := by
  unfold Channel.playGranule
  extract_lets o i g0 rs first ce rest
  split
  · rfl
  · split <;> rfl

theorem Channel.playGranules_act (s : State) (ch : Nat) (src : Source) (n : Nat) :
    ∀ (g : Nat) (c : Channel), (Channel.playGranules s ch src n g c).1.act = c.act := by
  induction n with
  | zero => intro g c; rfl
  | succ n ih => intro g c; exact (ih _ _).trans (c.playGranule_act s ch src g)

theorem Channel.renderTo_act (c : Channel) (s : State) (ch k : Nat) : (c.renderTo s ch k).1.act = c.act := by
  unfold Channel.renderTo
  split
  · rfl
  · dsimp only
    split
    · exact Channel.playGranules_act s ch _ _ _ _
    · rfl

theorem State.act_modChan (s : State) (n m : Nat) {f : Channel → Channel} (hf : (f (s.chan n)).act = (s.chan n).act) :
    ((s.modChan n f).chan m).act = (s.chan m).act := by
  rw [show s.modChan n f = s.setChan n (f (s.chan n)) from rfl, State.chan_setChan]
  split
  · next h => rw [hf, h]
  · rfl

theorem State.act_render (s : State) (n k m : Nat) : ((s.render n k).chan m).act = (s.chan m).act := by
  have h := s.act_modChan n m (f := fun _ => ((s.chan n).renderTo s n k).1) ((s.chan n).renderTo_act s n k)
  unfold State.render
  dsimp only
  split <;> exact h

theorem Channel.take_act (c : Channel) (k : Nat) (v : SettingValue) : (c.take k v).act = c.act := by cases v <;> rfl

theorem State.act_takeSettings (n k m : Nat) (xs : List (Nat × SettingValue)) :
    ∀ s : State, ((s.takeSettings n k xs).chan m).act = (s.chan m).act := by
  induction xs with
  | nil => intro s; rfl
  | cons a r ih =>
    obtain ⟨x, v⟩ := a
    intro s
    simp only [State.takeSettings]
    split
    · rw [ih, State.act_modChan, State.act_render]
      split <;> exact Channel.take_act _ _ v
    · rfl

theorem Channel.fireBefore_act (x : Nat) (fuel : Nat) : ∀ c : Channel, (c.fireBefore fuel x).act = c.act := by
  induction fuel with
  | zero => intro c; rfl
  | succ m ih =>
    intro c
    unfold Channel.fireBefore
    split
    · split
      · exact ih _
      · rfl
    · rfl

theorem State.act_settle (s : State) (n k m : Nat) : ((s.settle n k).chan m).act = (s.chan m).act := by
  unfold State.settle
  extract_lets s1
  have h1 : (s1.chan m).act = (s.chan m).act := by
    unfold s1
    split
    · rfl
    · exact State.act_takeSettings n k m _ s
  rw [State.act_modChan _ _ _ (Channel.fireBefore_act _ 4 _), State.act_render, h1]

theorem Channel.rampStep_act (c : Channel) : c.rampStep.act = c.act := by
  unfold Channel.rampStep
  split <;> rfl

/-- Nothing but a late page's start changes what a channel plays. -/
theorem Channel.lateDue_none {c : Channel} (h : ∀ d k h, c.act ≠ .late d k h) (k : Nat) : c.lateDue k = none := by
  unfold Channel.lateDue
  split
  · next d k0 x e => exact absurd e (h d k0 x)
  · rfl

theorem State.act_syncGo (n k : Nat) (fuel : Nat) : ∀ s : State, (∀ d k h, (s.chan n).act ≠ .late d k h) →
    ((s.syncGo fuel n k).chan n).act = (s.chan n).act := by
  induction fuel with
  | zero => intro s _; exact s.act_settle n k n
  | succ m ih =>
    intro s h
    unfold State.syncGo
    rw [Channel.lateDue_none h]
    split
    · exact s.act_settle n k n
    · next e _ => cases e
    · next b _ _ =>
      have hstep : (((s.settle n b).modChan n Channel.rampStep).chan n).act = (s.chan n).act := by
        rw [State.act_modChan _ _ _ (Channel.rampStep_act _), State.act_settle]
      rw [ih _ (by rw [hstep]; exact h), hstep]
    · next e _ => cases e

/-- A channel that no late page holds up plays the same when it has been brought to a boundary. -/
theorem State.act_syncTo {s : State} {n : Nat} (h : ∀ d k h, (s.chan n).act ≠ .late d k h) (k : Nat) :
    ((s.syncTo n k).chan n).act = (s.chan n).act := State.act_syncGo n _ _ s h

/-! ## A check, a re-check and the end of a page come (R46, R52, R110) -/

/-- What a channel's output leaves of segment memory's passes and of what waits there. -/
theorem State.mem_syncTo (s : State) (n k : Nat) :
    (s.syncTo n k).mem.checks = s.mem.checks ∧ (s.syncTo n k).mem.pages = s.mem.pages ∧ (s.syncTo n k).cycle = s.cycle := by
  obtain ⟨hrest, hmem⟩ := s.onOutput_syncTo n k
  have hchecks := congrArg SegMem.checks hmem
  have hpages := congrArg SegMem.pages hmem
  have hcycle := congrArg State.cycle hrest
  exact ⟨hchecks, hpages, hcycle⟩

/-- A check of which none of its kind waits on the channel is noted. -/
theorem State.noteCheck_new {s : State} {n : Nat} {again : Bool} (k x : Nat)
    (h : (s.mem.checks.any fun v => decide (v.channel = n) && (v.again == again)) = false) :
    s.noteCheck n again k x = s.modMem fun m => { m with
      checks := m.checks ++ [{ cycle := s.cycle, channel := n, again := again, k := k, at_ := x }] } := by
  unfold State.noteCheck
  rw [if_neg]
  simp only [Bool.not_eq_true, List.any_eq_false] at h ⊢
  intro v hv
  simp [h v hv]

theorem opStreamCheck_noted {u : State} {n : Nat} {j x : Nat} (hp : u.taking n = true) (hd : u.streamDue n = some (j, x))
    (hx : x ≤ u.now) (h : (u.mem.checks.any fun v => decide (v.channel = n) && (v.again == false)) = false) :
    opStreamCheck u n = u.modMem fun m => { m with
      checks := m.checks ++ [{ cycle := u.cycle, channel := n, again := false, k := j, at_ := x }] } := by
  unfold opStreamCheck
  simp only [hp, hd, hx, if_true]
  exact State.noteCheck_new j x h

theorem opUnderrunRecheck_noted {u : State} {n j len h : Nat} {d : Descriptor} (hp : u.taking n = true)
    (hd : (u.chan n).latePage = some d) (hs : (j, len, h) = u.lateSlot n d)
    (hlate : u.boundaryFs n (d.sched.getD 0) < u.boundaryFs n (u.boundaryNow n) + leadFs)
    (hkeep : d.lateKeep = false ∨ u.boundaryFrom n (u.boundaryFs n (u.boundaryNow n) + leadFs) < j + len)
    (hnew : (u.mem.checks.any fun v => decide (v.channel = n) && (v.again == true)) = false) :
    (opUnderrunRecheck u n).mem.checks = u.mem.checks ++
      [{ cycle := u.cycle, channel := n, again := true, k := u.boundaryNow n, at_ := u.boundaryFs n (u.boundaryNow n) }] := by
  have hgoes : (d.lateKeep && decide (j + len ≤ u.boundaryFrom n (u.boundaryFs n (u.boundaryNow n) + leadFs))) = false := by
    rcases hkeep with e | e
    · rw [e]; rfl
    · rw [decide_eq_false (by omega), Bool.and_false]
  obtain ⟨hchecks, -, hcycle⟩ := u.mem_syncTo n (u.boundaryNow n)
  unfold opUnderrunRecheck
  simp only [hd, ← hs, hp, hgoes, decide_eq_true hlate, Bool.not_false, Bool.and_true, if_true]
  rw [State.noteCheck_new _ _ (by rw [hchecks]; exact hnew)]
  show (State.syncTo u n _).mem.checks ++ [_] = _
  rw [hchecks, hcycle]

/-- A page whose last granule has left gives up its pin. -/
theorem opStreamPageComplete_done {u : State} {n pg k0 x h : Nat} {d : Descriptor} (hp : u.taking n = true)
    (ha : (u.chan n).act = .stream d pg k0 x h) (hd : d.page = some pg)
    (hk : k0 + (u.mem.ring d.ringNo).granules h ≤ u.boundaryNow n) :
    ((opStreamPageComplete u n).chan n).act = .stream { d with page := none } pg k0 x h ∧
      ∀ q, (opStreamPageComplete u n).mem.page q = if pg = q then (u.mem.page pg).unpin true else u.mem.page q := by
  have hend : u.activityEnd n (u.chan n).act = some (k0 + (u.mem.ring d.ringNo).granules h) := by rw [ha]; rfl
  have hreached : u.reached n (k0 + (u.mem.ring d.ringNo).granules h) = true := by
    unfold State.taking at hp
    unfold State.reached
    rw [(Bool.and_eq_true_iff.1 hp).2, decide_eq_true hk]
    rfl
  have hact : ((u.syncTo n (k0 + (u.mem.ring d.ringNo).granules h)).chan n).act = .stream d pg k0 x h := by
    rw [State.act_syncTo (by rw [ha]; intro _ _ _ e; cases e), ha]
  obtain ⟨-, hpages, -⟩ := u.mem_syncTo n (k0 + (u.mem.ring d.ringNo).granules h)
  unfold opStreamPageComplete
  simp only [hend, hp, hreached, Bool.and_self, if_true]
  generalize u.syncTo n (k0 + (u.mem.ring d.ringNo).granules h) = y at hact hpages ⊢
  rw [hact]
  dsimp only
  rw [hd]
  constructor
  · exact congrArg Channel.act (State.chan_setChan_self _ n _)
  · intro q
    have e : (y.modPage pg (Page.unpin true)).mem.page q = if pg = q then (y.mem.page pg).unpin true else y.mem.page q :=
      sget_sset _ _ pg q _
    unfold SegMem.page at e ⊢
    rw [hpages] at e
    exact e

/-! ## Entries of a table (by membership) -/

/-- What holds of every entry of a table, and of what is written to it, holds of every entry after the write. -/
theorem forall_sset {α : Type} [DecidableEq α] {P : Nat × α → Prop} (d : Nat → α) {xs : Sparse α} {k : Nat} {v : α}
    (h : ∀ p ∈ xs, P p) (hv : P (k, v)) : ∀ p ∈ sset d xs k v, P p := by
  have hput : ∀ ys : Sparse α, (∀ p ∈ ys, P p) → ∀ p ∈ sput ys k v, P p := fun ys => by
    induction ys with
    | nil => intro _ p hp; rw [List.mem_singleton.1 hp]; exact hv
    | cons q r ih =>
      obtain ⟨j, w⟩ := q
      intro hys p hp
      obtain ⟨hq, hr⟩ := List.forall_mem_cons.1 hys
      simp only [sput] at hp
      split at hp
      · rcases List.mem_cons.1 hp with e | e
        · rw [e]; exact hv
        · exact hys p e
      · split at hp
        · rcases List.mem_cons.1 hp with e | e
          · rw [e]; exact hv
          · exact hr p e
        · rcases List.mem_cons.1 hp with e | e
          · rw [e]; exact hq
          · exact ih hr p e
  unfold sset
  split
  · exact fun p hp => h p (List.mem_of_mem_filter hp)
  · exact hput xs h

/-- An entry that is not its default is listed. -/
theorem sget_listed {α : Type} (d : Nat → α) (xs : Sparse α) (k : Nat) : sget d xs k = d k ∨ (k, sget d xs k) ∈ xs := by
  induction xs with
  | nil => exact .inl rfl
  | cons p r ih =>
    obtain ⟨j, v⟩ := p
    simp only [sget]
    split
    · next h => rw [h]; exact .inr (List.mem_cons_self ..)
    · exact ih.imp_right fun e => List.mem_cons_of_mem _ e

/-- What holds of every entry of a table, and of what its first `n` entries become, holds of every entry after a change
of these. -/
theorem forall_smap {α : Type} [DecidableEq α] {P : Nat × α → Prop} (d : Nat → α) (f : Nat → α → α) (n : Nat) {xs : Sparse α}
    (h : ∀ p ∈ xs, P p) (hf : ∀ k, P (k, f k (sget d xs k))) : ∀ p ∈ smap d f n xs, P p := by
  induction n with
  | zero => exact h
  | succ n ih => exact forall_sset d ih (hf n)

/-! ## Where time brings nothing more about -/

/-- Something of the channel waits for a boundary. -/
def Channel.awaits (c : Channel) : Bool :=
  c.resetK.isSome || c.flushing.isSome || c.disabling.isSome || c.returning.isSome || c.reloadK.isSome

theorem State.waitingChans_nil_iff (s : State) : s.waitingChans = [] ↔
    (∀ p ∈ s.chans, p.2.awaits = false) ∧ (s.bays.filter fun p => p.2.connecting.isSome || p.2.leaving.isSome) = [] := by
  unfold State.waitingChans
  rw [List.append_eq_nil_iff, List.map_eq_nil_iff, List.map_eq_nil_iff, List.filter_eq_nil_iff]
  simp only [Bool.not_eq_true]
  exact Iff.rfl

theorem State.awaits_chan {s : State} (h : s.waitingChans = []) (n : Nat) : (s.chan n).awaits = false := by
  obtain ⟨hc, -⟩ := s.waitingChans_nil_iff.1 h
  rcases sget_listed Channel.init s.chans n with e | e
  · rw [show s.chan n = Channel.init n from e]; rfl
  · exact hc _ e

/-- A change of a channel of which nothing waits. -/
theorem State.waitingChans_setChan {s : State} {n : Nat} {c : Channel} (h : s.waitingChans = []) (hc : c.awaits = false) :
    (s.setChan n c).waitingChans = [] := by
  rw [State.waitingChans_nil_iff] at h ⊢
  obtain ⟨hchans, hbays⟩ := h
  exact ⟨forall_sset _ hchans hc, hbays⟩

theorem State.waitingChans_allChans {s : State} {f : Nat → Channel → Channel} (h : s.waitingChans = [])
    (hf : ∀ n c, (f n c).awaits = c.awaits) : (s.allChans f).waitingChans = [] := by
  have hchan := s.awaits_chan h
  rw [State.waitingChans_nil_iff] at h ⊢
  obtain ⟨hchans, hbays⟩ := h
  exact ⟨forall_smap _ f 64 hchans fun k => (hf k _).trans (hchan k), hbays⟩

/-- Nothing waits for the end of a cycle but checks, nothing for a granule boundary, no lane sends, and no traffic is on
its way to HBM. -/
structure State.Idle (s : State) : Prop where
  chans : s.waitingChans = []
  lanes : s.upLanes = []
  traffic : s.net.traffic = 0
  passes : s.mem.passes = []
  stops : s.stops = []

theorem State.Idle.setChan {s : State} (h : s.Idle) (n : Nat) {c : Channel} (hc : c.awaits = false) : (s.setChan n c).Idle :=
  ⟨State.waitingChans_setChan h.chans hc, h.lanes, h.traffic, h.passes, h.stops⟩

theorem State.Idle.modChan {s : State} (h : s.Idle) (n : Nat) {f : Channel → Channel}
    (hf : (f (s.chan n)).awaits = (s.chan n).awaits) : (s.modChan n f).Idle :=
  h.setChan n (hf.trans (s.awaits_chan h.chans n))

/-! ## Time moves on over the end of a cycle -/

/-- Over a list of channels that differ, what acts on one of them only acts once. -/
theorem State.forAll_only {xs : List Nat} {n : Nat} {f : State → Nat → State} (hx : xs.Nodup) (hn : n ∈ xs)
    (hf : ∀ k, k ≠ n → ∀ s, f s k = s) : ∀ s : State, s.forAll xs f = f s n := by
  have hnone : ∀ ys : List Nat, n ∉ ys → ∀ s : State, s.forAll ys f = s := fun ys => by
    induction ys with
    | nil => exact fun _ s => rfl
    | cons a r ih =>
      intro hy s
      obtain ⟨ha, hr⟩ := not_or.1 (mt List.mem_cons.2 hy)
      exact (congrArg (fun x : State => x.forAll r f) (hf a (Ne.symm ha) s)).trans (ih hr s)
  induction xs with
  | nil => cases hn
  | cons a r ih =>
    intro s
    obtain ⟨ha, hr⟩ := List.nodup_cons.1 hx
    rcases List.mem_cons.1 hn with e | e
    · subst e
      exact hnone r ha (f s n)
    · have hne : a ≠ n := fun h => ha (h ▸ e)
      exact (congrArg (fun x : State => x.forAll r f) (hf a hne s)).trans (ih hr e s)

/-- One check settled: none other waits. -/
theorem State.settleChecks_one {y : State} {v : PageCheck} {n : Nat} (h : y.mem.checks = [v]) (hv : v.channel = n) (hn : n < 64) :
    y.settleChecks = (y.modMem fun m => { m with checks := [] }).settleCheck v := by
  unfold State.settleChecks
  rw [h]
  refine (State.forAll_only (n := n) List.nodup_range (List.mem_range.2 hn) (fun k hk s => ?_) _).trans ?_
  · rw [List.filter_cons_of_neg (by simp [hv, Ne.symm hk])]
    rfl
  · rw [List.filter_cons_of_pos (by simp [hv])]
    rfl

/-- A cycle ended with one check and nothing else met in it. -/
theorem State.settleCycle_one {y z : State} {v : PageCheck} {n : Nat} (h : y.mem.checks = [v]) (hv : v.channel = n) (hn : n < 64)
    (hz : z = (y.modMem fun m => { m with checks := [] }).settleCheck v) (hi : z.Idle) : y.settleCycle = z := by
  have hpass : z.settlePasses = z := by
    unfold State.settlePasses
    rw [hi.passes]
    show ({ z with mem := { z.mem with passes := [] } } : State) = z
    rw [← hi.passes]
  unfold State.settleCycle
  rw [State.settleChecks_one h hv hn, ← hz, hpass]
  dsimp only
  rw [hi.stops]
  show ({ z with stops := [] } : State) = z
  rw [← hi.stops]

/-- Traffic that is none stays none. -/
theorem State.serveTraffic_none {z : State} (h : z.net.traffic = 0) (fs : Nat) : z.serveTraffic fs = z := by
  unfold State.serveTraffic
  split
  · rfl
  · rw [h, Nat.zero_sub, ← h]

/-- Where only a check waits, nothing else does when its cycle has ended. -/
theorem State.idle_of_quiet {s y : State} {t : Nat} (hy : y = s.tick t)
    (hquiet : State.quiet { s with mem := { s.mem with checks := [] } } = true) :
    s.laneWaits = false ∧ (y.modMem fun m => { m with checks := [] }).Idle := by
  unfold State.quiet State.unsettled at hquiet
  simp only [Bool.and_eq_true, Bool.not_eq_true', Bool.or_eq_false_iff, decide_eq_false_iff_not, decide_eq_true_eq,
    not_not, List.isEmpty_iff] at hquiet
  obtain ⟨⟨⟨⟨⟨⟨-, hpasses⟩, hstops⟩, hwaiting⟩, hlanes⟩, hup⟩, htraffic⟩ := hquiet
  rw [hy]
  exact ⟨hlanes, hwaiting, hup, htraffic, hpasses, hstops⟩

/-- Time moves on over the end of the cycle of one check: the check is settled. -/
theorem State.advance_settles {s y u z : State} {t n : Nat} {v : PageCheck} (hy : y = s.tick t) (hu : u = s.advance t)
    (hstill : s.still = false) (hlanes : s.laneWaits = false) (hchecks : s.mem.checks = [v]) (hcycle : s.cycle < y.cycle)
    (hv : v.channel = n) (hn : n < 64) (hz : z = (y.modMem fun m => { m with checks := [] }).settleCheck v)
    (hidle : z.Idle) : u = z := by
  have hdrain : ∀ k, State.drain k t s = s := fun k => by
    cases k with
    | zero => rfl
    | succ k =>
      unfold State.drain
      simp only [hlanes, Bool.false_and, Bool.false_eq_true, if_false]
  have hsettle : y.settleCycle = z := State.settleCycle_one (by rw [hy]; exact hchecks) hv hn hz hidle
  have hunsettled : y.unsettled = true := by
    unfold State.unsettled
    rw [show y.mem.checks = [v] by rw [hy]; exact hchecks]
    rfl
  have hystill : y.still = false := by rw [hy]; exact hstill
  have hnone : ∀ f : State → Nat → State, z.forAll [] f = z := fun _ => rfl
  rw [hu]
  unfold State.advance State.moveTo
  simp only [hdrain, ← hy, hystill, hunsettled, decide_eq_true hcycle, Bool.and_self, Bool.false_eq_true, if_false, if_true,
    hsettle, hidle.chans, hidle.lanes, hnone, State.serveTraffic_none hidle.traffic]

/-! ## Rings and pages in a check (R46, R52, R53) -/

theorem State.ring_setRing (s : State) (i k : Nat) (r : Ring) :
    (s.mem.setRing i r).ring k = if i = k then r else s.mem.ring k := sget_sset _ _ i k r

/-- What a ring has done depends on the rings only. -/
theorem State.RingGoesOn.congr {s x s' x' : State} {d : Descriptor} {c : Nat} {taker : Option Nat} (h : s.RingGoesOn x d c taker)
    (hs : s'.mem.rings = s.mem.rings) (hx : x'.mem.rings = x.mem.rings) : s'.RingGoesOn x' d c taker := by
  have hsr : ∀ i, s'.mem.ring i = s.mem.ring i := fun i => by unfold SegMem.ring; rw [hs]
  have hxr : ∀ i, x'.mem.ring i = x.mem.ring i := fun i => by unfold SegMem.ring; rw [hx]
  obtain ⟨h1, h2, h3⟩ := h
  exact ⟨by rw [hsr, hxr]; exact h1, by rw [hsr, hxr]; exact h2, fun i hi => by rw [hsr, hxr]; exact h3 i hi⟩

theorem State.ringGoesOn_take (s : State) (c p n : Nat) (d : Descriptor) :
    s.RingGoesOn (s.ringTake c d.ringNo d.serial p n) d c (some n) := by
  have hring : ∀ k, (s.ringTake c d.ringNo d.serial p n).mem.ring k = _ := fun k => s.ring_setRing d.ringNo k _
  refine ⟨fun h => ?_, fun h => ?_, fun i hi => by rw [hring, if_neg (Ne.symm hi)]⟩
  · rw [hring, if_pos rfl, h]
    refine ⟨rfl, fun e => (by cases e), fun m hm => ?_⟩
    cases hm
    exact ⟨rfl, rfl⟩
  · rw [hring, if_pos rfl, if_pos (Option.isSome_iff_ne_none.2 h)]
    split
    · split <;> exact ⟨rfl, rfl⟩
    · exact ⟨rfl, rfl⟩

theorem State.ringGoesOn_advance (s : State) (c p : Nat) (d : Descriptor) :
    s.RingGoesOn (s.ringAdvance c d.ringNo d.serial p) d c none := by
  unfold State.ringAdvance
  dsimp only
  split
  · next h =>
    exact ⟨fun e => absurd (Option.isSome_iff_ne_none.1 h) (not_not.2 e), fun _ => ⟨rfl, rfl⟩, fun _ _ => rfl⟩
  · next h =>
    have hring := fun k => s.ring_setRing d.ringNo k
    refine ⟨fun _ => ?_, fun e => absurd (Option.isSome_iff_ne_none.2 e) h, fun i hi => ?_⟩
    · show ((s.mem.setRing _ _).ring _).playPtr = _ ∧ (_ → ((s.mem.setRing _ _).ring _).splits = _) ∧ _
      rw [hring, if_pos rfl]
      exact ⟨rfl, fun _ => rfl, fun m hm => (by cases hm)⟩
    · show (s.mem.setRing _ _).ring i = _
      rw [hring, if_neg (Ne.symm hi)]

theorem State.page_modPage (s : State) (p q : Nat) (f : Page → Page) :
    (s.modPage p f).mem.page q = if p = q then f (s.mem.page p) else s.mem.page q := sget_sset _ _ p q _

theorem State.page_ringTake (s : State) (c i x p n q : Nat) :
    (s.ringTake c i x p n).mem.page q = if p = q then (s.mem.page p).pin else s.mem.page q :=
  State.page_modPage (s.setMem (s.mem.setRing i _)) p q Page.pin

/-- Of the device a STREAM passed over changes the rings only. -/
theorem State.ringAdvance_eq (s : State) (c i x p : Nat) :
    ∃ rs, s.ringAdvance c i x p = { s with mem := { s.mem with rings := rs } } := by
  unfold State.ringAdvance
  dsimp only
  split
  · exact ⟨s.mem.rings, rfl⟩
  · exact ⟨_, rfl⟩

/-! ## A bell that the device raises (R174 to R177, R189, R198) -/

/-- `z` is `x` after what happened in its bell unit: truss and bells, counts and flags, and on channels the break. -/
structure State.OnBells (x z : State) : Prop where
  rest : { z with truss := x.truss, card := x.card, sys := x.sys, chans := x.chans } = x
  underruns : z.card.underruns = x.card.underruns
  chan : ∀ n, ∃ b, z.chan n = { x.chan n with broke := b }
  waiting : x.waitingChans = [] → z.waitingChans = []

theorem State.onBells_refl (s : State) : s.OnBells s := ⟨rfl, rfl, fun n => ⟨(s.chan n).broke, rfl⟩, fun w => w⟩

theorem State.OnBells.trans {s x y : State} (h : s.OnBells x) (g : x.OnBells y) : s.OnBells y := by
  refine ⟨?_, g.underruns.trans h.underruns, fun n => ?_, fun w => g.waiting (h.waiting w)⟩
  · have e := congrArg (fun z : State => ({ z with truss := s.truss, card := s.card, sys := s.sys, chans := s.chans } : State)) g.rest
    exact e.trans h.rest
  · obtain ⟨a, ha⟩ := h.chan n
    obtain ⟨b, hb⟩ := g.chan n
    exact ⟨b, by rw [hb, ha]⟩

/-- A device without links that are UP has no truss links that are UP. -/
theorem State.upLinks_nil {s : State} (h : s.upLanes = []) (but : Option Nat) : s.upLinks but = [] := by
  unfold State.upLanes at h
  rw [List.map_eq_nil_iff, List.filter_eq_nil_iff] at h
  unfold State.upLinks
  rw [List.filter_eq_nil_iff]
  intro l _ e
  obtain ⟨hlink, -⟩ := Bool.and_eq_true_iff.1 e
  unfold State.linkIsUp State.trussLane at hlink
  obtain ⟨htruss, hup⟩ := Bool.and_eq_true_iff.1 hlink
  obtain ⟨hron, -⟩ := Bool.and_eq_true_iff.1 htruss
  rcases sget_listed (fun _ => ({} : Lane)) s.lanes l with hl | hl
  · rw [show s.lane l = {} from hl] at hup
    cases hup
  · exact h _ hl (Bool.and_eq_true_iff.2 ⟨hup, hron⟩)

/-- A change of the truss, of the report card but for underruns, and of the device's flags. -/
theorem State.onBells_truss (s : State) (t : Truss) (y : Sys) {c : Card} (hc : c.underruns = s.card.underruns) :
    s.OnBells { s with truss := t, card := c, sys := y } := ⟨rfl, hc, fun n => ⟨(s.chan n).broke, rfl⟩, fun w => w⟩

theorem State.onBells_enterBroken {s : State} (h : s.upLanes = []) (lane : Option Nat) (shown : Nat) (p : Byte) :
    s.OnBells (s.enterBroken lane shown p) := by
  unfold State.enterBroken
  split
  · exact s.onBells_refl
  · extract_lets now s0 t0 s1 s2 v s3
    have h1 : s.OnBells s1 := s.onBells_truss _ _ rfl
    have h2 : s2 = s1 := by
      unfold s2
      rw [State.upLinks_nil (s := s1) h]
      rfl
    have h3 : s2.OnBells s3 := by
      unfold s3
      split
      · exact s2.onBells_truss _ _ rfl
      · exact s2.onBells_refl
    have h4 : s3.OnBells (s3.allChans fun _ c => { c with broke := .pending }) := by
      refine ⟨rfl, rfl, fun n => ?_, fun w => State.waitingChans_allChans w fun _ _ => rfl⟩
      rw [State.chan_allChans]
      split
      · exact ⟨_, rfl⟩
      · exact ⟨(s3.chan n).broke, rfl⟩
    rw [h2] at h3
    exact (h1.trans h3).trans h4

theorem State.onBells_holdBell {s : State} (h : s.upLanes = []) (w : BellWord) (x : Ticks) : s.OnBells (s.holdBell w x) := by
  have htruss : ∀ t : Truss, s.OnBells { s with truss := t } := fun t => s.onBells_truss t s.sys rfl
  unfold State.holdBell
  extract_lets b t s1
  split
  · exact htruss _
  · split
    · have h1 : s.OnBells s1 := s.onBells_truss _ _ rfl
      split
      · exact h1
      · refine h1.trans ?_
        unfold State.lateBreak State.when
        split
        · exact State.onBells_enterBroken (s := s1) h none 63 0xFE
        · exact s1.onBells_refl
    · split
      · exact htruss _
      · exact htruss _

theorem State.forwardBell_none {s : State} (h : s.upLanes = []) (w : BellWord) : s.forwardBell w none = s := by
  unfold State.forwardBell
  rw [State.upLinks_nil h]
  rfl

/-- A bell of a device without links that are UP. -/
theorem State.admitBell_eq {s : State} (h : s.upLanes = []) (number : Nat) (p : Byte) (o : Ticks) (source i : Nat) (x : Ticks) :
    ∃ t : Truss, t = { s.truss with lastOrigin := sset (fun _ => none) s.truss.lastOrigin number (some o) } ∧
      s.admitBell number p o source i x = ({ s with truss := t } : State).holdBell (s.bellWord 0 number p o source i) x := by
  obtain ⟨t, ht⟩ : ∃ t : Truss, t = { s.truss with lastOrigin := sset (fun _ => none) s.truss.lastOrigin number (some o) } :=
    ⟨_, rfl⟩
  refine ⟨t, ht, ?_⟩
  have hup : ({ s with truss := t } : State).upLanes = [] := h
  unfold State.admitBell
  rw [← ht]
  exact congrArg (fun y : State => y.holdBell (s.bellWord 0 number p o source i) x) (State.forwardBell_none hup _)

theorem State.onBells_raiseBell {s : State} (h : s.upLanes = []) (number : Nat) (p : Byte) (o : Ticks) (source i : Nat) (x : Ticks) :
    s.OnBells (s.raiseBell number p o source i x) := by
  have htruss : ∀ t : Truss, s.OnBells { s with truss := t } := fun t => s.onBells_truss t s.sys rfl
  unfold State.raiseBell
  split
  · obtain ⟨t, -, e⟩ := State.admitBell_eq h number p o source i x
    have hup : ({ s with truss := t } : State).upLanes = [] := h
    rw [e]
    exact (htruss t).trans (State.onBells_holdBell hup _ _)
  · exact htruss _

/-- A bell that is neither late nor slow waits in the bell unit. -/
theorem State.holdBell_punctual {s : State} {w : BellWord} {x : Ticks} (he : s.eclk.stopped = false)
    (hl : (s.punctual w x).isLate = false) (hs : (s.punctual w x).isSlow = false) : s.holdBell w x = s.keepBell (s.punctual w x) := by
  unfold State.holdBell
  simp only [he, hl, hs, Bool.false_eq_true, if_false]

/-- What the raising of a bell leaves of the truss of a device without links that are UP, ECLK running. -/
theorem State.raises_raiseBell {s : State} (h : s.upLanes = []) (he : s.eclk.stopped = false) {number : Nat} (hn : number < 256)
    (p : Byte) (o : Ticks) (source i : Nat) (x : Ticks) :
    s.Raises (s.raiseBell number p o source i x) (s.bellWord 0 number p o source i) x := by
  have hnum : (s.bellWord 0 number p o source i).number.toNat = number := by
    show (BitVec.ofNat 8 number).toNat = number
    rw [BitVec.toNat_ofNat]
    omega
  have horigin : (s.bellWord 0 number p o source i).origin = o := rfl
  unfold State.Raises State.raiseBell
  rw [hnum, horigin]
  constructor
  · intro hno
    rw [hno]
    exact ⟨rfl, rfl, rfl⟩
  · intro hyes hlate hslow
    obtain ⟨t, ht, e⟩ := State.admitBell_eq h number p o source i x
    have hpunctual : ({ s with truss := t } : State).punctual (s.bellWord 0 number p o source i) x
        = s.punctual (s.bellWord 0 number p o source i) x := by
      rw [ht]
      rfl
    rw [hyes, if_pos rfl, e, State.holdBell_punctual (s := { s with truss := t }) he (by rw [hpunctual]; exact hlate) (by rw [hpunctual]; exact hslow),
      hpunctual, State.upLinks_nil h]
    refine ⟨?_, (List.append_nil _).symm, fun l => rfl⟩
    show ({ t with bells := t.bells ++ [_] } : Truss) = _
    rw [ht]

/-! ## A check settled (R52, R109 to R112) -/

theorem State.chan_modChan_self (s : State) (n : Nat) (f : Channel → Channel) : (s.modChan n f).chan n = f (s.chan n) :=
  s.chan_setChan_self n _

theorem State.Idle.setMem {s : State} (h : s.Idle) {m : SegMem} (hm : m.passes = s.mem.passes) : ({ s with mem := m } : State).Idle :=
  ⟨h.chans, h.lanes, h.traffic, hm.trans h.passes, h.stops⟩

theorem State.Idle.onBells {x z : State} (h : x.Idle) (hb : x.OnBells z) : z.Idle := by
  have hlanes := congrArg State.upLanes hb.rest
  have hnet := congrArg (fun y : State => y.net.traffic) hb.rest
  have hpasses := congrArg (fun y : State => y.mem.passes) hb.rest
  have hstops := congrArg State.stops hb.rest
  exact ⟨hb.waiting h.chans, hlanes.trans h.lanes, hnet.trans h.traffic, hpasses.trans h.passes, hstops.trans h.stops⟩

/-- `z` is `y` after a check of STREAM `d` on channel `n` in ECLK cycle `c` has done with page `p` of the ring: the channel
has become `v`, and `taken` says whether the page has been taken. -/
structure State.ChecksPage (y z : State) (n c p : Nat) (d : Descriptor) (taken : Bool) (v : Channel) : Prop where
  onChan : y.OnChan z n
  checks : z.mem.checks = y.mem.checks
  chan : z.chan n = v
  page : z.mem.page p = if taken then (y.mem.page p).pin else y.mem.page p
  others : ∀ q, q ≠ p → z.mem.page q = y.mem.page q
  pages : taken = false → z.mem.pages = y.mem.pages
  ring : y.RingGoesOn z d c (if taken then some n else none)
  idle : y.Idle → z.Idle

theorem State.checksPage_take (y : State) (n c p : Nat) (d : Descriptor) {f : Channel → Channel}
    (hf : (f (y.chan n)).awaits = (y.chan n).awaits) :
    y.ChecksPage ((y.ringTake c d.ringNo d.serial p n).modChan n f) n c p d true (f (y.chan n)) := by
  have hring := y.ringGoesOn_take c p n d
  have hpage := fun q => y.page_ringTake c d.ringNo d.serial p n q
  have hon := y.onChan_ringTake n c d.ringNo d.serial p n
  obtain ⟨rs, pg, h⟩ : ∃ rs pg, y.ringTake c d.ringNo d.serial p n = { y with mem := { y.mem with rings := rs, pages := pg } } :=
    ⟨_, _, rfl⟩
  rw [h] at hring hpage hon ⊢
  refine ⟨hon.modChan f, rfl, State.chan_modChan_self _ n f, ?_, fun q hq => ?_, fun e => (by cases e), hring.congr rfl rfl, fun hi => ?_⟩
  · exact (hpage p).trans (if_pos rfl)
  · exact (hpage q).trans (if_neg (Ne.symm hq))
  · have hi : ({ y with mem := { y.mem with rings := rs, pages := pg } } : State).Idle := hi.setMem rfl
    exact hi.modChan n hf

theorem State.checksPage_advance (y : State) (n c p : Nat) (d : Descriptor) {f : Channel → Channel}
    (hf : (f (y.chan n)).awaits = (y.chan n).awaits) :
    y.ChecksPage ((y.ringAdvance c d.ringNo d.serial p).modChan n f) n c p d false (f (y.chan n)) := by
  have hring := y.ringGoesOn_advance c p d
  have hon := y.onChan_ringAdvance n c d.ringNo d.serial p
  obtain ⟨rs, h⟩ := y.ringAdvance_eq c d.ringNo d.serial p
  rw [h] at hring hon ⊢
  refine ⟨hon.modChan f, rfl, State.chan_modChan_self _ n f, rfl, fun _ _ => rfl, fun _ => rfl, hring.congr rfl rfl, fun hi => ?_⟩
  have hi : ({ y with mem := { y.mem with rings := rs } } : State).Idle := hi.setMem rfl
  exact hi.modChan n hf

theorem State.ChecksPage.modChan {y z : State} {n c p : Nat} {d : Descriptor} {taken : Bool} {v : Channel}
    (h : y.ChecksPage z n c p d taken v) {f : Channel → Channel} (hf : (f v).awaits = v.awaits) :
    y.ChecksPage (z.modChan n f) n c p d taken (f v) := by
  have hchan := h.chan
  refine ⟨h.onChan.modChan f, h.checks, ?_, h.page, h.others, h.pages, h.ring.congr rfl rfl, fun hi => (h.idle hi).modChan n ?_⟩
  · rw [State.chan_modChan_self, hchan]
  · rw [hchan, hf]

/-- An underrun counted on a channel. -/
def Channel.countUnderrun (c : Channel) : Channel := { c.pbSet pbUnderrun with underruns := c.underruns + 1 }

theorem State.countUnderrun_eq (s : State) (n : Nat) : s.countUnderrun n =
    { s.modChan n Channel.countUnderrun with card := { s.card with underruns := satInc 32 s.card.underruns } } := rfl

theorem State.onChan_countUnderrun (s : State) (n : Nat) : s.OnChan (s.countUnderrun n) n := by
  have h := s.onChan_modChan n Channel.countUnderrun
  rw [State.countUnderrun_eq]
  generalize s.modChan n Channel.countUnderrun = x at h ⊢
  exact h.trans ⟨rfl, fun _ _ => rfl, rfl, rfl, rfl⟩

theorem State.chan_countUnderrun (s : State) (n : Nat) : (s.countUnderrun n).chan n = (s.chan n).countUnderrun :=
  s.chan_modChan_self n Channel.countUnderrun

theorem State.Idle.countUnderrun {s : State} (h : s.Idle) (n : Nat) : (s.countUnderrun n).Idle := by
  have hi := h.modChan n (f := Channel.countUnderrun) rfl
  rw [State.countUnderrun_eq]
  generalize s.modChan n Channel.countUnderrun = x at hi ⊢
  exact ⟨hi.chans, hi.lanes, hi.traffic, hi.passes, hi.stops⟩

/-- A check that finds the page ready. -/
theorem checkStream_ready {y : State} {c n j x p : Nat} {d : Descriptor} (hp : p = y.ringPage c d.ringNo d.serial)
    (hr : (y.mem.page p).ready = true) :
    y.ChecksPage (y.checkStream c n j x d) n c p d true
      { y.chan n with queue := onStream (fun d => { d with page := some p, sched := some j }) (y.chan n).queue } := by
  have h : y.checkStream c n j x d = (y.ringTake c d.ringNo d.serial p n).modChan n fun v => { v with
      queue := onStream (fun d => { d with page := some p, sched := some j }) v.queue } := by
    unfold State.checkStream
    simp only [← hp, hr, if_true]
    rfl
  rw [h]
  exact y.checksPage_take n c p d rfl

/-- A check that does not, where no escape segment serves: the STREAM is late. -/
theorem checkStream_late {y : State} {c n j x p pol : Nat} {d : Descriptor} (hp : p = y.ringPage c d.ringNo d.serial)
    (hpol : pol = (y.tt d.tt).underrun.toNat) (hr : (y.mem.page p).ready = false)
    (hu : pol % 4 ≠ 2 ∨ y.escapeUsable (bits pol 31 16) = false) :
    y.OnChan (y.checkStream c n j x d) n ∧ (y.checkStream c n j x d).mem = y.mem ∧
      ((y.checkStream c n j x d).chan n).queue = onStream (fun e => { e with
        late := true, sched := some j, lateKeep := decide (pol % 4 ≠ 0), latePark := bitOf pol 2 }) (y.chan n).queue ∧
      ((y.checkStream c n j x d).chan n).underruns = (y.chan n).underruns + 1 ∧
      (y.checkStream c n j x d).card.underruns = satInc 32 y.card.underruns ∧ (y.Idle → (y.checkStream c n j x d).Idle) := by
  have hesc : (y.countUnderrun n).escapeUsable (bits pol 31 16) = y.escapeUsable (bits pol 31 16) := rfl
  have hno : ¬ (pol % 4 = 2 ∧ y.escapeUsable (bits pol 31 16) = true) := fun e =>
    hu.elim (fun h => h e.1) fun h => by rw [h] at e; cases e.2
  have hmem : (y.countUnderrun n).mem = y.mem := rfl
  have hcard : (y.countUnderrun n).card.underruns = satInc 32 y.card.underruns := rfl
  have hqueue : ((y.countUnderrun n).chan n).queue = (y.chan n).queue := by rw [State.chan_countUnderrun]; rfl
  have hcount : ((y.countUnderrun n).chan n).underruns = (y.chan n).underruns + 1 := by rw [State.chan_countUnderrun]; rfl
  have hon := y.onChan_countUnderrun n
  have hidle : y.Idle → (y.countUnderrun n).Idle := fun h => h.countUnderrun n
  unfold State.checkStream
  simp only [← hp, ← hpol, hr, hesc, Bool.false_eq_true, if_false, if_neg hno]
  generalize y.countUnderrun n = z at hmem hcard hqueue hcount hon hidle ⊢
  obtain ⟨w, hw⟩ : ∃ w, w = z.when (decide (pol % 4 = 2)) fun s => s.modChan n fun c => c.pbSet pbEscBad := ⟨_, rfl⟩
  have hflag : z.OnChan w n ∧ w.mem = z.mem ∧ w.card = z.card ∧ (w.chan n).queue = (z.chan n).queue ∧
      (w.chan n).underruns = (z.chan n).underruns ∧ (z.Idle → w.Idle) := by
    rw [hw]
    unfold State.when
    split
    · refine ⟨z.onChan_modChan n _, rfl, rfl, ?_, ?_, fun h => h.modChan n rfl⟩
      · rw [State.chan_modChan_self]; rfl
      · rw [State.chan_modChan_self]; rfl
    · exact ⟨z.onChan_refl n, rfl, rfl, rfl, rfl, fun h => h⟩
  obtain ⟨hwon, hwmem, hwcard, hwqueue, hwcount, hwidle⟩ := hflag
  rw [← hw]
  refine ⟨(hon.trans hwon).modChan _, hwmem.trans hmem, ?_, ?_, ?_, fun h => (hwidle (hidle h)).modChan n rfl⟩
  · unfold State.onStream
    rw [State.chan_modChan_self]
    exact congrArg (onStream _) (hwqueue.trans hqueue)
  · unfold State.onStream
    rw [State.chan_modChan_self]
    exact hwcount.trans hcount
  · exact (congrArg Card.underruns hwcard).trans hcard

/-- What the raising of a bell says of the truss, the lanes and what was sent does not depend on memory, channels and the
report card. -/
theorem State.Raises.congr {y z : State} {m : SegMem} {cs : Sparse Channel} {v : Card} {number source i : Nat} {p : Byte}
    {o x : Ticks} (h : ({ y with mem := m, chans := cs, card := v } : State).Raises z
      (({ y with mem := m, chans := cs, card := v } : State).bellWord 0 number p o source i) x) :
    y.Raises z (y.bellWord 0 number p o source i) x := h

/-- A check that does not, where an escape segment serves: the STREAM becomes the play of it, and the bell is raised. -/
theorem checkStream_escape {y : State} {c n j x p pol : Nat} {d : Descriptor} (hp : p = y.ringPage c d.ringNo d.serial)
    (hpol : pol = (y.tt d.tt).underrun.toNat) (hr : (y.mem.page p).ready = false) (hu : pol % 4 = 2)
    (hs : y.escapeUsable (bits pol 31 16) = true) (hi : y.Idle) (he : y.eclk.stopped = false) :
    (y.checkStream c n j x d).mem.checks = y.mem.checks ∧ (y.checkStream c n j x d).mem.pages = y.mem.pages ∧
      y.RingGoesOn (y.checkStream c n j x d) d c none ∧
      ((y.checkStream c n j x d).chan n).queue = onStream (fun d => d.toEscape y.mem (bits pol 31 16) j) (y.chan n).queue ∧
      ((y.checkStream c n j x d).chan n).underruns = (y.chan n).underruns + 1 ∧
      (y.checkStream c n j x d).card.underruns = satInc 32 y.card.underruns ∧
      y.Raises (y.checkStream c n j x d)
        (y.bellWord 0 (bits pol 15 8) (BitVec.ofNat 8 d.ringNo) (y.trussAt x) srcUnderrun n) (y.trussAt x) ∧
      (y.checkStream c n j x d).Idle := by
  have hbell : bits pol 15 8 < 256 := Nat.mod_lt _ (by decide)
  have hqueue : ((y.countUnderrun n).chan n).queue = (y.chan n).queue := by rw [State.chan_countUnderrun]; rfl
  have hcount : ((y.countUnderrun n).chan n).underruns = (y.chan n).underruns + 1 := by rw [State.chan_countUnderrun]; rfl
  have hidle := hi.countUnderrun n
  obtain ⟨cs, v, hcs, hv⟩ : ∃ cs v, y.countUnderrun n = { y with chans := cs, card := v } ∧
      v.underruns = satInc 32 y.card.underruns := ⟨_, _, rfl, rfl⟩
  have hesc : (y.countUnderrun n).escapeUsable (bits pol 31 16) = y.escapeUsable (bits pol 31 16) := rfl
  unfold State.checkStream
  simp only [← hp, ← hpol, hr, hesc, hu, hs, Bool.false_eq_true, if_false, and_self, if_true]
  rw [hcs] at hqueue hcount hidle ⊢
  have hring := State.ringGoesOn_advance { y with chans := cs, card := v } c p d
  obtain ⟨rs, hrs⟩ := State.ringAdvance_eq { y with chans := cs, card := v } c d.ringNo d.serial p
  rw [hrs] at hring ⊢
  have hidle : ({ y with chans := cs, card := v, mem := { y.mem with rings := rs } } : State).Idle := hidle.setMem rfl
  have hchan := State.chan_modChan_self { y with chans := cs, card := v, mem := { y.mem with rings := rs } } n fun w => { w with
    queue := onStream (fun d => d.toEscape { y.mem with rings := rs } (bits pol 31 16) j) w.queue }
  have hidle := hidle.modChan n (f := fun w => { w with
    queue := onStream (fun d => d.toEscape { y.mem with rings := rs } (bits pol 31 16) j) w.queue }) rfl
  obtain ⟨cs', hcs'⟩ : ∃ cs', ({ y with chans := cs, card := v, mem := { y.mem with rings := rs } } : State).modChan n (fun w => { w with
      queue := onStream (fun d => d.toEscape { y.mem with rings := rs } (bits pol 31 16) j) w.queue }) =
      { y with chans := cs', card := v, mem := { y.mem with rings := rs } } := ⟨_, rfl⟩
  unfold State.onStream
  rw [hcs'] at hchan hidle ⊢
  have hraise := State.raises_raiseBell hidle.lanes he hbell (BitVec.ofNat 8 d.ringNo) (y.trussAt x) srcUnderrun n (y.trussAt x)
  have hon := State.onBells_raiseBell hidle.lanes (bits pol 15 8) (BitVec.ofNat 8 d.ringNo) (y.trussAt x) srcUnderrun n (y.trussAt x)
  rw [show ({ y with chans := cs', card := v, mem := { y.mem with rings := rs } } : State).trussAt x = y.trussAt x from rfl]
  generalize State.raiseBell { y with chans := cs', card := v, mem := { y.mem with rings := rs } } (bits pol 15 8)
    (BitVec.ofNat 8 d.ringNo) (y.trussAt x) srcUnderrun n (y.trussAt x) = z at hraise hon ⊢
  have hmem : z.mem = { y.mem with rings := rs } := by
    have e := congrArg State.mem hon.rest
    exact e
  obtain ⟨b, hb⟩ := hon.chan n
  rw [hchan] at hb
  refine ⟨by rw [hmem], by rw [hmem], hring.congr rfl (by rw [hmem]), ?_, ?_, hon.underruns.trans hv, hraise.congr, hidle.onBells hon⟩
  · rw [hb]
    exact congrArg (onStream _) hqueue
  · rw [hb]
    exact hcount

/-- The late page in progress is the one to be found. -/
theorem Channel.onLate_act {v : Channel} {d : Descriptor} {k0 h : Nat} (ha : v.act = .late d k0 h) (hm : d.missing = true)
    (f : Descriptor → Descriptor) : v.onLate f = { v with act := .late (f d) k0 h } := by
  unfold Channel.onLate
  rw [ha]
  simp only [hm, if_true]

theorem Channel.latePage_act {v : Channel} {d : Descriptor} {k0 h : Nat} (ha : v.act = .late d k0 h) (hm : d.missing = true) :
    v.latePage = some d := by
  unfold Channel.latePage
  rw [ha]
  simp only [hm, if_true]

theorem State.lateSlot_act {y : State} {n : Nat} {d : Descriptor} {k0 h : Nat} (ha : (y.chan n).act = .late d k0 h)
    (hm : d.missing = true) : y.lateSlot n d = (k0, (y.mem.ring d.ringNo).granules h, h) := by
  unfold State.lateSlot
  rw [ha]
  simp only [hm, if_true]

/-- A re-check that finds the page ready. -/
theorem recheck_ready {y : State} {c n b p k0 h : Nat} {d : Descriptor} (hp : p = y.ringPage c d.ringNo d.serial)
    (ha : (y.chan n).act = .late d k0 h) (hm : d.missing = true) (hr : (y.mem.page p).ready = true) :
    y.ChecksPage (y.recheck c n b) n c p d true { y.chan n with
      act := .late { d with page := some p, startAt := some (y.boundaryFrom n (y.boundaryFs n b + leadFs)) } k0 h } := by
  have hlate := Channel.onLate_act ha hm fun d => { d with
    page := some p, startAt := some (y.boundaryFrom n (y.boundaryFs n b + leadFs)) }
  have hop : y.recheck c n b = (y.ringTake c d.ringNo d.serial p n).modChan n fun v => v.onLate fun d => { d with
      page := some p, startAt := some (y.boundaryFrom n (y.boundaryFs n b + leadFs)) } := by
    unfold State.recheck
    simp only [Channel.latePage_act ha hm, State.lateSlot_act ha hm, ← hp, hr, if_true]
  rw [hop, ← hlate]
  exact y.checksPage_take n c p d (by rw [hlate]; rfl)

/-- The last re-check of a slot under KEEPTIME that does not: the page is passed over. -/
theorem recheck_skips {y : State} {c n b p k0 h : Nat} {d : Descriptor} (hp : p = y.ringPage c d.ringNo d.serial)
    (ha : (y.chan n).act = .late d k0 h) (hm : d.missing = true) (hr : (y.mem.page p).ready = false) (hk : d.lateKeep = true)
    (hlast : k0 + (y.mem.ring d.ringNo).granules h ≤ y.boundaryFrom n (y.boundaryFs n (b + 1) + leadFs)) :
    y.ChecksPage (y.recheck c n b) n c p d false { y.chan n with
      act := .late { d with skipped := true } k0 h
      dropped := (y.chan n).dropped + (y.mem.ring d.ringNo).granules h } := by
  have hskip := y.checksPage_advance n c p d (f := fun v => { v with
    dropped := v.dropped + (y.mem.ring d.ringNo).granules h }) rfl
  have hlate := Channel.onLate_act (v := { y.chan n with dropped := (y.chan n).dropped + (y.mem.ring d.ringNo).granules h }) ha hm
    fun d => { d with skipped := true }
  have hop : y.recheck c n b = ((y.ringAdvance c d.ringNo d.serial p).modChan n fun v => { v with
      dropped := v.dropped + (y.mem.ring d.ringNo).granules h }).modChan n fun v => v.onLate fun d => { d with skipped := true } := by
    unfold State.recheck State.skipPage
    simp only [Channel.latePage_act ha hm, State.lateSlot_act ha hm, ← hp, hr, hk, decide_eq_true hlast, Bool.and_self,
      Bool.false_eq_true, if_false, if_true]
  have hdone := hskip.modChan (f := fun v => v.onLate fun d => { d with skipped := true }) (by rw [hlate]; rfl)
  rw [hop]
  rw [hlate] at hdone
  exact hdone

/-! ## The obligation -/

/-- While ECLK stands no cycle ends. -/
theorem State.eclk_runs {s y : State} (he : y.eclk = s.eclk) (h : s.cycle < y.cycle) : y.eclk.stopped = false := by
  rw [← Bool.not_eq_true]
  intro hs
  unfold State.cycle Eclk.cycleAt at h
  rw [he] at h hs
  rw [if_pos hs, if_pos hs] at h
  exact Nat.lt_irrefl _ h

/-- A check of a queued STREAM settled. -/
theorem State.settleCheck_stream {y : State} {v : PageCheck} {n : Nat} {d : Descriptor} (hv : v.channel = n) (ha : v.again = false)
    (hd : (y.chan n).queue.find? Descriptor.unchecked = some d) : y.settleCheck v = y.checkStream v.cycle n v.k v.at_ d := by
  unfold State.settleCheck
  simp only [hv, ha, hd, Bool.false_eq_true, if_false]

/-- A re-check settled. -/
theorem State.settleCheck_again {y : State} {v : PageCheck} {n : Nat} (hv : v.channel = n) (ha : v.again = true) :
    y.settleCheck v = y.recheck v.cycle n v.k := by
  unfold State.settleCheck
  simp only [hv, ha, if_true]

/-- Settles O29: a check, a re-check and the end of a page are noted as they come, and a check noted is settled by the end
of its cycle, which time moves over. -/
theorem streamPages : Obligations.StreamPages := by
  unfold Obligations.StreamPages
  refine ⟨?_, ?_⟩
  · intro s u t n hu hp
    obtain ⟨hclocked, htaking, -⟩ := hp
    have hnext : ∀ f : State → State, event s t f = .next ((f u).close s.pending) := fun f => by
      rw [hu] at hclocked ⊢
      exact event_next s t f hclocked
    refine ⟨?_, ?_, ?_⟩
    · intro j x hd hx hnew
      have hop := opStreamCheck_noted htaking hd hx hnew
      refine ⟨_, hnext fun s => opStreamCheck s n, ?_⟩
      rw [State.graft_close, hop]
      rfl
    · intro d b j len h hd hb hs hlate hkeep hnew
      subst hb
      have hop := opUnderrunRecheck_noted htaking hd hs hlate hkeep hnew
      refine ⟨_, hnext fun s => opUnderrunRecheck s n, State.onChan_close _ (onChan_underrunRecheck u n), ?_⟩
      rw [State.close_mem]
      exact hop
    · intro d pg k0 x h ha hd hk
      obtain ⟨hact, hpage⟩ := opStreamPageComplete_done htaking ha hd hk
      refine ⟨_, hnext fun s => opStreamPageComplete s n, State.onChan_close _ (onChan_streamPageComplete u n), ?_, ?_, ?_, ?_⟩
      · rw [State.close_chan]; exact hact
      · intro q hq
        rw [State.close_mem, hpage, if_neg (Ne.symm hq)]
      · intro hpins
        rw [State.close_mem, hpage, if_pos rfl]
        unfold Page.unpin
        rw [if_pos hpins]
        rfl
      · intro hpins
        rw [State.close_mem, hpage, if_pos rfl]
        unfold Page.unpin
        rw [if_neg (by omega)]
        rfl
  · intro s y u t v n d p pol hy hu hstill hquiet hchecks hcycle hv hp hpol
    have heclk : y.eclk.stopped = false := State.eclk_runs (by rw [hy]; rfl) hcycle
    obtain ⟨y0, hy0⟩ : ∃ y0, y0 = y.modMem fun m => { m with checks := [] } := ⟨_, rfl⟩
    have hon0 : y.OnChan y0 n := by rw [hy0]; exact ⟨rfl, fun _ _ => rfl, rfl, rfl, rfl⟩
    obtain ⟨hlanes, hidle⟩ := State.idle_of_quiet hy hquiet
    rw [← hy0] at hidle
    have hsettle : ∀ z, y0.settleCheck v = z → z.Idle → u = z := fun z hz hi =>
      State.advance_settles hy hu hstill hlanes hchecks hcycle hv n.isLt (by rw [← hy0, hz]) hi
    refine ⟨fun hagain hd => ⟨fun hr => ?_, fun hr hesc => ?_, fun hr hpol2 hesc => ?_⟩,
      fun k0 h hagain hact hmiss => ⟨fun hr => ?_, fun hr hkeep hlast => ?_⟩⟩
    · have hz := checkStream_ready (y := y0) (c := v.cycle) (n := n) (j := v.k) (x := v.at_) (d := d) (p := p)
        (by rw [hy0]; exact hp) (by rw [hy0]; exact hr)
      rw [hsettle _ (State.settleCheck_stream hv hagain (by rw [hy0]; exact hd)) (hz.idle hidle)]
      generalize y0.checkStream v.cycle n v.k v.at_ d = z at hz ⊢
      subst hy0
      exact ⟨hon0.trans hz.onChan, hz.checks, hz.chan, hz.page, hz.others, hz.ring.congr rfl rfl⟩
    · have hz := checkStream_late (y := y0) (c := v.cycle) (n := n) (j := v.k) (x := v.at_) (d := d) (p := p) (pol := pol)
        (by rw [hy0]; exact hp) (by rw [hy0]; exact hpol) (by rw [hy0]; exact hr) (by rw [hy0]; exact hesc)
      obtain ⟨hon, hmem, hqueue, hcount, hcard, hi⟩ := hz
      rw [hsettle _ (State.settleCheck_stream hv hagain (by rw [hy0]; exact hd)) (hi hidle)]
      generalize y0.checkStream v.cycle n v.k v.at_ d = z at hon hmem hqueue hcount hcard ⊢
      subst hy0
      exact ⟨hon0.trans hon, hmem, hqueue, hcount, hcard⟩
    · have hz := checkStream_escape (y := y0) (c := v.cycle) (n := n) (j := v.k) (x := v.at_) (d := d) (p := p) (pol := pol)
        (by rw [hy0]; exact hp) (by rw [hy0]; exact hpol) (by rw [hy0]; exact hr) hpol2 (by rw [hy0]; exact hesc) hidle
        (by rw [hy0]; exact heclk)
      obtain ⟨hchecks', hpages, hring, hqueue, hcount, hcard, hraise, hi⟩ := hz
      rw [hsettle _ (State.settleCheck_stream hv hagain (by rw [hy0]; exact hd)) hi]
      generalize y0.checkStream v.cycle n v.k v.at_ d = z at hchecks' hpages hring hqueue hcount hcard hraise ⊢
      subst hy0
      exact ⟨hchecks', hpages, hring.congr rfl rfl, hqueue, hcount, hcard, hraise⟩
    · have hz := recheck_ready (y := y0) (c := v.cycle) (n := n) (b := v.k) (d := d) (p := p) (k0 := k0) (h := h)
        (by rw [hy0]; exact hp) (by rw [hy0]; exact hact) hmiss (by rw [hy0]; exact hr)
      rw [hsettle _ (State.settleCheck_again hv hagain) (hz.idle hidle)]
      generalize y0.recheck v.cycle n v.k = z at hz ⊢
      subst hy0
      exact ⟨hon0.trans hz.onChan, hz.checks, hz.chan, hz.page, hz.others, hz.ring.congr rfl rfl⟩
    · have hz := recheck_skips (y := y0) (c := v.cycle) (n := n) (b := v.k) (d := d) (p := p) (k0 := k0) (h := h)
        (by rw [hy0]; exact hp) (by rw [hy0]; exact hact) hmiss (by rw [hy0]; exact hr) hkeep (by rw [hy0]; exact hlast)
      rw [hsettle _ (State.settleCheck_again hv hagain) (hz.idle hidle)]
      generalize y0.recheck v.cycle n v.k = z at hz ⊢
      subst hy0
      exact ⟨hon0.trans hz.onChan, hz.checks, hz.pages rfl, hz.ring.congr rfl rfl, hz.chan⟩

end Sys2Proof.Machine
end

section
/-! SUPPORT. Two statements that fail, each with a state that the model evaluates: O19, O30. -/

namespace Sys2Proof.Machine

/-! ## A setting behind the start of an idle channel's queue (R90, R124, R393) -/

/-- An idle channel with its clock running and a GAP at the head of its queue that starts at boundary 1, and a written
GAIN that waits for boundary 501, both passed by now. -/
def settingBehindStart : State :=
  { now := 2000000000
    sys := { state := .run }
    synM := { en := true, phase := .running, locked := true, tbLocked := true }
    outs := [(0, { en := true })]
    chans := [(0, {
      state := .playing, queue := [{ kind := .gap, reps := 5, visible := true }]
      pend := [(1000000000, .gain 5)] })] }

/-- The channel is worked out to the start of the GAP only, and the setting still waits. -/
theorem pend_settingBehindStart :
    ((opChannelSettingApply (settingBehindStart.advance 0) 0).chan 0).pend = [(1000000000, .gain 5)] := by decide +kernel

/-- Refutes O30: its last clause lacks the premise that no descriptor of an idle channel's queue starts, and no escape
fires, before the last boundary. CHANNEL_SETTING_APPLY stops at such a start (R90), and a setting written for a later
boundary waits on. -/
theorem not_channelMoments : ¬ Obligations.ChannelMoments := by
  intro h
  obtain ⟨-, -, -, -, -, settings⟩ := h settingBehindStart _ 0 0 rfl
  have hidle : ((settingBehindStart.advance 0).chan 0).act = .idle := by decide +kernel
  obtain ⟨s', hs', -, hpend, -⟩ := settings (by decide +kernel) (by decide +kernel) (by decide +kernel) (by decide +kernel)
    (fun k hk => by rw [show ((0 : Fin 64) : Nat) = 0 from rfl, hidle] at hk; cases hk) (by decide +kernel)
  have hexec := event_next settingBehindStart 0 (fun s => opChannelSettingApply s 0) (by decide +kernel)
  cases hs'.symm.trans hexec
  rw [State.close_chan] at hpend
  exact absurd (pend_settingBehindStart.symm.trans hpend) (by decide)

/-! ## A handover completed while ECLK stands (R14, R48, R317) -/

/-- A HANDOVER of page 2 that asks for bell 5. -/
def bellHandover : BulkMsg := { port := .mgmt, seq := 1, w0 := 0x20000002, w1 := 5, w2 := 0, w3 := 0 }

/-- The device in STANDBY, ECLK stopped, with that HANDOVER closing its page. -/
def handoverInStandby : State :=
  { sys := { state := .standby }
    eclk := { stopped := true }
    mem := { bulkPages := 4, pages := [(2, { pass := .host, closing := true, handover := some bellHandover })] } }

/-- The bell is on its way to the bell unit; it does not wait there. -/
theorem bells_handoverInStandby : (opHandoverComplete (handoverInStandby.advance 0) 2).truss.bells = [] := by decide +kernel

/-- Refutes O19: the clause of HANDOVER_COMPLETE lacks the premise that ECLK runs. In STANDBY the bell that the HANDOVER
asks for stays on its way until ECLK runs again (R14), where `State.Raises` has it wait in the bell unit. -/
theorem not_hallPasses : ¬ Obligations.HallPasses := by
  intro h
  obtain ⟨-, -, complete⟩ := h
  obtain ⟨s', hs', -, -, -, rings⟩ := complete handoverInStandby _ 0 bellHandover _ 2 rfl (by decide +kernel)
    (by decide +kernel) (by decide +kernel) rfl (by decide +kernel)
  obtain ⟨y, -, htruss, -, raised⟩ := rings (by decide +kernel)
  have hbells := congrArg Truss.bells (raised (by decide +kernel) (by decide +kernel) (by decide +kernel)).1
  have hexec := event_next handoverInStandby 0 (fun s => opHandoverComplete s 2) (by decide +kernel)
  cases hs'.symm.trans hexec
  rw [State.close_truss] at htruss
  rw [← htruss, bells_handoverInStandby] at hbells
  exact absurd hbells.symm (by simp)

end Sys2Proof.Machine
end

section
/-! SUPPORT and proof of O1. Instructions that change their own timetable alone (03_joiners.md, R60, R61, R76, R77). -/

namespace Sys2Proof.Machine

/-! ## An issue that changes its own timetable alone -/

/-- The state that a command from `u` ends in, `x` being what its effect made of the timetable's slot. -/
theorem issue_done {s u x : State} {t i lat : Nat} {f : Fetched} {row : Nat → Bool} {eff : State → Nat → Fetched → Effect}
    (hu : u = s.advance t) (h : u.Issues i f) (hr : row f.opcode = true)
    (he : eff (u.takeSlot i) i f = .done x lat) (hx : (u.takeSlot i).OnlyTt x i) :
    ∃ s', event s t (fun s => s.issue i row eff) = .next s' ∧ u.SameButTt s' i ∧
      s'.tt i = (x.tt i).goesOn (f.pc + f.size) (u.readyAfter lat) := by
  rw [event_issue s u t i f row eff hu h hr, he]
  exact ⟨_, rfl, State.sameButTt_of _ (State.onlyTt_setTt hx _), (State.close_tt _ _ _).trans (State.tt_setTt_self _ _ _)⟩

theorem issue_jump {s u x : State} {t i pc lat : Nat} {f : Fetched} {row : Nat → Bool} {eff : State → Nat → Fetched → Effect}
    (hu : u = s.advance t) (h : u.Issues i f) (hr : row f.opcode = true)
    (he : eff (u.takeSlot i) i f = .jump x pc lat) (hx : (u.takeSlot i).OnlyTt x i) :
    ∃ s', event s t (fun s => s.issue i row eff) = .next s' ∧ u.SameButTt s' i ∧
      s'.tt i = (x.tt i).goesOn pc (u.readyAfter lat) := by
  rw [event_issue s u t i f row eff hu h hr, he]
  exact ⟨_, rfl, State.sameButTt_of _ (State.onlyTt_setTt hx _), (State.close_tt _ _ _).trans (State.tt_setTt_self _ _ _)⟩

theorem issue_stay {s u x : State} {t i : Nat} {f : Fetched} {row : Nat → Bool} {eff : State → Nat → Fetched → Effect}
    (hu : u = s.advance t) (h : u.Issues i f) (hr : row f.opcode = true)
    (he : eff (u.takeSlot i) i f = .stay x) (hx : (u.takeSlot i).OnlyTt x i) :
    ∃ s', event s t (fun s => s.issue i row eff) = .next s' ∧ u.SameButTt s' i ∧ s'.tt i = x.tt i := by
  rw [event_issue s u t i f row eff hu h hr, he]
  exact ⟨_, rfl, State.sameButTt_of _ hx, State.close_tt _ _ _⟩

/-- A wait for anything but room in a queue counts nowhere. -/
theorem issue_wait {s u : State} {t i lat : Nat} {k : WaitKind} {f : Fetched} {row : Nat → Bool}
    {eff : State → Nat → Fetched → Effect} (hu : u = s.advance t) (h : u.Issues i f) (hr : row f.opcode = true)
    (he : eff (u.takeSlot i) i f = .wait k lat) (hk : k ≠ .queue) :
    ∃ s', event s t (fun s => s.issue i row eff) = .next s' ∧ u.SameButTt s' i ∧
      s'.tt i = (u.tt i).waitsAt k f (u.readyAfter lat) := by
  rw [event_issue s u t i f row eff hu h hr, he]
  simp only [State.carryOut, hk, decide_false, State.when, Bool.false_eq_true, if_false]
  exact ⟨_, rfl, State.sameButTt_of _ (State.onlyTt_setTt (State.onlyTt_refl _ i) _),
    (State.close_tt _ _ _).trans (State.tt_setTt_self _ _ _)⟩

theorem State.onlyTt_modTt (s : State) (i : Nat) (g : Timetable → Timetable) : s.OnlyTt (s.modTt i g) i :=
  State.onlyTt_setTt (s.onlyTt_refl i) _

/-- An issue that works on its timetable by `g` and goes on. -/
theorem issue_modTt {s u : State} {t i lat : Nat} {f : Fetched} {row : Nat → Bool} {eff : State → Nat → Fetched → Effect}
    (g : Timetable → Timetable) (hu : u = s.advance t) (h : u.Issues i f) (hr : row f.opcode = true)
    (he : eff (u.takeSlot i) i f = .done ((u.takeSlot i).modTt i g) lat) :
    ∃ s', event s t (fun s => s.issue i row eff) = .next s' ∧ u.SameButTt s' i ∧
      s'.tt i = (g (u.tt i)).goesOn (f.pc + f.size) (u.readyAfter lat) := by
  have := issue_done hu h hr he (State.onlyTt_modTt _ i g)
  rwa [State.modTt_eq, State.tt_setTt_self] at this

theorem issue_modTt_jump {s u : State} {t i pc lat : Nat} {f : Fetched} {row : Nat → Bool}
    {eff : State → Nat → Fetched → Effect} (g : Timetable → Timetable) (hu : u = s.advance t) (h : u.Issues i f)
    (hr : row f.opcode = true) (he : eff (u.takeSlot i) i f = .jump ((u.takeSlot i).modTt i g) pc lat) :
    ∃ s', event s t (fun s => s.issue i row eff) = .next s' ∧ u.SameButTt s' i ∧
      s'.tt i = (g (u.tt i)).goesOn pc (u.readyAfter lat) := by
  have := issue_jump hu h hr he (State.onlyTt_modTt _ i g)
  rwa [State.modTt_eq, State.tt_setTt_self] at this

theorem issue_modTt_stay {s u : State} {t i : Nat} {f : Fetched} {row : Nat → Bool} {eff : State → Nat → Fetched → Effect}
    (g : Timetable → Timetable) (hu : u = s.advance t) (h : u.Issues i f) (hr : row f.opcode = true)
    (he : eff (u.takeSlot i) i f = .stay ((u.takeSlot i).modTt i g)) :
    ∃ s', event s t (fun s => s.issue i row eff) = .next s' ∧ u.SameButTt s' i ∧ s'.tt i = g (u.tt i) := by
  have := issue_stay hu h hr he (State.onlyTt_modTt _ i g)
  rwa [State.modTt_eq, State.tt_setTt_self] at this

/-- An issue that works on nothing and goes on. -/
theorem issue_plain {s u : State} {t i lat : Nat} {f : Fetched} {row : Nat → Bool} {eff : State → Nat → Fetched → Effect}
    (hu : u = s.advance t) (h : u.Issues i f) (hr : row f.opcode = true)
    (he : eff (u.takeSlot i) i f = .done (u.takeSlot i) lat) :
    ∃ s', event s t (fun s => s.issue i row eff) = .next s' ∧ u.SameButTt s' i ∧
      s'.tt i = (u.tt i).goesOn (f.pc + f.size) (u.readyAfter lat) :=
  issue_done (x := u.takeSlot i) hu h hr he (State.onlyTt_refl _ i)

theorem issue_plain_jump {s u : State} {t i pc lat : Nat} {f : Fetched} {row : Nat → Bool}
    {eff : State → Nat → Fetched → Effect} (hu : u = s.advance t) (h : u.Issues i f) (hr : row f.opcode = true)
    (he : eff (u.takeSlot i) i f = .jump (u.takeSlot i) pc lat) :
    ∃ s', event s t (fun s => s.issue i row eff) = .next s' ∧ u.SameButTt s' i ∧
      s'.tt i = (u.tt i).goesOn pc (u.readyAfter lat) :=
  issue_jump (x := u.takeSlot i) hu h hr he (State.onlyTt_refl _ i)

/-! ## Operand forms (R76) -/

@[simp] theorem need_true (e : Effect) : need true e = e := rfl
@[simp] theorem needSome_some {α : Type} (v : α) (e : α → Effect) : needSome (some v) e = e v := rfl

theorem isReg_of_le {r : Nat} (h : r ≤ 15) : isReg r = true := decide_eq_true h

/-! ## ADD to LI (R76, R77): O1 -/

theorem aluOp_eq {u : State} {i : Nat} {f : Fetched} {b : Word} (op : Word → Word → Word) (hd : f.rd ≤ 15) (ha : f.ra ≤ 15)
    (hb : (u.tt i).operandB f = some b) :
    aluOp u i f op = .done (u.modTt i fun v => (v.setG f.rd (op ((u.tt i).g f.ra) b)).flagsOf (op ((u.tt i).g f.ra) b)) 1 := by
  simp only [aluOp, isReg_of_le hd, isReg_of_le ha, Bool.and_self, need_true, hb, needSome_some]

/-- ADD, SUB, AND, OR or XOR by its operation. -/
theorem alu_issue {s u : State} {t i opc : Nat} {f : Fetched} {b : Word} (op : Word → Word → Word) (hu : u = s.advance t)
    (h : u.Issues i f) (ho : f.opcode = opc) (hd : f.rd ≤ 15) (ha : f.ra ≤ 15) (hb : (u.tt i).operandB f = some b) :
    ∃ s', event s t (fun s => s.issue i (· == opc) fun s i f => aluOp s i f op) = .next s' ∧ u.SameButTt s' i ∧
      s'.tt i = (((u.tt i).setG f.rd (op ((u.tt i).g f.ra) b)).flagsOf (op ((u.tt i).g f.ra) b)).goesOn
        (f.pc + f.size) (u.readyAfter 1) :=
  issue_modTt (fun v => (v.setG f.rd (op ((u.tt i).g f.ra) b)).flagsOf (op ((u.tt i).g f.ra) b)) hu h (beq_iff_eq.mpr ho)
    (aluOp_eq (u := u.takeSlot i) op hd ha hb)

/-- Settles O1: each instruction changes its own timetable alone (`issue_modTt`), by the function of its row. -/
theorem arithmeticInstructions : Obligations.ArithmeticInstructions := by
  unfold Obligations.ArithmeticInstructions
  refine ⟨fun s u t tt f b hu p hp h ho hd ha hb => ?_, fun s u t tt f hu h => ⟨fun n ho hd ha hn => ?_,
    fun b ho hd ha hb => ?_, fun ho hd ha => ?_, fun ho hd ha hi => ?_⟩⟩
  · simp only [List.mem_cons, List.not_mem_nil, or_false] at hp
    rcases hp with rfl | rfl | rfl | rfl | rfl
    all_goals exact alu_issue _ hu h ho hd ha hb
  · refine issue_modTt (row := (· == 0x36)) (eff := effShf)
      (fun v => (v.setG f.rd (shift (bits f.imm 6 5) n ((u.tt tt).g f.ra))).flagsOf (shift (bits f.imm 6 5) n ((u.tt tt).g f.ra)))
      hu h (beq_iff_eq.mpr ho) ?_
    simp only [effShf, isReg_of_le hd, isReg_of_le ha, Bool.and_self, need_true, State.takeSlot_tt, hn, needSome_some]
  · refine issue_modTt (row := (· == 0x37)) (eff := effCmp) (fun v => v.flagsCmp (v.g f.ra) b) hu h (beq_iff_eq.mpr ho) ?_
    simp only [effCmp, hd, isReg_of_le ha, decide_true, Bool.and_self, need_true, State.takeSlot_tt, hb, needSome_some]
  · refine issue_modTt (row := (· == 0x30)) (eff := effLi) (fun v => v.setG f.rd (BitVec.ofInt 32 (signed 16 f.imm))) hu h
      (beq_iff_eq.mpr ho) ?_
    simp only [effLi, isReg_of_le hd, need_true, ha, if_true]
  · refine issue_modTt (row := (· == 0x30)) (eff := effLi) (fun v => v.setG f.rd f.ext) hu h (beq_iff_eq.mpr ho) ?_
    simp only [effLi, isReg_of_le hd, need_true, ha, hi, Nat.one_ne_zero, if_false, and_self, decide_true]

end Sys2Proof.Machine
end

section
/-! Proofs of O2 and O3: control flow, the loop stack and bell latches (03_joiners.md, R62, R72, R73, R77, R80). -/

namespace Sys2Proof.Machine

theorem jumpTo_le {s : State} {pc lat : Nat} (h : pc ≤ 32767) : jumpTo s pc lat = .jump s pc lat := if_pos h

/-- Settles O2: each instruction goes on, jumps or stays put with a change of its own timetable alone. -/
theorem controlFlowAndLoops : Obligations.ControlFlowAndLoops := by
  unfold Obligations.ControlFlowAndLoops
  refine ⟨fun s u t tt f hu h => ⟨fun p hp ho hd ha hi => ?_, fun ho hd ha hi => ?_, fun ho hd ha hpc => ?_,
    fun ho ha hc hpc => ?_, fun ho ha hc => ?_⟩, fun s u t tt f hu h => ⟨fun c ho hd hc h0 hl => ?_,
    fun c a r ho hd ha hi hl => ?_, fun p r ho hd ha hi hl => ?_⟩⟩
  · simp only [List.mem_cons, List.not_mem_nil, or_false] at hp
    rcases hp with rfl | rfl
    · exact issue_plain (row := (· == 0x00)) (eff := effNop) hu h (beq_iff_eq.mpr ho) (by simp [effNop, hd, ha, hi])
    · exact issue_plain (row := (· == 0x02)) (eff := effYield) hu h (beq_iff_eq.mpr ho) (by simp [effYield, hd, ha, hi])
  · exact issue_modTt_stay (row := (· == 0x01)) (eff := effHalt) (fun v => { v with state := .halted, haltCause := 0 }) hu h
      (beq_iff_eq.mpr ho) (by simp only [effHalt, hd, ha, hi, and_self, decide_true, need_true])
  · exact issue_plain_jump (row := (· == 0x14)) (eff := effJmp) hu h (beq_iff_eq.mpr ho)
      (by simp only [effJmp, hd, isReg_of_le ha, decide_true, Bool.and_self, need_true, State.takeSlot_tt, jumpTo_le hpc])
  · exact issue_plain_jump (row := (· == 0x15)) (eff := effJcc) hu h (beq_iff_eq.mpr ho)
      (by simp only [effJcc, ha, decide_true, need_true, State.takeSlot_tt, hc, needSome_some, if_true, jumpTo_le hpc])
  · exact issue_plain (row := (· == 0x15)) (eff := effJcc) hu h (beq_iff_eq.mpr ho)
      (by simp only [effJcc, ha, decide_true, need_true, State.takeSlot_tt, hc, needSome_some, Bool.false_eq_true, if_false])
  · refine issue_modTt (row := (· == 0x10)) (eff := effLoop) (fun v => { v with loops := (c, f.pc + 1) :: v.loops }) hu h
      (beq_iff_eq.mpr ho) ?_
    simp only [effLoop, hd, decide_true, need_true, State.takeSlot_tt, hc, needSome_some, ne_eq, h0, not_false_eq_true,
      ge_iff_le, Nat.not_le.mpr hl, if_false]
  · have he : effEndl (u.takeSlot tt) tt f = if c - 1 ≠ 0 then
        .jump ((u.takeSlot tt).modTt tt fun v => { v with loops := (c - 1, a) :: r }) a 2
        else .done ((u.takeSlot tt).modTt tt fun v => { v with loops := r }) 1 := by
      simp only [effEndl, hd, ha, hi, and_self, decide_true, need_true, State.takeSlot_tt, hl]
    by_cases hc : c - 1 ≠ 0
    · rw [if_pos hc] at he ⊢
      exact issue_modTt_jump (row := (· == 0x11)) (fun v => { v with loops := (c - 1, a) :: r }) hu h (beq_iff_eq.mpr ho) he
    · rw [if_neg hc] at he ⊢
      exact issue_modTt (row := (· == 0x11)) (fun v => { v with loops := r }) hu h (beq_iff_eq.mpr ho) he
  · exact issue_modTt_jump (row := (· == 0x12)) (eff := effBrk) (fun v => { v with loops := r }) hu h (beq_iff_eq.mpr ho)
      (by simp only [effBrk, hd, ha, and_self, decide_true, need_true, State.takeSlot_tt, hl, jumpTo_le hi])

/-! ## JBEL, WBEL, CLRB, GANG: O3 -/

theorem listened_true {s : State} {i k : Nat} (e : Effect) (h : (s.tt i).listen.getLsbD k = true) : listened s i k e = e :=
  if_pos h

@[simp] theorem State.takeSlot_earliestLatched (s : State) (i n : Nat) :
    (s.takeSlot i).earliestLatched n = s.earliestLatched n := by
  simp only [State.earliestLatched, State.takeSlot_tt, State.takeSlot_bellEntry]

/-- An immediate below 256 names a bell (R78). -/
theorem imm_bell {v : Nat} (h : v < 256) : bitOf v 15 = false ∧ bits v 14 8 = 0 := by
  have h15 : v / 2 ^ 15 = 0 := Nat.div_eq_of_lt (by omega)
  have h8 : v / 2 ^ 8 = 0 := Nat.div_eq_of_lt (by omega)
  simp only [bitOf, bits, h15, h8, Nat.zero_mod]
  exact ⟨rfl, trivial⟩

/-- GANG and TT_GANG read back base and mask as R65 codes them. -/
theorem gangValue_code {v : Word} {base : Nat} {mask : BitVec 16} (hv : v = BitVec.ofNat 32 (mask.toNat * 65536 + base))
    (hb : base < 64) : bits v.toNat 5 0 = base ∧ BitVec.ofNat 16 (v.toNat / 65536) = mask ∧ bits v.toNat 15 6 = 0 := by
  have hm := mask.isLt
  have hn : v.toNat = mask.toNat * 65536 + base := by
    rw [hv, BitVec.toNat_ofNat, Nat.mod_eq_of_lt]; omega
  refine ⟨?_, ?_, ?_⟩
  · simp only [bits, hn]; omega
  · rw [hn, show (mask.toNat * 65536 + base) / 65536 = mask.toNat by omega, BitVec.ofNat_toNat, BitVec.setWidth_eq]
  · simp only [bits, hn]; omega

theorem gangValue_ok {s : State} {i : Nat} {v : Word} {base : Nat} {mask : BitVec 16}
    (hv : v = BitVec.ofNat 32 (mask.toNat * 65536 + base)) (hb : base < 64)
    (hg : ∀ n ∈ gangOf base mask, n < 64 ∧ (s.chan n).leader = i) : gangValue s i v = .ok (base, mask) := by
  obtain ⟨h5, h16, h6⟩ := gangValue_code hv hb
  have hin : (gangOf base mask).any (fun n => decide (63 < n)) = false :=
    List.any_eq_false.mpr fun n hn => by have := (hg n hn).1; simp; omega
  have hled : (gangOf base mask).any (fun n => decide ((s.chan n).leader ≠ i)) = false :=
    List.any_eq_false.mpr fun n hn => by simp [(hg n hn).2]
  simp only [gangValue, h5, h16, h6, hin, hled, ne_eq, not_true_eq_false, Bool.false_eq_true, or_self, if_false]

theorem issue_takeBell {s u : State} {t i k : Nat} {f : Fetched} (hu : u = s.advance t) (h : u.Issues i f)
    (ho : f.opcode = 0x18) (he : effWbel (u.takeSlot i) i f = takeBell (u.takeSlot i) i f.rd k) :
    ∃ s', event s t (fun s => s.issue i (· == 0x18) effWbel) = .next s' ∧ u.SameButTt s' i ∧
      s'.tt i = (Timetable.setG { u.tt i with latches := (u.tt i).latches &&& ~~~(BitVec.ofNat 256 (2 ^ k)) } f.rd
        (BitVec.ofNat 32 (k * 256 + (u.bellEntry i k).payload.toNat))).goesOn (f.pc + f.size) (u.readyAfter 1) :=
  issue_modTt (row := (· == 0x18)) (fun v => Timetable.setG { v with latches := v.latches &&& ~~~(BitVec.ofNat 256 (2 ^ k)) } f.rd
    (BitVec.ofNat 32 (k * 256 + (u.bellEntry i k).payload.toNat))) hu h (beq_iff_eq.mpr ho)
    (he.trans (by rw [takeBell, State.takeSlot_bellEntry]))

/-- Settles O3: the latch, or the earliest of them, decides; what is taken is the timetable's own. -/
theorem bellLatches : Obligations.BellLatches := by
  unfold Obligations.BellLatches
  intro s u t tt f hu h
  refine ⟨fun k ho hd ha hk hl hi => ?_, fun ho hd ha hi hl => ?_, fun ho hd ha hi => ?_, fun ho hd ha hi => ?_,
    fun k ho hd ha hi hk hl => ?_, fun base mask ho hd ha hi hg hb hn => ?_⟩
  · by_cases hc : (u.tt tt).latches.getLsbD k = true
    · rw [if_pos hc]
      exact issue_plain_jump (row := (· == 0x16)) (eff := effJbel) hu h (beq_iff_eq.mpr ho)
        (by simp only [effJbel, hd, isReg_of_le ha, decide_true, Bool.and_self, need_true, State.takeSlot_tt, ← hk,
          listened_true (s := u.takeSlot tt) _ hl, hc, if_true, jumpTo_le hi])
    · rw [if_neg hc]
      exact issue_plain (row := (· == 0x16)) (eff := effJbel) hu h (beq_iff_eq.mpr ho)
        (by simp only [effJbel, hd, isReg_of_le ha, decide_true, Bool.and_self, need_true, State.takeSlot_tt, ← hk,
          listened_true (s := u.takeSlot tt) _ hl, hc, Bool.false_eq_true, if_false])
  · by_cases hc : (u.tt tt).latches.getLsbD f.imm = true
    · rw [if_pos hc]
      refine issue_takeBell hu h ho ?_
      simp only [effWbel, ha, isReg_of_le hd, decide_true, Bool.and_self, need_true, imm_bell hi, Bool.false_eq_true, if_false,
        listened_true (s := u.takeSlot tt) _ hl, State.takeSlot_tt, hc, if_true]
    · rw [if_neg hc]
      refine issue_wait (row := (· == 0x18)) (eff := effWbel) hu h (beq_iff_eq.mpr ho) ?_ (by decide)
      simp only [effWbel, ha, isReg_of_le hd, decide_true, Bool.and_self, need_true, imm_bell hi, Bool.false_eq_true, if_false,
        listened_true (s := u.takeSlot tt) _ hl, State.takeSlot_tt, hc]
  · have h15 : bitOf f.imm 15 = true := by rw [hi]; decide
    cases hc : u.earliestLatched tt with
    | some k =>
      refine issue_takeBell hu h ho ?_
      simp only [effWbel, ha, isReg_of_le hd, decide_true, Bool.and_self, need_true, h15, if_true, decide_eq_true hi,
        State.takeSlot_earliestLatched, hc]
    | none =>
      refine issue_wait (row := (· == 0x18)) (eff := effWbel) hu h (beq_iff_eq.mpr ho) ?_ (by decide)
      simp only [effWbel, ha, isReg_of_le hd, decide_true, Bool.and_self, need_true, h15, if_true, decide_eq_true hi,
        State.takeSlot_earliestLatched, hc]
  · have := issue_modTt (row := (· == 0x1B)) (eff := effClrb) (fun v => v.clearLatches u.cycle (BitVec.allOnes 256)) hu h
      (beq_iff_eq.mpr ho) (lat := 1) (by simp only [effClrb, hd, ha, hi, decide_true, need_true, if_true, State.takeSlot_cycle])
    simp only [Timetable.clearLatches, BitVec.not_allOnes, BitVec.zero_or] at this
    exact this
  · refine issue_modTt (row := (· == 0x1B)) (eff := effClrb) (fun v => v.clearLatches u.cycle (BitVec.ofNat 256 (2 ^ k))) hu h
      (beq_iff_eq.mpr ho) ?_
    simp only [effClrb, hd, isReg_of_le ha, hi, decide_true, Bool.and_self, need_true, State.takeSlot_tt, ← hk,
      listened_true (s := u.takeSlot tt) _ hl, State.takeSlot_cycle]
    rfl
  · refine issue_modTt (row := (· == 0x2C)) (eff := effGang) (fun v => { v with gangBase := base, gangMask := mask }) hu h
      (beq_iff_eq.mpr ho) ?_
    have hv : gangValue (u.takeSlot tt) tt ((u.tt tt).g f.ra) = .ok (base, mask) := gangValue_ok hg hb hn
    simp only [effGang, hd, hi, isReg_of_le ha, and_self, decide_true, Bool.and_self, need_true, State.takeSlot_tt, hv]

end Sys2Proof.Machine
end

section
/-! SUPPORT and proof of O4. Bells that leave the device and how they are admitted (03_joiners.md,
07_bells_and_truss.md). -/

namespace Sys2Proof.Machine

/-! ## A bell on its way out (R174, R191, R193) -/

theorem Lane.sameButSlots_refl (v : Lane) : v.SameButSlots v := rfl

theorem Lane.SameButSlots.trans {u v w : Lane} (h : u.SameButSlots v) (g : v.SameButSlots w) : u.SameButSlots w := by
  have e := congrArg (fun x : Lane => ({ x with superframe := u.superframe, displaced := u.displaced } : Lane)) g
  exact e.trans h

theorem Lane.SameButSlots.version {u v : Lane} (h : u.SameButSlots v) : v.version = u.version := by
  have e := congrArg Lane.version h
  exact e

theorem State.lane_sendLink (s : State) (l k : Nat) (b : LinkBlock) : (s.lane k).SameButSlots ((s.sendLink l b).lane k) := by
  show (s.lane k).SameButSlots ((s.setLane l ((s.lane l).placeControl s.now)).lane k)
  rw [State.lane_setLane]
  split
  next h => subst h; rfl
  next => rfl

theorem State.Sends.trans {s x y : State} {ms ns : List OutMsg} (h : s.Sends x ms) (g : x.Sends y ns) : s.Sends y (ms ++ ns) := by
  obtain ⟨hrest, hout, hlane⟩ := h
  obtain ⟨grest, gout, glane⟩ := g
  refine ⟨?_, by rw [gout, hout, List.append_assoc], fun l => (hlane l).trans (glane l)⟩
  have e := congrArg (fun z : State => ({ z with lanes := s.lanes, out := s.out } : State)) grest
  exact e.trans hrest

theorem State.sendLink_eq (s : State) (l : Nat) (b : LinkBlock) : s.sendLink l b =
    { s with lanes := (s.modLane l fun v => v.placeControl s.now).lanes, out := s.out ++ [.link (Fin.ofNat 48 l) b] } := rfl

theorem State.sends_sendLink (s : State) (l : Nat) (b : LinkBlock) : s.Sends (s.sendLink l b) [.link (Fin.ofNat 48 l) b] := by
  refine ⟨?_, ?_, fun k => s.lane_sendLink l k b⟩
  · rw [State.sendLink_eq]
  · rw [State.sendLink_eq]

/-- The message that a bell makes on lane `l` (R193, R196). -/
def State.bellMsg (s : State) (w : BellWord) (l : Nat) : OutMsg :=
  .link (Fin.ofNat 48 l) (.bell { w.next with payload := if (s.lane l).version = 1 then 0 else w.payload })

theorem State.bellMsg_congr {s x : State} (h : ∀ l, (s.lane l).SameButSlots (x.lane l)) (w : BellWord) :
    x.bellMsg w = s.bellMsg w :=
  funext fun l => by unfold State.bellMsg; rw [(h l).version]

theorem State.sends_sendBells (w : BellWord) (ls : List Nat) : ∀ s : State,
    s.Sends (s.forAll ls fun s l => s.sendBell l w) (ls.map (s.bellMsg w)) := by
  induction ls with
  | nil => exact fun s => ⟨rfl, (List.append_nil _).symm, fun l => (s.lane l).sameButSlots_refl⟩
  | cons l r ih =>
    intro s
    have h1 : s.Sends (s.sendBell l w) [s.bellMsg w l] := s.sends_sendLink l _
    have h2 := ih (s.sendBell l w)
    rw [State.bellMsg_congr h1.2.2] at h2
    exact h1.trans h2

/-- A bell leaves on every truss link that is UP, and nothing but these messages and their slots changes. -/
theorem State.sends_forwardBell (s : State) (w : BellWord) (but : Option Nat) : s.Sends (s.forwardBell w but) (s.bellMsgs but w) :=
  State.sends_sendBells w _ s

/-- `x` is `s` with bell `w` admitted under `number`, waiting in the bell unit since truss time `a`, and sent on (R174). -/
structure State.Admits (s x : State) (number : Nat) (w : BellWord) (a : Ticks) : Prop where
  rest : { x with truss := s.truss, lanes := s.lanes, out := s.out } = s
  truss : x.truss = { s.truss with
    lastOrigin := sset (fun _ => none) s.truss.lastOrigin number (some w.origin)
    bells := s.truss.bells ++ [s.punctual w a] }
  out : x.out = s.out ++ s.bellMsgs none w
  lane : ∀ l, (s.lane l).SameButSlots (x.lane l)

/-- A bell that leaves on the links and is neither late nor slow at the device's own bell unit, ECLK running. -/
theorem State.holdBell_forwardBell {x : State} {w : BellWord} {a : Ticks} (he : x.eclk.stopped = false)
    (hl : (x.punctual w a).isLate = false) (hs : (x.punctual w a).isSlow = false) :
    (x.forwardBell w none).holdBell w a = (x.forwardBell w none).keepBell (x.punctual w a) := by
  obtain ⟨hrest, -, -⟩ := x.sends_forwardBell w none
  generalize x.forwardBell w none = y at hrest ⊢
  have heclk : y.eclk = x.eclk := by have e := congrArg State.eclk hrest; exact e
  have hpunct : y.punctual w a = x.punctual w a := by have e := congrArg (fun z : State => z.punctual w a) hrest; exact e
  rw [State.holdBell_punctual (by rw [heclk]; exact he) (by rw [hpunct]; exact hl) (by rw [hpunct]; exact hs), hpunct]

/-- A bell that is neither late nor slow at the device's own bell unit waits there, ECLK running (R174, R186, R189). -/
theorem State.admits_admitBell {s : State} {w : BellWord} (he : s.eclk.stopped = false) (number : Nat) (p : Byte) (o : Ticks)
    (source i : Nat) (a : Ticks) (hw : w = s.bellWord 0 number p o source i) (hl : (s.punctual w a).isLate = false)
    (hs : (s.punctual w a).isSlow = false) : s.Admits (s.admitBell number p o source i a) number w a := by
  obtain ⟨x, hx⟩ : ∃ x : State, x = { s with truss := { s.truss with
    lastOrigin := sset (fun _ => none) s.truss.lastOrigin number (some o) } } := ⟨_, rfl⟩
  have hadmit : s.admitBell number p o source i a = (x.forwardBell w none).holdBell w a := by rw [hw, hx]; rfl
  have horigin : w.origin = o := by rw [hw]; rfl
  have hxs : ({ x with truss := s.truss } : State) = s := by rw [hx]
  have hxt : x.truss = { s.truss with lastOrigin := sset (fun _ => none) s.truss.lastOrigin number (some w.origin) } := by
    rw [horigin, hx]
  have hpunct : x.punctual w a = s.punctual w a := by rw [hx]; rfl
  have hxe : x.eclk = s.eclk := by rw [hx]
  have hsend := x.sends_forwardBell w none
  rw [hadmit, State.holdBell_forwardBell (by rw [hxe]; exact he) (by rw [hpunct]; exact hl) (by rw [hpunct]; exact hs), hpunct]
  generalize x.forwardBell w none = y at hsend ⊢
  obtain ⟨hrest, hout, hlane⟩ := hsend
  have hyt : y.truss = x.truss := by have e := congrArg State.truss hrest; exact e
  refine ⟨?_, ?_, ?_, fun l => ?_⟩
  · have e := congrArg (fun z : State => ({ z with truss := s.truss, lanes := s.lanes, out := s.out } : State)) hrest
    have e' := congrArg (fun z : State => ({ z with lanes := s.lanes, out := s.out } : State)) hxs
    exact e.trans e'
  · show { y.truss with bells := y.truss.bells ++ [s.punctual w a] } = _
    rw [hyt, hxt]
  · show y.out = _
    rw [hout, hx]
    rfl
  · have := hlane l
    rw [hx] at this
    exact this

/-! ## An instruction carried out at its issue or at its wake (R58, R61) -/

/-- Command `c` on state `s`, at whose moment the device is in `u`, tries instruction `f` of timetable `i` in state `v`:
that of the moment, its Joiner's slot taken where the instruction issues. Where it takes effect, the timetable is ready
again from cycle `k` on. -/
structure Tries (s u v : State) (c : Instr) (i : Nat) (f : Fetched) (lat k : Nat) : Prop where
  rest : { v with joiners := u.joiners } = u
  stores : ∀ j, (u.joiner j).SameStores (v.joiner j)
  goes : ∀ x, effOf f.opcode v i f = .done x lat → (x.tt i).readyAt = (u.tt i).readyAt →
    exec c s = .next ((x.modTt i fun w => w.goesOn (f.pc + f.size) k).close s.pending)

theorem tries_issue {s u : State} {t i : Nat} {f : Fetched} {c : Instr} {row : Nat → Bool} (lat : Nat) (hu : u = s.advance t)
    (h : u.Issues i f) (hr : row f.opcode = true) (hc : exec c s = event s t fun s => s.issue i row (effOf f.opcode)) :
    Tries s u (u.takeSlot i) c i f lat (u.readyAfter lat) := by
  refine ⟨rfl, u.takeSlot_joiner i, fun x hx _ => ?_⟩
  rw [hc, event_issue s u t i f row _ hu h hr, hx]
  rfl

theorem tries_wake {s u : State} {t i : Nat} {w : WaitKind} {f : Fetched} {c : Instr} (lat : Nat) (hu : u = s.advance t)
    (h : u.Waits i w f) (hb : w ≠ .bell) (hq : w ≠ .queue) (hc : exec c s = event s t fun s => s.wake i w effOf) :
    Tries s u u c i f lat (u.readyWoken i) := by
  refine ⟨rfl, fun _ => rfl, fun x hx hready => ?_⟩
  rw [hc, event_wake s u t i w f hu h hb hq, hx]
  simp only [State.carryOut, State.modTt_eq, Timetable.readyFrom, if_true, hready]
  rfl

/-- An effect that leaves the timetables alone. -/
theorem Tries.done {s u v x : State} {c : Instr} {i lat k : Nat} {f : Fetched} (h : Tries s u v c i f lat k)
    (hx : effOf f.opcode v i f = .done x lat) (htts : x.tts = u.tts) :
    exec c s = .next ((x.modTt i fun w => w.goesOn (f.pc + f.size) k).close s.pending) :=
  h.goes x hx (by unfold State.tt; rw [htts])

/-- What a trial leaves of the other timetables and of the Joiners' stores. -/
theorem Tries.otherTts {s u v x : State} {c : Instr} {i lat k : Nat} {f : Fetched} (h : Tries s u v c i f lat k)
    (g : Timetable → Timetable) (q : List Instr) (htts : x.tts = u.tts) (hj : x.joiners = v.joiners) :
    u.OtherTts ((x.modTt i g).close q) i := by
  refine ⟨fun m hm => ?_, fun j => ?_⟩
  · rw [State.close_tt, State.modTt_eq, State.tt_setTt, if_neg (Ne.symm hm)]
    unfold State.tt
    rw [htts]
  · rw [State.close_joiner, State.modTt_eq, State.setTt_joiner, show x.joiner j = v.joiner j by unfold State.joiner; rw [hj]]
    exact h.stores j

/-- The timetable of a trial at its end. -/
theorem tt_close_modTt {x u : State} {i : Nat} (g : Timetable → Timetable) (q : List Instr) (htts : x.tts = u.tts) :
    ((x.modTt i g).close q).tt i = g (u.tt i) := by
  rw [State.close_tt, State.modTt_eq, State.tt_setTt_self]
  unfold State.tt
  rw [htts]

/-! ## RING and BELL_ADMIT (R81, R176, R177): O4 -/

theorem effRing_eq {v : State} {i number : Nat} {f : Fetched} {payload : Byte} (hd : f.rd = 0) (ha : f.ra ≤ 15)
    (hn : number = f.imm % 256) (hp : payload = BitVec.ofNat 8 (f.imm / 256) ^^^ ((v.tt i).g f.ra).setWidth 8) :
    effRing v i f = if v.owns number = true then
        if v.admissible number v.trussNow = true then .done (v.admitBell number payload v.trussNow srcRing i v.trussNow) 1
        else .wait .bellOut 1
      else .done v.refuseBell 1 := by
  simp only [effRing, hd, decide_true, isReg_of_le ha, Bool.and_self, need_true, ← hn, ← hp]
  cases v.owns number <;> rfl

section
variable {s u v : State} {c : Instr} {i k number : Nat} {f : Fetched} {payload : Byte} {w : BellWord}
  (h : Tries s u v c i f 1 k) (ho : f.opcode = 0x1A) (hd : f.rd = 0) (ha : f.ra ≤ 15) (hn : number = f.imm % 256)
  (hp : payload = BitVec.ofNat 8 (f.imm / 256) ^^^ ((u.tt i).g f.ra).setWidth 8)
include h ho hd ha hn hp

/-- A number that the device does not own raises nothing (R176). -/
theorem ring_refused (howns : u.owns number = false) :
    ∃ s', exec c s = .next s' ∧ s'.truss = { u.truss with refused := u.truss.refused + 1 } ∧
      s'.tt i = (u.tt i).goesOn (f.pc + f.size) k ∧ u.OtherTts s' i ∧
      { u.graft s' with tts := u.tts, joiners := u.joiners, truss := u.truss } = u := by
  have htts : v.tts = u.tts := by have e := congrArg State.tts h.rest; exact e
  have hvp : payload = BitVec.ofNat 8 (f.imm / 256) ^^^ ((v.tt i).g f.ra).setWidth 8 := by
    rw [hp]; unfold State.tt; rw [htts]
  have hvo : v.owns number = u.owns number := by have e := congrArg (fun z : State => z.owns number) h.rest; exact e
  have hvt : v.truss = u.truss := by have e := congrArg State.truss h.rest; exact e
  have hdone : effOf f.opcode v i f = .done v.refuseBell 1 := by
    rw [ho]
    show effRing v i f = _
    rw [effRing_eq hd ha hn hvp, hvo, howns]
    rfl
  refine ⟨_, h.done hdone htts, ?_, tt_close_modTt _ _ htts, h.otherTts _ _ htts rfl, ?_⟩
  · rw [State.close_truss, State.modTt_eq, State.setTt_truss]
    unfold State.refuseBell
    rw [hvt]
  · rw [State.graft_close]
    have e := congrArg (fun z : State => ({ u.graft z with tts := u.tts, joiners := u.joiners, truss := u.truss } : State)) h.rest
    exact e

/-- An owned number whose last bell lies far enough back leaves, and waits in the bell unit (R174, R177, R186). -/
theorem ring_admitted (hw : w = u.bellWord 0 number payload u.trussNow srcRing i) (hclock : u.eclk.stopped = false)
    (howns : u.owns number = true) (hadm : u.admissible number u.trussNow = true)
    (hl : (u.punctual w u.trussNow).isLate = false) (hs : (u.punctual w u.trussNow).isSlow = false) :
    ∃ s', exec c s = .next s' ∧
      s'.truss = { u.truss with
        lastOrigin := sset (fun _ => none) u.truss.lastOrigin number (some u.trussNow)
        bells := u.truss.bells ++ [u.punctual w u.trussNow] } ∧
      s'.out = u.out ++ u.bellMsgs none w ∧ (∀ l, (u.lane l).SameButSlots (s'.lane l)) ∧
      s'.tt i = (u.tt i).goesOn (f.pc + f.size) k ∧ u.OtherTts s' i ∧
      { u.graft s' with tts := u.tts, joiners := u.joiners, truss := u.truss, lanes := u.lanes, out := u.out } = u := by
  have htts : v.tts = u.tts := by have e := congrArg State.tts h.rest; exact e
  have hvp : payload = BitVec.ofNat 8 (f.imm / 256) ^^^ ((v.tt i).g f.ra).setWidth 8 := by
    rw [hp]; unfold State.tt; rw [htts]
  have hvo : v.owns number = u.owns number := by have e := congrArg (fun z : State => z.owns number) h.rest; exact e
  have hvnow : v.trussNow = u.trussNow := by have e := congrArg State.trussNow h.rest; exact e
  have hva : v.admissible number = u.admissible number := by
    have e := congrArg (fun z : State => z.admissible number) h.rest; exact e
  have hvw : v.bellWord 0 number payload u.trussNow srcRing i = w := by
    rw [hw]
    have e := congrArg (fun z : State => z.bellWord 0 number payload u.trussNow srcRing i) h.rest; exact e
  have hvu : v.punctual w = u.punctual w := by have e := congrArg (fun z : State => z.punctual w) h.rest; exact e
  have hve : v.eclk = u.eclk := by have e := congrArg State.eclk h.rest; exact e
  have hvt : v.truss = u.truss := by have e := congrArg State.truss h.rest; exact e
  have hvout : v.out = u.out := by have e := congrArg State.out h.rest; exact e
  have hvm : v.bellMsgs none w = u.bellMsgs none w := by have e := congrArg (fun z : State => z.bellMsgs none w) h.rest; exact e
  have hvl : v.lane = u.lane := by have e := congrArg State.lane h.rest; exact e
  have hdone : effOf f.opcode v i f = .done (v.admitBell number payload u.trussNow srcRing i u.trussNow) 1 := by
    rw [ho]
    show effRing v i f = _
    rw [effRing_eq hd ha hn hvp, hvo, howns, hvnow, hva, hadm]
    rfl
  obtain ⟨hrest, htruss, hout, hlane⟩ := State.admits_admitBell (s := v) (by rw [hve]; exact hclock) number payload u.trussNow
    srcRing i u.trussNow hvw.symm (by rw [hvu]; exact hl) (by rw [hvu]; exact hs)
  generalize v.admitBell number payload u.trussNow srcRing i u.trussNow = x at hdone hrest htruss hout hlane
  have hxtts : x.tts = u.tts := by have e := congrArg State.tts hrest; exact Eq.trans e htts
  have hxj : x.joiners = v.joiners := by have e := congrArg State.joiners hrest; exact e
  refine ⟨_, h.done hdone hxtts, ?_, ?_, fun l => ?_, tt_close_modTt _ _ hxtts, h.otherTts _ _ hxtts hxj, ?_⟩
  · rw [State.close_truss, State.modTt_eq, State.setTt_truss, htruss, hvt, hvu, hw]
    rfl
  · rw [State.close_out, State.modTt_eq, State.setTt_out, hout, hvm, hvout]
  · rw [State.close_lane, State.modTt_eq, State.setTt_lane, ← hvl]
    exact hlane l
  · rw [State.graft_close]
    have e := congrArg (fun z : State => ({ u.graft z with
      tts := u.tts, joiners := u.joiners, truss := u.truss, lanes := u.lanes, out := u.out } : State)) hrest
    have e' := congrArg (fun z : State => ({ u.graft z with
      tts := u.tts, joiners := u.joiners, truss := u.truss, lanes := u.lanes, out := u.out } : State)) h.rest
    exact Eq.trans e e'

end

theorem State.Issues.running {u : State} {i : Nat} {f : Fetched} (h : u.Issues i f) : u.eclk.stopped = false := by
  have := h.turn
  simp only [State.issues, Bool.and_eq_true, Bool.not_eq_true'] at this
  exact this.1.1.1

/-- Settles O4: an issue and a wake carry a RING out alike (`Tries`), by ownership and admission. -/
theorem ringAdmission : Obligations.RingAdmission := by
  unfold Obligations.RingAdmission
  intro s u t tt f number payload w hu ho hd ha hn hp hw
  refine ⟨fun i k hik => ?_, fun h howns hadm => ?_, fun h howns hadm => ?_⟩
  · have htries : u.eclk.stopped = false ∧ ∃ v, Tries s u v i tt f 1 k := by
      rcases hik with ⟨rfl, rfl, h⟩ | ⟨rfl, rfl, h⟩
      · exact ⟨h.running, _, tries_issue 1 hu h (row := (· == 0x1A)) (beq_iff_eq.mpr ho) (by rw [ho]; rfl)⟩
      · exact ⟨h.eclk, _, tries_wake 1 hu h (by decide) (by decide) rfl⟩
    obtain ⟨hclock, v, hv⟩ := htries
    exact ⟨ring_refused hv ho hd ha hn hp, ring_admitted hv ho hd ha hn hp hw hclock⟩
  · refine issue_wait (row := (· == 0x1A)) (eff := effRing) hu h (beq_iff_eq.mpr ho) ?_ (by decide)
    have howns' : (u.takeSlot tt).owns number = true := howns
    have hadm' : (u.takeSlot tt).admissible number u.trussNow = false := hadm
    rw [effRing_eq (v := u.takeSlot tt) hd ha hn hp, howns', State.takeSlot_trussNow, hadm']
    rfl
  · show event s t (fun s => s.wake tt .bellOut effOf) = _
    have he : effOf f.opcode u tt f = .wait .bellOut 1 := by
      rw [ho]
      show effRing u tt f = _
      rw [effRing_eq hd ha hn hp, howns, hadm]
      rfl
    rw [event_wake s u t tt .bellOut f hu h (by decide) (by decide), he]
    rfl

end Sys2Proof.Machine
end

section
/-! SUPPORT and proof of O5. Records of the event ring (03_joiners.md, R75). -/

namespace Sys2Proof.Machine

/-! ## Records of the event ring (R75) -/

/-- The bytes of a record (R75). -/
def State.recordBytes (s : State) (kind tt tag data0 data1 : Nat) : Bytes :=
  leBytes 4 (kind * 2 ^ 28 + tt) ++ leBytes 4 tag ++ leBytes 8 s.trussNow.toNat ++ leBytes 4 data0 ++ leBytes 4 data1
    ++ leBytes 8 0

theorem State.recordBytes_length (s : State) (a b c d e : Nat) : (s.recordBytes a b c d e).length = 32 := by
  simp only [State.recordBytes, List.length_append, leBytes_length]

theorem State.writeRecord_eq (s : State) (a b c d e : Nat) : s.writeRecord a b c d e =
    { (s.writeMem s.evrSlot (s.recordBytes a b c d e)).addTraffic 32 with
      evr := { (s.writeMem s.evrSlot (s.recordBytes a b c d e)).evr with
        head := (s.writeMem s.evrSlot (s.recordBytes a b c d e)).evr.head + 1 } } := rfl

/-- `x` is `s` after a record written at EVR_HEAD. -/
structure State.Records (s x : State) (record : Bytes) : Prop where
  rest : { x with evr := s.evr, mem := s.mem, chans := s.chans, card := s.card, sys := s.sys, net := s.net } = s
  evr : x.evr = { s.evr with head := s.evr.head + 1 }
  bytes : ∀ a, cellAt x.mem.bytes a =
    if s.evrSlot ≤ a ∧ a < s.evrSlot + 32 then record[a - s.evrSlot]? else cellAt s.mem.bytes a
  segs : x.mem.segs = s.mem.segs
  events : x.mem.events = s.mem.events
  chans : x.chans = (s.holdFetched s.evrSlot 32).chans
  net : x.net = { s.net with traffic := s.net.traffic + 32 * 1000000 }

theorem State.records_writeRecord (s : State) (a b c d e : Nat) :
    s.Records (s.writeRecord a b c d e) (s.recordBytes a b c d e) := by
  rw [State.writeRecord_eq]
  have hlen := s.recordBytes_length a b c d e
  generalize s.recordBytes a b c d e = bs at hlen ⊢
  have hrest := s.writeMem_rest s.evrSlot bs
  have hmem := s.writeMem_mem s.evrSlot bs
  have hbyte := fun i => s.writeMem_byte s.evrSlot i bs
  have hchans : (s.writeMem s.evrSlot bs).chans = (s.holdFetched s.evrSlot 32).chans := by rw [← hlen]; rfl
  rw [hlen] at hbyte
  generalize s.writeMem s.evrSlot bs = y at hrest hmem hbyte hchans ⊢
  have hevr : y.evr = s.evr := by have e := congrArg State.evr hrest; exact e
  have hnet : y.net = s.net := by have e := congrArg State.net hrest; exact e
  refine ⟨?_, ?_, hbyte, ?_, ?_, hchans, ?_⟩
  · have e := congrArg (fun z : State => ({ z with evr := s.evr, net := s.net } : State)) hrest
    exact e
  · show { y.evr with head := y.evr.head + 1 } = _
    rw [hevr]
  · have e := congrArg SegMem.segs hmem; exact e
  · have e := congrArg SegMem.events hmem; exact e
  · show { y.net with traffic := y.net.traffic + 1000000 * 32 } = _
    rw [hnet]

/-! ## POST and EVR_SLOT_WAKE (R75): O5 -/

theorem effPost_eq {v : State} {i : Nat} {f : Fetched} (hd : f.rd ≤ 15) (ha : f.ra ≤ 15) :
    effPost v i f = if v.evr.enable && v.evrFull && v.evr.waitPolicy then .wait .evr 1
      else .done (v.postRecord 0 i f.imm ((v.tt i).g f.rd).toNat ((v.tt i).g f.ra).toNat) 1 := by
  simp only [effPost, isReg_of_le hd, isReg_of_le ha, Bool.and_self, need_true]

theorem post_written {s u v x : State} {c : Instr} {i k : Nat} {f : Fetched} {record : Bytes} (h : Tries s u v c i f 1 k)
    (ho : f.opcode = 0x3E) (hd : f.rd ≤ 15) (ha : f.ra ≤ 15)
    (hr : record = leBytes 4 i ++ leBytes 4 f.imm ++ leBytes 8 u.trussNow.toNat
      ++ leBytes 4 ((u.tt i).g f.rd).toNat ++ leBytes 4 ((u.tt i).g f.ra).toNat ++ leBytes 8 0)
    (hx : x = v.holdFetched u.evrSlot 32) (hen : u.evr.enable = true) (hfull : u.evrFull = false) :
    ∃ s', exec c s = .next s' ∧ s'.evr = { u.evr with head := u.evr.head + 1 } ∧
      (∀ a, cellAt s'.mem.bytes a =
        if u.evrSlot ≤ a ∧ a < u.evrSlot + 32 then record[a - u.evrSlot]? else cellAt u.mem.bytes a) ∧
      s'.mem.segs = u.mem.segs ∧ s'.mem.events = u.mem.events ∧ s'.chans = x.chans ∧
      s'.net = { u.net with traffic := u.net.traffic + 32 * 1000000 } ∧
      s'.tt i = (u.tt i).goesOn (f.pc + f.size) k ∧ u.OtherTts s' i ∧
      { u.graft s' with
        tts := u.tts, joiners := u.joiners, evr := u.evr, mem := u.mem, chans := u.chans, card := u.card, sys := u.sys
        net := u.net } = u := by
  have hvtts : v.tts = u.tts := by have e := congrArg State.tts h.rest; exact e
  have hvtt : v.tt i = u.tt i := by unfold State.tt; rw [hvtts]
  have hvevr : v.evr = u.evr := by have e := congrArg State.evr h.rest; exact e
  have hvfull : v.evrFull = u.evrFull := by have e := congrArg State.evrFull h.rest; exact e
  have hvslot : v.evrSlot = u.evrSlot := by have e := congrArg State.evrSlot h.rest; exact e
  have hvnet : v.net = u.net := by have e := congrArg State.net h.rest; exact e
  have hvmem : v.mem = u.mem := by have e := congrArg State.mem h.rest; exact e
  have hvnow : v.trussNow = u.trussNow := by have e := congrArg State.trussNow h.rest; exact e
  have hbytes : v.recordBytes 0 i f.imm ((u.tt i).g f.rd).toNat ((u.tt i).g f.ra).toNat = record := by
    rw [hr, State.recordBytes, hvnow, Nat.zero_mul, Nat.zero_add]
  have hdone : effOf f.opcode v i f =
      .done (v.writeRecord 0 i f.imm ((u.tt i).g f.rd).toNat ((u.tt i).g f.ra).toNat) 1 := by
    rw [ho]
    show effPost v i f = _
    rw [effPost_eq hd ha, hvtt, State.postRecord, hvevr, hvfull, hen, hfull]
    rfl
  obtain ⟨hrest, hevr, hbyte, hsegs, hevents, hchans, hnet⟩ :=
    v.records_writeRecord 0 i f.imm ((u.tt i).g f.rd).toNat ((u.tt i).g f.ra).toNat
  rw [hbytes, hvslot, hvmem] at hbyte
  rw [hvslot, ← hx] at hchans
  generalize v.writeRecord 0 i f.imm ((u.tt i).g f.rd).toNat ((u.tt i).g f.ra).toNat = y at *
  have hytts : y.tts = u.tts := by have e := congrArg State.tts hrest; exact Eq.trans e hvtts
  have hyj : y.joiners = v.joiners := by have e := congrArg State.joiners hrest; exact e
  refine ⟨_, h.done hdone hytts, ?_, fun a => ?_, ?_, ?_, ?_, ?_, tt_close_modTt _ _ hytts, h.otherTts _ _ hytts hyj, ?_⟩
  · rw [State.close_evr, State.modTt_eq, State.setTt_evr, hevr, hvevr]
  · rw [State.close_mem, State.modTt_eq, State.setTt_mem, hbyte]
  · rw [State.close_mem, State.modTt_eq, State.setTt_mem, hsegs, hvmem]
  · rw [State.close_mem, State.modTt_eq, State.setTt_mem, hevents, hvmem]
  · rw [State.close_chans, State.modTt_eq, State.setTt_chans, hchans]
  · rw [State.close_net, State.modTt_eq, State.setTt_net, hnet, hvnet]
  · rw [State.graft_close]
    have e := congrArg (fun z : State => ({ u.graft z with
      tts := u.tts, joiners := u.joiners, evr := u.evr, mem := u.mem, chans := u.chans, card := u.card, sys := u.sys
      net := u.net } : State)) hrest
    have e' := congrArg (fun z : State => ({ u.graft z with
      tts := u.tts, joiners := u.joiners, evr := u.evr, mem := u.mem, chans := u.chans, card := u.card, sys := u.sys
      net := u.net } : State)) h.rest
    exact Eq.trans e e'

/-- Settles O5: an issue and a wake post alike (`Tries`); the record written is `State.records_writeRecord`. -/
theorem postRecords : Obligations.PostRecords := by
  unfold Obligations.PostRecords
  intro s u t tt f slot record hu ho hd ha hslot hr
  have hslot : slot = u.evrSlot := hslot
  have hrow : (fun x => x == 0x3E) f.opcode = true := beq_iff_eq.mpr ho
  refine ⟨fun i k x hx hen hfull => ?_, fun h hen => ?_, fun h hen hfull hpol => ?_, fun h hen hfull hpol => ?_⟩
  · rw [hslot] at hx ⊢
    rcases hx with ⟨rfl, rfl, hx, h⟩ | ⟨rfl, rfl, hx, h⟩
    · exact post_written (tries_issue 1 hu h (row := (· == 0x3E)) hrow (by rw [ho]; rfl)) ho hd ha hr hx hen hfull
    · exact post_written (tries_wake 1 hu h (by decide) (by decide) rfl) ho hd ha hr hx hen hfull
  · refine issue_plain (row := (· == 0x3E)) (eff := effPost) hu h hrow ?_
    rw [effPost_eq hd ha, State.postRecord, State.takeSlot_evr, hen]
    rfl
  · have htries := tries_issue (c := .post t tt) 1 hu h (row := (· == 0x3E)) hrow (by rw [ho]; rfl)
    have hfull' : (u.takeSlot tt).evrFull = true := hfull
    have hdone : effOf f.opcode (u.takeSlot tt) tt f =
        .done { u.takeSlot tt with evr := { u.evr with dropped := u.evr.dropped + 1 } } 1 := by
      rw [ho]
      show effPost (u.takeSlot tt) tt f = _
      rw [effPost_eq hd ha, State.postRecord, State.takeSlot_evr, hen, hfull', hpol]
      rfl
    refine ⟨_, htries.done hdone rfl, ?_, tt_close_modTt _ _ rfl, htries.otherTts _ _ rfl rfl, ?_⟩
    · rw [State.close_evr, State.modTt_eq, State.setTt_evr]
    · rw [State.graft_close]
      rfl
  · refine issue_wait (row := (· == 0x3E)) (eff := effPost) hu h hrow ?_ (by decide)
    have hfull' : (u.takeSlot tt).evrFull = true := hfull
    rw [effPost_eq hd ha, State.takeSlot_evr, hen, hfull', hpol]
    rfl

end Sys2Proof.Machine
end

section
/-! SUPPORT. Loads, shared words and the jobs of the write port (03_joiners.md, R56, R58, R74): O7, O8. -/

namespace Sys2Proof.Machine

/-! ## What the ports' service leaves of a Joiner (R22, R74) -/

/-- A Joiner whose oldest job has been served up to `n`. -/
def Joiner.servedTo (jn : Joiner) (n : Nat) : Joiner :=
  match jn.jobs with
  | [] => jn
  | w :: r => { jn with jobs := { w with served := n } :: r }

/-- `jn'` is `jn` but for how far its oldest job has been served. -/
def Joiner.ServedOn (jn jn' : Joiner) : Prop := ∃ n, jn' = jn.servedTo n

theorem Joiner.servedTo_nil {jn : Joiner} (h : jn.jobs = []) (n : Nat) : jn.servedTo n = jn := by
  unfold Joiner.servedTo; rw [h]

theorem Joiner.servedTo_cons {jn : Joiner} {w : WpJob} {r : List WpJob} (h : jn.jobs = w :: r) (n : Nat) :
    jn.servedTo n = { jn with jobs := { w with served := n } :: r } := by
  unfold Joiner.servedTo; rw [h]

theorem Joiner.servedOn_refl (jn : Joiner) : jn.ServedOn jn := by
  cases h : jn.jobs with
  | nil => exact ⟨0, (Joiner.servedTo_nil h 0).symm⟩
  | cons w r => exact ⟨w.served, by rw [Joiner.servedTo_cons h, ← h]⟩

theorem Joiner.servedOn_serve (jn : Joiner) (x : Nat) : jn.ServedOn (jn.serve x) := by
  unfold Joiner.serve
  cases h : jn.jobs with
  | nil => exact jn.servedOn_refl
  | cons w r => exact ⟨_, (Joiner.servedTo_cons h _).symm⟩

theorem Joiner.ServedOn.trans {a b c : Joiner} (h : a.ServedOn b) (g : b.ServedOn c) : a.ServedOn c := by
  obtain ⟨m, rfl⟩ := h
  obtain ⟨n, rfl⟩ := g
  cases hj : a.jobs with
  | nil => rw [Joiner.servedTo_nil hj m]; exact ⟨n, rfl⟩
  | cons w r => exact ⟨n, by rw [Joiner.servedTo_cons hj n, Joiner.servedTo_cons hj m]; rfl⟩

theorem Joiner.ServedOn.jobs_nil {a b : Joiner} (h : a.ServedOn b) (hj : a.jobs = []) : b = a := by
  obtain ⟨n, rfl⟩ := h
  exact Joiner.servedTo_nil hj n

theorem Joiner.ServedOn.jobs_cons {a b : Joiner} {w : WpJob} {r : List WpJob} (h : a.ServedOn b) (hj : a.jobs = w :: r) :
    ∃ n, b = { a with jobs := { w with served := n } :: r } := by
  obtain ⟨n, rfl⟩ := h
  exact ⟨n, Joiner.servedTo_cons hj n⟩

theorem Joiner.ServedOn.jobs_eq_nil_iff {a b : Joiner} (h : a.ServedOn b) : b.jobs = [] ↔ a.jobs = [] := by
  constructor
  · intro hb
    cases hj : a.jobs with
    | nil => rfl
    | cons w r =>
      obtain ⟨n, rfl⟩ := h.jobs_cons hj
      cases hb
  · exact fun hj => (congrArg Joiner.jobs (h.jobs_nil hj)).trans hj

theorem sget_map_serve (g : Joiner → Joiner) (hg : g {} = {}) (js : Sparse Joiner) (k : Nat) :
    sget (fun _ => {}) (js.map fun p => (p.1, g p.2)) k = g (sget (fun _ => {}) js k) := by
  induction js with
  | nil => exact hg.symm
  | cons p r ih =>
    simp only [List.map_cons, sget]
    split
    · rfl
    · exact ih

theorem servedOn_servedFor (k : Nat) (fuel : Nat) : ∀ (hz fs : Nat) (js : Sparse Joiner),
    (sget (fun _ => {}) js k : Joiner).ServedOn (sget (fun _ => {}) (servedFor fuel hz fs js) k) := by
  induction fuel with
  | zero => exact fun _ _ js => Joiner.servedOn_refl _
  | succ n ih =>
    intro hz fs js
    unfold servedFor
    extract_lets busy r step js'
    have hstep : (sget (fun _ => {}) js k : Joiner).ServedOn (sget (fun _ => {}) js' k) := by
      rw [show sget (fun _ => {}) js' k = _ from sget_map_serve (Joiner.serve · (r * step)) rfl js k]
      exact Joiner.servedOn_serve _ _
    split
    · exact Joiner.servedOn_refl _
    · split
      · exact hstep.trans (ih _ _ _)
      · exact hstep

theorem State.servedOn_servePorts (s : State) (j : Nat) : (s.joiner j).ServedOn (s.servePorts.joiner j) := by
  show (s.joiner j).ServedOn (sget _ (if s.eclk.stopped then s.joiners else _) j)
  split
  · exact Joiner.servedOn_refl _
  · exact servedOn_servedFor j _ _ _ _

/-! ## Operands of LD and ST (R56) -/

theorem memAddr_eq {v : State} {i a : Nat} {f : Fetched} (hd : f.rd ≤ 15) (hr : f.ra ≤ 15)
    (ha : a = ((v.tt i).g f.ra).toNat + bits f.imm 13 0) (hs : bits f.imm 15 14 ≠ 2) (hw : a < spaceWords (bits f.imm 15 14)) :
    memAddr v i f = .ok (bits f.imm 15 14, a) := by
  simp only [memAddr, isReg_of_le hd, isReg_of_le hr, Bool.and_self, Bool.not_true, hs, decide_false, Bool.or_self,
    Bool.false_eq_true, if_false, ← ha, Nat.not_le.mpr hw]

/-- The word that an LD reads (R56, R74). -/
def State.loaded (s : State) (i space a : Nat) : Word :=
  match space with
  | 0 => sget (fun _ => 0) (s.tt i).scratch a
  | 1 => sget (fun _ => 0) (s.joiner (i / 64)).shared a
  | _ => s.wpReg i a

theorem effLd_eq {v : State} {i space a : Nat} {f : Fetched} (hm : memAddr v i f = .ok (space, a)) :
    effLd v i f = if space = 3 ∧ a = 6 ∧ (v.joiner (i / 64)).jobsOf i ≠ 0 then .wait .wpSync 2
      else .done (v.modTt i fun w => w.setG f.rd (v.loaded i space a)) 2 := by
  unfold effLd
  rw [hm]
  rfl

/-- Taking a slot leaves what LD reads. -/
theorem State.takeSlot_stores (s : State) (i j : Nat) :
    ((s.takeSlot i).joiner j).shared = (s.joiner j).shared ∧ ((s.takeSlot i).joiner j).jobs = (s.joiner j).jobs := by
  have h := s.takeSlot_joiner i j
  exact ⟨by have e := congrArg Joiner.shared h; exact e, by have e := congrArg Joiner.jobs h; exact e⟩

theorem State.takeSlot_jobsOf (s : State) (i j k : Nat) :
    ((s.takeSlot i).joiner j).jobsOf k = (s.joiner j).jobsOf k := by
  unfold Joiner.jobsOf
  rw [(s.takeSlot_stores i j).2]

theorem State.takeSlot_loaded (s : State) (i space a : Nat) : (s.takeSlot i).loaded i space a = s.loaded i space a := by
  have hwp : (s.takeSlot i).wpReg i a = s.wpReg i a := by
    unfold State.wpReg
    rw [State.takeSlot_tt, State.takeSlot_jobsOf]
  unfold State.loaded
  rw [State.takeSlot_tt, (s.takeSlot_stores i (i / 64)).1, hwp]

/-- LD of a word that is there (R56, R74). -/
theorem ld_issue {s u : State} {t i space a : Nat} {f : Fetched} (hu : u = s.advance t) (h : u.Issues i f)
    (ho : f.opcode = 0x38) (hm : memAddr (u.takeSlot i) i f = .ok (space, a))
    (hj : space = 3 → a = 6 → (u.joiner (i / 64)).jobsOf i = 0) :
    ∃ s', event s t (fun s => s.issue i (· == 0x38) effLd) = .next s' ∧ u.SameButTt s' i ∧
      s'.tt i = ((u.tt i).setG f.rd (u.loaded i space a)).goesOn (f.pc + f.size) (u.readyAfter 2) := by
  refine issue_modTt (row := (· == 0x38)) (eff := effLd) (fun w => w.setG f.rd (u.loaded i space a)) hu h (beq_iff_eq.mpr ho) ?_
  rw [effLd_eq hm, State.takeSlot_jobsOf, State.takeSlot_loaded, if_neg]
  exact fun ⟨h3, h6, hn⟩ => hn (hj h3 h6)

/-! ## Shared words stored (R56, R74) -/

theorem WpJob.keep_eq (w : WpJob) (jn : Joiner) (draw c a : Nat) : ∃ m, w.keep jn draw c a = { w with kept := m } := by
  unfold WpJob.keep
  extract_lets i
  split
  · exact ⟨w.kept, rfl⟩
  · split
    · exact ⟨_, rfl⟩
    · exact ⟨w.kept, rfl⟩

theorem Joiner.storeShared_jobs (jn : Joiner) (draw c a : Nat) (x : Word) :
    (jn.storeShared draw c a [x]).jobs.map (fun w => (w.tt, w.src, w.dst, w.units)) =
      jn.jobs.map fun w => (w.tt, w.src, w.dst, w.units) := by
  show (match jn.jobs with
      | w :: r => w.keep jn draw c (a + 0) :: r
      | [] => []).map _ = _
  cases jn.jobs with
  | nil => rfl
  | cons w r =>
    obtain ⟨m, hm⟩ := w.keep_eq jn draw c (a + 0)
    simp only [hm, List.map_cons]

theorem Joiner.storeShared_shared (jn : Joiner) (draw c a k : Nat) (x : Word) :
    sget (fun _ => 0) (jn.storeShared draw c a [x]).shared k = if k = a then x else sget (fun _ => 0) jn.shared k := by
  show sget (fun _ => 0) (sset (fun _ => 0) jn.shared (a + 0) x) k = _
  rw [sget_sset]
  simp only [Nat.add_zero, eq_comm]

/-! ## Jobs of the write port (R74) -/

/-- WP_GO with sound staging registers. -/
theorem wpGo_eq {v : State} {i src n dst : Nat} (hsrc : src = (v.tt i).wpSrc.toNat) (hn : n = (v.tt i).wpLen.toNat)
    (hdst : dst = (v.tt i).wpDstHi.toNat * 2 ^ 32 + (v.tt i).wpDstLo.toNat) (h1 : src % 4 = 0) (h2 : 1 ≤ n) (h3 : n ≤ 1024)
    (h4 : src + 4 * n ≤ 4096) (h5 : dst % 16 = 0) (h6 : dst + 16 * n ≤ hbmBytes) :
    wpGo v i = if (v.joiner (i / 64)).jobs.length ≥ 4 then .wait .wpJob 2
      else .done (v.startJob (i / 64) { tt := i, src := src, dst := dst, units := n }) 2 := by
  have hsound : ¬ (src % 4 ≠ 0 ∨ n < 1 ∨ 1024 < n ∨ 4096 < src + 4 * n ∨ dst % 16 ≠ 0 ∨ hbmBytes < dst + 16 * n) := by
    simp only [hbmBytes] at h6 ⊢
    omega
  simp only [wpGo, ← hsrc, ← hn, ← hdst, if_neg hsound]

theorem effSt_wpGo {v : State} {i : Nat} {f : Fetched} (hd : f.rd ≤ 15) (hr : f.ra ≤ 15) (hs : bits f.imm 15 14 = 3)
    (ha : ((v.tt i).g f.ra).toNat + bits f.imm 13 0 = 4) : effSt v i f = wpGo v i := by
  unfold effSt
  rw [memAddr_eq hd hr ha.symm (by rw [hs]; decide) (by rw [hs]; decide), hs]
  rfl

/-- A job started: `x` is the state with what channels have played worked out, `y` the one with the ports served. -/
theorem State.startJob_jobs {v x y : State} {j : Nat} {w : WpJob} (hx : x = v.catchUpAll) (hy : y = x.servePorts)
    (hw : w.served = 0) :
    { v.startJob j w with joiners := y.joiners } = y ∧
    ((v.startJob j w).joiner j).jobs = (y.joiner j).jobs ++
      [{ w with draw := x.draws, served := if (v.joiner j).jobs = [] then v.portPhase else 0 }] ∧
    ∀ k, k ≠ j → (v.startJob j w).joiner k = y.joiner k := by
  have hplay := v.onPlay_catchUpAll
  rw [← hx] at hplay
  have hxj : x.joiner j = v.joiner j := by have e := congrArg (fun z : State => z.joiner j) hplay.1; exact e
  have hxphase : x.portPhase = v.portPhase := by have e := congrArg State.portPhase hplay.1; exact e
  have hyphase : y.portPhase = x.portPhase := by rw [hy]; rfl
  have hydraws : y.draws = x.draws := by rw [hy]; rfl
  have hserved : (x.joiner j).ServedOn (y.joiner j) := by rw [hy]; exact x.servedOn_servePorts j
  have hnil : (y.joiner j).jobs = [] ↔ (v.joiner j).jobs = [] := by rw [← hxj]; exact hserved.jobs_eq_nil_iff
  unfold State.startJob
  rw [← hx, ← hy]
  refine ⟨rfl, ?_, fun k hk => ?_⟩
  · rw [State.modJoiner_eq, State.joiner_setJoiner_self]
    by_cases h : (v.joiner j).jobs = []
    · have hj := hnil.mpr h
      rw [if_pos hj, if_pos h, hj, hydraws, hyphase, hxphase]
      rfl
    · have hj : (y.joiner j).jobs ≠ [] := fun e => h (hnil.mp e)
      rw [if_neg hj, if_neg h, hydraws, ← hw]
  · rw [State.modJoiner_eq, State.joiner_setJoiner, if_neg (Ne.symm hk)]

/-- A store to WP_GO that finds a free slot, at its issue or at its wake. -/
theorem wpGo_started {s u v x y : State} {c : Instr} {i k src n dst : Nat} {f : Fetched} (h : Tries s u v c i f 2 k)
    (ho : f.opcode = 0x39) (he : effSt v i f = .done (v.startJob (i / 64) { tt := i, src := src, dst := dst, units := n }) 2)
    (hx : x = v.catchUpAll) (hy : y = x.servePorts) :
    ∃ s', exec c s = .next s' ∧ u.OnPlay { x with joiners := u.joiners } ∧
      { y.graft s' with tts := y.tts, joiners := y.joiners } = y ∧
      (s'.joiner (i / 64)).jobs = (y.joiner (i / 64)).jobs ++ [{
        tt := i, src := src, dst := dst, units := n, draw := x.draws
        served := if (u.joiner (i / 64)).jobs = [] then u.portPhase else 0 }] ∧
      (∀ m, m ≠ i / 64 → s'.joiner m = y.joiner m) ∧
      s'.tt i = (u.tt i).goesOn (f.pc + f.size) k ∧ ∀ m, m ≠ i → s'.tt m = u.tt m := by
  obtain ⟨hrest, hjobs, hothers⟩ := State.startJob_jobs (w := { tt := i, src := src, dst := dst, units := n }) (j := i / 64)
    hx hy rfl
  have hplay := v.onPlay_catchUpAll
  rw [← hx] at hplay
  have hvj : (v.joiner (i / 64)).jobs = (u.joiner (i / 64)).jobs := by
    have e := congrArg Joiner.jobs (h.stores (i / 64)); exact e
  have hvphase : v.portPhase = u.portPhase := by have e := congrArg State.portPhase h.rest; exact e
  rw [hvj, hvphase] at hjobs
  have hdone : effOf f.opcode v i f = .done (v.startJob (i / 64) { tt := i, src := src, dst := dst, units := n }) 2 := by
    rw [ho]; exact he
  generalize v.startJob (i / 64) { tt := i, src := src, dst := dst, units := n } = z at hdone hrest hjobs hothers
  have hvtts : v.tts = u.tts := by have e := congrArg State.tts h.rest; exact e
  have hytts : y.tts = u.tts := by rw [hy]; exact hplay.tts.trans hvtts
  have hztts : z.tts = u.tts := by have e := congrArg State.tts hrest; exact Eq.trans e hytts
  refine ⟨_, h.done hdone hztts, ?_, ?_, ?_, fun m hm => ?_, tt_close_modTt _ _ hztts, fun m hm => ?_⟩
  · obtain ⟨hp, hbytes, hsegs, hevents⟩ := hplay
    have e := congrArg (fun z : State => ({ z with joiners := u.joiners } : State)) hp
    have hvmem : v.mem = u.mem := by have e := congrArg State.mem h.rest; exact e
    refine ⟨?_, by rw [← hvmem]; exact hbytes, by rw [← hvmem]; exact hsegs, by rw [← hvmem]; exact hevents⟩
    have e' := congrArg (fun z : State => ({ z with chans := u.chans, mem := u.mem, card := u.card, sys := u.sys } : State)) e
    have e'' := congrArg (fun z : State => ({ z with chans := u.chans, mem := u.mem, card := u.card, sys := u.sys } : State)) h.rest
    exact Eq.trans e' e''
  · rw [State.graft_close]
    have e := congrArg (fun z : State => ({ y.graft z with tts := y.tts } : State)) hrest
    exact e
  · rw [State.close_joiner, State.modTt_eq, State.setTt_joiner, hjobs]
  · rw [State.close_joiner, State.modTt_eq, State.setTt_joiner, hothers m hm]
  · rw [State.close_tt, State.modTt_eq, State.tt_setTt, if_neg (Ne.symm hm)]
    unfold State.tt
    rw [hztts]

end Sys2Proof.Machine
end

section
/-! Proofs of O7 and O8: loads, stores and write-port jobs (03_joiners.md, R56, R74). -/

namespace Sys2Proof.Machine

/-! ## LD and ST (R56, R74): O7 -/

theorem effSt_scratch {v : State} {i a : Nat} {f : Fetched} (hm : memAddr v i f = .ok (0, a)) :
    effSt v i f = .done (v.modTt i fun w => { w with scratch := sset (fun _ => 0) w.scratch a ((v.tt i).g f.rd) }) 2 := by
  unfold effSt
  rw [hm]
  rfl

theorem effSt_shared {v : State} {i a : Nat} {f : Fetched} (hm : memAddr v i f = .ok (1, a)) :
    effSt v i f = .done (v.modJoiner (i / 64) fun jn => jn.storeShared v.draws v.cycle a [(v.tt i).g f.rd]) 2 := by
  unfold effSt
  rw [hm]
  rfl

/-- The staging registers after a store of `x` to register `a` of the write port (R74). -/
def Timetable.stage (v : Timetable) (a : Nat) (x : Word) : Timetable :=
  { v with
    wpSrc := if a = 0 then x else v.wpSrc
    wpDstLo := if a = 1 then x else v.wpDstLo
    wpDstHi := if a = 2 then x else v.wpDstHi
    wpLen := if a = 3 then x else v.wpLen }

theorem effSt_stage {v : State} {i a : Nat} {f : Fetched} (hm : memAddr v i f = .ok (3, a)) (ha : a < 4) :
    effSt v i f = .done (v.modTt i fun w => w.stage a ((v.tt i).g f.rd)) 2 := by
  unfold effSt
  rw [hm]
  match a, ha with
  | 0, _ => rfl
  | 1, _ => rfl
  | 2, _ => rfl
  | 3, _ => rfl

theorem State.modJoiner_rest (s : State) (j : Nat) (g : Joiner → Joiner) : { s.modJoiner j g with joiners := s.joiners } = s := rfl

/-- A trial that works on its Joiner's stores and its timetable. -/
theorem Tries.graft_stores {s u v : State} {c : Instr} {i lat k : Nat} {f : Fetched} (h : Tries s u v c i f lat k)
    (j : Nat) (g : Joiner → Joiner) (w : Timetable → Timetable) (q : List Instr) :
    { u.graft (((v.modJoiner j g).modTt i w).close q) with tts := u.tts, joiners := u.joiners } = u := by
  rw [State.graft_close]
  have e := congrArg (fun z : State => ({ u.graft z with tts := u.tts, joiners := u.joiners } : State)) (v.modJoiner_rest j g)
  have e' := congrArg (fun z : State => ({ u.graft z with tts := u.tts } : State)) h.rest
  exact Eq.trans e e'

/-- ST to shared memory: one word of its Joiner's (R56). -/
theorem st_shared {s u : State} {t a : Nat} {tt : Fin 6144} {f : Fetched} (hu : u = s.advance t) (h : u.Issues tt f)
    (ho : f.opcode = 0x39) (hm : memAddr (u.takeSlot tt) tt f = .ok (1, a)) :
    ∃ s', exec (.st t tt) s = .next s' ∧ { u.graft s' with tts := u.tts, joiners := u.joiners } = u ∧
      s'.tt tt = (u.tt tt).goesOn (f.pc + f.size) (u.readyAfter 2) ∧ (∀ k, k ≠ tt.val → s'.tt k = u.tt k) ∧
      (∀ j k, sget (fun _ => 0) (s'.joiner j).shared k =
        if j = tt.val / 64 ∧ k = a then (u.tt tt).g f.rd else sget (fun _ => 0) (u.joiner j).shared k) ∧
      (∀ j, j ≠ tt.val / 64 → s'.joiner j = u.joiner j) ∧
      (s'.joiner (tt / 64)).bells = (u.joiner (tt / 64)).bells ∧ (s'.joiner (tt / 64)).code = (u.joiner (tt / 64)).code ∧
      (s'.joiner (tt / 64)).jobs.map (fun w => (w.tt, w.src, w.dst, w.units)) =
        (u.joiner (tt / 64)).jobs.map fun w => (w.tt, w.src, w.dst, w.units) := by
  have htries := tries_issue (c := .st t tt) 2 hu h (row := (· == 0x39)) (beq_iff_eq.mpr ho) (by rw [ho]; rfl)
  have hdone : effOf f.opcode (u.takeSlot tt) tt f = .done ((u.takeSlot tt).modJoiner (tt / 64) fun jn =>
      jn.storeShared (u.takeSlot tt).draws (u.takeSlot tt).cycle a [(u.tt tt).g f.rd]) 2 := by
    rw [ho]; exact effSt_shared hm
  have hstores : ((u.takeSlot tt).joiner (tt / 64)).bells = (u.joiner (tt / 64)).bells ∧
      ((u.takeSlot tt).joiner (tt / 64)).code = (u.joiner (tt / 64)).code := by
    have hs := htries.stores (tt / 64)
    exact ⟨by have e := congrArg Joiner.bells hs; exact e, by have e := congrArg Joiner.code hs; exact e⟩
  obtain ⟨hshared, hjobs⟩ := u.takeSlot_stores tt (tt / 64)
  have hother : ∀ j, j ≠ tt.val / 64 → (u.takeSlot tt).joiner j = u.joiner j := fun j hj => by
    unfold State.takeSlot
    rw [State.modJoiner_eq, State.joiner_setJoiner, if_neg (Ne.symm hj)]
  have hjoiner (k : Nat) (x : State) (g : Timetable → Timetable) : ((x.modTt tt g).close s.pending).joiner k = x.joiner k := by
    rw [State.close_joiner, State.modTt_eq, State.setTt_joiner]
  refine ⟨_, htries.done hdone rfl, htries.graft_stores _ _ _ _, tt_close_modTt _ _ rfl, fun k hk => ?_, fun j k => ?_,
    fun j hj => ?_, ?_, ?_, ?_⟩
  · rw [State.close_tt, State.modTt_eq, State.tt_setTt, if_neg (Ne.symm hk)]
    rfl
  · rw [hjoiner]
    by_cases hj : j = tt.val / 64
    · rw [hj, State.modJoiner_eq, State.joiner_setJoiner_self, Joiner.storeShared_shared, hshared]
      simp only [true_and]
    · rw [State.modJoiner_eq, State.joiner_setJoiner, if_neg (Ne.symm hj), hother j hj, if_neg (fun e => hj e.1)]
  · rw [hjoiner, State.modJoiner_eq, State.joiner_setJoiner, if_neg (Ne.symm hj), hother j hj]
  · rw [hjoiner, State.modJoiner_eq, State.joiner_setJoiner_self, ← hstores.1]
    rfl
  · rw [hjoiner, State.modJoiner_eq, State.joiner_setJoiner_self, ← hstores.2]
    rfl
  · rw [hjoiner, State.modJoiner_eq, State.joiner_setJoiner_self, Joiner.storeShared_jobs, hjobs]

/-- Settles O7, space by space: the operand's address (`memAddr_eq`) decides what is loaded or stored. -/
theorem loadsAndStores : Obligations.LoadsAndStores := by
  unfold Obligations.LoadsAndStores
  intro s u t tt f a hu h hd hr ha
  have haddr (space : Nat) (hs : bits f.imm 15 14 = space) (h2 : space ≠ 2) (hw : a < spaceWords space) :
      memAddr (u.takeSlot tt) tt f = .ok (space, a) := by
    rw [memAddr_eq (v := u.takeSlot tt) hd hr ha (by rw [hs]; exact h2) (by rw [hs]; exact hw), hs]
  have hst : f.opcode = 0x39 → (fun x => x == 0x39) f.opcode = true := beq_iff_eq.mpr
  refine ⟨fun p hp ho hs hw hj => ?_, fun ho hs h6 hj => ?_, fun ho hs hw => ?_, fun ho hs hw => ?_, fun ho hs hw => ?_,
    fun src n dst ho hs h4 hsrc hn hdst h1 h2 h3 h5 h6 h7 => ⟨fun hl x y hx hy => ?_, fun hl => ?_⟩⟩
  · simp only [List.mem_cons, List.not_mem_nil, or_false] at hp
    rcases hp with rfl | rfl | rfl
    · exact ld_issue (space := 0) hu h ho (haddr 0 hs (by decide) hw) (fun e => by cases e)
    · exact ld_issue (space := 1) hu h ho (haddr 1 hs (by decide) hw) (fun e => by cases e)
    · exact ld_issue (space := 3) hu h ho (haddr 3 hs (by decide) hw) (fun _ => hj rfl)
  · refine issue_wait (row := (· == 0x38)) (eff := effLd) hu h (beq_iff_eq.mpr ho) ?_ (by decide)
    rw [effLd_eq (haddr 3 hs (by decide) (by rw [h6]; decide)), State.takeSlot_jobsOf, if_pos ⟨rfl, h6, hj⟩]
  · obtain ⟨s', hs', hsame, htt⟩ := issue_modTt (row := (· == 0x39)) (eff := effSt)
      (fun w => { w with scratch := sset (fun _ => 0) w.scratch a ((u.tt tt).g f.rd) }) hu h (hst ho)
      (effSt_scratch (haddr 0 hs (by decide) hw))
    refine ⟨s', hs', hsame, htt, fun k => ?_⟩
    rw [htt]
    show sget (fun _ => 0) (sset (fun _ => 0) (u.tt tt).scratch a ((u.tt tt).g f.rd)) k = _
    rw [sget_sset]
    simp only [eq_comm]
  · exact st_shared hu h ho (haddr 1 hs (by decide) hw)
  · exact issue_modTt (row := (· == 0x39)) (eff := effSt) (fun w => w.stage a ((u.tt tt).g f.rd)) hu h (hst ho)
      (effSt_stage (haddr 3 hs (by decide) (hw.trans (by decide))) hw)
  · have htries := tries_issue (c := .st t tt) 2 hu h (row := (· == 0x39)) (hst ho) (by rw [ho]; rfl)
    refine wpGo_started htries ho ?_ hx hy
    rw [effSt_wpGo (v := u.takeSlot tt) hd hr hs (ha.symm.trans h4),
      wpGo_eq (v := u.takeSlot tt) hsrc hn hdst h1 h2 h3 h5 h6 h7, (u.takeSlot_stores tt (tt / 64)).2,
      if_neg (Nat.not_le.mpr hl)]
  · refine issue_wait (row := (· == 0x39)) (eff := effSt) hu h (hst ho) ?_ (by decide)
    rw [effSt_wpGo (v := u.takeSlot tt) hd hr hs (ha.symm.trans h4),
      wpGo_eq (v := u.takeSlot tt) hsrc hn hdst h1 h2 h3 h5 h6 h7, (u.takeSlot_stores tt (tt / 64)).2, if_pos hl]

/-! ## Write-port jobs that complete (R17, R22, R74): O8 -/

/-- The jobs behind one that has completed: the port turns to the first of them, `x` into the cycle. -/
def nextJobs (x : Nat) : List WpJob → List WpJob
  | [] => []
  | v :: q => { v with served := x } :: q

theorem State.finishJob_eq {y z : State} {j : Nat} {w : WpJob} {r : List WpJob} (h : (y.joiner j).jobs = w :: r)
    (hz : z = y.writeMem w.dst (wordsBytes ((y.joiner j).jobWords y.cycle w))) :
    y.finishJob j = (z.modJoiner j fun jn => { jn with portFrom := z.cycle, jobs := nextJobs z.portPhase r }).modTt w.tt
      fun v => { v with wpDone := v.wpDone + 1 } := by
  unfold State.finishJob
  rw [h, hz]
  cases r <;> rfl

/-- A job that is due completes (R17, R74). -/
theorem wpJob_completes {s u : State} {t : Nat} {j : Fin 96} {w : WpJob} {r : List WpJob} {data : Bytes}
    (hu : u = s.advance t) (hstill : u.still = false) (hj : (u.joiner j).jobs = w :: r)
    (hdata : data = wordsBytes ((u.joiner j).jobWords u.cycle w)) (hdue : u.jobDue j = true) :
    ∃ s', exec (.wpJobComplete t j) s = .next s' ∧
      (∀ a, cellAt s'.mem.bytes a =
        if w.dst ≤ a ∧ a < w.dst + data.length then data[a - w.dst]? else cellAt u.mem.bytes a) ∧
      s'.mem.segs = u.mem.segs ∧ s'.mem.events = u.mem.events ∧ s'.net = { u.net with portsFrom := u.now } ∧
      (s'.joiner j).jobs = nextJobs u.portPhase r ∧
      (s'.tt w.tt).wpDone = (u.tt w.tt).wpDone + 1 ∧ (∀ k, k ≠ w.tt → s'.tt k = u.tt k) ∧
      (∀ k, k ≠ j.val → s'.joiner k = u.servePorts.joiner k) ∧
      { u.graft s' with
        tts := u.tts, joiners := u.joiners, mem := u.mem, chans := u.chans, card := u.card, sys := u.sys
        net := u.net } = u := by
  obtain ⟨n, hn⟩ := (u.servedOn_servePorts j).jobs_cons hj
  have hyj : (u.servePorts.joiner j).jobs = { w with served := n } :: r := by rw [hn]
  have hwords : wordsBytes ((u.servePorts.joiner j).jobWords u.servePorts.cycle { w with served := n }) = data := by
    rw [hdata, hn]; rfl
  obtain ⟨z, hz⟩ : ∃ z, z = u.servePorts.writeMem w.dst data := ⟨_, rfl⟩
  have hexec : exec (.wpJobComplete t j) s = .next ((u.servePorts.finishJob j).close s.pending) := by
    show event s t (fun s => opWpJobComplete s j) = _
    rw [event_next _ _ _ (by rw [← hu]; exact hstill), ← hu, opWpJobComplete, hdue]
    rfl
  rw [State.finishJob_eq hyj (z := z) (by rw [hz, hwords])] at hexec
  have hrest := u.servePorts.writeMem_rest w.dst data
  have hmem := u.servePorts.writeMem_mem w.dst data
  have hbyte := fun a => u.servePorts.writeMem_byte w.dst a data
  rw [← hz] at hrest hmem hbyte
  have hphase : z.portPhase = u.portPhase := by have e := congrArg State.portPhase hrest; exact e
  have htts : z.tts = u.tts := by have e := congrArg State.tts hrest; exact e
  have htt (k : Nat) : z.tt k = u.tt k := by unfold State.tt; rw [htts]
  have hjoiner : z.joiners = u.servePorts.joiners := by have e := congrArg State.joiners hrest; exact e
  refine ⟨_, hexec, fun a => ?_, ?_, ?_, ?_, ?_, ?_, fun k hk => ?_, fun k hk => ?_, ?_⟩
  · rw [State.close_mem]
    exact hbyte a
  · rw [State.close_mem]
    have e := congrArg SegMem.segs hmem
    exact e
  · rw [State.close_mem]
    have e := congrArg SegMem.events hmem
    exact e
  · rw [State.close_net]
    have e := congrArg State.net hrest
    exact e
  · rw [State.close_joiner, State.modTt_eq, State.setTt_joiner, State.modJoiner_eq, State.joiner_setJoiner_self, ← hphase]
  · rw [State.close_tt, State.modTt_eq, State.tt_setTt_self, State.modJoiner_eq, State.setJoiner_tt, htt]
  · rw [State.close_tt, State.modTt_eq, State.tt_setTt, if_neg (Ne.symm hk), State.modJoiner_eq, State.setJoiner_tt, htt]
  · rw [State.close_joiner, State.modTt_eq, State.setTt_joiner, State.modJoiner_eq, State.joiner_setJoiner, if_neg (Ne.symm hk)]
    unfold State.joiner
    rw [hjoiner]
  · rw [State.graft_close]
    have e := congrArg (fun y : State => ({ u.graft y with
      tts := u.tts, joiners := u.joiners, mem := u.mem, chans := u.chans, card := u.card, sys := u.sys, net := u.net } : State)) hrest
    exact e

/-- Settles O8: a waiting store and a waiting load go on at their wakes, and a job that is due is finished. -/
theorem writePortJobs : Obligations.WritePortJobs := by
  unfold Obligations.WritePortJobs
  refine ⟨fun s u x y t tt f src n dst hu hx hy h ho hd hr ha hs hsrc hn hdst h1 h2 h3 h4 h5 h6 hl => ?_,
    fun s u t tt f hu h ho hd hr ha hs hj => ?_, fun s u t j w r data hu hstill hj hdata => ⟨fun hdue => ?_, fun hdue => ?_⟩⟩
  · have htries := tries_wake (c := .wpJobSlotWake t tt) 2 hu h (by decide) (by decide) rfl
    have hplay : u.OnPlay x := by rw [hx]; exact u.onPlay_catchUpAll
    obtain ⟨s', hs', -, hgraft, hjobs, hothers, htt, htts⟩ := wpGo_started (src := src) (n := n) (dst := dst) htries ho
      (by rw [effSt_wpGo hd hr hs ha, wpGo_eq hsrc hn hdst h1 h2 h3 h4 h5 h6, if_neg (Nat.not_le.mpr hl)]) hx hy
    exact ⟨s', hs', hplay, hgraft, hjobs, hothers, htt, htts⟩
  · have htries := tries_wake (c := .wpSyncWake t tt) 2 hu h (by decide) (by decide) rfl
    have hm : memAddr u tt f = .ok (3, 6) := by
      rw [memAddr_eq hd hr ha.symm (by rw [hs]; decide) (by rw [hs]; decide), hs]
    have hdone : effOf f.opcode u tt f = .done (u.modTt tt fun w => w.setG f.rd 0) 2 := by
      rw [ho]
      show effLd u tt f = _
      rw [effLd_eq hm, if_neg (fun e => e.2.2 hj)]
      rfl
    have hready : ((u.modTt tt fun w => w.setG f.rd 0).tt tt).readyAt = (u.tt tt).readyAt := by
      rw [State.modTt_eq, State.tt_setTt_self]
      unfold Timetable.setG
      split <;> rfl
    refine ⟨_, htries.goes _ hdone hready, State.onlyTt_close _ (State.onlyTt_setTt (State.onlyTt_modTt u tt _) _), ?_⟩
    rw [State.close_tt, State.modTt_eq, State.tt_setTt_self, State.modTt_eq, State.tt_setTt_self]
  · obtain ⟨s', hs', hbytes, hsegs, hevents, hnet, hjobs, h⟩ := wpJob_completes hu hstill hj hdata hdue
    exact ⟨s', hs', hbytes, hsegs, hevents, hnet, hjobs.trans (by cases r <;> rfl), h⟩
  · show event s t (fun s => opWpJobComplete s j) = _
    rw [event_next _ _ _ (by rw [← hu]; exact hstill), ← hu, opWpJobComplete, hdue]
    rfl

end Sys2Proof.Machine
end

section
/-! SUPPORT. What a channel keeps while its output is worked out, and what a flush or a cut leaves
(04_timetable_playback.md). -/

namespace Sys2Proof.Machine

/-! ## What a channel keeps while its output is worked out (R118, R126, R393) -/

/-- `c'` is `c` but for what its output brings about: output and its counts, settings, marker levels and NCO ramp, and
a late page that begins. Queue and freed slots, states, gates, escapes and flags of playback stand. -/
def Channel.KeepsPlan (c c' : Channel) : Prop :=
  { c' with
    vals := c.vals, ramp := c.ramp, planned := c.planned, pend := c.pend, hostSet := c.hostSet, lastCode := c.lastCode
    ueGranules := c.ueGranules, satCount := c.satCount, flags := c.flags, drawn := c.drawn, slip := c.slip, acc := c.acc
    accK := c.accK, marks := c.marks, marksWere := c.marksWere, events := c.events, act := c.act
    dropped := c.dropped } = c

theorem Channel.keepsPlan_refl (c : Channel) : c.KeepsPlan c := rfl

theorem Channel.KeepsPlan.trans {a b c : Channel} (h : a.KeepsPlan b) (g : b.KeepsPlan c) : a.KeepsPlan c := by
  have e := congrArg (fun v : Channel => ({ v with
    vals := a.vals, ramp := a.ramp, planned := a.planned, pend := a.pend, hostSet := a.hostSet, lastCode := a.lastCode
    ueGranules := a.ueGranules, satCount := a.satCount, flags := a.flags, drawn := a.drawn, slip := a.slip, acc := a.acc
    accK := a.accK, marks := a.marks, marksWere := a.marksWere, events := a.events, act := a.act
    dropped := a.dropped } : Channel)) g
  exact e.trans h

theorem Channel.keepsPlan_playGranule (c : Channel) (s : State) (n : Nat) (src : Source) (g : Nat) :
    c.KeepsPlan (c.playGranule s n src g).1 := by
  unfold Channel.playGranule
  extract_lets o i g0 rs first ce rest
  split
  · rfl
  · split <;> rfl

theorem Channel.keepsPlan_playGranules (s : State) (ch : Nat) (src : Source) (n : Nat) :
    ∀ (g : Nat) (c : Channel), c.KeepsPlan (Channel.playGranules s ch src n g c).1 := by
  induction n with
  | zero => exact fun g c => c.keepsPlan_refl
  | succ n ih => exact fun g c => (c.keepsPlan_playGranule s ch src g).trans (ih _ _)

theorem Channel.keepsPlan_renderTo (c : Channel) (s : State) (ch k : Nat) : c.KeepsPlan (c.renderTo s ch k).1 := by
  unfold Channel.renderTo
  split
  · rfl
  · dsimp only
    split
    · next src _ =>
      exact (Channel.keepsPlan_playGranules s ch src _ _ _).trans rfl
    · rfl

/-- A change of channel `n` that keeps its plan keeps that of every channel. -/
theorem State.keepsPlan_modChan (s : State) (n m : Nat) {f : Channel → Channel} (hf : (s.chan n).KeepsPlan (f (s.chan n))) :
    (s.chan m).KeepsPlan ((s.modChan n f).chan m) := by
  rw [State.modChan_eq, State.chan_setChan]
  split
  · next h => rw [← h]; exact hf
  · exact Channel.keepsPlan_refl _

theorem State.keepsPlan_render (s : State) (n k m : Nat) : (s.chan m).KeepsPlan ((s.render n k).chan m) := by
  have h := s.keepsPlan_modChan n m (f := fun _ => ((s.chan n).renderTo s n k).1) ((s.chan n).keepsPlan_renderTo s n k)
  unfold State.render
  dsimp only
  split <;> exact h

theorem Channel.keepsPlan_take (c : Channel) (k : Nat) (v : SettingValue) : c.KeepsPlan (c.take k v) := by cases v <;> rfl

theorem Channel.keepsPlan_fireBefore (x : Nat) (fuel : Nat) : ∀ c : Channel, c.KeepsPlan (c.fireBefore fuel x) := by
  induction fuel with
  | zero => exact fun c => c.keepsPlan_refl
  | succ m ih =>
    intro c
    unfold Channel.fireBefore
    split
    · next e _ =>
      split
      · exact Channel.KeepsPlan.trans (b := c.fire e) rfl (ih _)
      · rfl
    · rfl

theorem Channel.keepsPlan_rampStep (c : Channel) : c.KeepsPlan c.rampStep := by
  unfold Channel.rampStep
  split <;> rfl

theorem Channel.keepsPlan_startLate (c : Channel) (k : Nat) : c.KeepsPlan (c.startLate k) := by
  unfold Channel.startLate
  split
  · dsimp only
    split <;> rfl
  · rfl

/-- What output worked out and changes of a channel that keep its plan bring about, one after another, a channel brought
to a boundary brings about (R393). -/
structure Renders (R : State → State → Prop) : Prop where
  refl : ∀ s, R s s
  trans : ∀ s x y, R s x → R x y → R s y
  render : ∀ s n k, R s (State.render s n k)
  modChan : ∀ (s : State) (n : Nat) (f : Channel → Channel), (∀ c : Channel, c.KeepsPlan (f c)) → R s (s.modChan n f)

theorem Renders.takeSettings {R : State → State → Prop} (hR : Renders R) (n k : Nat) (xs : List (Nat × SettingValue)) :
    ∀ s : State, R s (s.takeSettings n k xs) := by
  induction xs with
  | nil => exact hR.refl
  | cons a r ih =>
    obtain ⟨x, v⟩ := a
    intro s
    simp only [State.takeSettings]
    split
    · refine hR.trans _ _ _ (hR.trans _ _ _ (hR.render s n _) (hR.modChan _ n _ fun c => ?_)) (ih _)
      split <;> exact (c.keepsPlan_take _ v).trans rfl
    · exact hR.refl s

theorem Renders.settle {R : State → State → Prop} (hR : Renders R) (s : State) (n k : Nat) : R s (s.settle n k) := by
  unfold State.settle
  extract_lets s1
  have h1 : R s s1 := by
    unfold s1
    split
    · exact hR.refl s
    · exact hR.takeSettings n k _ s
  exact hR.trans _ _ _ (hR.trans _ _ _ h1 (hR.render _ n k)) (hR.modChan _ n _ fun c => c.keepsPlan_fireBefore _ 4)

theorem Renders.syncGo {R : State → State → Prop} (hR : Renders R) (n k : Nat) (fuel : Nat) : ∀ s : State, R s (s.syncGo fuel n k) := by
  induction fuel with
  | zero => exact fun s => hR.settle s n k
  | succ i ih =>
    intro s
    have ramps (b : Nat) : R s (State.syncGo i ((s.settle n b).modChan n Channel.rampStep) n k) :=
      hR.trans _ _ _ (hR.trans _ _ _ (hR.settle s n b) (hR.modChan _ n _ Channel.keepsPlan_rampStep)) (ih _)
    have starts (a : Nat) : R s (State.syncGo i ((s.settle n a).modChan n fun c => c.startLate a) n k) :=
      hR.trans _ _ _ (hR.trans _ _ _ (hR.settle s n a) (hR.modChan _ n _ fun c => c.keepsPlan_startLate a)) (ih _)
    unfold State.syncGo
    split
    · exact hR.settle s n k
    · exact starts _
    · exact ramps _
    · split
      · exact ramps _
      · exact starts _

theorem Renders.syncTo {R : State → State → Prop} (hR : Renders R) (s : State) (n k : Nat) : R s (s.syncTo n k) :=
  hR.syncGo n _ _ s

/-- A channel brought to a boundary keeps its queue, its state and its plan. -/
theorem State.keepsPlan_syncTo (s : State) (n k m : Nat) : (s.chan m).KeepsPlan ((s.syncTo n k).chan m) :=
  Renders.syncTo (R := fun s s' => (s.chan m).KeepsPlan (s'.chan m))
    { refl := fun s => (s.chan m).keepsPlan_refl
      trans := fun _ _ _ h g => h.trans g
      render := fun s n k => s.keepsPlan_render n k m
      modChan := fun s n _ hf => s.keepsPlan_modChan n m (hf (s.chan n)) } s n k

/-- The flags of the device and of its memory's errors are all that output changes of the system's registers. -/
def Sys.SameButAlert (y y' : Sys) : Prop := { y' with alert := y.alert, alertWas := y.alertWas } = y

theorem Sys.SameButAlert.trans {a b c : Sys} (h : a.SameButAlert b) (g : b.SameButAlert c) : a.SameButAlert c := by
  have e := congrArg (fun v : Sys => { v with alert := a.alert, alertWas := a.alertWas }) g
  exact e.trans h

theorem State.sys_render (s : State) (n k : Nat) : s.sys.SameButAlert (s.render n k).sys := by
  unfold State.render
  dsimp only
  split <;> rfl

theorem State.sys_syncTo (s : State) (n k : Nat) : s.sys.SameButAlert (s.syncTo n k).sys :=
  Renders.syncTo (R := fun s s' => s.sys.SameButAlert s'.sys)
    { refl := fun _ => rfl
      trans := fun _ _ _ h g => h.trans g
      render := State.sys_render
      modChan := fun _ _ _ _ => rfl } s n k

theorem Channel.KeepsPlan.queue {c c' : Channel} (h : c.KeepsPlan c') : c'.queue = c.queue := by
  have e := congrArg Channel.queue h; exact e

/-! ## Channels flushed and cut (R84, R114) -/

/-- Pins given up leave the channels. -/
theorem State.unpinAll_chans (s : State) (ps : List Nat) (b : Bool) : (s.unpinAll ps b).chans = s.chans :=
  State.forAll_keeps State.chans (fun s p => s.modPage p (Page.unpin b)) (fun _ _ => rfl) ps s

theorem State.unpinAll_sys (s : State) (ps : List Nat) (b : Bool) : (s.unpinAll ps b).sys = s.sys :=
  State.forAll_keeps State.sys (fun s p => s.modPage p (Page.unpin b)) (fun _ _ => rfl) ps s

theorem State.chan_congr {x y : State} (h : x.chans = y.chans) (n : Nat) : x.chan n = y.chan n := by
  unfold State.chan
  rw [h]

theorem State.release_chans (s : State) (a : Activity) : (s.release a).chans = s.chans := by
  unfold State.release
  split
  · exact (State.unpinAll_chans _ _ _).trans (s.unpinAll_chans _ _)
  · exact s.unpinAll_chans _ _

theorem State.release_sys (s : State) (a : Activity) : (s.release a).sys = s.sys := by
  unfold State.release
  split
  · exact (State.unpinAll_sys _ _ _).trans (s.unpinAll_sys _ _)
  · exact s.unpinAll_sys _ _

theorem State.chan_emptyQueue (s : State) (n : Nat) : (s.emptyQueue n).chan n =
    { s.chan n with queue := [], freed := (s.chan n).freed ++ List.replicate (s.chan n).queue.length (s.cycle + 2) } := by
  unfold State.emptyQueue
  exact (State.chan_congr (State.unpinAll_chans _ _ _) n).trans (State.chan_setChan_self _ _ _)

theorem State.emptyQueue_sys (s : State) (n : Nat) : (s.emptyQueue n).sys = s.sys := State.unpinAll_sys _ _ _

theorem State.chan_disarm (s : State) (n : Nat) :
    (s.disarm n).chan n = { s.chan n with armed := none, arming := none, bells := [] } := by
  unfold State.disarm
  exact (State.chan_congr (State.unpinAll_chans _ _ _) n).trans (State.chan_setChan_self _ _ _)

theorem State.disarm_sys (s : State) (n : Nat) : (s.disarm n).sys = s.sys := State.unpinAll_sys _ _ _

/-- The boundary of a segment keeps the channel but for its pending span. -/
theorem State.chan_segmentEdge (s : State) (n k : Nat) :
    { (s.segmentEdge n k).chan n with spanPending := (s.chan n).spanPending } = s.chan n := by
  unfold State.segmentEdge
  rw [State.chan_modChan_self]
  split
  · split <;> rfl
  · rfl

/-- What a channel that is cut is left with. -/
structure State.Cuts (s x : State) (n : Nat) (esc : Bool) : Prop where
  queue : (x.chan n).queue = (s.chan n).queue
  act : (x.chan n).act = .idle
  armed : esc = true → (x.chan n).armed = none
  arming : esc = true → (x.chan n).arming = none
  sys : s.sys.SameButAlert x.sys

theorem State.cuts_cut (s : State) (n k : Nat) (esc : Bool) : s.Cuts (s.cut n k esc) n esc := by
  unfold State.cut
  extract_lets s1 a ended s2 s3
  have hqueue1 : (s1.chan n).queue = (s.chan n).queue := (s.keepsPlan_syncTo n k n).queue
  have hsys1 : s.sys.SameButAlert s1.sys := s.sys_syncTo n k
  clear_value s1 a ended
  have hfree : (if ended = true then s1.release a else s1.unpinAll a.pins false).chans = s1.chans ∧
      (if ended = true then s1.release a else s1.unpinAll a.pins false).sys = s1.sys := by
    split
    · exact ⟨s1.release_chans a, s1.release_sys a⟩
    · exact ⟨s1.unpinAll_chans _ _, s1.unpinAll_sys _ _⟩
  obtain ⟨hchans, hsys⟩ := hfree
  have h2 : (s2.chan n).queue = (s.chan n).queue ∧ s2.sys = s1.sys := by
    unfold s2 State.when
    split
    · have hedge := congrArg Channel.queue (State.chan_segmentEdge (if ended = true then s1.release a else s1.unpinAll a.pins false) n k)
      exact ⟨hedge.trans ((congrArg Channel.queue (State.chan_congr hchans n)).trans hqueue1), hsys⟩
    · exact ⟨(congrArg Channel.queue (State.chan_congr hchans n)).trans hqueue1, hsys⟩
  obtain ⟨hqueue2, hsys2⟩ := h2
  have h3 : s3.chan n = _ := State.chan_modChan_self _ _ _
  have hsys3 : s3.sys = s1.sys := hsys2
  have hqueue3 : (s3.chan n).queue = (s.chan n).queue := by rw [h3]; exact hqueue2
  have hact3 : (s3.chan n).act = .idle := by rw [h3]
  clear_value s3
  split
  · refine ⟨?_, ?_, fun _ => ?_, fun _ => ?_, ?_⟩
    · rw [State.chan_disarm]; exact hqueue3
    · rw [State.chan_disarm]; exact hact3
    · rw [State.chan_disarm]
    · rw [State.chan_disarm]
    · rw [State.disarm_sys, hsys3]; exact hsys1
  · next h => exact ⟨hqueue3, hact3, fun e => absurd e h, fun e => absurd e h, by rw [hsys3]; exact hsys1⟩

/-- What a flushed channel is left with (R84, R114). -/
structure State.Flushes (s x : State) (n : Nat) : Prop where
  queue : (x.chan n).queue = []
  running : s.clockRuns n = true → (x.chan n).flushing = some (s.nextBoundary n) ∧ (x.chan n).act = (s.chan n).act
  stopped : s.clockRuns n = false → (x.chan n).act = .idle ∧ (x.chan n).armed = none ∧ (x.chan n).arming = none
  sys : s.sys.SameButAlert x.sys

theorem State.OnChan.clockRuns {s x : State} {m : Nat} (h : s.OnChan x m) (n : Nat) : x.clockRuns n = s.clockRuns n := by
  have e := congrArg (fun z : State => z.clockRuns n) h.1
  exact e

theorem State.OnChan.boundaryAfter {s x : State} {m : Nat} (h : s.OnChan x m) (n y : Nat) :
    x.boundaryAfter n y = s.boundaryAfter n y := by
  have e := congrArg (fun z : State => z.boundaryAfter n y) h.1
  exact e

theorem State.OnChan.now {s x : State} {m : Nat} (h : s.OnChan x m) : x.now = s.now := by
  have e := congrArg State.now h.1
  exact e

theorem State.nextBoundary_congr {s x : State} {m n : Nat} (h : s.OnChan x m) (hc : (x.chan n).stopK = (s.chan n).stopK) :
    x.nextBoundary n = s.nextBoundary n := by
  unfold State.nextBoundary
  rw [h.clockRuns, h.boundaryAfter, h.now, hc]

theorem State.flushes_flushChannel (s : State) (n : Nat) : s.Flushes (s.flushChannel n) n := by
  have h1 := s.chan_emptyQueue n
  have hsys : (s.emptyQueue n).sys = s.sys := s.emptyQueue_sys n
  have hon := s.onChan_emptyQueue n
  unfold State.flushChannel
  extract_lets s1 k
  have hk : k = s.nextBoundary n := State.nextBoundary_congr hon (by rw [h1])
  have hruns : s1.clockRuns n = s.clockRuns n := hon.clockRuns n
  rw [hruns, hk]
  change s1.chan n = _ at h1
  change s1.sys = _ at hsys
  clear_value s1
  split
  · next h =>
    refine ⟨?_, fun _ => ?_, fun e => ?_, by rw [State.modChan_eq, State.setChan_sys, hsys]; rfl⟩
    · rw [State.chan_modChan_self, h1]
    · rw [State.chan_modChan_self, h1]
      exact ⟨rfl, rfl⟩
    · rw [h] at e; cases e
  · next h =>
    have hcut := s1.cuts_cut n (s1.chan n).stopK true
    exact ⟨by rw [hcut.queue, h1], fun e => absurd e h, fun _ => ⟨hcut.act, hcut.armed rfl, hcut.arming rfl⟩,
      hsys ▸ hcut.sys⟩

/-- Channels flushed one after another, each once. -/
theorem State.flushes_forAll (xs : List Nat) (hx : xs.Nodup) : ∀ s : State,
    (∀ n ∈ xs, s.Flushes (s.forAll xs State.flushChannel) n) ∧
      (∀ n, n ∉ xs → (s.forAll xs State.flushChannel).chan n = s.chan n) ∧ s.OnPlay (s.forAll xs State.flushChannel) ∧
      s.sys.SameButAlert (s.forAll xs State.flushChannel).sys := by
  induction xs with
  | nil => exact fun s => ⟨fun n h => (by cases h), fun _ _ => rfl, ⟨rfl, rfl, rfl, rfl⟩, rfl⟩
  | cons a r ih =>
    intro s
    obtain ⟨ha, hr⟩ := List.nodup_cons.1 hx
    have hfirst := s.flushes_flushChannel a
    have hon := s.onChan_flushChannel a
    obtain ⟨hin, hout, hplay, hsys⟩ := ih hr (s.flushChannel a)
    change (∀ n ∈ a :: r, s.Flushes ((s.flushChannel a).forAll r State.flushChannel) n) ∧
      (∀ n, n ∉ a :: r → ((s.flushChannel a).forAll r State.flushChannel).chan n = s.chan n) ∧
      s.OnPlay ((s.flushChannel a).forAll r State.flushChannel) ∧
      s.sys.SameButAlert ((s.flushChannel a).forAll r State.flushChannel).sys
    generalize (s.flushChannel a).forAll r State.flushChannel = x at *
    generalize s.flushChannel a = y at *
    refine ⟨fun n hn => ?_, fun n hn => ?_, ?_, hfirst.sys.trans hsys⟩
    · rcases List.mem_cons.1 hn with rfl | h
      · obtain ⟨hq, hrun, hstop, hsame⟩ := hfirst
        have hchan := hout n ha
        exact ⟨by rw [hchan]; exact hq, fun e => by rw [hchan]; exact hrun e, fun e => by rw [hchan]; exact hstop e,
          hsame.trans hsys⟩
      · have hna : n ≠ a := fun e => ha (e ▸ h)
        obtain ⟨hq, hrun, hstop, -⟩ := hin n h
        have hchan : y.chan n = s.chan n := hon.2.1 n hna
        rw [hon.clockRuns, State.nextBoundary_congr hon (by rw [hchan]), hchan] at hrun
        rw [hon.clockRuns] at hstop
        exact ⟨hq, hrun, hstop, hfirst.sys.trans hsys⟩
    · obtain ⟨hna, hnr⟩ := not_or.1 (mt List.mem_cons.2 hn)
      exact (hout n hnr).trans (hon.2.1 n hna)
    · exact hon.onPlay.trans hplay

end Sys2Proof.Machine
end

section
/-! SUPPORT. Host writes that are carried out and answered (11_object_dictionary.md). -/

namespace Sys2Proof.Machine

/-! ## Requests of the host that change the device and are answered (R282, R288) -/

/-- A state after a request, its session noted and the reply sent, is that state but for the reply. -/
theorem State.graftReply_sent (u z : State) (ss : List Session) (p : Port) (n : Nat) (m : OutMsg) (q : List Instr) :
    u.graftReply ((({ z with oda := { z.oda with sessions := ss } } : State).sendPort p n m).close q) = u.graftReply z := by
  obtain ⟨ls, o, h⟩ := State.sendPort_eq { z with oda := { z.oda with sessions := ss } } p n m
  unfold State.graftReply
  rw [State.graft_close, State.close_net, State.close_oda, h]
  rfl

/-- A write that has left `z` is answered, with `z` as it is but for the reply; one refused is turned away. -/
theorem State.WriteEnds.carries {s u y z : State} {t : Nat} {r : Req} {ix sub : Nat} {data : Bytes} {a : Act} {cs : Checks}
    (h : s.WriteEnds t r ix sub data a) {ss : List Session} {mb : List Mail} {n : Nat} (ha : a = y.act cs z)
    (hy : y = u.withMail ss mb n) (hz : u.Answers z) (hp : z.sys.parity = []) :
    (cs.verdict = none → ∃ s', s.hostWrite t r ix sub data = .next s' ∧ u.Replies s' (writeMsg r ix sub data) 0 [] ∧
      u.graftReply s' = u.graftReply z) ∧
    (∀ b, cs.verdict = some b → b.code < 0x09000000 →
      ∃ s', s.hostWrite t r ix sub data = .next s' ∧ u.TurnsAway s' (writeMsg r ix sub data) b.code) := by
  subst ha
  obtain ⟨hnone, hsome⟩ := h
  constructor
  · intro hv
    obtain ⟨ss', e⟩ := hnone hv hp
    have hnoted : u.Answers { z with oda := { z.oda with sessions := ss' } } := ⟨hz.lanes, hz.quads, hz.truss, hz.out, hz.now⟩
    exact ⟨_, e, hz.replies hnoted (writeMsg r ix sub data) 0 s.pending, u.graftReply_sent z ss' _ _ _ _⟩
  · intro b hv hb
    obtain ⟨ss', e⟩ := hsome b hv
    exact ⟨_, e, State.turnsAway_close (m := writeMsg r ix sub data) (ss' := ss') s.pending hb hy rfl⟩

/-- A write of a plain entry that has the checks `cs` and the effect `f`. -/
theorem State.hostWrite_num {s u : State} {r : Req} {x : Session} {ix sub : Nat} {data : Bytes} (t : Nat) (en : Entry)
    (hu : u = s.advance t) (he : plainEntry ix sub en = true) (h : u.Writes r x ix sub data)
    (hl : en.lo ≤ data.length ∧ data.length ≤ en.hi) (hb : en.type = .bool → leNat data ≤ 1) (cs : Checks) (f : State → State)
    (ha : ∀ ss mb n, (u.withMail ss mb n).writeNum ix sub (x.sel.element en ix) (leNat data) r.session =
      (u.withMail ss mb n).act cs (f (u.withMail ss mb n)))
    (hf : ∀ ss mb n, u.Answers (f (u.withMail ss mb n))) (hp : ∀ ss mb n, (f (u.withMail ss mb n)).sys.parity = []) :
    (cs.verdict = none → ∃ s' ss mb n, s.hostWrite t r ix sub data = .next s' ∧ u.Replies s' (writeMsg r ix sub data) 0 [] ∧
      u.graftReply s' = u.graftReply (f (u.withMail ss mb n))) ∧
    (∀ b, cs.verdict = some b → b.code < 0x09000000 →
      ∃ s', s.hostWrite t r ix sub data = .next s' ∧ u.TurnsAway s' (writeMsg r ix sub data) b.code) := by
  obtain ⟨ss, mb, H⟩ := State.hostWrite_plain t en hu he h hl hb
  have hend : s.WriteEnds t r ix sub data _ := H _ (ha ss mb _).symm
  obtain ⟨hdone, haway⟩ := hend.carries rfl rfl (hf ss mb _) (hp ss mb _)
  refine ⟨fun hv => ?_, haway⟩
  obtain ⟨s', hs'⟩ := hdone hv
  exact ⟨s', ss, mb, _, hs'⟩

end Sys2Proof.Machine
end

section
/-! SUPPORT and proof of O17. The leader of a channel (03_joiners.md, R64). -/

namespace Sys2Proof.Machine

/-! ## The leader of a channel (R64): O17 -/

/-- A timetable whose gang does not name channel `n` any more (R64). -/
def Timetable.leaves (v : Timetable) (n : Nat) : Timetable :=
  if v.gangBase ≤ n ∧ n < v.gangBase + 16 then
    { v with gangMask := v.gangMask &&& ~~~(BitVec.ofNat 16 (2 ^ (n - v.gangBase))) } else v

theorem Timetable.leaves_keeps (v : Timetable) (n : Nat) : { v.leaves n with gangMask := v.gangMask } = v := by
  unfold Timetable.leaves
  split <;> rfl

theorem mem_gangOf {base : Nat} {mask : BitVec 16} {m : Nat} :
    m ∈ gangOf base mask ↔ base ≤ m ∧ m < base + 16 ∧ mask.getLsbD (m - base) = true := by
  unfold gangOf
  simp only [List.mem_map, List.mem_filter, List.mem_range]
  constructor
  · rintro ⟨a, ⟨ha, hbit⟩, rfl⟩
    rw [Nat.add_sub_cancel_left]
    exact ⟨by omega, by omega, hbit⟩
  · rintro ⟨h1, h2, hbit⟩
    exact ⟨m - base, ⟨by omega, hbit⟩, by omega⟩

theorem Timetable.mem_gang_leaves (v : Timetable) (n m : Nat) : m ∈ (v.leaves n).gang ↔ m ∈ v.gang ∧ m ≠ n := by
  unfold Timetable.leaves Timetable.gang
  split
  · next h =>
    obtain ⟨hlow, hhigh⟩ := h
    simp only [mem_gangOf, BitVec.getLsbD_and, BitVec.getLsbD_not, BitVec.getLsbD_ofNat, Nat.testBit_two_pow,
      Bool.and_eq_true, Bool.not_eq_true', decide_eq_true_eq, Bool.and_eq_false_iff, decide_eq_false_iff_not]
    constructor
    · rintro ⟨h1, h2, hm, -, hne⟩
      exact ⟨⟨h1, h2, hm⟩, by omega⟩
    · rintro ⟨⟨h1, h2, hm⟩, hne⟩
      exact ⟨h1, h2, hm, by omega, .inr (by omega)⟩
  · next h =>
    refine ⟨fun hm => ⟨hm, fun e => h ?_⟩, And.left⟩
    obtain ⟨h1, h2, -⟩ := mem_gangOf.1 hm
    exact ⟨e ▸ h1, e ▸ h2⟩

/-- Channel `n` with the leader `v`, out of the gang of its old leader (R64). -/
def State.led (y : State) (n v : Nat) : State :=
  (if (y.chan n).leader < 6144 then y.modTt (y.chan n).leader fun x => x.leaves n else y).modChan n
    fun c => { c with leader := v }

/-- Only timetables and channels differ. -/
theorem State.led_eq (y : State) (n v : Nat) : ∃ ts cs, y.led n v = { y with tts := ts, chans := cs } := by
  unfold State.led
  split <;> exact ⟨_, _, rfl⟩

theorem State.led_tt (y : State) (n v k : Nat) : (y.led n v).tt k =
    if (y.chan n).leader < 6144 ∧ k = (y.chan n).leader then (y.tt k).leaves n else y.tt k := by
  unfold State.led
  simp only [State.modChan_eq, State.modTt_eq, State.setChan_tt]
  split
  · next h =>
    rw [State.tt_setTt]
    by_cases e : (y.chan n).leader = k
    · rw [if_pos e, if_pos ⟨h, e.symm⟩, e]
    · rw [if_neg e, if_neg fun h => e h.2.symm]
  · next h => rw [if_neg fun e => h e.1]

theorem State.led_chan (y : State) (n v m : Nat) :
    (y.led n v).chan m = if m = n then { y.chan n with leader := v } else y.chan m := by
  unfold State.led
  rw [State.modChan_eq, State.chan_setChan]
  by_cases e : n = m
  · rw [if_pos e, if_pos e.symm]
    split <;> rfl
  · rw [if_neg e, if_neg (Ne.symm e)]
    split <;> rfl

/-- Settles O17: the old leader's gang loses the channel, the channel gets its leader, and no more is written. -/
theorem leaderOfAChannel : Obligations.LeaderOfAChannel := by
  unfold Obligations.LeaderOfAChannel
  intro s u t r x data n v old hu hw hl hv hn hold hrange
  have hwrite := State.hostWrite_num t (Entry.num 0x2300 0x19 .u16 .rw 0 0x18) hu (by decide) hw (by rw [hl]; decide)
    (fun e => by cases e)
    [rangeIf (decide (6143 < v ∧ v ≠ 0xFFFF)),
      ((decide (old < 6144) && (u.tt old).runs) || (decide (v < 6144) && (u.tt v).runs), .blockRunning)]
    (fun y => y.led n v) (fun ss mb k => by rw [hn, hv, hold, hn]; rfl)
    (fun ss mb k => by obtain ⟨ts, cs, e⟩ := (u.withMail ss mb k).led_eq n v; rw [e]; exact ⟨rfl, rfl, rfl, rfl, rfl⟩)
    (fun ss mb k => by obtain ⟨ts, cs, e⟩ := (u.withMail ss mb k).led_eq n v; rw [e]; exact hw.parity)
  obtain ⟨hdone, haway⟩ := hwrite
  have hnamed : decide (6143 < v ∧ v ≠ 0xFFFF) = false := decide_eq_false (by omega)
  rw [hnamed] at hdone haway
  constructor
  · intro hruns
    have hbusy : ((decide (old < 6144) && (u.tt old).runs) || (decide (v < 6144) && (u.tt v).runs)) = true := by
      simpa only [Bool.or_eq_true, Bool.and_eq_true, decide_eq_true_eq] using hruns
    exact haway .blockRunning (by rw [hbusy]; rfl) (by decide)
  · intro hold' hnew
    have hidle : ((decide (old < 6144) && (u.tt old).runs) || (decide (v < 6144) && (u.tt v).runs)) = false := by
      simpa [Bool.or_eq_false_iff, Bool.and_eq_false_iff, imp_iff_not_or] using And.intro hold' hnew
    obtain ⟨s', ss, mb, k, hexec, hreply, hs'⟩ := hdone (by rw [hidle]; rfl)
    have htt : ∀ i, s'.tt i = if old < 6144 ∧ i = old then (u.tt i).leaves n else u.tt i := fun i => by
      have h := congrArg (fun z : State => z.tt i) hs'
      exact h.trans ((State.led_tt _ n v i).trans (by rw [hold]; rfl))
    have hchan : ∀ m, s'.chan m = if m = n then { u.chan n with leader := v } else u.chan m := fun m => by
      have h := congrArg (fun z : State => z.chan m) hs'
      exact h.trans (State.led_chan _ n v m)
    refine ⟨s', hexec, hreply, by rw [hchan, if_pos rfl], fun m hm => by rw [hchan, if_neg hm],
      fun i hi => by rw [htt, if_neg fun e => hi e.2], fun h => ?_, ?_⟩
    · rw [htt, if_pos ⟨h, rfl⟩]
      exact ⟨Timetable.leaves_keeps _ n, Timetable.mem_gang_leaves _ n⟩
    · have h := congrArg (fun z : State => { z with tts := u.tts, chans := u.chans }) hs'
      refine h.trans ?_
      obtain ⟨ts, cs, e⟩ := (u.withMail ss mb k).led_eq n v
      rw [e]
      rfl

end Sys2Proof.Machine
end

section
/-! SUPPORT and proof of O23. TT_GANG, EVR_TAIL and EVR_ENABLE (03_joiners.md, R65, R75). -/

namespace Sys2Proof.Machine

/-! ## TT_GANG, EVR_TAIL and EVR_ENABLE (R65, R75): O23 -/

/-- TT_GANG's fields of a value with bits 15 to 6 zero. -/
theorem gang_fields {mask base : Nat} (hb : base < 64) :
    (mask * 65536 + base) % 64 = base ∧ (mask * 65536 + base) / 65536 = mask ∧ bits (mask * 65536 + base) 15 6 = 0 := by
  unfold bits
  omega

/-- A write of TT_GANG that names channels up to CH63. -/
theorem State.ttGang_write {s u : State} {r : Req} {x : Session} {data : Bytes} {i base mask : Nat} (t : Nat)
    (hu : u = s.advance t) (hw : u.Writes r x 0x2300 0x0D data) (hl : data.length = 4) (hi : i = x.sel.get 0x2300 0x04)
    (hruns : (u.tt i).runs = false) (hv : leNat data = mask * 65536 + base) (hbase : base < 64)
    (hnamed : ∀ b, b < 16 → bitOf mask b = true → base + b ≤ 63) :
    ((∀ b, b < 16 → bitOf mask b = true → (u.chan (base + b)).leader = i) →
      ∃ s', s.hostWrite t r 0x2300 0x0D data = .next s' ∧ u.Replies s' (writeMsg r 0x2300 0x0D data) 0 [] ∧
        s'.tt i = { u.tt i with gangBase := base, gangMask := BitVec.ofNat 16 mask } ∧
        (∀ k, k ≠ i → s'.tt k = u.tt k) ∧ { u.graftReply s' with tts := u.tts } = u) ∧
    (∀ b, b < 16 → bitOf mask b = true → (u.chan (base + b)).leader ≠ i →
      ∃ s', s.hostWrite t r 0x2300 0x0D data = .next s' ∧ u.TurnsAway s' (writeMsg r 0x2300 0x0D data) Abort.notLeader.code) := by
  obtain ⟨hlow, hhigh, hzero⟩ := gang_fields (mask := mask) hbase
  have hplaced : (((List.range 16).filter fun b => bitOf mask b).any fun b => decide (63 < base + b)) = false := by
    simp only [List.any_eq_false, List.mem_filter, List.mem_range, decide_eq_true_eq, and_imp]
    intro b hb hbit
    exact Nat.not_lt.2 (hnamed b hb hbit)
  obtain ⟨hdone, haway⟩ := State.hostWrite_num t (Entry.num 0x2300 0x0D .u32 .rwl 0 0x04) hu (by decide) hw (by rw [hl]; decide)
    (fun e => by cases e)
    [((u.tt i).runs, .blockRunning),
      rangeIf (decide (bits (leNat data) 15 6 ≠ 0) ||
        ((List.range 16).filter fun b => bitOf (leNat data / 65536) b).any fun b => decide (63 < leNat data % 64 + b)),
      (((List.range 16).filter fun b => bitOf (leNat data / 65536) b).any fun b =>
        decide ((u.chan (leNat data % 64 + b)).leader ≠ i), .notLeader)]
    (fun y => y.modTt i fun z => { z with gangBase := leNat data % 64, gangMask := BitVec.ofNat 16 (leNat data / 65536) })
    (fun ss mb k => by rw [hi]; rfl) (fun ss mb k => ⟨rfl, rfl, rfl, rfl, rfl⟩) (fun ss mb k => hw.parity)
  rw [hruns, hv, hlow, hhigh, hzero, hplaced] at hdone haway
  constructor
  · intro hled
    have hall : (((List.range 16).filter fun b => bitOf mask b).any fun b => decide ((u.chan (base + b)).leader ≠ i)) = false := by
      simp only [List.any_eq_false, List.mem_filter, List.mem_range, decide_eq_true_eq, and_imp, not_not]
      exact hled
    obtain ⟨s', ss, mb, k, hexec, hreply, hs'⟩ := hdone (by rw [hall]; rfl)
    have htt : ∀ j, s'.tt j = if i = j then { u.tt i with gangBase := base, gangMask := BitVec.ofNat 16 mask } else u.tt j :=
      fun j => by
        have h := congrArg (fun z : State => z.tt j) hs'
        exact h.trans (State.tt_setTt _ i j _)
    refine ⟨s', hexec, hreply, by rw [htt, if_pos rfl], fun j hj => by rw [htt, if_neg (Ne.symm hj)], ?_⟩
    have h := congrArg (fun z : State => { z with tts := u.tts }) hs'
    exact h
  · intro b hb hbit hne
    have hother : (((List.range 16).filter fun b => bitOf mask b).any fun b => decide ((u.chan (base + b)).leader ≠ i)) = true := by
      simp only [List.any_eq_true, List.mem_filter, List.mem_range, decide_eq_true_eq]
      exact ⟨b, ⟨hb, hbit⟩, hne⟩
    exact haway .notLeader (by rw [hother]; rfl) (by decide)

theorem State.evrTail_write {s u : State} {r : Req} {x : Session} {data : Bytes} (t : Nat) (hu : u = s.advance t)
    (hw : u.Writes r x 0x2300 0x22 data) (hl : data.length = 4) {w : Word} (hv : w = BitVec.ofNat 32 (leNat data)) :
    ((u.evr.head - w).toNat ≤ 2048 →
      ∃ s', s.hostWrite t r 0x2300 0x22 data = .next s' ∧ u.Replies s' (writeMsg r 0x2300 0x22 data) 0 [] ∧
        s'.evr = { u.evr with tail := w, tailWas := some (u.cycle, u.evr.tailIn u.cycle) } ∧
        { u.graftReply s' with evr := u.evr } = u) ∧
    (2048 < (u.evr.head - w).toNat →
      ∃ s', s.hostWrite t r 0x2300 0x22 data = .next s' ∧ u.TurnsAway s' (writeMsg r 0x2300 0x22 data) Abort.range.code) := by
  obtain ⟨hdone, haway⟩ := State.hostWrite_num t (Entry.num 0x2300 0x22 .u32 .rw 0) hu (by decide) hw (by rw [hl]; decide)
    (fun e => by cases e) [rangeIf (decide (2048 < (u.evr.head - w).toNat))]
    (fun y => { y with evr := { y.evr with tail := w, tailWas := some (y.cycle, y.evr.tailIn y.cycle) } })
    (fun ss mb k => by rw [hv]; rfl) (fun ss mb k => ⟨rfl, rfl, rfl, rfl, rfl⟩) (fun ss mb k => hw.parity)
  constructor
  · intro h
    obtain ⟨s', ss, mb, k, hexec, hreply, hs'⟩ := hdone (by rw [decide_eq_false (Nat.not_lt.2 h)]; rfl)
    have hevr := congrArg State.evr hs'
    have hrest := congrArg (fun z : State => { z with evr := u.evr }) hs'
    exact ⟨s', hexec, hreply, hevr, hrest⟩
  · intro h
    exact haway .range (by rw [decide_eq_true h]; rfl) (by decide)

/-- A POST waits for room in the event ring. -/
def State.postWaits (u : State) : Bool := u.tts.any fun p => decide (p.2.state = .waiting ∧ p.2.wait = .evr)

theorem State.evrEnable_write {s u : State} {r : Req} {x : Session} {data : Bytes} (t : Nat) (hu : u = s.advance t)
    (hw : u.Writes r x 0x2300 0x25 data) (hl : data.length = 1) (hone : leNat data ≤ 1) :
    ((leNat data = 0 → u.postWaits = false) →
      ∃ s', s.hostWrite t r 0x2300 0x25 data = .next s' ∧ u.Replies s' (writeMsg r 0x2300 0x25 data) 0 [] ∧
        s'.evr = { u.evr with enable := decide (leNat data = 1) } ∧ { u.graftReply s' with evr := u.evr } = u) ∧
    (leNat data = 0 → u.postWaits = true →
      ∃ s', s.hostWrite t r 0x2300 0x25 data = .next s' ∧
        u.TurnsAway s' (writeMsg r 0x2300 0x25 data) Abort.blockRunning.code) := by
  obtain ⟨hdone, haway⟩ := State.hostWrite_num t (Entry.num 0x2300 0x25 .bool .rw 0) hu (by decide) hw (by rw [hl]; decide)
    (fun _ => hone) [(decide (leNat data = 0) && u.postWaits, .blockRunning)]
    (fun y => { y with evr := { y.evr with enable := decide (leNat data = 1) } })
    (fun ss mb k => rfl) (fun ss mb k => ⟨rfl, rfl, rfl, rfl, rfl⟩) (fun ss mb k => hw.parity)
  constructor
  · intro h
    have hfree : (decide (leNat data = 0) && u.postWaits) = false := by
      simpa [Bool.and_eq_false_iff, imp_iff_not_or] using h
    obtain ⟨s', ss, mb, k, hexec, hreply, hs'⟩ := hdone (by rw [hfree]; rfl)
    have hevr := congrArg State.evr hs'
    have hrest := congrArg (fun z : State => { z with evr := u.evr }) hs'
    exact ⟨s', hexec, hreply, hevr, hrest⟩
  · intro h0 hwaits
    exact haway .blockRunning (by rw [decide_eq_true h0, hwaits]; rfl) (by decide)

/-- Settles O23: each of the three writes passes or fails the checks of its register, and one that passes sets it. -/
theorem gangAndEventRingWrites : Obligations.GangAndEventRingWrites := by
  unfold Obligations.GangAndEventRingWrites
  intro s u t r x data v hu hv
  subst hv
  refine ⟨?_, ?_, ?_, ?_, ?_, ?_⟩
  · intro i base mask hw hl hi hruns hval hbase _ hnamed
    exact (State.ttGang_write t hu hw hl hi hruns hval hbase fun b hb hbit => (hnamed b hb hbit).1).1
      fun b hb hbit => (hnamed b hb hbit).2
  · intro i base mask b hw hl hi hruns hval hbase _ hplaced hb hbit hne
    exact (State.ttGang_write t hu hw hl hi hruns hval hbase hplaced).2 b hb hbit hne
  · intro w hw hl hval hnear
    exact (State.evrTail_write t hu hw hl hval).1 hnear
  · intro hw hl hfar
    exact (State.evrTail_write t hu hw hl rfl).2 hfar
  · intro hw hl hone hfree
    exact (State.evrEnable_write t hu hw hl hone).1 hfree
  · intro hw hl hzero hwaits
    exact (State.evrEnable_write t hu hw hl (by omega)).2 hzero hwaits

end Sys2Proof.Machine
end

section
/-! SUPPORT. Requests through a session's offset (11_object_dictionary.md, R292): O24. -/

namespace Sys2Proof.Machine

/-! ## Requests through an offset selector (R83, R292): O24 -/

/-- A request that nothing refuses leaves its session with the selectors that it gives. -/
theorem State.handle_selects {s : State} {m : OdaMsg} {x : Session} (h : s.Serves m x) (hc : m.type ≠ 0x02)
    (hr : s.holdsRing m = false) :
    ∃ ss mb, ∀ r, r = (s.withMail ss mb (s.net.traffic + 1000000 * (32 + m.data.length))).request m x.sel →
      r.checks.verdict = none → (r.settled m).oda.sessions = ss → (r.settled m).fromKing m.req.port = s.fromKing m.req.port →
      ∃ ss', s.handle m =
        ({ r.settled m with oda := { (r.settled m).oda with sessions := ss' } } : State).sendPort m.req.port r.data.length
          ((r.settled m).replyTo m 0 r.data) ∧
        ∃ z, (ss'.find? fun y => decide (y.proxy = s.fromKing m.req.port ∧ y.id = m.req.session)) = some z ∧ z.sel = r.sel := by
  rw [State.handle_serves h]
  obtain ⟨y, hy, hsel, hp, hi⟩ := State.taken_session h
  obtain ⟨hxp, hxi⟩ := State.session?_keys h.session
  obtain ⟨ss, mb, hs⟩ := s.taken_eq m x
  refine ⟨ss, mb, fun r hr' hv hss hfrom => ?_⟩
  rw [← hs, ← hsel] at hr'
  have hk : (s.taken m x).fromKing m.req.port = s.fromKing m.req.port := by rw [hs]; rfl
  have hh : (s.taken m x).holdsRing m = false := by rw [hs]; exact hr
  unfold State.serve
  extract_lets proxy
  have e : (s.taken m x).session? proxy m.req.session = some y := by rw [← hk] at hy; exact hy
  rw [e]
  simp only [hc, if_false, ← hr', hv, hh, Bool.false_eq_true]
  have hproxy : proxy = s.fromKing m.req.port := hk
  have hid : y.id = m.req.session := hi.trans hxi
  rw [hproxy, hid]
  have h0 : (r.settled m).session? (s.fromKing m.req.port) m.req.session = some y := by
    unfold State.session?
    rw [hss]
    rw [hs] at hy
    exact hy
  have h1 := State.session?_modSession (fun z => { z with sel := r.sel }) (fun _ => ⟨rfl, rfl⟩) h0
  have h2 := State.session?_modSession
    (fun z => z.answered (replyOf (State.modSession (r.settled m) (s.fromKing m.req.port) m.req.session
      fun z => { z with sel := r.sel }).deviceNum m none r.data)) (fun _ => ⟨rfl, rfl⟩) h1
  refine ⟨_, ?_, _, h2, rfl⟩
  unfold State.finish
  rw [show (State.modSession (r.settled m) (s.fromKing m.req.port) m.req.session
      fun z => { z with sel := r.sel }).fromKing m.req.port = s.fromKing m.req.port from hfrom]
  rfl

/-- A reply with data that `x` gives, sent from `y`. -/
theorem State.Answers.replies_data {u x y : State} (hx : u.Answers x) (hy : u.Answers y) (m : OdaMsg) (c : Nat) (d : Bytes)
    (q : List Instr) : u.Replies ((y.sendPort m.req.port d.length (x.replyTo m c d)).close q) m c d := by
  have hxy : x.replyTo m c d = y.replyTo m c d := State.replyTo_congr
    (State.deviceNum_congr (fun k => by unfold State.lane; rw [hx.lanes, hy.lanes]) (by rw [hx.quads, hy.quads])
      (by rw [hx.truss, hy.truss])) m c d
  rw [hxy]
  exact State.replies_close q hy.out hy.lanes hy.quads hy.now (State.replyTo_sent y y m _ _ c d _ q rfl rfl rfl)

/-- What serves a request: its checks, its data, the state and the selectors after it; a refusal leaves `y`. -/
structure Served.Comes (r : Served) (y : State) (cs : Checks) (d : Bytes) (sel : Selectors) (z : State) : Prop where
  checks : r.checks.verdict = cs.verdict
  data : r.data = d
  sel : r.sel = sel
  after : r.after = z
  refused : ∀ a, r.refused a = y

/-- How a request ends whose serving is known: with what it has changed of the Joiners and the session's selectors, or
refused and counted (R282, R288, R292). -/
theorem State.request_ends {u : State} {m : OdaMsg} {x : Session} (h : u.Serves m x) (hc : m.type ≠ 0x02)
    (hr : u.holdsRing m = false) (hmem : m.type ≠ 0x20) (hcmd : ¬ (m.type = 0x11 ∧ indexOf m = 0x2100 ∧ subOf m = 0x09))
    {cs : Checks} {d : Bytes} {sel : Selectors} {f : State → State} (hf : ∀ y : State, ∃ js, f y = { y with joiners := js })
    (hreq : ∀ ss mb n, ((u.withMail ss mb n).request m x.sel).Comes (u.withMail ss mb n) cs d sel (f (u.withMail ss mb n)))
    (q : List Instr) :
    (cs.verdict = none → u.Replies ((u.handle m).close q) m 0 d ∧
      (∃ ss mb n, u.graftReply ((u.handle m).close q) = u.graftReply (f (u.withMail ss mb n))) ∧
      ∃ z, ((u.handle m).close q).session? (u.fromKing m.req.port) m.req.session = some z ∧ z.sel = sel) ∧
    (∀ b, cs.verdict = some b → u.Replies ((u.handle m).close q) m b.code [] ∧
      ((u.handle m).close q).oda.aborts = u.oda.aborts + 1 ∧
      ((u.handle m).close q).sec = { u.sec with refusals := u.sec.refusals + (if 0x09000000 ≤ b.code then 1 else 0) } ∧
      { u.graftRefusal ((u.handle m).close q) with sec := u.sec } = u) := by
  constructor
  · intro hv
    obtain ⟨ss, mb, H⟩ := State.handle_selects h hc hr
    have hcomes := hreq ss mb (u.net.traffic + 1000000 * (32 + m.data.length))
    generalize hy : u.withMail ss mb (u.net.traffic + 1000000 * (32 + m.data.length)) = y at H hcomes
    obtain ⟨js, hz⟩ := hf y
    have hsettled : (y.request m x.sel).settled m = { y with joiners := js } := by
      rw [Served.settled_eq _ hmem, State.noteCmd_eq _ hcmd, hcomes.after, hz]
    obtain ⟨ss', hhandle, z, hz1, hz2⟩ := H _ rfl (hcomes.checks.trans hv) (by rw [hsettled, ← hy]; rfl)
      (by rw [hsettled, ← hy]; rfl)
    rw [hsettled, hcomes.data] at hhandle
    have hanswer : u.Answers { y with joiners := js } := by rw [← hy]; exact ⟨rfl, rfl, rfl, rfl, rfl⟩
    have hnoted : u.Answers { y with joiners := js, oda := { y.oda with sessions := ss' } } := by
      rw [← hy]; exact ⟨rfl, rfl, rfl, rfl, rfl⟩
    refine ⟨?_, ⟨ss, mb, u.net.traffic + 1000000 * (32 + m.data.length), ?_⟩, z, ?_, hz2.trans hcomes.sel⟩
    · rw [hhandle]
      exact hanswer.replies_data hnoted m 0 d q
    · rw [hhandle, hy, hz]
      exact u.graftReply_sent { y with joiners := js } ss' _ _ _ _
    · obtain ⟨ls, o, hsend⟩ := State.sendPort_eq { y with joiners := js, oda := { y.oda with sessions := ss' } } m.req.port d.length
        (State.replyTo { y with joiners := js } m 0 d)
      have hs : ((u.handle m).close q).oda.sessions = ss' := by
        rw [State.close_oda, hhandle]
        have e := congrArg (fun v : State => v.oda.sessions) hsend
        exact e
      unfold State.session?
      rw [hs]
      exact hz1
  · intro b hv
    obtain ⟨ss, mb, H⟩ := State.handle_served h hc hr
    have hcomes := hreq ss mb (u.net.traffic + 1000000 * (32 + m.data.length))
    generalize hy : u.withMail ss mb (u.net.traffic + 1000000 * (32 + m.data.length)) = y at H hcomes
    obtain ⟨-, H⟩ := H _ rfl
    obtain ⟨ss', hhandle⟩ := H b (hcomes.checks.trans hv)
    rw [hcomes.refused] at hhandle
    have hanswer : u.Answers y := by rw [← hy]; exact ⟨rfl, rfl, rfl, rfl, rfl⟩
    have haborted : u.Answers (y.aborted ss' b) := ⟨hanswer.lanes, hanswer.quads, hanswer.truss, hanswer.out, hanswer.now⟩
    refine ⟨?_, ?_⟩
    · rw [hhandle]
      exact hanswer.replies haborted m b.code q
    · obtain ⟨ls, o, hsend⟩ := (y.aborted ss' b).sendPort_eq m.req.port 0 (y.replyTo m b.code [])
      unfold State.graftRefusal State.graftReply
      rw [hhandle, State.graft_close, State.close_net, State.close_oda, State.close_sec, hsend, ← hy]
      exact ⟨rfl, rfl, rfl⟩

end Sys2Proof.Machine
end

section
/-! SUPPORT and proof of O24. The code and the shared memory of a Joiner through their windows (03_joiners.md, R83). -/

namespace Sys2Proof.Machine

/-! ## The code and the shared memory of a Joiner through their windows (R55, R56, R83): O24 -/

theorem sget_foldl_range {α : Type} [DecidableEq α] (d : Nat → α) (a : Nat) (w : Nat → α) (k : Nat) (n : Nat) : ∀ m : Sparse α,
    sget d ((List.range n).foldl (fun m i => sset d m (a + i) (w i)) m) k =
      if a ≤ k ∧ k < a + n then w (k - a) else sget d m k := by
  induction n with
  | zero => intro m; rw [if_neg (by omega)]; rfl
  | succ n ih =>
    intro m
    rw [List.range_succ, List.foldl_append, List.foldl_cons, List.foldl_nil, sget_sset, ih]
    by_cases h : a + n = k
    · rw [if_pos h, if_pos (by omega), ← h, Nat.add_sub_cancel_left]
    · rw [if_neg h]
      by_cases h' : a ≤ k ∧ k < a + n
      · rw [if_pos h', if_pos (by omega)]
      · rw [if_neg h', if_neg (by omega)]

theorem bytesWords_length (bs : Bytes) : (bytesWords bs).length = bs.length / 4 := by
  unfold bytesWords
  rw [List.length_map, List.length_range]

theorem bytesWords_getD (bs : Bytes) {i : Nat} (h : i < bs.length / 4) : (bytesWords bs)[i]?.getD 0 = wordAt bs i := by
  unfold bytesWords
  rw [List.getElem?_map, List.getElem?_range h]
  rfl

/-- The words of `data` written to a memory from word `a` on. -/
theorem sget_stored (m : Sparse Word) (a k : Nat) (data : Bytes) :
    sget (fun _ => (0 : Word)) ((List.range (bytesWords data).length).foldl
      (fun m i => sset (fun _ => (0 : Word)) m (a + i) ((bytesWords data)[i]?.getD 0)) m) k =
      if a ≤ k ∧ k < a + data.length / 4 then wordAt data (k - a) else sget (fun _ => 0) m k := by
  rw [sget_foldl_range, bytesWords_length]
  split
  · next h => rw [bytesWords_getD data (by omega)]
  · rfl

/-- The Joiner after a write of its code. -/
def Joiner.coded (v : Joiner) (c at_ : Nat) (ws : List Word) : Joiner :=
  { v with
    codeOld := keepOld v.codeOld c (sget (fun _ => 0) v.code) ((List.range ws.length).map (at_ + ·))
    code := (List.range ws.length).foldl (fun m i => sset (fun _ => (0 : Word)) m (at_ + i) (ws[i]?.getD 0)) v.code
    codeUeOld := (c, (if v.codeUeOld.1 = c then v.codeUeOld.2 else [])
      ++ v.codeUe.filter fun a => decide (at_ ≤ a ∧ a < at_ + ws.length))
    codeUe := v.codeUe.filter fun a => decide (a < at_ ∨ at_ + ws.length ≤ a) }

theorem State.storeCode_eq (y : State) (j at_ : Nat) (ws : List Word) :
    y.storeCode j at_ ws = y.modJoiner j fun v => v.coded y.cycle at_ ws := by
  unfold State.storeCode Joiner.coded
  simp only [List.getD_eq_getElem?_getD]

theorem Joiner.mem_codeUe_coded (v : Joiner) (c at_ a : Nat) (data : Bytes) :
    a ∈ (v.coded c at_ (bytesWords data)).codeUe ↔ a ∈ v.codeUe ∧ ¬ (at_ ≤ a ∧ a < at_ + data.length / 4) := by
  show a ∈ v.codeUe.filter _ ↔ _
  rw [List.mem_filter, bytesWords_length, decide_eq_true_eq]
  exact and_congr_right fun _ => by omega

/-- Shared words stored leave of the jobs which timetable, words and units they are. -/
theorem Joiner.storeShared_keepsJobs (v : Joiner) (draw c a : Nat) (ws : List Word) :
    (v.storeShared draw c a ws).jobs.map (fun w => (w.tt, w.src, w.dst, w.units)) =
      v.jobs.map fun w => (w.tt, w.src, w.dst, w.units) := by
  have hkeep : ∀ (ks : List Nat) (w : WpJob), (fun w : WpJob => (w.tt, w.src, w.dst, w.units))
      (ks.foldl (fun w k => w.keep v draw c k) w) = (w.tt, w.src, w.dst, w.units) := fun ks => by
    induction ks with
    | nil => exact fun w => rfl
    | cons k ks ih =>
      intro w
      obtain ⟨m, e⟩ := w.keep_eq v draw c k
      exact (ih _).trans (by simp only [e])
  unfold Joiner.storeShared
  cases v.jobs with
  | nil => rfl
  | cons w r => exact congrArg (· :: _) (hkeep _ w)

/-! ### The two windows -/

/-- A request on the window of the code memory or of the shared memory is none of those with a rule of their own. -/
theorem State.holdsRing_window (u : State) (m : OdaMsg) (hix : indexOf m = 0x2300) : u.holdsRing m = false := by
  unfold State.holdsRing
  rw [hix, decide_eq_false fun e => absurd e.2.1 (by decide)]
  rfl

/-- A WRITE of whole words through a window of `size` bytes, in session `x` (R83, R292). -/
theorem State.hostWrite_window {s u : State} {r : Req} {x : Session} {sub : Nat} {data : Bytes} (t : Nat)
    (hu : u = s.advance t) (hw : u.Writes r x 0x2300 sub data) (hsub : sub < 256) {cs : Checks} {sel : Selectors}
    {f : State → State} (hf : ∀ y : State, ∃ js, f y = { y with joiners := js })
    (hreq : ∀ y : State, y.sec = u.sec → y.outOfReach 0x2300 sub = false →
      (y.serveWrite x.sel 0x2300 sub data r.session).Comes y cs [] sel (f y)) :
    (cs.verdict = none → ∃ s' ss mb n, s.hostWrite t r 0x2300 sub data = .next s' ∧
      u.Replies s' (writeMsg r 0x2300 sub data) 0 [] ∧ u.graftReply s' = u.graftReply (f (u.withMail ss mb n)) ∧
      ∃ z, s'.session? (u.fromKing r.port) r.session = some z ∧ z.sel = sel) ∧
    (∀ b, cs.verdict = some b → ∃ s', s.hostWrite t r 0x2300 sub data = .next s' ∧
      u.Replies s' (writeMsg r 0x2300 sub data) b.code [] ∧ s'.oda.aborts = u.oda.aborts + 1 ∧
      s'.sec = { u.sec with refusals := u.sec.refusals + (if 0x09000000 ≤ b.code then 1 else 0) } ∧
      { u.graftRefusal s' with sec := u.sec } = u) := by
  obtain ⟨hi, hs⟩ := entry_writeMsg r data (by decide : 0x2300 < 0x3000) hsub
  have hends := State.request_ends hw.serves (show (0x11 : BitVec 8) ≠ 0x02 by decide)
    (u.holdsRing_window _ hi) (show (0x11 : BitVec 8) ≠ 0x20 by decide)
    (fun e => absurd (hi.symm.trans e.2.1) (by decide)) hf (fun ss mb n => by
      have hserve : (u.withMail ss mb n).request (writeMsg r 0x2300 sub data) x.sel =
          (u.withMail ss mb n).serveWrite x.sel 0x2300 sub data r.session := by
        show (u.withMail ss mb n).serveWrite x.sel (indexOf _) (subOf _) _ _ = _
        rw [hi, hs]; rfl
      rw [hserve]
      exact hreq _ rfl hw.reach) s.pending
  obtain ⟨hdone, haway⟩ := hends
  have hexec : s.hostWrite t r 0x2300 sub data = .next ((u.handle (writeMsg r 0x2300 sub data)).close s.pending) := by
    rw [hu]; rfl
  constructor
  · intro hv
    obtain ⟨hreply, ⟨ss, mb, n, hrest⟩, hsession⟩ := hdone hv
    exact ⟨_, ss, mb, n, hexec, hreply, hrest, hsession⟩
  · intro b hv
    exact ⟨_, hexec, haway b hv⟩

/-- Words of the right number written through a window are served as the window says. -/
theorem State.serveWrite_window {y : State} {x : Selectors} {sub : Nat} {data : Bytes} {session : Word} {en : Entry} {w : Served}
    (hentry : State.reset.entry? 0x2300 sub = some en) (hrec : y.sec.recovery = false) (hreach : y.outOfReach 0x2300 sub = false)
    (haccess : en.access = .rw) (hlow : en.lo ≤ data.length) (hhigh : data.length ≤ en.hi)
    (hwrite : y.writeEntry x 0x2300 sub en data session = { w with checks :=
      [(decide (en.access = .ro ∨ en.access = .rc), .access), (decide (data.length < en.lo ∨ en.hi < data.length), .length)]
        ++ w.checks }) (hkept : ∀ a, w.refused a = y) :
    (y.serveWrite x 0x2300 sub data session).Comes y w.checks w.data w.sel w.after := by
  have hfind : y.find 0x2300 sub = some en := by
    unfold State.find
    rw [hrec]
    exact (State.entry?_normal hrec 0x2300 sub).trans hentry
  have hform : decide (data.length < en.lo ∨ en.hi < data.length) = false := decide_eq_false (by omega)
  unfold State.serveWrite
  rw [hfind]
  dsimp only
  rw [hwrite, hreach, hrec, hform, haccess]
  exact ⟨rfl, rfl, rfl, rfl, hkept⟩

theorem State.codeData_write {s u : State} {r : Req} {x : Session} {data : Bytes} {o : Nat} (t : Nat) (hu : u = s.advance t)
    (hw : u.Writes r x 0x2300 0x03 data) (hl : 4 ≤ data.length) (hl' : data.length ≤ 8960) (ho : o = x.sel.get 0x2300 0x02)
    {cs : Checks} (hcs : cs = [rangeIf (decide (131072 < o + data.length)), (decide (data.length % 4 ≠ 0), .length),
      (u.sec.reqSigned, .unsignedCode)]) :
    (cs.verdict = none → ∃ s' ss mb n, s.hostWrite t r 0x2300 0x03 data = .next s' ∧
      u.Replies s' (writeMsg r 0x2300 0x03 data) 0 [] ∧
      u.graftReply s' = u.graftReply ((u.withMail ss mb n).storeCode (x.sel.get 0x2300 0x01) (o / 4) (bytesWords data)) ∧
      u.Selects s' r 0x2300 0x02 (o + data.length)) ∧
    (∀ b, cs.verdict = some b → ∃ s', s.hostWrite t r 0x2300 0x03 data = .next s' ∧
      u.Replies s' (writeMsg r 0x2300 0x03 data) b.code [] ∧ s'.oda.aborts = u.oda.aborts + 1 ∧
      s'.sec = { u.sec with refusals := u.sec.refusals + (if 0x09000000 ≤ b.code then 1 else 0) } ∧
      { u.graftRefusal s' with sec := u.sec } = u) := by
  have hcomes : ∀ y : State, y.sec = u.sec → y.outOfReach 0x2300 0x03 = false →
      (y.serveWrite x.sel 0x2300 0x03 data r.session).Comes y cs [] (x.sel.set 0x2300 0x02 (o + data.length))
        (y.storeCode (x.sel.get 0x2300 0x01) (o / 4) (bytesWords data)) := fun y hsec hreach => by
    have hrec : y.sec.recovery = false := by rw [hsec]; exact hw.serves.firmware
    rw [hcs, ho, ← hsec]
    exact State.serveWrite_window (en := Entry.blob 0x2300 0x03 .domain .rw 4 8960 0x01) (w := y.writeCode x.sel data)
      (by decide) hrec hreach rfl hl hl' rfl fun _ => rfl
  obtain ⟨hdone, haway⟩ := State.hostWrite_window t hu hw (by decide) (fun y => ⟨_, y.storeCode_eq _ _ _⟩) hcomes
  refine ⟨fun hv => ?_, haway⟩
  obtain ⟨s', ss, mb, n, hexec, hreply, hrest, z, hz, hsel⟩ := hdone hv
  exact ⟨s', ss, mb, n, hexec, hreply, hrest, z, hz, by rw [hsel]; exact sget_sset_self _ _ _ _⟩

theorem State.sharedData_write {s u : State} {r : Req} {x : Session} {data : Bytes} {o : Nat} (t : Nat) (hu : u = s.advance t)
    (hw : u.Writes r x 0x2300 0x14 data) (hl : 4 ≤ data.length) (hl' : data.length ≤ 8960) (ho : o = x.sel.get 0x2300 0x13)
    {cs : Checks} (hcs : cs = [rangeIf (decide (16384 < o + data.length)), (decide (data.length % 4 ≠ 0), .length)]) :
    (cs.verdict = none → ∃ s' ss mb n, s.hostWrite t r 0x2300 0x14 data = .next s' ∧
      u.Replies s' (writeMsg r 0x2300 0x14 data) 0 [] ∧
      u.graftReply s' = u.graftReply ((u.withMail ss mb n).modJoiner (x.sel.get 0x2300 0x01) fun v =>
        v.storeShared u.draws u.cycle (o / 4) (bytesWords data)) ∧
      u.Selects s' r 0x2300 0x13 (o + data.length)) ∧
    (∀ b, cs.verdict = some b → ∃ s', s.hostWrite t r 0x2300 0x14 data = .next s' ∧
      u.Replies s' (writeMsg r 0x2300 0x14 data) b.code [] ∧ s'.oda.aborts = u.oda.aborts + 1 ∧
      s'.sec = { u.sec with refusals := u.sec.refusals + (if 0x09000000 ≤ b.code then 1 else 0) } ∧
      { u.graftRefusal s' with sec := u.sec } = u) := by
  have hcomes : ∀ y : State, y.sec = u.sec → y.outOfReach 0x2300 0x14 = false →
      (y.serveWrite x.sel 0x2300 0x14 data r.session).Comes y cs [] (x.sel.set 0x2300 0x13 (o + data.length))
        (y.modJoiner (x.sel.get 0x2300 0x01) fun v => v.storeShared y.draws y.cycle (o / 4) (bytesWords data)) :=
    fun y hsec hreach => by
      have hrec : y.sec.recovery = false := by rw [hsec]; exact hw.serves.firmware
      rw [hcs, ho]
      exact State.serveWrite_window (en := Entry.blob 0x2300 0x14 .domain .rw 4 8960 0x01) (w := y.writeShared x.sel data)
        (by decide) hrec hreach rfl hl hl' rfl fun _ => rfl
  obtain ⟨hdone, haway⟩ := State.hostWrite_window t hu hw (by decide) (fun y => ⟨_, rfl⟩) hcomes
  refine ⟨fun hv => ?_, haway⟩
  obtain ⟨s', ss, mb, n, hexec, hreply, hrest, z, hz, hsel⟩ := hdone hv
  exact ⟨s', ss, mb, n, hexec, hreply, hrest, z, hz, by rw [hsel]; exact sget_sset_self _ _ _ _⟩

/-- A refusal for a reason other than security turns the request away. -/
theorem State.turnsAway_of {u s' : State} {m : OdaMsg} {b : Abort} (hb : b.code < 0x09000000) (hreply : u.Replies s' m b.code [])
    (haborts : s'.oda.aborts = u.oda.aborts + 1)
    (hsec : s'.sec = { u.sec with refusals := u.sec.refusals + (if 0x09000000 ≤ b.code then 1 else 0) })
    (hrest : { u.graftRefusal s' with sec := u.sec } = u) : u.TurnsAway s' m b.code := by
  rw [if_neg (Nat.not_le.2 hb)] at hsec
  have hkept : s'.sec = u.sec := hsec
  refine ⟨hreply, haborts, ?_⟩
  calc u.graftRefusal s' = { u.graftRefusal s' with sec := s'.sec } := rfl
    _ = u := by rw [hkept]; exact hrest

theorem entry_readMsg (r : Req) {ix sub : Nat} (hix : ix < 0x3000) (hsub : sub < 256) :
    indexOf (readMsg r 0x10 ix sub) = ix ∧ subOf (readMsg r 0x10 ix sub) = sub := entry_writeMsg r [] hix hsub

/-- A READ through a window of `size` bytes, in session `x` (R83, R292). -/
theorem State.hostRead_window {s u : State} {r : Req} {x : Session} {sub sel size o : Nat} {en : Entry}
    {bytes : State → Nat → Nat → Bytes} (t : Nat) (hu : u = s.advance t) (h : u.Reads r x 0x2300 sub) (hsub : sub < 256)
    (ho : o = x.sel.get 0x2300 sel) (hentry : State.reset.entry? 0x2300 sub = some en)
    (hread : ∀ y : State, y.joiners = u.joiners →
      y.readEntry x.sel 0x2300 sub en = y.offsetRead x.sel 0x2300 sel size (bytes u)) :
    (size ≤ o → ∃ s', s.hostRead t r 0x2300 sub = .next s' ∧ u.TurnsAway s' (readMsg r 0x10 0x2300 sub) Abort.range.code) ∧
    (o < size → ∃ s', s.hostRead t r 0x2300 sub = .next s' ∧
      u.Replies s' (readMsg r 0x10 0x2300 sub) 0 (bytes u o (min 8960 (size - o))) ∧
      u.Selects s' r 0x2300 sel (o + min 8960 (size - o)) ∧ u.graftReply s' = u) := by
  obtain ⟨hi, hs⟩ := entry_readMsg r (by decide : 0x2300 < 0x3000) hsub
  have hcomes : ∀ ss mb n, ((u.withMail ss mb n).request (readMsg r 0x10 0x2300 sub) x.sel).Comes (u.withMail ss mb n)
      [rangeIf (decide (size ≤ o))] (bytes u o (min 8960 (size - o))) (x.sel.set 0x2300 sel (o + min 8960 (size - o)))
      (u.withMail ss mb n) := fun ss mb n => by
    have hserve : (u.withMail ss mb n).request (readMsg r 0x10 0x2300 sub) x.sel =
        (u.withMail ss mb n).serveRead x.sel 0x2300 sub := by
      show (u.withMail ss mb n).serveRead x.sel (indexOf _) (subOf _) = _
      rw [hi, hs]
    have hfind : (u.withMail ss mb n).find 0x2300 sub = some en := by
      unfold State.find
      rw [show (u.withMail ss mb n).sec.recovery = false from h.serves.firmware]
      exact (State.entry?_normal h.serves.firmware 0x2300 sub).trans hentry
    have hreach : (u.withMail ss mb n).outOfReach 0x2300 sub = false := h.reach
    rw [hserve]
    unfold State.serveRead
    rw [hfind]
    dsimp only
    rw [hread (u.withMail ss mb n) rfl, hreach, ho]
    exact ⟨rfl, rfl, rfl, rfl, fun _ => rfl⟩
  obtain ⟨hdone, haway⟩ := State.request_ends h.serves (show (0x10 : BitVec 8) ≠ 0x02 by decide) (u.holdsRing_window _ hi)
    (show (0x10 : BitVec 8) ≠ 0x20 by decide) (fun e => absurd e.1 (show (0x10 : BitVec 8) ≠ 0x11 by decide))
    (f := fun y => y) (fun y => ⟨y.joiners, rfl⟩) hcomes s.pending
  have hexec : s.hostRead t r 0x2300 sub = .next ((u.handle (readMsg r 0x10 0x2300 sub)).close s.pending) := by rw [hu]; rfl
  constructor
  · intro hpast
    obtain ⟨hreply, haborts, hsec, hrest⟩ := haway .range (by rw [decide_eq_true hpast]; rfl)
    exact ⟨_, hexec, State.turnsAway_of (b := .range) (by decide) hreply haborts hsec hrest⟩
  · intro hin
    obtain ⟨hreply, ⟨ss, mb, n, hrest⟩, z, hz, hsel⟩ := hdone (by rw [decide_eq_false (Nat.not_le.2 hin)]; rfl)
    exact ⟨_, hexec, hreply, ⟨z, hz, by rw [hsel]; exact sget_sset_self _ _ _ _⟩, hrest⟩

/-- The memories of the Joiners depend on the Joiners only. -/
theorem State.joiner_congr {x y : State} (h : x.joiners = y.joiners) (k : Nat) : x.joiner k = y.joiner k := by
  unfold State.joiner
  rw [h]

/-- Settles O24: a write stores its words and moves the session's offset, or is refused; a read gives the bytes up to the
end. -/
theorem codeAndSharedWindows : Obligations.CodeAndSharedWindows := by
  unfold Obligations.CodeAndSharedWindows
  intro s u t r x data j o hu hj
  refine ⟨?_, ?_, ?_, ?_, ?_⟩
  · intro hw hl hl' hwords ho ho4 hopen
    obtain ⟨hdone, haway⟩ := State.codeData_write t hu hw hl hl' ho rfl
    rw [decide_eq_false fun e : data.length % 4 ≠ 0 => e hwords, hopen] at hdone haway
    constructor
    · intro hin
      obtain ⟨s', ss, mb, n, hexec, hreply, hrest, hsel⟩ := hdone (by rw [decide_eq_false (Nat.not_lt.2 hin)]; rfl)
      rw [← hj, State.storeCode_eq] at hrest
      have hjoiner : ∀ k, s'.joiner k = if j = k then (u.joiner j).coded u.cycle (o / 4) (bytesWords data) else u.joiner k :=
        fun k => by
          have h := congrArg (fun z : State => z.joiner k) hrest
          exact h.trans (State.joiner_setJoiner _ j k _)
      have hj' : s'.joiner j = (u.joiner j).coded u.cycle (o / 4) (bytesWords data) := (hjoiner j).trans (if_pos rfl)
      refine ⟨s', hexec, hreply, hsel, fun k => ?_, fun a => ?_, ?_, fun k hk => by rw [hjoiner, if_neg (Ne.symm hk)], ?_⟩
      · rw [hj']
        exact sget_stored _ _ _ _
      · rw [hj']
        exact Joiner.mem_codeUe_coded _ _ _ _ _
      · rw [hj']
        rfl
      · have h := congrArg (fun z : State => { z with joiners := u.joiners }) hrest
        exact h
    · intro hpast
      obtain ⟨s', hexec, hreply, haborts, hsec, hrest⟩ := haway .range (by rw [decide_eq_true hpast]; rfl)
      exact ⟨s', hexec, State.turnsAway_of (b := .range) (by decide) hreply haborts hsec hrest⟩
  · intro hw hl hl' hwords ho hin hsigned
    obtain ⟨-, haway⟩ := State.codeData_write t hu hw hl hl' ho rfl
    rw [decide_eq_false fun e : data.length % 4 ≠ 0 => e hwords, decide_eq_false (Nat.not_lt.2 hin), hsigned] at haway
    obtain ⟨s', hexec, hreply, haborts, hsec, hrest⟩ := haway .unsignedCode rfl
    exact ⟨s', hexec, hreply, haborts, hsec, hrest⟩
  · intro hw hl hl' hwords ho ho4
    obtain ⟨hdone, haway⟩ := State.sharedData_write t hu hw hl hl' ho rfl
    rw [decide_eq_false fun e : data.length % 4 ≠ 0 => e hwords] at hdone haway
    constructor
    · intro hin
      obtain ⟨s', ss, mb, n, hexec, hreply, hrest, hsel⟩ := hdone (by rw [decide_eq_false (Nat.not_lt.2 hin)]; rfl)
      rw [← hj] at hrest
      have hjoiner : ∀ k, s'.joiner k =
          if j = k then (u.joiner j).storeShared u.draws u.cycle (o / 4) (bytesWords data) else u.joiner k := fun k => by
        have h := congrArg (fun z : State => z.joiner k) hrest
        exact h.trans (State.joiner_setJoiner _ j k _)
      have hj' : s'.joiner j = (u.joiner j).storeShared u.draws u.cycle (o / 4) (bytesWords data) := (hjoiner j).trans (if_pos rfl)
      refine ⟨s', hexec, hreply, hsel, fun k => ?_, ?_, ?_, fun k hk => by rw [hjoiner, if_neg (Ne.symm hk)], ?_⟩
      · rw [hj']
        exact sget_stored _ _ _ _
      · rw [hj']
        exact Joiner.storeShared_keepsJobs _ _ _ _ _
      · rw [hj']
        rfl
      · have h := congrArg (fun z : State => { z with joiners := u.joiners }) hrest
        exact h
    · intro hpast
      obtain ⟨s', hexec, hreply, haborts, hsec, hrest⟩ := haway .range (by rw [decide_eq_true hpast]; rfl)
      exact ⟨s', hexec, State.turnsAway_of (b := .range) (by decide) hreply haborts hsec hrest⟩
  · intro hread ho
    rw [hj]
    exact State.hostRead_window (en := Entry.blob 0x2300 0x03 .domain .rw 4 8960 0x01)
      (bytes := fun y => memBytes (y.joiner (x.sel.get 0x2300 0x01)).code) t hu hread (by decide) ho (by decide) fun y hy => by
        rw [← State.joiner_congr hy]
        rfl
  · intro hread ho
    rw [hj]
    exact State.hostRead_window (en := Entry.blob 0x2300 0x14 .domain .rw 4 8960 0x01)
      (bytes := fun y => memBytes (y.joiner (x.sel.get 0x2300 0x01)).shared) t hu hread (by decide) ho (by decide) fun y hy => by
        rw [← State.joiner_congr hy]
        rfl

end Sys2Proof.Machine
end

section
/-! SUPPORT and proof of O16. TT_CMD (03_joiners.md, R84, R85). -/

namespace Sys2Proof.Machine

/-! ## TT_CMD (R84, R85): O16 -/

/-- A timetable that START has made READY at its entry. -/
def Timetable.started (v : Timetable) (c : Nat) : Timetable :=
  { v with
    pc := v.entry, loops := [], z := false, n := false, latches := 0, arrivals := 0, state := .ready
    wait := .none, held := none, readyAt := c + 1 }

/-- A timetable that CLEAR has taken out of FAULTED. -/
def Timetable.cleared (v : Timetable) : Timetable :=
  if v.state = .faulted then { v with state := .idle, fault := {} } else v

/-- TT_CMD with the command `v`, which has the checks `cs` and the effect `f`. -/
theorem State.hostWrite_ttCmd {s u : State} {r : Req} {x : Session} {v : Byte} (t : Nat) (hu : u = s.advance t)
    (hw : u.Writes r x 0x2300 0x05 [v]) (cs : Checks) (f : State → State)
    (ha : ∀ ss mb n, (u.withMail ss mb n).ttCmd (x.sel.get 0x2300 0x04) (leNat [v]) = (u.withMail ss mb n).act cs (f (u.withMail ss mb n)))
    (hf : ∀ ss mb n, u.Answers (f (u.withMail ss mb n))) (hp : ∀ ss mb n, (f (u.withMail ss mb n)).sys.parity = [])
    (hv : cs.verdict = none) :
    ∃ s' ss mb n, s.hostWrite t r 0x2300 0x05 [v] = .next s' ∧ u.Replies s' (writeMsg r 0x2300 0x05 [v]) 0 [] ∧
      u.graftReply s' = u.graftReply (f (u.withMail ss mb n)) :=
  (State.hostWrite_num t (Entry.num 0x2300 0x05 .u8 .wo 0 0x04) hu (by decide) hw ⟨Nat.le_refl 1, Nat.le_refl 1⟩ (fun e => by cases e) cs f
    (fun ss mb n => ((u.withMail ss mb n).writeNum_ttCmd _ _ _).trans (ha ss mb n)) hf hp).1 hv

/-- A command that changes timetable `i` only. -/
theorem State.hostWrite_ttCmd_mod {s u : State} {r : Req} {x : Session} {v : Byte} {i : Nat} (t : Nat) (hu : u = s.advance t)
    (hi : i = x.sel.get 0x2300 0x04) (hw : u.Writes r x 0x2300 0x05 [v]) (cs : Checks) (f : Timetable → Timetable)
    (ha : ∀ ss mb n, (u.withMail ss mb n).ttCmd i (leNat [v]) = (u.withMail ss mb n).act cs ((u.withMail ss mb n).modTt i f))
    (hv : cs.verdict = none) :
    ∃ s', s.hostWrite t r 0x2300 0x05 [v] = .next s' ∧ u.Replies s' (writeMsg r 0x2300 0x05 [v]) 0 [] ∧
      s'.tt i = f (u.tt i) ∧ (∀ k, k ≠ i → s'.tt k = u.tt k) ∧ { u.graftReply s' with tts := u.tts } = u := by
  obtain ⟨s', ss, mb, n, hexec, hreply, hs'⟩ := State.hostWrite_ttCmd t hu hw cs (fun y => y.modTt i f) (by rw [← hi]; exact ha)
    (fun ss mb n => ⟨rfl, rfl, rfl, rfl, rfl⟩) (fun ss mb n => hw.parity) hv
  have htt : ∀ k, s'.tt k = if i = k then f (u.tt i) else u.tt k := fun k => by
    have h := congrArg (fun z : State => z.tt k) hs'
    exact h.trans (State.tt_setTt _ i k _)
  have hrest := congrArg (fun z : State => { z with tts := u.tts }) hs'
  exact ⟨s', hexec, hreply, by rw [htt, if_pos rfl], fun k hk => by rw [htt, if_neg (Ne.symm hk)], hrest⟩

theorem ttStart {s u : State} {r : Req} {x : Session} {i : Nat} (t : Nat) (hu : u = s.advance t) (hi : i = x.sel.get 0x2300 0x04)
    (hw : u.Writes r x 0x2300 0x05 [1]) (hruns : (u.tt i).runs = false) (hsafe : u.sys.state ≠ .faultSafe)
    (hreset : u.resetting = false) (hjoiner : (u.joiner (i / 64)).resetting = false) :
    ∃ s', exec (.ttStart t r) s = .next s' ∧ u.Replies s' (writeMsg r 0x2300 0x05 [1]) 0 [] ∧
      s'.tt i = (u.tt i).started u.cycle ∧ (∀ k, k ≠ i → s'.tt k = u.tt k) ∧ { u.graftReply s' with tts := u.tts } = u :=
  State.hostWrite_ttCmd_mod t hu hi hw [(decide (u.sys.state = .faultSafe), .wrongState),
      ((u.tt i).runs || u.resetting || (u.joiner (i / 64)).resetting, .blockRunning)] (fun v => v.started u.cycle)
    (fun _ _ _ => rfl) (by rw [decide_eq_false hsafe, hruns, hreset, hjoiner]; rfl)

theorem ttClear {s u : State} {r : Req} {x : Session} {i : Nat} (t : Nat) (hu : u = s.advance t) (hi : i = x.sel.get 0x2300 0x04)
    (hw : u.Writes r x 0x2300 0x05 [4]) (hruns : (u.tt i).runs = false) :
    ∃ s', exec (.ttClear t r) s = .next s' ∧ u.Replies s' (writeMsg r 0x2300 0x05 [4]) 0 [] ∧
      s'.tt i = (u.tt i).cleared ∧ (∀ k, k ≠ i → s'.tt k = u.tt k) ∧ { u.graftReply s' with tts := u.tts } = u :=
  State.hostWrite_ttCmd_mod t hu hi hw [((u.tt i).runs, .blockRunning)] Timetable.cleared (fun _ _ _ => rfl) (by rw [hruns]; rfl)

/-- What playback changes is nothing that a reply depends on. -/
theorem State.OnPlay.answers {u x : State} {ss : List Session} {mb : List Mail} {n : Nat} (h : (u.withMail ss mb n).OnPlay x) :
    u.Answers x := by
  have hlanes := congrArg State.lanes h.1
  have hquads := congrArg State.quads h.1
  have htruss := congrArg State.truss h.1
  have hout := congrArg State.out h.1
  have hnow := congrArg State.now h.1
  exact ⟨hlanes, hquads, htruss, hout, hnow⟩

theorem ttFlush {s u : State} {r : Req} {x : Session} {i : Nat} (t : Nat) (hu : u = s.advance t) (hi : i = x.sel.get 0x2300 0x04)
    (hw : u.Writes r x 0x2300 0x05 [3]) (hruns : (u.tt i).runs = false) :
    ∃ s', exec (.ttFlush t r) s = .next s' ∧ u.Replies s' (writeMsg r 0x2300 0x05 [3]) 0 [] ∧
      (∀ n ∈ (u.tt i).gang, (s'.chan n).queue = [] ∧
        (u.clockRuns n = true → (s'.chan n).flushing = some (u.nextBoundary n) ∧ (s'.chan n).act = (u.chan n).act) ∧
        (u.clockRuns n = false → (s'.chan n).act = .idle ∧ (s'.chan n).armed = none ∧ (s'.chan n).arming = none)) ∧
      (∀ n, n ∉ (u.tt i).gang → s'.chan n = u.chan n) ∧ s'.mem.bytes = u.mem.bytes ∧
      { u.graftReply s' with chans := u.chans, mem := u.mem, card := u.card, sys := u.sys } = u := by
  have hflush : ∀ ss mb n, _ := fun ss mb n =>
    (u.withMail ss mb n).flushes_forAll (u.tt i).gang (gangOf_nodup _ _)
  obtain ⟨s', ss, mb, k, hexec, hreply, hs'⟩ := State.hostWrite_ttCmd t hu hw [((u.tt i).runs, .blockRunning)]
    (fun y => y.forAll (u.tt i).gang State.flushChannel) (by rw [← hi]; exact fun _ _ _ => rfl)
    (fun ss mb n => (hflush ss mb n).2.2.1.answers)
    (fun ss mb n => by
      obtain ⟨-, -, -, hsys⟩ := hflush ss mb n
      have h := congrArg Sys.parity hsys
      exact h.trans hw.parity) (by rw [hruns]; rfl)
  obtain ⟨hin, hout, hplay, -⟩ := hflush ss mb k
  generalize (u.withMail ss mb k).forAll (u.tt i).gang State.flushChannel = z at hs' hin hout hplay
  have hchan : ∀ n, s'.chan n = z.chan n := fun n => by
    have h := congrArg (fun v : State => v.chan n) hs'
    exact h
  have hbytes := congrArg (fun v : State => v.mem.bytes) hs'
  refine ⟨s', hexec, hreply, fun n hn => ?_, fun n hn => (hchan n).trans (hout n hn), Eq.trans hbytes hplay.2.1, ?_⟩
  · obtain ⟨hqueue, hrunning, hstopped, -⟩ := hin n hn
    rw [hchan]
    exact ⟨hqueue, hrunning, hstopped⟩
  · have hrest := congrArg (fun v : State => { v with chans := u.chans, mem := u.mem, card := u.card, sys := u.sys }) hs'
    have hz := congrArg (fun v : State => { u.graftReply v with chans := u.chans, mem := u.mem, card := u.card, sys := u.sys }) hplay.1
    exact Eq.trans hrest hz

/-! ### STOP (R84, R85) -/

/-- The descriptors of serial number `serial` leave the queue of channel `n`, their pins released. -/
def State.takeBackAt (s : State) (serial n : Nat) : State :=
  (s.modChan n fun c => { c with queue := c.queue.filter fun d => decide (d.order ≠ serial) }).unpinAll
    (((s.chan n).queue.filter fun d => decide (d.order = serial)).flatMap (·.pins)) false

/-- What is taken back leaves the queues of the channels `xs`, and no descriptor is added to any. -/
theorem State.takeBack_queues (serial : Nat) (xs : List Nat) : ∀ s : State,
    s.OnPlay (s.forAll xs fun s n => s.takeBackAt serial n) ∧
    (s.forAll xs fun s n => s.takeBackAt serial n).sys = s.sys ∧
    (∀ m, ((s.forAll xs fun s n => s.takeBackAt serial n).chan m).queue =
      if m ∈ xs then (s.chan m).queue.filter fun d => decide (d.order ≠ serial) else (s.chan m).queue) := by
  induction xs with
  | nil => exact fun s => ⟨s.onPlay_refl, rfl, fun m => rfl⟩
  | cons a r ih =>
    intro s
    have hon : s.OnChan (s.takeBackAt serial a) a := (s.onChan_modChan a _).trans (State.onChan_unpinAll _ a _ _)
    have hsys : (s.takeBackAt serial a).sys = s.sys := State.unpinAll_sys _ _ _
    have hchan : (s.takeBackAt serial a).chan a =
        { s.chan a with queue := (s.chan a).queue.filter fun d => decide (d.order ≠ serial) } :=
      (State.chan_congr (State.unpinAll_chans _ _ _) a).trans (State.chan_modChan_self s a _)
    obtain ⟨hplay, hsys', hqueue⟩ := ih (s.takeBackAt serial a)
    refine ⟨hon.onPlay.trans hplay, Eq.trans hsys' hsys, fun m => Eq.trans (hqueue m) ?_⟩
    by_cases hma : m = a
    · subst hma
      rw [hchan]
      simp
    · rw [hon.2.1 m hma]
      simp [hma]

theorem State.takeBack_eq (s : State) (i serial : Nat) :
    s.takeBack i serial = s.forAll (s.tt i).gang fun s n => s.takeBackAt serial n := rfl

/-- A timetable whose wake a STOP of the same cycle has abandoned (R85). -/
def Timetable.abandoned (v : Timetable) (w : Woken) : Timetable :=
  { w.before with latches := w.before.latches ||| v.latches, arrivals := v.arrivals, fresh := v.fresh }

/-- What a STOP leaves of the device but for the timetable that it stops (R84, R85). -/
structure State.Stops (y z : State) (i : Nat) : Prop where
  rest : { z with tts := y.tts, chans := y.chans, mem := y.mem, card := y.card, sys := y.sys, woken := y.woken, stops := y.stops } = y
  sys : z.sys = y.sys
  stops : z.stops = y.stops ++ [(i, y.cycle)]
  others : ∀ k, k ≠ i → z.tt k = y.tt k
  bytes : z.mem.bytes = y.mem.bytes
  queues : ∀ n d, d ∈ (z.chan n).queue → d ∈ (y.chan n).queue

theorem State.stopTt_awake {y : State} {i : Nat} {w : Woken} (hruns : (y.tt i).runs = true) (hstop : y.stopping i = false)
    (hw : (y.woken.find? fun w => decide (w.tt = i ∧ w.cycle = y.cycle)) = some w) :
    y.Stops (y.stopTt i) i ∧ (y.stopTt i).tt i = (y.tt i).abandoned w ∧
      (∀ n ∈ w.before.gang, ∀ d ∈ ((y.stopTt i).chan n).queue, d.order ≠ w.serial) := by
  have hactive : (y.tt i).state = .ready ∨ (y.tt i).state = .waiting := of_decide_eq_true hruns
  obtain ⟨hplay, hsys, hqueue⟩ := State.takeBack_queues w.serial w.before.gang (y.modTt i fun v => v.abandoned w)
  have hback : (y.modTt i fun v => v.abandoned w).takeBack i w.serial =
      (y.modTt i fun v => v.abandoned w).forAll w.before.gang fun s n => s.takeBackAt w.serial n := by
    rw [State.takeBack_eq]
    have htt : (y.modTt i fun v => v.abandoned w).tt i = (y.tt i).abandoned w := State.tt_setTt_self _ _ _
    rw [htt]
    rfl
  have hz : y.stopTt i = { (y.modTt i fun v => v.abandoned w).takeBack i w.serial with
      woken := y.woken.filter fun x => decide (x.tt ≠ i)
      stops := ((y.modTt i fun v => v.abandoned w).takeBack i w.serial).stops ++
        [(i, ((y.modTt i fun v => v.abandoned w).takeBack i w.serial).cycle)] } := by
    unfold State.stopTt
    rw [hstop, decide_eq_true hactive, hw]
    rfl
  rw [hback] at hz
  generalize (y.modTt i fun v => v.abandoned w).forAll w.before.gang (fun s n => s.takeBackAt w.serial n) = x at *
  have htts : x.tts = (y.modTt i fun v => v.abandoned w).tts := hplay.tts
  have hstops : x.stops = y.stops := by
    have h := congrArg State.stops hplay.1
    exact h
  have hcycle : x.cycle = y.cycle := by
    have h := congrArg State.cycle hplay.1
    exact h
  have htt : ∀ k, x.tt k = if i = k then (y.tt i).abandoned w else y.tt k := fun k => by
    have h : x.tt k = (y.modTt i fun v => v.abandoned w).tt k := by
      unfold State.tt
      rw [htts]
    exact h.trans (State.tt_setTt _ i k _)
  rw [hz]
  refine ⟨⟨?_, hsys, ?_, fun k hk => (htt k).trans (if_neg (Ne.symm hk)), hplay.2.1, fun n d hd => ?_⟩,
    (htt i).trans (if_pos rfl), fun n hn d hd => ?_⟩
  · have h := congrArg (fun v : State => { v with tts := y.tts, woken := y.woken, stops := y.stops }) hplay.1
    exact h
  · show x.stops ++ [(i, x.cycle)] = _
    rw [hstops, hcycle]
  · have hd' : d ∈ (x.chan n).queue := hd
    rw [hqueue n] at hd'
    split at hd'
    · exact List.mem_of_mem_filter hd'
    · exact hd'
  · have hd' : d ∈ (x.chan n).queue := hd
    rw [hqueue n, if_pos hn] at hd'
    exact of_decide_eq_true (List.mem_filter.1 hd').2

theorem State.stopTt_asleep {y : State} {i : Nat} (hruns : (y.tt i).runs = true) (hstop : y.stopping i = false)
    (hw : (y.woken.find? fun w => decide (w.tt = i ∧ w.cycle = y.cycle)) = none) :
    y.stopTt i = { y with stops := y.stops ++ [(i, y.cycle)] } := by
  have hactive : (y.tt i).state = .ready ∨ (y.tt i).state = .waiting := of_decide_eq_true hruns
  unfold State.stopTt
  rw [hstop, decide_eq_true hactive, hw]
  rfl

theorem State.stopTt_idle {y : State} {i : Nat} (h : (y.tt i).runs = false ∨ y.stopping i = true) : y.stopTt i = y := by
  unfold State.stopTt
  refine if_pos ?_
  rcases h with h | h
  · rw [show decide ((y.tt i).state = .ready ∨ (y.tt i).state = .waiting) = false from h]
    exact Bool.or_true _
  · rw [h]
    rfl

/-- What a STOP leaves depends on the timetable, and on the STOPs and the wakes met. -/
theorem State.stopTt_cases (y : State) (i : Nat) : y.stopTt i = y ∨ y.stopTt i = { y with stops := y.stops ++ [(i, y.cycle)] } ∨
    y.Stops (y.stopTt i) i := by
  by_cases h : (y.tt i).runs = false ∨ y.stopping i = true
  · exact .inl (State.stopTt_idle h)
  · obtain ⟨hruns, hstop⟩ := not_or.1 h
    rw [Bool.not_eq_false] at hruns
    rw [Bool.not_eq_true] at hstop
    cases hw : y.woken.find? fun w => decide (w.tt = i ∧ w.cycle = y.cycle) with
    | none => exact .inr (.inl (State.stopTt_asleep hruns hstop hw))
    | some w => exact .inr (.inr (State.stopTt_awake hruns hstop hw).1)

theorem State.Stops.answers {u z : State} {i : Nat} {ss : List Session} {mb : List Mail} {n : Nat}
    (h : (u.withMail ss mb n).Stops z i) : u.Answers z := by
  have hlanes := congrArg State.lanes h.rest
  have hquads := congrArg State.quads h.rest
  have htruss := congrArg State.truss h.rest
  have hout := congrArg State.out h.rest
  have hnow := congrArg State.now h.rest
  exact ⟨hlanes, hquads, htruss, hout, hnow⟩

/-- A STOP is taken whatever the timetable does. -/
theorem State.hostWrite_stop {s u : State} {r : Req} {x : Session} {i : Nat} (t : Nat) (hu : u = s.advance t)
    (hi : i = x.sel.get 0x2300 0x04) (hw : u.Writes r x 0x2300 0x05 [2]) :
    ∃ s' ss mb n, exec (.ttStop t r) s = .next s' ∧ u.Replies s' (writeMsg r 0x2300 0x05 [2]) 0 [] ∧
      u.graftReply s' = u.graftReply ((u.withMail ss mb n).stopTt i) := by
  refine State.hostWrite_ttCmd t hu hw [] (fun y => y.stopTt i) (by rw [← hi]; exact fun _ _ _ => rfl)
    (fun ss mb n => ?_) (fun ss mb n => ?_) rfl
  · rcases (u.withMail ss mb n).stopTt_cases i with h | h | h
    · rw [h]; exact ⟨rfl, rfl, rfl, rfl, rfl⟩
    · rw [h]; exact ⟨rfl, rfl, rfl, rfl, rfl⟩
    · exact h.answers
  · rcases (u.withMail ss mb n).stopTt_cases i with h | h | h
    · rw [h]; exact hw.parity
    · rw [h]; exact hw.parity
    · rw [h.sys]; exact hw.parity

/-! ### The end of the cycle of STOPs (R84) -/

/-- A timetable that runs, halted by a STOP. -/
def Timetable.stopped (v : Timetable) : Timetable :=
  if v.runs = true then { v with state := .halted, haltCause := 1, wait := .none, held := none } else v

theorem State.haltTt_eq (s : State) (i : Nat) : s.haltTt i = s.modTt i Timetable.stopped := by
  unfold State.haltTt Timetable.stopped Timetable.runs
  simp only [decide_eq_true_eq]

theorem Timetable.stopped_stopped (v : Timetable) : v.stopped.stopped = v.stopped := by
  unfold Timetable.stopped
  split
  · rfl
  · rfl

/-- STOPs that act one after another halt each timetable that they name, and change nothing else. -/
theorem State.forAll_haltTt (xs : List (Nat × Nat)) : ∀ s : State,
    { s.forAll xs fun s p => s.haltTt p.1 with tts := s.tts } = s ∧
    (∀ k, (s.forAll xs fun s p => s.haltTt p.1).tt k = if (xs.any fun p => decide (p.1 = k)) = true then (s.tt k).stopped else s.tt k) := by
  induction xs with
  | nil => exact fun s => ⟨rfl, fun k => rfl⟩
  | cons a r ih =>
    intro s
    obtain ⟨hrest, htt⟩ := ih (s.haltTt a.1)
    have hfirst : ∀ k, (s.haltTt a.1).tt k = if a.1 = k then (s.tt k).stopped else s.tt k := fun k => by
      rw [State.haltTt_eq, State.modTt_eq, State.tt_setTt]
      split
      · next h => rw [h]
      · rfl
    refine ⟨?_, fun k => (htt k).trans ?_⟩
    · have h := congrArg (fun v : State => { v with tts := s.tts }) hrest
      exact h
    · rw [hfirst, List.any_cons]
      by_cases ha : a.1 = k
      · rw [if_pos ha, decide_eq_true ha, Bool.true_or, if_pos rfl, Timetable.stopped_stopped, ite_self]
      · rw [if_neg ha, decide_eq_false ha, Bool.false_or]

/-- What does nothing over and over does nothing. -/
theorem State.forAll_none {α : Type} {f : State → α → State} (hf : ∀ s a, f s a = s) (xs : List α) :
    ∀ s : State, s.forAll xs f = s := by
  induction xs with
  | nil => exact fun s => rfl
  | cons a r ih => exact fun s => (ih (f s a)).trans (hf s a)

/-- Where only STOPs wait for the end of their cycle, nothing else is done when it has ended. -/
theorem State.advance_stops {s y : State} {t : Nat} (hy : y = s.tick t) (hstill : s.still = false)
    (hquiet : State.quiet { s with stops := [] } = true) (hstops : s.stops ≠ []) (hcycle : s.cycle < y.cycle) :
    s.advance t = ({ y with stops := [] } : State).forAll s.stops fun s p => s.haltTt p.1 := by
  unfold State.quiet State.unsettled at hquiet
  simp only [Bool.and_eq_true, Bool.not_eq_true', Bool.or_eq_false_iff, decide_eq_false_iff_not, decide_eq_true_eq,
    not_not, List.isEmpty_iff] at hquiet
  obtain ⟨⟨⟨⟨⟨⟨hchecks, hpasses⟩, -⟩, hwaiting⟩, hlanes⟩, hup⟩, htraffic⟩ := hquiet
  have hdrain : ∀ k, State.drain k t s = s := fun k => by
    cases k with
    | zero => rfl
    | succ k =>
      unfold State.drain
      simp only [show s.laneWaits = false from hlanes, Bool.false_and, Bool.false_eq_true, if_false]
  have hset : y.settleChecks.settlePasses = y := by
    have hc : y.settleChecks = y := by
      unfold State.settleChecks
      rw [show y.mem.checks = [] by rw [hy]; exact hchecks]
      refine (State.forAll_none (fun _ _ => rfl) _ _).trans ?_
      show ({ y with mem := { y.mem with checks := [] } } : State) = y
      rw [← show y.mem.checks = [] by rw [hy]; exact hchecks]
    rw [hc]
    unfold State.settlePasses
    rw [show y.mem.passes = [] by rw [hy]; exact hpasses]
    show ({ y with mem := { y.mem with passes := [] } } : State) = y
    rw [← show y.mem.passes = [] by rw [hy]; exact hpasses]
  have hsettle : y.settleCycle = ({ y with stops := [] } : State).forAll s.stops fun s p => s.haltTt p.1 := by
    unfold State.settleCycle
    rw [hset, hy]
    rfl
  obtain ⟨hrest, -⟩ := State.forAll_haltTt s.stops { y with stops := [] }
  have hunsettled : y.unsettled = true := by
    unfold State.unsettled
    rw [show y.stops = s.stops by rw [hy]; rfl, decide_eq_true hstops, Bool.or_true]
  have hystill : y.still = false := by rw [hy]; exact hstill
  generalize ({ y with stops := [] } : State).forAll s.stops (fun s p => s.haltTt p.1) = z at *
  have hzwaiting : z.waitingChans = [] := by
    have h := congrArg State.waitingChans hrest
    exact Eq.trans h (by rw [hy]; exact hwaiting)
  have hzup : z.upLanes = [] := by
    have h := congrArg State.upLanes hrest
    exact Eq.trans h (by rw [hy]; exact hup)
  have hztraffic : z.net.traffic = 0 := by
    have h := congrArg (fun v : State => v.net.traffic) hrest
    exact Eq.trans h (by rw [hy]; exact htraffic)
  have hnone : ∀ f : State → Nat → State, z.forAll [] f = z := fun _ => rfl
  unfold State.advance State.moveTo
  simp only [hdrain, ← hy, hystill, hunsettled, decide_eq_true hcycle, Bool.and_self, Bool.false_eq_true, if_false, if_true,
    hsettle, hzwaiting, hzup, hnone, State.serveTraffic_none hztraffic]

/-- Settles O16: each command passes its checks and has its effect; a STOP acts on the timetable at the end of its cycle. -/
theorem timetableCommands : Obligations.TimetableCommands := by
  unfold Obligations.TimetableCommands
  constructor
  · intro s u t r x i hu hi
    refine ⟨fun hw hruns hsafe hreset hjoiner => ttStart t hu hi hw hruns hsafe hreset hjoiner, fun hw hidle => ?_,
      fun hw hruns hstop hwake => ?_, fun w hw hruns hstop hwake => ?_, fun hw hruns => ttFlush t hu hi hw hruns,
      fun hw hruns => ttClear t hu hi hw hruns⟩
    · obtain ⟨s', ss, mb, n, hexec, hreply, hs'⟩ := State.hostWrite_stop t hu hi hw
      rw [State.stopTt_idle (y := u.withMail ss mb n) hidle] at hs'
      exact ⟨s', hexec, hreply, hs'⟩
    · obtain ⟨s', ss, mb, n, hexec, hreply, hs'⟩ := State.hostWrite_stop t hu hi hw
      rw [State.stopTt_asleep (y := u.withMail ss mb n) hruns hstop hwake] at hs'
      have hstops := congrArg State.stops hs'
      have hrest := congrArg (fun v : State => { v with stops := u.stops }) hs'
      exact ⟨s', hexec, hreply, hstops, hrest⟩
    · obtain ⟨s', ss, mb, n, hexec, -, hs'⟩ := State.hostWrite_stop t hu hi hw
      obtain ⟨hstops, htt, hgang⟩ := State.stopTt_awake (y := u.withMail ss mb n) hruns hstop hwake
      generalize (u.withMail ss mb n).stopTt i = z at *
      have htt' : ∀ k, s'.tt k = z.tt k := fun k => by
        have h := congrArg (fun v : State => v.tt k) hs'
        exact h
      have hchan : ∀ k, s'.chan k = z.chan k := fun k => by
        have h := congrArg (fun v : State => v.chan k) hs'
        exact h
      have hnoted := congrArg State.stops hs'
      have hbytes := congrArg (fun v : State => v.mem.bytes) hs'
      exact ⟨s', hexec, Eq.trans hnoted hstops.stops, (htt' i).trans htt, fun k hk => (htt' k).trans (hstops.others k hk),
        fun k d hd => hstops.queues k d (hchan k ▸ hd), fun k hk d hd => hgang k hk d (hchan k ▸ hd),
        Eq.trans hbytes hstops.bytes⟩
  · intro s t hstill hquiet hstops hcycle
    rw [State.advance_stops rfl hstill hquiet hstops hcycle]
    obtain ⟨hrest, htt⟩ := State.forAll_haltTt s.stops { s.tick t with stops := [] }
    generalize ({ s.tick t with stops := [] } : State).forAll s.stops (fun s p => s.haltTt p.1) = z at *
    refine ⟨fun i => ?_, ?_⟩
    · have hstopped : z.tt i = if s.stopping i = true then (s.tt i).stopped else s.tt i := htt i
      rw [hstopped]
      unfold Timetable.stopped
      by_cases h : s.stopping i = true
      · by_cases g : (s.tt i).runs = true
        · rw [if_pos h, if_pos g, if_pos ⟨h, g⟩]
        · rw [if_pos h, if_neg g, if_neg fun e => g e.2]
      · rw [if_neg h, if_neg fun e => h e.1]
    · have h := congrArg (fun v : State => { v with tts := s.tts, stops := s.stops }) hrest
      exact h

end Sys2Proof.Machine
end

section
/-! SUPPORT. What a fault of a timetable does (03_joiners.md, R82): O6. -/

namespace Sys2Proof.Machine

/-! ## A bell raised (R174 to R177), seen from outside -/

/-- What a bell raised, whatever its fate, may change. -/
def State.SameButBells (s x : State) : Prop :=
  { x with truss := s.truss, lanes := s.lanes, out := s.out, chans := s.chans, card := s.card, sys := s.sys } = s

theorem State.SameButBells.trans {s x y : State} (h : s.SameButBells x) (g : x.SameButBells y) : s.SameButBells y := by
  have e := congrArg (fun v : State =>
    { v with truss := s.truss, lanes := s.lanes, out := s.out, chans := s.chans, card := s.card, sys := s.sys }) g
  exact e.trans h

theorem State.sameButBells_forAll {α : Type} {f : State → α → State} (h : ∀ (s : State) (a : α), s.SameButBells (f s a)) (xs : List α) :
    ∀ s : State, s.SameButBells (s.forAll xs f) := by
  induction xs with
  | nil => exact fun s => rfl
  | cons a r ih => exact fun s => (h s a).trans (ih (f s a))

theorem State.sameButBells_sendLink (s : State) (l : Nat) (b : LinkBlock) : s.SameButBells (s.sendLink l b) := by
  rw [State.sendLink_eq]
  rfl

theorem State.sameButBells_sendLinks (s : State) (ls : List Nat) (b : LinkBlock) : s.SameButBells (s.sendLinks ls b) :=
  State.sameButBells_forAll (f := fun s l => s.sendLink l b) (fun s l => s.sameButBells_sendLink l b) ls s

theorem State.sameButBells_forwardBell (s : State) (w : BellWord) (but : Option Nat) : s.SameButBells (s.forwardBell w but) :=
  State.sameButBells_forAll (f := fun s l => s.sendBell l w) (fun s l => s.sameButBells_sendLink l _) _ s

theorem State.sameButBells_enterBroken (s : State) (l : Option Nat) (n : Nat) (p : Byte) : s.SameButBells (s.enterBroken l n p) := by
  unfold State.enterBroken
  split
  · rfl
  · extract_lets now ta tb s1 s2 v s3
    have h1 : s.SameButBells s1 := rfl
    have h2 : s1.SameButBells s2 := s1.sameButBells_sendLinks _ _
    have h3 : s2.SameButBells s3 := by
      unfold s3
      split <;> rfl
    exact ((h1.trans h2).trans h3).trans rfl

theorem State.sameButBells_lateBreak (s : State) : s.SameButBells s.lateBreak := by
  unfold State.lateBreak State.when
  split
  · exact State.sameButBells_enterBroken ..
  · rfl

theorem State.sameButBells_holdBell (s : State) (w : BellWord) (x : Ticks) : s.SameButBells (s.holdBell w x) := by
  have hlate : ∀ (y : State) (b : PendingBell), y.SameButBells (y.countLate.keepBell b) := fun _ _ => rfl
  unfold State.holdBell
  extract_lets b
  split
  · rfl
  · split
    · split
      · exact hlate s _
      · exact (hlate s (b.turnLate s.truss.latePolicy x)).trans (State.sameButBells_lateBreak _)
    · split <;> rfl

theorem State.sameButBells_raiseBell (s : State) (k : Nat) (p : Byte) (o : Ticks) (a b : Nat) (x : Ticks) :
    s.SameButBells (s.raiseBell k p o a b x) := by
  have hnoted : ∀ t : Truss, s.SameButBells { s with truss := t } := fun _ => rfl
  unfold State.raiseBell
  split
  · unfold State.admitBell
    exact ((hnoted _).trans (State.sameButBells_forwardBell _ _ _)).trans (State.sameButBells_holdBell _ _ _)
  · exact hnoted _

/-- What the raising of a bell leaves of the truss, ECLK running. -/
theorem State.raises_raised {s : State} (he : s.eclk.stopped = false) {number : Nat} (hn : number < 256) (p : Byte) (o : Ticks)
    (source i : Nat) (x : Ticks) : s.Raises (s.raiseBell number p o source i x) (s.bellWord 0 number p o source i) x := by
  have hnum : (s.bellWord 0 number p o source i).number.toNat = number := by
    show (BitVec.ofNat 8 number).toNat = number
    rw [BitVec.toNat_ofNat]
    omega
  have horigin : (s.bellWord 0 number p o source i).origin = o := rfl
  unfold State.Raises State.raiseBell
  rw [hnum, horigin]
  constructor
  · intro hno
    rw [hno]
    exact ⟨rfl, rfl, rfl⟩
  · intro hyes hlate hslow
    obtain ⟨-, htruss, hout, hlane⟩ := State.admits_admitBell he number p o source i x rfl hlate hslow
    rw [hyes, if_pos rfl]
    exact ⟨htruss, hout, hlane⟩

/-- What the raising of a bell says of the state after it lies in its truss, its lanes and what it has sent. -/
theorem State.Raises.after {s z z' : State} {w : BellWord} {x : Ticks} (h : s.Raises z w x) (ht : z'.truss = z.truss)
    (ho : z'.out = z.out) (hl : z'.lanes = z.lanes) : s.Raises z' w x := by
  have hlane : ∀ l, z'.lane l = z.lane l := fun l => by unfold State.lane; rw [hl]
  obtain ⟨hrefused, hraised⟩ := h
  refine ⟨fun hno => ?_, fun hyes hlate hslow => ?_⟩
  · rw [ht, ho, hl]
    exact hrefused hno
  · rw [ht, ho]
    obtain ⟨h1, h2, h3⟩ := hraised hyes hlate hslow
    exact ⟨h1, h2, fun l => by rw [hlane]; exact h3 l⟩

/-- Nor does it depend on timetables, Joiners, memory, channels and the device's own records. -/
theorem State.Raises.before {s y z : State} {w : BellWord} {x : Ticks}
    (h : { y with
      tts := s.tts, joiners := s.joiners, evr := s.evr, mem := s.mem, chans := s.chans, card := s.card, sys := s.sys
      net := s.net } = s) (hr : y.Raises z w x) : s.Raises z w x := by
  have e := congrArg (fun v : State => v.Raises z w x) h
  exact cast e hr

/-! ## A timetable that faults (R75, R82) -/

/-- `x` is `s` after a record offered to the event ring (R75). -/
structure State.Posts (s x : State) (record : Bytes) : Prop where
  rest : { x with evr := s.evr, mem := s.mem, chans := s.chans, card := s.card, sys := s.sys, net := s.net } = s
  off : s.evr.enable = false → x = s
  evr : s.evr.enable = true →
    x.evr = if s.evrFull = true then { s.evr with dropped := s.evr.dropped + 1 } else { s.evr with head := s.evr.head + 1 }
  record : s.evr.enable = true → s.evrFull = false → ∀ a, cellAt x.mem.bytes a =
    if s.evrSlot ≤ a ∧ a < s.evrSlot + 32 then record[a - s.evrSlot]? else cellAt s.mem.bytes a
  bytes : s.evr.enable = false ∨ s.evrFull = true → x.mem.bytes = s.mem.bytes

theorem State.posts_postRecord (s : State) (a b c d e : Nat) : s.Posts (s.postRecord a b c d e) (s.recordBytes a b c d e) := by
  unfold State.postRecord
  cases hen : s.evr.enable with
  | false =>
    rw [if_pos (by decide)]
    exact ⟨rfl, fun _ => rfl, fun h => (by rw [hen] at h; cases h), fun h => (by rw [hen] at h; cases h), fun _ => rfl⟩
  | true =>
    rw [if_neg (by decide)]
    cases hfull : s.evrFull with
    | true =>
      rw [if_pos rfl]
      exact ⟨rfl, fun h => (by rw [hen] at h; cases h), fun _ => (by rw [if_pos hfull]),
        fun _ h => (by rw [hfull] at h; cases h), fun _ => rfl⟩
    | false =>
      rw [if_neg (by decide)]
      obtain ⟨hrest, hevr, hbytes, -⟩ := s.records_writeRecord a b c d e
      refine ⟨hrest, fun h => (by rw [hen] at h; cases h), fun _ => (by rw [if_neg (by rw [hfull]; decide)]; exact hevr),
        fun _ _ => hbytes, fun h => ?_⟩
      rw [hen, hfull] at h
      rcases h with h | h <;> cases h

/-- The timetable after a trap. -/
theorem State.trapTt_own (s : State) (i k : Nat) (f : Fetched) (c : TrapCause) (code : Nat) :
    (s.trapTt i f c code).tt k = if i = k then (s.tt i).faulted c.code code f else s.tt k := s.trapTt_tt i k f c code

/-- What a trap does after the timetable has faulted. -/
structure State.Traps (s x : State) (i c code : Nat) (f : Fetched) : Prop where
  rest : { x with
    evr := s.evr, mem := s.mem, chans := s.chans, card := s.card, sys := s.sys, net := s.net, truss := s.truss
    lanes := s.lanes, out := s.out } = s
  silent : s.evr.enable = false → bitOf (s.tt i).faultCfg.toNat 0 = false → bitOf (s.tt i).faultCfg.toNat 16 = false → x = s
  posted : s.evr.enable = true →
    x.evr = if s.evrFull = true then { s.evr with dropped := s.evr.dropped + 1 } else { s.evr with head := s.evr.head + 1 }
  rung : bitOf (s.tt i).faultCfg.toNat 0 = true →
    s.Raises x (s.bellWord 0 (bits (s.tt i).faultCfg.toNat 15 8) (BitVec.ofNat 8 c) s.trussNow srcTtFault i) s.trussNow
  flushed : bitOf (s.tt i).faultCfg.toNat 16 = true → ∀ n ∈ (s.tt i).gang, (x.chan n).queue = []
  record : s.evr.enable = true → s.evrFull = false → ∀ a, cellAt x.mem.bytes a =
    if s.evrSlot ≤ a ∧ a < s.evrSlot + 32 then (s.faultRecord i c code f)[a - s.evrSlot]? else cellAt s.mem.bytes a
  bytes : s.evr.enable = false ∨ s.evrFull = true → x.mem.bytes = s.mem.bytes

theorem State.faultRecord_eq (s : State) (i c code : Nat) (f : Fetched) :
    s.recordBytes 1 i (c + code * 65536) f.pc f.word.toNat = s.faultRecord i c code f := by
  unfold State.recordBytes State.faultRecord
  rw [Nat.one_mul]

/-- Of a record offered, the timetables, the truss and what was sent see nothing. -/
theorem State.Posts.raises {s x z : State} {record : Bytes} (h : s.Posts x record) {number source i : Nat} {p : Byte}
    (hr : x.Raises z (x.bellWord 0 number p x.trussNow source i) x.trussNow) :
    s.Raises z (s.bellWord 0 number p s.trussNow source i) s.trussNow := by
  have hnow : x.trussNow = s.trussNow := by
    have e := congrArg State.trussNow h.rest
    exact e
  have hword : x.bellWord 0 number p s.trussNow source i = s.bellWord 0 number p s.trussNow source i := by
    have e := congrArg (fun v : State => v.bellWord 0 number p s.trussNow source i) h.rest
    exact e
  rw [hnow, hword] at hr
  refine State.Raises.before ?_ hr
  have htts : x.tts = s.tts := by
    have e := congrArg State.tts h.rest
    exact e
  have hjoiners : x.joiners = s.joiners := by
    have e := congrArg State.joiners h.rest
    exact e
  rw [← htts, ← hjoiners]
  exact h.rest

theorem State.traps_trapTt {s : State} {i : Nat} {f : Fetched} {c : TrapCause} {code : Nat} (he : s.eclk.stopped = false) :
    (s.modTt i fun v => v.faulted c.code code f).Traps (s.trapTt i f c code) i c.code code f := by
  unfold State.trapTt
  extract_lets s1 s2 cfg s3
  change s1.Traps _ i c.code code f
  have hpost : s1.Posts s2 (s1.faultRecord i c.code code f) := by
    rw [← State.faultRecord_eq]
    exact s1.posts_postRecord _ _ _ _ _
  have heclk : s2.eclk.stopped = false := by
    have e := congrArg (fun v : State => v.eclk.stopped) hpost.rest
    exact Eq.trans e he
  have hcfg : cfg = (s1.tt i).faultCfg.toNat := by
    have e := congrArg (fun v : State => (v.tt i).faultCfg.toNat) hpost.rest
    exact e
  have hgang : s3.tts = s1.tts → (s3.tt i).gang = (s1.tt i).gang := fun h => by unfold State.tt; rw [h]
  have hring : bitOf cfg 0 = true → s2.Raises s3
      (s2.bellWord 0 (bits cfg 15 8) (BitVec.ofNat 8 c.code) s2.trussNow srcTtFault i) s2.trussNow := fun h => by
    unfold s3
    rw [if_pos h]
    exact State.raises_raised heclk (Nat.mod_lt _ (by decide)) _ _ _ _ _
  have hbells : s2.SameButBells s3 := by
    unfold s3
    split
    · exact State.sameButBells_raiseBell ..
    · rfl
  have hquiet : bitOf cfg 0 = false → s3 = s2 := fun h => by
    unfold s3
    rw [if_neg (by rw [h]; decide)]
  have htts3 : s3.tts = s1.tts := by
    have e := congrArg State.tts hbells
    have g := congrArg State.tts hpost.rest
    exact Eq.trans e g
  obtain ⟨hflush, -, hplay, -⟩ := s3.flushes_forAll (s3.tt i).gang (gangOf_nodup _ _)
  have hlast : s3.OnPlay (if bitOf cfg 16 = true then s3.flushGang i else s3) := by
    split
    · exact hplay
    · exact s3.onPlay_refl
  have hflushed : bitOf cfg 16 = true → ∀ n ∈ (s1.tt i).gang,
      ((if bitOf cfg 16 = true then s3.flushGang i else s3).chan n).queue = [] := fun h n hn => by
    rw [if_pos h]
    exact (hflush n (by rw [hgang htts3]; exact hn)).queue
  have hstays : bitOf cfg 16 = false → (if bitOf cfg 16 = true then s3.flushGang i else s3) = s3 := fun h =>
    if_neg (by rw [h]; decide)
  generalize (if bitOf cfg 16 = true then s3.flushGang i else s3) = x at *
  rw [hcfg] at hring hquiet hflushed hstays
  clear_value s2 s3
  have hevr : x.evr = s2.evr := by
    have e := congrArg State.evr hlast.1
    have g := congrArg State.evr hbells
    exact Eq.trans e g
  have hbytes : x.mem.bytes = s2.mem.bytes := by
    have g := congrArg (fun v : State => v.mem.bytes) hbells
    exact hlast.2.1.trans g
  refine ⟨?_, fun hoff h0 h16 => ?_, fun hen => by rw [hevr]; exact hpost.evr hen, fun h => ?_, hflushed, fun hen hfull a => ?_,
    fun h => by rw [hbytes]; exact hpost.bytes h⟩
  · have e := congrArg (fun v : State => { v with
      evr := s1.evr, mem := s1.mem, chans := s1.chans, card := s1.card, sys := s1.sys, net := s1.net, truss := s1.truss
      lanes := s1.lanes, out := s1.out }) hlast.1
    have e' := congrArg (fun v : State => { v with
      evr := s1.evr, mem := s1.mem, chans := s1.chans, card := s1.card, sys := s1.sys, net := s1.net, truss := s1.truss
      lanes := s1.lanes, out := s1.out }) hbells
    have e'' := congrArg (fun v : State => { v with truss := s1.truss, lanes := s1.lanes, out := s1.out }) hpost.rest
    exact (Eq.trans e e').trans e''
  · rw [hstays h16, hquiet h0, hpost.off hoff]
  · have htruss := congrArg State.truss hlast.1
    have hout := congrArg State.out hlast.1
    have hlanes := congrArg State.lanes hlast.1
    exact (hpost.raises (hring h)).after htruss hout hlanes
  · rw [hbytes]
    exact hpost.record hen hfull a

/-- A trap of an issued instruction, seen at the end of its command. -/
theorem State.faults_trapTt {u : State} {i : Nat} {f : Fetched} {c : TrapCause} {code : Nat} (q : List Instr)
    (he : u.eclk.stopped = false) : u.Faults (((u.takeSlot i).trapTt i f c code).close q) i c.code code f := by
  obtain ⟨hrest, hsilent, hposted, hrung, hflushed, hrecord, hbytes⟩ :=
    State.traps_trapTt (s := u.takeSlot i) (i := i) (f := f) (c := c) (code := code) he
  have hown := fun k => (u.takeSlot i).trapTt_own i k f c code
  have htt : ((u.takeSlot i).modTt i fun v => v.faulted c.code code f).tt i = (u.tt i).faulted c.code code f :=
    State.tt_setTt_self _ _ _
  rw [htt] at hsilent hrung hflushed
  generalize (u.takeSlot i).trapTt i f c code = x at *
  refine ⟨?_, fun k hk => ?_, fun hen h0 h16 => ?_, fun hen => ?_, fun h => ?_, fun h n hn => ?_, fun hen hfull a => ?_, fun h => ?_⟩
  · rw [State.close_tt, hown, if_pos rfl]
    rfl
  · rw [State.close_tt, hown, if_neg (Ne.symm hk)]
    rfl
  · rw [hsilent hen h0 h16]
    exact State.sameButTt_of q (State.onlyTt_modTt _ i _)
  · rw [State.close_evr]
    exact hposted hen
  · have hr := (hrung h).after (z' := x.close q) (State.close_truss x q) (State.close_out x q) (State.close_lanes x q)
    exact State.Raises.before rfl hr
  · rw [State.close_chan]
    exact hflushed h n hn
  · rw [State.close_mem]
    exact hrecord hen hfull a
  · rw [State.close_mem]
    exact hbytes h

end Sys2Proof.Machine
end

section
/-! SUPPORT and proof of O6. Traps of instructions (03_joiners.md, R54, R76, R77, R82). -/

namespace Sys2Proof.Machine

/-! ## Traps of instructions (R54, R76, R77, R82): O6 -/

/-- The instructions with their opcodes (R77). -/
def issueRows (t : Nat) (tt : Fin 6144) : List (Instr × Nat) :=
  [(.nop t tt, 0x00), (.halt t tt, 0x01), (.yield t tt, 0x02), (.sleep t tt, 0x03), (.play t tt, 0x08),
    (.playn t tt, 0x09), (.playg t tt, 0x0A), (.strm t tt, 0x0B), (.loop t tt, 0x10), (.endl t tt, 0x11),
    (.brk t tt, 0x12), (.jmp t tt, 0x14), (.jcc t tt, 0x15), (.jbel t tt, 0x16), (.wbel t tt, 0x18), (.wtime t tt, 0x19),
    (.ring t tt, 0x1A), (.clrb t tt, 0x1B), (.post t tt, 0x3E), (.trap t tt, 0x3F), (.setf t tt, 0x20),
    (.setp t tt, 0x21), (.ramp t tt, 0x22), (.prst t tt, 0x23), (.mode t tt, 0x24), (.gain t tt, 0x25),
    (.offs t tt, 0x26), (.span t tt, 0x27), (.mark t tt, 0x28), (.trgo t tt, 0x29), (.esc t tt, 0x2A),
    (.gang t tt, 0x2C), (.li t tt, 0x30), (.add t tt, 0x31), (.sub t tt, 0x32), (.and t tt, 0x33), (.or t tt, 0x34),
    (.xor t tt, 0x35), (.shf t tt, 0x36), (.cmp t tt, 0x37), (.ld t tt, 0x38), (.st t tt, 0x39)]

/-- Each instruction issues under its opcode, with the effect of it. -/
theorem exec_issueRow (s : State) (t : Nat) (tt : Fin 6144) {p : Instr × Nat} (hp : p ∈ issueRows t tt) :
    exec p.1 s = event s t fun s => s.issue tt (· == p.2) (effOf p.2) := by
  have hrows : List.Forall (fun p : Instr × Nat => exec p.1 s = event s t fun s => s.issue tt (· == p.2) (effOf p.2))
      (issueRows t tt) := by
    unfold issueRows
    repeat' apply And.intro
    all_goals rfl
  exact List.forall_iff_forall_mem.1 hrows p hp

theorem State.running_of_issues {u : State} {i : Nat} (h : u.issues i = true) : u.eclk.stopped = false := by
  simp only [State.issues, Bool.and_eq_true, Bool.not_eq_true'] at h
  exact h.1.1.1

/-- An issued instruction whose effect is a trap. -/
theorem issue_faults {s u : State} {t i code : Nat} {f : Fetched} {c : TrapCause} {row : Nat → Bool} {instr : Instr}
    {eff : State → Nat → Fetched → Effect} (hu : u = s.advance t) (h : u.Issues i f) (hr : row f.opcode = true)
    (hc : exec instr s = event s t fun s => s.issue i row eff) (he : eff (u.takeSlot i) i f = .trap c code) :
    ∃ s', exec instr s = .next s' ∧ u.Faults s' i c.code code f := by
  rw [hc, event_issue s u t i f row eff hu h hr, he]
  exact ⟨_, rfl, State.faults_trapTt s.pending (State.running_of_issues h.turn)⟩

/-- An instruction issued under its own opcode, whose effect is a trap. -/
theorem opcode_faults {s u : State} {t i code op : Nat} {f : Fetched} {c : TrapCause} {instr : Instr} (hu : u = s.advance t)
    (h : u.Issues i f) (ho : f.opcode = op) (eff : State → Nat → Fetched → Effect)
    (hc : exec instr s = event s t fun s => s.issue i (· == op) eff) (he : eff (u.takeSlot i) i f = .trap c code) :
    ∃ s', exec instr s = .next s' ∧ u.Faults s' i c.code code f :=
  issue_faults (row := (· == op)) hu h (beq_iff_eq.2 ho) hc he

/-- An issue whose fetch fails. -/
theorem fetch_faults {s u : State} {t i : Nat} {f : Fetched} {c : TrapCause} {row : Nat → Bool} {instr : Instr}
    {eff : State → Nat → Fetched → Effect} (hu : u = s.advance t) (hstill : u.still = false) (hturn : u.issues i = true)
    (hfetch : u.fetch (i / 64) (u.tt i).pc = (f, some c)) (hc : exec instr s = event s t fun s => s.issue i row eff) :
    ∃ s', exec instr s = .next s' ∧ u.Faults s' i c.code 0 f := by
  rw [hc, event_next s t _ (by rw [← hu]; exact hstill), ← hu]
  unfold State.issue
  rw [if_pos hturn, hfetch]
  exact ⟨_, rfl, State.faults_trapTt s.pending (State.running_of_issues hturn)⟩

theorem State.fetch_pcRange {u : State} {j pc : Nat} (h : 32767 < pc) : ∃ g, u.fetch j pc = (g, some .pcRange) ∧ g.pc = pc := by
  unfold State.fetch
  exact ⟨_, if_pos h, rfl⟩

theorem State.fetch_codeUe {u : State} {j pc : Nat} (h : pc ≤ 32767) (hbad : (u.joiner j).codeBad u.cycle pc = true) :
    ∃ g, u.fetch j pc = (g, some .codeUe) ∧ g.pc = pc := by
  unfold State.fetch
  dsimp only
  rw [if_neg (Nat.not_lt.2 h), if_pos hbad]
  exact ⟨_, rfl, rfl⟩

/-! ### The conditions of the causes -/

@[simp] theorem need_false (e : Effect) : need false e = .trap .badOperand 0 := rfl

theorem jumpTo_out {s : State} {pc lat : Nat} (h : 32767 < pc) : jumpTo s pc lat = .trap .pcRange 0 := if_neg (Nat.not_le.2 h)

/-- A channel instruction of a gang whose queues have room, whose descriptor traps. -/
theorem gangOp_error {v : State} {i lat : Nat} {c : TrapCause} {mk : State → Except TrapCause Descriptor}
    (hg : (v.tt i).gang ≠ []) (hroom : ∀ n ∈ (v.tt i).gang, v.room n = true) (hmk : mk v = .error c) :
    gangOp v i lat (some mk) = .trap c 0 := by
  unfold gangOp
  rw [if_neg hg]
  dsimp only
  rw [if_pos (List.all_eq_true.2 hroom), hmk]

theorem memAddr_range {v : State} {i a : Nat} {f : Fetched} (hd : f.rd ≤ 15) (hr : f.ra ≤ 15)
    (ha : a = ((v.tt i).g f.ra).toNat + bits f.imm 13 0) (hs : bits f.imm 15 14 ≠ 2) (hw : spaceWords (bits f.imm 15 14) ≤ a) :
    memAddr v i f = .error .memRange := by
  simp only [memAddr, isReg_of_le hd, isReg_of_le hr, Bool.and_self, Bool.not_true, hs, decide_false, Bool.or_self,
    Bool.false_eq_true, if_false, ← ha, if_pos hw]

theorem gangValue_badOperand {v : State} {i : Nat} {w : Word} (h : bits w.toNat 15 6 ≠ 0) :
    gangValue v i w = .error .badOperand := if_pos (.inl h)

theorem gangValue_notLeader {v : State} {i : Nat} {w : Word} (h : bits w.toNat 15 6 = 0)
    (hin : ∀ n ∈ gangOf (bits w.toNat 5 0) (BitVec.ofNat 16 (w.toNat / 65536)), n ≤ 63)
    (hout : ∃ n ∈ gangOf (bits w.toNat 5 0) (BitVec.ofNat 16 (w.toNat / 65536)), (v.chan n).leader ≠ i) :
    gangValue v i w = .error .notLeader := by
  unfold gangValue
  dsimp only
  rw [if_neg, if_pos]
  · simp only [List.any_eq_true, decide_eq_true_eq]
    exact hout
  · rintro (e | e)
    · exact e h
    · simp only [List.any_eq_true, decide_eq_true_eq] at e
      obtain ⟨n, hn, e⟩ := e
      exact absurd (hin n hn) (Nat.not_le.2 e)

theorem effLd_error {v : State} {i : Nat} {f : Fetched} {c : TrapCause} (h : memAddr v i f = .error c) :
    effLd v i f = .trap c 0 := by
  unfold effLd
  rw [h]

theorem effSt_error {v : State} {i : Nat} {f : Fetched} {c : TrapCause} (h : memAddr v i f = .error c) :
    effSt v i f = .trap c 0 := by
  unfold effSt
  rw [h]

/-- WP_STAT and WP_SYNC take no store. -/
theorem effSt_readOnly {v : State} {i a : Nat} {f : Fetched} (hd : f.rd ≤ 15) (hr : f.ra ≤ 15) (hs : bits f.imm 15 14 = 3)
    (ha : a = ((v.tt i).g f.ra).toNat + bits f.imm 13 0) (hcase : a = 5 ∨ a = 6) : effSt v i f = .trap .badOperand 0 := by
  have hok := memAddr_eq (v := v) (i := i) hd hr ha (by rw [hs]; decide) (by rw [hs]; show a < 7; omega)
  unfold effSt
  rw [hok, hs]
  rcases hcase with rfl | rfl <;> rfl

/-- A store to WP_GO with staging registers out of range. -/
theorem effSt_badJob {v : State} {i : Nat} {f : Fetched} (hd : f.rd ≤ 15) (hr : f.ra ≤ 15) (hs : bits f.imm 15 14 = 3)
    (ha : ((v.tt i).g f.ra).toNat + bits f.imm 13 0 = 4)
    (hbad : (v.tt i).wpSrc.toNat % 4 ≠ 0 ∨ (v.tt i).wpLen.toNat < 1 ∨ 1024 < (v.tt i).wpLen.toNat ∨
      4096 < (v.tt i).wpSrc.toNat + 4 * (v.tt i).wpLen.toNat ∨ (v.tt i).wpDstLo.toNat % 16 ≠ 0 ∨
      hbmBytes < (v.tt i).wpDstHi.toNat * 2 ^ 32 + (v.tt i).wpDstLo.toNat + 16 * (v.tt i).wpLen.toNat) :
    effSt v i f = .trap .memRange 0 := by
  have hok := memAddr_eq (v := v) (i := i) hd hr ha.symm (by rw [hs]; decide) (by rw [hs]; decide)
  have hdst : (v.tt i).wpDstLo.toNat % 16 ≠ 0 → ((v.tt i).wpDstHi.toNat * 2 ^ 32 + (v.tt i).wpDstLo.toNat) % 16 ≠ 0 := by omega
  unfold effSt
  rw [hok, hs]
  refine if_pos ?_
  rcases hbad with h | h | h | h | h | h
  · exact .inl h
  · exact .inr (.inl h)
  · exact .inr (.inr (.inl h))
  · exact .inr (.inr (.inr (.inl h)))
  · exact .inr (.inr (.inr (.inr (.inl (hdst h)))))
  · exact .inr (.inr (.inr (.inr (.inr h))))

/-- WTIME on a bell that is listened to (R79). -/
theorem effWtime_bell {v : State} {i : Nat} {f : Fetched} (hd : f.rd ≤ 15) (hr : f.ra ≤ 15) (hi : f.imm = 1)
    (hl : (v.tt i).listen.getLsbD (((v.tt i).g f.rd).toNat % 256) = true) :
    effWtime v i f = gangOp v i 2 (some fun s =>
      if (s.tt i).arrivals.getLsbD (((v.tt i).g f.rd).toNat % 256) then
        .ok (gateDescriptor ((s.bellEntry i (((v.tt i).g f.rd).toNat % 256)).time + ((v.tt i).g f.ra).setWidth 64))
      else .error .noBellTime) := by
  unfold effWtime
  dsimp only
  rw [if_neg (by omega), decide_eq_true hi, isReg_of_le hd, isReg_of_le hr]
  exact listened_true _ hl

/-- STRM of a ring number that fits (R52). -/
theorem effStrm_eq {v : State} {i : Nat} {f : Fetched} (hd : f.rd = 0) (hi : f.imm = 0) (hr : f.ra ≤ 15)
    (hv : ((v.tt i).g f.ra).toNat < 256) :
    effStrm v i f = gangOp v i 2 (some fun s =>
      if (s.mem.ring ((v.tt i).g f.ra).toNat).valid then
        .ok { kind := .stream, base := BitVec.ofNat 27 ((v.tt i).g f.ra).toNat
              format := (s.mem.ring ((v.tt i).g f.ra).toNat).format, serial := s.serial }
      else .error .ringInvalid) := by
  unfold effStrm
  dsimp only
  rw [decide_eq_true ⟨hd, hi⟩, isReg_of_le hr, decide_eq_true hv]
  rfl

/-- A segment that is not valid, or overlaps a page on which no pin may be taken (R33, R34, R47). -/
theorem State.segDescriptor_error {v : State} {i : Nat} {e : SegEntry} (d : Descriptor)
    (he : e = oldIn v.mem.segsOld v.cycle v.mem.seg i) :
    (e.valid = false → v.segDescriptor i d = .error .segInvalid) ∧
    (e.valid = true → (∃ q ∈ v.mem.segPages e, (v.mem.page q).pinnable = false) → v.segDescriptor i d = .error .hallpass) := by
  unfold State.segDescriptor
  dsimp only
  rw [← he]
  constructor
  · intro hinvalid
    rw [if_pos (by rw [hinvalid]; rfl)]
  · intro hvalid hpage
    have hheld : (v.mem.segPages e).any (fun p => !(v.mem.page p).pinnable) = true := by
      simpa only [List.any_eq_true, Bool.not_eq_true'] using hpage
    rw [if_neg (by rw [hvalid]; decide), if_pos hheld]

theorem effPlay_eq {v : State} {i : Nat} {f : Fetched} (hd : f.rd = 0) (hr : f.ra = 0) :
    effPlay v i f = gangOp v i 2 (some fun s => s.segDescriptor f.imm { kind := .play, reps := 1 }) := by
  unfold effPlay
  rw [decide_eq_true ⟨hd, hr⟩]
  rfl

theorem effPlayn_eq {v : State} {i : Nat} {f : Fetched} (hd : f.rd = 0) (hr : f.ra ≤ 15) (hn : (v.tt i).g f.ra ≠ 0) :
    effPlayn v i f = gangOp v i 2 (some fun s => s.segDescriptor f.imm { kind := .play, reps := (v.tt i).g f.ra }) := by
  unfold effPlayn playOp
  rw [decide_eq_true hd, isReg_of_le hr, if_neg hn]
  rfl

theorem effPlayg_eq {v : State} {i : Nat} {f : Fetched} (hd : f.rd = 0) (hi : f.imm = 0) (hr : f.ra ≤ 15)
    (hv : ((v.tt i).g f.ra).toNat < 65536) :
    effPlayg v i f = gangOp v i 2 (some fun s => s.segDescriptor ((v.tt i).g f.ra).toNat { kind := .play, reps := 1 }) := by
  unfold effPlayg
  dsimp only
  rw [decide_eq_true ⟨hd, hi⟩, isReg_of_le hr, decide_eq_true hv]
  rfl

/-- ESC that arms (R97). -/
theorem effEsc_arm {v : State} {i : Nat} {f : Fetched} (hd : f.rd = 0) (hr : f.ra = 0) (he : f.ext.toNat < 256) :
    effEsc v i f = gangOp v i 3 (some fun s => s.segDescriptor f.imm { kind := .control, opc := 0x2A, arg0 := f.ext }) := by
  have hbit : bitOf f.ext.toNat 8 = false := by
    unfold bitOf
    rw [Nat.div_eq_of_lt (b := 2 ^ 8) he]
    rfl
  unfold effEsc
  dsimp only
  rw [decide_eq_true ⟨hd, hr, by omega⟩, hbit]
  rfl

/-- An instruction that copies a segment faults on one that is not valid, or whose pages no pin may be taken on. -/
theorem segment_faults {s u : State} {t i op seg lat : Nat} {f : Fetched} {e : SegEntry} {d : Descriptor} {instr : Instr}
    {eff : State → Nat → Fetched → Effect} (hu : u = s.advance t) (h : u.Issues i f) (ho : f.opcode = op)
    (hc : exec instr s = event s t fun s => s.issue i (· == op) eff)
    (heff : eff (u.takeSlot i) i f = gangOp (u.takeSlot i) i lat (some fun s => s.segDescriptor seg d))
    (hg : (u.tt i).gang ≠ []) (hroom : ∀ n ∈ (u.tt i).gang, u.room n = true)
    (he : e = oldIn u.mem.segsOld u.cycle u.mem.seg seg) :
    (e.valid = false → ∃ s', exec instr s = .next s' ∧ u.Faults s' i 0x08 0 f) ∧
    (e.valid = true → (∃ q ∈ u.mem.segPages e, (u.mem.page q).pinnable = false) →
      ∃ s', exec instr s = .next s' ∧ u.Faults s' i 0x09 0 f) := by
  obtain ⟨hinvalid, hheld⟩ := State.segDescriptor_error (v := u.takeSlot i) (i := seg) d he
  exact ⟨fun h0 => opcode_faults (c := .segInvalid) hu h ho eff hc (heff.trans (gangOp_error hg hroom (hinvalid h0))),
    fun h0 h1 => opcode_faults (c := .hallpass) hu h ho eff hc (heff.trans (gangOp_error hg hroom (hheld h0 h1)))⟩

/-- Settles O6: every trap goes through `State.faults_trapTt`; what remains is which instruction traps when. -/
theorem instructionTraps : Obligations.InstructionTraps := by
  unfold Obligations.InstructionTraps
  intro s u t tt f hu
  refine ⟨fun h ho hd ha => ?_, fun h ho hn => ?_, fun h ho => ?_, fun p hp => ?_, fun v a hv ha h => ?_,
    fun v e hv h hg hroom => ?_⟩
  · exact opcode_faults (c := .user) hu h ho effTrap rfl (by simp [effTrap, hd, ha])
  · exact opcode_faults (c := .badOperand) hu h ho effTrap rfl (by simp [effTrap, hn])
  · exact issue_faults (c := .rsvdOpcode) (row := undefinedOpcode) (eff := effRsvd) hu h ho rfl rfl
  · have hexec := exec_issueRow s t tt (p := p) (by unfold issueRows; exact hp)
    refine ⟨fun c code h ho he => opcode_faults hu h ho (effOf p.2) hexec he,
      fun c hstill hturn hfetch => fetch_faults hu hstill hturn hfetch hexec, fun hstill hturn hpc => ?_,
      fun hstill hturn hpc hbad => ?_⟩
    · obtain ⟨g, hfetch, hg⟩ := State.fetch_pcRange (u := u) (j := tt / 64) hpc
      obtain ⟨s', hs'⟩ := fetch_faults hu hstill hturn hfetch hexec
      exact ⟨s', g, hs'.1, hg, hs'.2⟩
    · obtain ⟨g, hfetch, hg⟩ := State.fetch_codeUe hpc hbad
      obtain ⟨s', hs'⟩ := fetch_faults hu hstill hturn hfetch hexec
      exact ⟨s', g, hs'.1, hg, hs'.2⟩
  · subst hv
    refine List.forall_iff_forall_mem.1 ⟨?_, ?_, ?_, ?_, ?_, ?_, ?_, ?_, ?_, ?_, ?_, ?_, ?_, ?_, ?_, ?_, ?_, ?_, ?_, ?_, ?_, ?_, ?_⟩
    all_goals intro ho
    · rintro ⟨hd, hc⟩
      exact opcode_faults (c := .badOperand) hu h ho effLoop rfl (by simp [effLoop, hd, hc])
    · rintro ⟨hd, ⟨c, hc, h0⟩, hl⟩
      exact opcode_faults (c := .loopOverflow) hu h ho effLoop rfl (by simp [effLoop, hd, hc, hl, show c ≠ 0#32 from h0])
    · rintro ⟨hd, hr, hi, hl⟩
      exact opcode_faults (c := .loopUnderflow) hu h ho effEndl rfl (by simp [effEndl, hd, hr, hi, hl])
    · rintro ⟨hd, hr, hl⟩
      exact opcode_faults (c := .loopUnderflow) hu h ho effBrk rfl (by simp [effBrk, hd, hr, hl])
    · rintro ⟨hd, hr, hl, hi⟩
      obtain ⟨l, ls, hcons⟩ := List.exists_cons_of_ne_nil hl
      exact opcode_faults (c := .pcRange) hu h ho effBrk rfl (by simp [effBrk, hd, hr, hcons, jumpTo_out hi])
    · rintro ⟨hd, hr, hi⟩
      exact opcode_faults (c := .pcRange) hu h ho effJmp rfl (by simp only [effJmp, hd, isReg_of_le hr, State.takeSlot_tt, jumpTo_out hi]; rfl)
    · rintro ⟨hr, hc, hi⟩
      exact opcode_faults (c := .pcRange) hu h ho effJcc rfl (by simp [effJcc, hr, hc, jumpTo_out hi])
    · rintro ⟨hd, hr, hl⟩
      exact opcode_faults (c := .bellNotListened) hu h ho effJbel rfl (by simp [effJbel, hd, isReg_of_le hr, listened, hl])
    · rintro ⟨hd, hr, hl, hb, hi⟩
      exact opcode_faults (c := .pcRange) hu h ho effJbel rfl (by simp [effJbel, hd, isReg_of_le hr, listened, hl, hb, jumpTo_out hi])
    · rintro ⟨hd, hr, hi, hl⟩
      obtain ⟨h15, h8⟩ := imm_bell hi
      exact opcode_faults (c := .bellNotListened) hu h ho effWbel rfl (by simp [effWbel, isReg_of_le hd, hr, h15, h8, listened, hl])
    · rintro ⟨hd, hr, hi, hl⟩
      exact opcode_faults (c := .bellNotListened) hu h ho effClrb rfl (by simp [effClrb, hd, isReg_of_le hr, hi, listened, hl])
    · rintro ⟨hd, hr, hi, hl⟩
      exact opcode_faults (c := .bellNotListened) hu h ho effWtime rfl (by simp [effWtime, isReg_of_le hd, isReg_of_le hr, hi, listened, hl])
    · rintro ⟨hd, hr, hi, hl, hg, hroom, hnone⟩
      exact opcode_faults (c := .noBellTime) hu h ho effWtime rfl (by
        rw [effWtime_bell (v := u.takeSlot tt) hd hr hi hl]
        exact gangOp_error hg hroom (if_neg (by rw [State.takeSlot_tt, hnone]; decide)))
    · rintro ⟨hd, hr, hi, hb⟩
      exact opcode_faults (c := .badOperand) hu h ho effGang rfl (by simp [effGang, hd, isReg_of_le hr, hi, gangValue_badOperand hb])
    · rintro ⟨hd, hr, hi, hb, hin, hout⟩
      exact opcode_faults (c := .notLeader) hu h ho effGang rfl (by
        simp [effGang, hd, isReg_of_le hr, hi, gangValue_notLeader (v := u.takeSlot tt) hb hin hout])
    · rintro ⟨hd, hr, hs, hw⟩
      exact opcode_faults (c := .memRange) hu h ho effLd rfl (effLd_error (memAddr_range (v := u.takeSlot tt) hd hr ha hs hw))
    · rintro ⟨hd, hr, hs, hw⟩
      exact opcode_faults (c := .memRange) hu h ho effSt rfl (effSt_error (memAddr_range (v := u.takeSlot tt) hd hr ha hs hw))
    · rintro ⟨hd, hr, hs, hcase⟩
      exact opcode_faults (c := .badOperand) hu h ho effSt rfl
        (effSt_readOnly (v := u.takeSlot tt) hd hr hs ha hcase)
    · rintro ⟨hd, hr, hs, h4, hbad⟩
      exact opcode_faults (c := .memRange) hu h ho effSt rfl
        (effSt_badJob (v := u.takeSlot tt) hd hr hs (ha.symm.trans h4) hbad)
    · rintro ⟨hd, hr, hi, hv⟩
      exact opcode_faults (c := .badOperand) hu h ho effPlayg rfl (by simp [effPlayg, hd, isReg_of_le hr, hi, Nat.not_lt.2 hv])
    · rintro ⟨hd, hr, hi, hv⟩
      exact opcode_faults (c := .badOperand) hu h ho effStrm rfl (by simp [effStrm, hd, isReg_of_le hr, hi, Nat.not_lt.2 hv])
    · rintro ⟨hd, hr, hi, hv⟩
      exact opcode_faults (c := .badOperand) hu h ho effSetf rfl (by simp [effSetf, hd, hr, hi, Nat.not_lt.2 hv])
    · rintro ⟨hd, hr, hi, hv, hg, hroom, hring⟩
      exact opcode_faults (c := .ringInvalid) hu h ho effStrm rfl (by
        rw [effStrm_eq (v := u.takeSlot tt) hd hi hr hv]
        exact gangOp_error hg hroom (if_neg (by rw [State.takeSlot_mem, State.takeSlot_tt, hring]; decide)))
  · subst hv
    refine List.forall_iff_forall_mem.1 ⟨?_, ?_, ?_, ?_⟩
    all_goals intro ho
    · rintro ⟨hd, hr⟩ he
      exact segment_faults (eff := effPlay) hu h ho rfl (effPlay_eq hd hr) hg hroom he
    · rintro ⟨hd, hr, hn⟩ he
      exact segment_faults (eff := effPlayn) hu h ho rfl (effPlayn_eq (v := u.takeSlot tt) hd hr hn) hg hroom he
    · rintro ⟨hd, hr, hi, hv⟩ he
      exact segment_faults (eff := effPlayg) hu h ho rfl (effPlayg_eq (v := u.takeSlot tt) hd hi hr hv) hg hroom he
    · rintro ⟨hd, hr, hx⟩ he
      exact segment_faults (eff := effEsc) hu h ho rfl (effEsc_arm hd hr hx) hg hroom he

end Sys2Proof.Machine
end

section
/-! Refutation of O9: a segment over the edge of an empty bulk window (02_segment_memory.md, R44, R47). -/

namespace Sys2Proof.Machine

/-! ## A segment over the edge of an empty bulk window (R44, R47): O9 -/

/-- A device whose bulk window is empty and begins inside segment 0, page 0 of which is DEVICE. -/
def segmentOverEmptyWindow : State :=
  { mem := { bulkBase := 1, bulkPages := 0, pages := [(0, { pass := .device })], segs := [(0, { valid := true, lenG := 100000 })] } }

/-- The descriptor that copies the segment takes a pin on page 0, which the empty window does not hold. -/
theorem pins_segmentOverEmptyWindow : ∃ d, (segmentOverEmptyWindow.advance 0).segDescriptor 0 {} = .ok d ∧ d.pins = [0] := by
  refine ⟨_, by unfold State.segDescriptor; rfl, ?_⟩
  decide +kernel

/-- Refutes O9: its last clause lacks the premise that the bulk window holds a page. Where BULK_PAGES is 0 and the window's
base lies inside a segment, `SegMem.pagesOf` names page 0 (0 - 1 is 0 in the natural numbers), and the copied descriptor
holds a pin on it. -/
theorem not_channelInstructions : ¬ Obligations.ChannelInstructions := by
  intro h
  obtain ⟨d, hd, hpins⟩ := pins_segmentOverEmptyWindow
  obtain ⟨-, -, -, hsegment⟩ := h segmentOverEmptyWindow _ 0 0 {} d rfl
  obtain ⟨-, -, -, -, -, -, -, -, -, hwindow⟩ := hsegment 0 {} _ rfl hd
  obtain ⟨hin, -⟩ := (hwindow 0).1 (by rw [hpins]; decide)
  exact absurd hin (by decide +kernel)

end Sys2Proof.Machine
end

section
/-! SUPPORT and proof of O27. Descriptors in order (04_timetable_playback.md, R67, R69, R90, R94) and the pins that
they give up. -/

namespace Sys2Proof.Machine

/-! ## Pins given up (R46, R47) -/

/-- Pages as they were give no pin up. -/
theorem State.givesUp_nothing {s s' : State} (h : s'.mem.pages = s.mem.pages) : s.GivesUp s' [] := by
  intro _ q
  rw [if_neg List.not_mem_nil]
  unfold SegMem.page
  rw [h]

theorem State.GivesUp.congr {s y x s' : State} {ps : List Nat} (h : y.GivesUp x ps) (hs : y.mem.pages = s.mem.pages)
    (hs' : s'.mem.pages = x.mem.pages) : s.GivesUp s' ps := by
  intro hn q
  have e := h hn q
  unfold SegMem.page at e ⊢
  rw [hs', ← hs]
  exact e

theorem State.GivesUp.close {s x : State} {ps : List Nat} (h : s.GivesUp x ps) (q : List Instr) :
    s.GivesUp (x.close q) ps :=
  h.congr rfl (congrArg SegMem.pages (x.close_mem q))

theorem State.page_unpinAll_of_notMem (q : Nat) (b : Bool) (ps : List Nat) (h : q ∉ ps) : ∀ s : State,
    (s.unpinAll ps b).mem.page q = s.mem.page q := by
  induction ps with
  | nil => exact fun _ => rfl
  | cons p r ih =>
    intro s
    obtain ⟨hp, hr⟩ := not_or.1 (mt List.mem_cons.2 h)
    exact (ih hr _).trans ((s.page_modPage p q _).trans (if_neg (Ne.symm hp)))

theorem State.page_unpinAll_of_mem (q : Nat) (b : Bool) (ps : List Nat) (hn : ps.Nodup) (h : q ∈ ps) : ∀ s : State,
    (s.unpinAll ps b).mem.page q = (s.mem.page q).unpin b := by
  induction ps with
  | nil => exact absurd h List.not_mem_nil
  | cons p r ih =>
    intro s
    obtain ⟨hp, hr⟩ := List.nodup_cons.1 hn
    rcases List.mem_cons.1 h with rfl | hq
    · exact ((s.modPage q (Page.unpin b)).page_unpinAll_of_notMem q b r hp).trans
        ((s.page_modPage q q _).trans (if_pos rfl))
    · have hne : p ≠ q := fun e => hp (e ▸ hq)
      exact (ih hr hq (s.modPage p (Page.unpin b))).trans (congrArg _ ((s.page_modPage p q _).trans (if_neg hne)))

/-- A page of a descriptor that ends, not a stream's of its own. -/
theorem Page.unpin_false (p : Page) : p.unpin false =
    if p.pins ≤ 1 then { p with pins := 0, pass := if p.played = true then .free else .device, played := false }
    else { p with pins := p.pins - 1 } := rfl

theorem State.givesUp_unpinAll (s : State) (ps : List Nat) : s.GivesUp (s.unpinAll ps false) ps := by
  intro hn q
  split
  · next h => rw [State.page_unpinAll_of_mem q false ps hn h, Page.unpin_false]
  · next h => exact State.page_unpinAll_of_notMem q false ps h s

/-! ## The grid of a channel -/

theorem State.OnChan.boundaryFs {s x : State} {m : Nat} (h : s.OnChan x m) (n k : Nat) :
    x.boundaryFs n k = s.boundaryFs n k := by
  have e := congrArg (fun z : State => z.boundaryFs n k) h.1
  exact e

/-- A command's close leaves what its happening left. -/
theorem State.OnChan.graft_close {u x : State} {n : Nat} (h : u.OnChan x n) (q : List Instr) :
    u.OnChan (u.graft (x.close q)) n := by
  obtain ⟨hrest, hchans, hbytes, hsegs, hevents⟩ := h
  refine ⟨?_, fun m hm => ?_, ?_, ?_, ?_⟩
  · obtain ⟨d, hd⟩ := x.close_eq q
    rw [hd]
    exact congrArg (fun z : State => { z with pending := u.pending }) hrest
  · exact (x.close_chan q m).trans (hchans m hm)
  · exact (congrArg SegMem.bytes (x.close_mem q)).trans hbytes
  · exact (congrArg SegMem.segs (x.close_mem q)).trans hsegs
  · exact (congrArg SegMem.events (x.close_mem q)).trans hevents

/-! ## A happening of a channel that no escape comes before (R99, R116) -/

theorem State.Plays.reached_eq {s : State} {n k : Nat} (h : s.Plays n k) : s.reached n k = true := by
  obtain ⟨-, htaking, hk⟩ := h
  unfold State.reached
  rw [(Bool.and_eq_true_iff.1 htaking).2, decide_eq_true hk]
  rfl

theorem State.NoFiring.fires_eq {s : State} {n k : Nat} (h : s.NoFiring n k) : s.fires n k = false := by
  unfold State.fires
  split
  · next j e hj => rw [decide_eq_false (Nat.not_le.2 (h j e hj)), Bool.and_false, Bool.false_and]
  · rfl

theorem State.NoFiring.afterFiring_eq {s : State} {n k : Nat} (h : s.NoFiring n k) (f : State → State) :
    s.afterFiring n k f = f s := by
  unfold State.afterFiring
  rw [if_neg (by rw [h.fires_eq]; exact Bool.false_ne_true)]

theorem State.NoFiring.atEnd_eq {s : State} {n k : Nat} (h : s.NoFiring n k)
    (hend : s.activityEnd n (s.chan n).act = some k) (f : State → State) : s.atEnd n f = f s := by
  unfold State.atEnd
  rw [hend]
  exact h.afterFiring_eq f

/-! ## A GAP that follows in time (R90) -/

/-- CONTROL descriptors stand before no head of another kind. -/
theorem State.controlsAt_eq {s : State} {n : Nat} {d : Descriptor} {r : List Descriptor} (hq : (s.chan n).queue = d :: r)
    (hd : d.kind ≠ .control) (k : Nat) : s.controlsAt n k = s := by
  unfold State.controlsAt State.applyControls
  rw [hq]
  exact if_neg fun h => hd h.1

theorem State.controlsAt_empty {s : State} {n : Nat} (hq : (s.chan n).queue = []) (k : Nat) : s.controlsAt n k = s := by
  unfold State.controlsAt State.applyControls
  rw [hq]

theorem State.follows_gap {s : State} {n k : Nat} {g : Descriptor} (h : s.GapFollows n k g) : s.follows n k g = true := by
  obtain ⟨hkind, hvisible, hat⟩ := h
  unfold State.follows
  rw [hkind, hvisible]
  exact decide_eq_true hat

/-- What the channel was on has ended at boundary `k`: it is idle. -/
def Channel.idleAt (k : Nat) (c : Channel) : Channel := { c with act := .idle, idleFrom := k, events := [] }

theorem State.followAt_gap {s : State} {n k : Nat} {g : Descriptor} {r : List Descriptor}
    (hq : (s.chan n).queue = g :: r) (h : s.GapFollows n k g) (gate : Bool) :
    s.followAt n k gate = (s.modChan n (Channel.idleAt k)).beginHead n k g := by
  have hkind : g.kind = .gap := h.1
  have hq' : ((s.modChan n (Channel.idleAt k)).chan n).queue = g :: r := by rw [State.chan_modChan_self]; exact hq
  have hcontrols := State.controlsAt_eq hq' (by rw [hkind]; decide) k
  have hfollows : (s.modChan n (Channel.idleAt k)).follows n k g = true := State.follows_gap h
  unfold State.followAt State.follow
  change (s.modChan n fun c => { c with act := .idle, idleFrom := k, events := [] }).controlsAt n k = _ at hcontrols
  dsimp only
  rw [hcontrols, hq']
  dsimp only
  rw [if_pos hfollows, hkind]

theorem State.followAt_empty {s : State} {n : Nat} (hq : (s.chan n).queue = []) (k : Nat) (gate : Bool) :
    s.followAt n k gate = (s.modChan n (Channel.idleAt k)).modChan n fun c =>
      { c.endPlayback with gateOpened := if gate then some k else none } := by
  have hq' : ((s.modChan n (Channel.idleAt k)).chan n).queue = [] := by rw [State.chan_modChan_self]; exact hq
  have hcontrols := State.controlsAt_empty hq' k
  unfold State.followAt State.follow
  change (s.modChan n fun c => { c with act := .idle, idleFrom := k, events := [] }).controlsAt n k = _ at hcontrols
  dsimp only
  rw [hcontrols, hq']

/-- A GAP at the head begins at boundary `k`. -/
theorem State.beginHead_gap (s : State) (n k : Nat) {g : Descriptor} (h : g.kind = .gap) : s.beginHead n k g =
    ((s.popHead n k).modChan n fun c => { c.leavePark with gateOpened := none, emptied := false }).modChan n fun c =>
      { c with act := .gap g k, events := [] } := by
  have hlate : decide (DKind.gap = .play ∨ DKind.gap = .stream) = false := by decide
  unfold State.beginHead
  rw [h]
  dsimp only
  rw [hlate, Bool.and_false]
  rfl

/-! ## Ends (R47, R90, R94) -/

/-- `y` is `s` where what channel `n` was on has ended and given up its pins `ps`: its queue and its counts of playback
stand. -/
structure State.EndsWith (s y : State) (n : Nat) (ps : List Nat) : Prop where
  onChan : s.OnChan y n
  queue : (y.chan n).queue = (s.chan n).queue
  empties : (y.chan n).empties = (s.chan n).empties
  pages : s.GivesUp y ps

theorem Channel.KeepsPlan.empties {c c' : Channel} (h : c.KeepsPlan c') : c'.empties = c.empties := by
  have e := congrArg Channel.empties h; exact e

theorem State.endsWith_syncTo (s : State) (n k : Nat) : s.EndsWith (s.syncTo n k) n [] :=
  ⟨s.onChan_syncTo n k, (s.keepsPlan_syncTo n k n).queue, (s.keepsPlan_syncTo n k n).empties,
    State.givesUp_nothing (s.mem_syncTo n k).2.1⟩

theorem State.EndsWith.segmentEdge {s y : State} {n : Nat} {ps : List Nat} (h : s.EndsWith y n ps) (k : Nat) :
    s.EndsWith (y.segmentEdge n k) n ps := by
  obtain ⟨hon, hqueue, hempties, hpages⟩ := h
  have hedge := y.chan_segmentEdge n k
  have hq := congrArg Channel.queue hedge
  have he := congrArg Channel.empties hedge
  exact ⟨hon.trans (y.onChan_segmentEdge n k), hq.trans hqueue, he.trans hempties, hpages.congr rfl rfl⟩

/-- What a descriptor held is given up where it ends, a segment boundary where it played. -/
theorem State.endsWith_release (s : State) (n k : Nat) {a : Activity} (ha : s.EndsWith (s.syncTo n k) n [])
    (hrel : ∀ y : State, y.release a = y.unpinAll a.pins false) :
    s.EndsWith (((s.syncTo n k).release a).when a.isSegment fun s => s.segmentEdge n k) n a.pins := by
  have hfree : s.EndsWith ((s.syncTo n k).unpinAll a.pins false) n a.pins := by
    have hchan := State.chan_congr ((s.syncTo n k).unpinAll_chans a.pins false) n
    exact ⟨ha.onChan.trans (State.onChan_unpinAll _ n _ _), (congrArg Channel.queue hchan).trans ha.queue,
      (congrArg Channel.empties hchan).trans ha.empties,
      (State.givesUp_unpinAll _ a.pins).congr (s.mem_syncTo n k).2.1 rfl⟩
  rw [hrel]
  unfold State.when
  split
  · exact hfree.segmentEdge k
  · exact hfree

/-- Channel `n` is on GAP `g` from boundary `k` on, and behind it in the queue stand `r`. -/
structure State.GoesOnWith (s x : State) (n k : Nat) (g : Descriptor) (r : List Descriptor) (ps : List Nat) : Prop where
  onChan : s.OnChan x n
  act : (x.chan n).act = .gap g k
  queue : (x.chan n).queue = r
  pages : s.GivesUp x ps

theorem State.EndsWith.follow_gap {s y : State} {n k : Nat} {ps : List Nat} {g : Descriptor} {r : List Descriptor}
    (h : s.EndsWith y n ps) (hq : (s.chan n).queue = g :: r) (hg : s.GapFollows n k g) (gate : Bool) :
    s.GoesOnWith (y.followAt n k gate) n k g r ps := by
  obtain ⟨hon, hqueue, -, hpages⟩ := h
  obtain ⟨hkind, hvisible, hat⟩ := hg
  have hfollow := hon.trans (y.onChan_followAt n k gate)
  have hy : (y.chan n).queue = g :: r := hqueue.trans hq
  rw [State.followAt_gap hy ⟨hkind, hvisible, by rw [hon.boundaryFs]; exact hat⟩, State.beginHead_gap _ n k hkind]
    at hfollow ⊢
  refine ⟨hfollow, ?_, ?_, hpages.congr rfl rfl⟩
  · rw [State.chan_modChan_self]
  · unfold State.popHead
    simp only [State.chan_modChan_self, Channel.idleAt, Channel.leavePark, hy, List.drop_succ_cons, List.drop_zero]

/-- Playback of channel `n` ended at boundary `k` on an empty queue (R90). -/
structure State.Empties (s x : State) (n k : Nat) (ps : List Nat) : Prop where
  onChan : s.OnChan x n
  act : (x.chan n).act = .idle
  idleFrom : (x.chan n).idleFrom = k
  emptied : (x.chan n).emptied = true
  empties : (x.chan n).empties = (s.chan n).empties + 1
  queue : (x.chan n).queue = []
  pages : s.GivesUp x ps

theorem State.EndsWith.follow_empty {s y : State} {n : Nat} {ps : List Nat} (h : s.EndsWith y n ps)
    (hq : (s.chan n).queue = []) (k : Nat) (gate : Bool) : s.Empties (y.followAt n k gate) n k ps := by
  obtain ⟨hon, hqueue, hempties, hpages⟩ := h
  have hfollow := hon.trans (y.onChan_followAt n k gate)
  have hy : (y.chan n).queue = [] := hqueue.trans hq
  rw [State.followAt_empty hy] at hfollow ⊢
  refine ⟨hfollow, ?_, ?_, ?_, ?_, ?_, hpages.congr rfl rfl⟩
  all_goals simp only [State.chan_modChan_self, Channel.idleAt, Channel.endPlayback, Channel.pbSet]
  · rw [hempties]
  · exact hy

/-! ## The happenings of a channel's queue (R69, R90, R94) -/

/-- A GAP, or a PLAY in its last repetition, ends: its pins are given up and what follows comes at the same boundary. -/
theorem opDescriptorEnd_eq {u : State} {n k : Nat} {a : Activity} (hp : u.Plays n k) (hf : u.NoFiring n k)
    (ha : (u.chan n).act = a) (hend : u.activityEnd n a = some k)
    (hwhole : (∃ d k0, a = .gap d k0) ∨ ∃ d k0 left h, a = .play d k0 left h ∧ left ≤ 1) :
    ∃ y, u.EndsWith y n a.pins ∧ opDescriptorEnd u n = y.followAt n k false := by
  refine ⟨((u.syncTo n k).release a).when a.isSegment fun s => s.segmentEdge n k, ?_, ?_⟩
  · refine u.endsWith_release n k (u.endsWith_syncTo n k) fun y => ?_
    rcases hwhole with ⟨d, k0, rfl⟩ | ⟨d, k0, left, h, rfl, -⟩ <;> rfl
  · have hact : ((u.syncTo n k).chan n).act = a := by
      rw [State.act_syncTo _ k, ha]
      rw [ha]
      rcases hwhole with ⟨d, k0, rfl⟩ | ⟨d, k0, left, h, rfl, -⟩ <;> exact fun _ _ _ e => by cases e
    unfold opDescriptorEnd
    rw [hf.atEnd_eq (by rw [ha]; exact hend)]
    unfold endDescriptor
    rw [ha]
    dsimp only
    rw [hend]
    dsimp only
    rw [hp.taking, hp.reached_eq]
    rcases hwhole with ⟨d, k0, rfl⟩ | ⟨d, k0, left, h, rfl, hleft⟩
    · simp only [hact, Bool.and_self, if_true]
    · simp only [hact, hleft, decide_true, Bool.and_self, if_true]

theorem opTimegateOpen_eq {u : State} {n k k0 : Nat} {d : Descriptor} (hp : u.Plays n k) (hf : u.NoFiring n k)
    (ha : (u.chan n).act = .gate d k0) (hk : k = max k0 (u.boundaryOfTicks n d.gateTime)) :
    opTimegateOpen u n = (u.syncTo n k).followAt n k true := by
  unfold opTimegateOpen
  rw [hf.atEnd_eq (by rw [ha, hk]; rfl)]
  unfold openGate
  rw [ha]
  dsimp only
  rw [← hk, hp.taking, hp.reached_eq]
  rfl

/-- Channel `n` begins a repetition of PLAY `d` at boundary `k`, `left` of them to come, this one included (R38, R69). -/
structure State.Repeats (s x : State) (n k left : Nat) (d : Descriptor) : Prop where
  onChan : s.OnChan x n
  act : (x.chan n).act = .play d k left (s.chanAt n k).vals.hold
  events : (x.chan n).events = d.activeEvents
  pages : s.GivesUp x []

theorem opRepetitionEnd_repeats {u : State} {n k k0 left h : Nat} {d : Descriptor} (hp : u.Plays n k) (hf : u.NoFiring n k)
    (ha : (u.chan n).act = .play d k0 left h) (hk : k = k0 + d.lenG.toNat * h) (hleft : 1 < left) :
    u.Repeats (opRepetitionEnd u n) n k (left - 1) d ∧ ((opRepetitionEnd u n).chan n).queue = (u.chan n).queue := by
  have hop : opRepetitionEnd u n = ((u.syncTo n k).modChan n fun c =>
      ({ c with act := .play d k (left - 1) c.vals.hold }).beginPlay d k c.vals.hold).segmentEdge n k := by
    unfold opRepetitionEnd
    rw [hf.atEnd_eq (by rw [ha, hk]; rfl)]
    unfold endRepetition
    rw [ha]
    dsimp only
    rw [← hk, if_pos ⟨hleft, hp.taking, hp.reached_eq⟩]
  have hon : u.OnChan (opRepetitionEnd u n) n := by
    rw [hop]
    exact ((u.onChan_syncTo n k).modChan _).trans (State.onChan_segmentEdge _ n k)
  have hedge := State.chan_segmentEdge ((u.syncTo n k).modChan n fun c =>
    ({ c with act := .play d k (left - 1) c.vals.hold }).beginPlay d k c.vals.hold) n k
  rw [← hop, State.chan_modChan_self] at hedge
  have hact := congrArg Channel.act hedge
  have hevents := congrArg Channel.events hedge
  have hqueue := congrArg Channel.queue hedge
  exact ⟨⟨hon, hact, hevents, State.givesUp_nothing (by rw [hop]; exact (u.mem_syncTo n k).2.1)⟩,
    hqueue.trans (u.keepsPlan_syncTo n k n).queue⟩

/-- Channel `n` is on PLAY `d`, which stood at the head, from boundary `k` on with all its repetitions. -/
structure State.BeginsPlay (s x : State) (n k : Nat) (d : Descriptor) : Prop where
  act : (x.chan n).act = .play d k d.reps.toNat (s.chan n).vals.hold
  events : (x.chan n).events = d.activeEvents
  queue : (x.chan n).queue = (s.chan n).queue.drop 1
  begun : (x.chan n).begun = true
  emptied : (x.chan n).emptied = false
  mem : x.mem = s.mem

theorem State.beginsPlay_beginHead (s : State) (n k : Nat) {d : Descriptor} (h : d.kind = .play)
    (hesc : d.underrunEsc = false) : s.BeginsPlay (s.beginHead n k d) n k d := by
  unfold State.beginHead
  extract_lets late y
  have hy : (y.chan n).vals = (s.chan n).vals ∧ (y.chan n).queue = (s.chan n).queue.drop 1 ∧ (y.chan n).begun = true ∧
      (y.chan n).emptied = false := by
    unfold y State.popHead
    rw [State.chan_modChan_self, State.chan_modChan_self]
    cases late <;> exact ⟨rfl, rfl, rfl, rfl⟩
  have hmem : y.mem = s.mem := rfl
  clear_value y
  obtain ⟨hvals, hqueue, hbegun, hemptied⟩ := hy
  simp only [h, hesc, Bool.false_eq_true, if_false]
  have hedge := State.chan_segmentEdge (y.modChan n fun c =>
    ({ c with act := .play d k d.reps.toNat c.vals.hold }).beginPlay d k c.vals.hold) n k
  rw [State.chan_modChan_self, hvals] at hedge
  have eact := congrArg Channel.act hedge
  have eevents := congrArg Channel.events hedge
  have equeue := congrArg Channel.queue hedge
  have ebegun := congrArg Channel.begun hedge
  have eemptied := congrArg Channel.emptied hedge
  exact ⟨eact, eevents, equeue.trans hqueue, ebegun.trans hbegun, eemptied.trans hemptied, hmem⟩

theorem opDescriptorStart_starts {u : State} {n k : Nat} {d : Descriptor} {r : List Descriptor} (hp : u.Plays n k)
    (hf : u.NoFiring n (u.boundaryNow n)) (ha : (u.chan n).act = .idle) (hq : (u.chan n).queue = d :: r)
    (hd : d.kind = .play) (hesc : d.underrunEsc = false) (hvisible : d.visible = true) (hk : k = u.idleStart n d) :
    u.Repeats (opDescriptorStart u n) n k d.reps.toNat d ∧ ((opDescriptorStart u n).chan n).queue = r ∧
      ((opDescriptorStart u n).chan n).begun = true ∧ ((opDescriptorStart u n).chan n).emptied = false := by
  have hop : opDescriptorStart u n = (u.syncTo n k).beginHead n k d := by
    have hcontrols : u.idleControls 64 n (u.boundaryNow n) = u := by
      unfold State.idleControls
      rw [hq]
      exact if_neg fun h => by rw [hd] at h; cases h.1
    have hknown : d.startKnown = true := by
      unfold Descriptor.startKnown
      rw [hvisible, hd]
      rfl
    have hcontrol : d.kind ≠ .control := by rw [hd]; decide
    have hgate : d.kind ≠ .timegate := by rw [hd]; decide
    unfold opDescriptorStart
    rw [if_pos ha, hf.afterFiring_eq]
    unfold startDescriptor
    rw [if_pos ⟨hp.taking, ha⟩, hcontrols]
    dsimp only
    rw [hq]
    dsimp only
    rw [← hk, if_pos ⟨hknown, hp.reached_eq, hcontrol⟩, if_neg fun h => hgate h.1]
  have hon : u.OnChan (opDescriptorStart u n) n := by
    rw [hop]
    exact (u.onChan_syncTo n k).trans (State.onChan_beginHead _ n k d)
  obtain ⟨hact, hevents, hqueue, hbegun, hemptied, hmem⟩ := (u.syncTo n k).beginsPlay_beginHead n k hd hesc
  rw [← hop] at hact hevents hqueue hbegun hemptied hmem
  refine ⟨⟨hon, hact, hevents, State.givesUp_nothing (by rw [hmem]; exact (u.mem_syncTo n k).2.1)⟩, ?_, hbegun, hemptied⟩
  rw [hqueue, (u.keepsPlan_syncTo n k n).queue, hq]
  rfl

/-! ## A descriptor becomes visible (R67, R97) -/

theorem Channel.showNext_eq (c : Channel) (x : Nat) {d : Descriptor} (hd : d.visible = false) (pre post : List Descriptor)
    (hpre : ∀ e ∈ pre, e.visible = true) : ∀ before : List Descriptor, ∃ fill,
    c.showNext x before (pre ++ d :: post) =
        before ++ pre ++ { d with visible := true, visibleAt := x, fillAt := fill } :: post ∧
      (d.arms = false → fill = none) := by
  induction pre with
  | nil =>
    intro before
    refine ⟨if d.arms && c.headFree before && !c.headIn d.segId x then some x else none, ?_, fun h => ?_⟩
    · rw [List.nil_append, List.append_nil]
      unfold Channel.showNext
      rw [if_neg (by rw [hd]; exact Bool.false_ne_true)]
    · rw [h]
      rfl
  | cons e r ih =>
    intro before
    obtain ⟨he, hr⟩ := List.forall_mem_cons.1 hpre
    obtain ⟨fill, hshow, hfill⟩ := ih hr (before ++ [e])
    refine ⟨fill, ?_, hfill⟩
    rw [List.cons_append]
    unfold Channel.showNext
    rw [if_pos he, hshow, List.append_assoc before, List.append_assoc before, List.singleton_append, List.append_assoc]

/-- The first descriptor that is not visible is the next to become so. -/
theorem find?_not_visible {d : Descriptor} (hd : d.visible = false) (pre post : List Descriptor)
    (hpre : ∀ e ∈ pre, e.visible = true) : (pre ++ d :: post).find? (fun d => !d.visible) = some d := by
  rw [List.find?_append, List.find?_eq_none.2 fun e he => by rw [hpre e he]; decide, Option.none_or,
    List.find?_cons_of_pos (by rw [hd]; rfl)]

/-- The head buffer's fill leaves the queue. -/
theorem State.queue_fillHead (s : State) (n : Nat) (d : Descriptor) (x : Nat) :
    ((s.fillHead n d x).chan n).queue = (s.chan n).queue := by
  have h : (s.fillHead n d x).chan n = (s.modChan n fun c => { c with head := some (d.headFrom x) }).chan n := rfl
  rw [h, State.chan_modChan_self]

theorem opDescriptorVisible_queue {u : State} {n : Nat} {d : Descriptor} {pre post : List Descriptor}
    (hq : (u.chan n).queue = pre ++ d :: post) (hpre : ∀ e ∈ pre, e.visible = true) (hd : d.visible = false)
    (hruns : u.clockRuns n = true) (hcrossed : u.crossed d = true) (hx : u.visibleFs n d ≤ u.now) :
    ∃ fill, ((opDescriptorVisible u n).chan n).queue =
        pre ++ { d with visible := true, visibleAt := u.visibleFs n d, fillAt := fill } :: post ∧
      (d.arms = false → fill = none) := by
  obtain ⟨fill, hshow, hfill⟩ := (u.chan n).showNext_eq (u.visibleFs n d) hd pre post hpre []
  refine ⟨fill, ?_, hfill⟩
  unfold opDescriptorVisible
  rw [hq, find?_not_visible hd pre post hpre]
  dsimp only
  rw [if_pos ⟨hruns, hcrossed, hx⟩, hshow, List.nil_append]
  split
  · rw [State.queue_fillHead, State.chan_modChan_self]
  · rw [State.chan_modChan_self]

/-- Settles O27: an escape that fires no earlier leaves each happening its own effect, and a channel brought to the
boundary keeps its queue, its activity and every page. -/
theorem descriptorsInOrder : Obligations.DescriptorsInOrder := by
  unfold Obligations.DescriptorsInOrder
  intro s u t n hu
  have hexec (f : State → Nat → State) (hstill : u.still = false) :
      event s t (fun s => f s n) = .next ((f u n).close s.pending) := by
    subst hu
    exact event_next s t _ hstill
  refine ⟨fun d pre post hstill hq hpre hd hruns hcrossed hx => ?_, fun d r k hp ha hq hd hesc hvisible hk hf => ?_,
    fun d k0 k hp ha hk hf => ⟨fun hq => ?_, fun g r hq hg => ?_⟩,
    fun d k0 left h k g r hp ha hk hf => ⟨fun hleft hq hg => ?_, fun hleft => ?_⟩,
    fun d k0 k g r hp ha hk hf hq hg => ?_⟩
  · refine ⟨_, hexec opDescriptorVisible hstill, (onChan_descriptorVisible u n).graft_close _, ?_⟩
    rw [State.close_chan]
    exact opDescriptorVisible_queue hq hpre hd hruns hcrossed hx
  · obtain ⟨⟨hon, hact, hevents, hpages⟩, hqueue, hbegun, hemptied⟩ :=
      opDescriptorStart_starts hp hf ha hq hd hesc hvisible hk
    refine ⟨_, hexec opDescriptorStart hp.clocked, hon.graft_close _, ?_⟩
    rw [State.close_chan]
    exact ⟨hact, hqueue, hbegun, hemptied, hevents, hpages.close _⟩
  · obtain ⟨y, hends, hop⟩ := opDescriptorEnd_eq hp hf ha (by rw [hk]; rfl) (.inl ⟨d, k0, rfl⟩)
    obtain ⟨hon, hact, hidle, hemptied, hempties, hqueue, hpages⟩ := hends.follow_empty hq k false
    rw [← hop] at hon hact hidle hemptied hempties hqueue hpages
    refine ⟨_, hexec opDescriptorEnd hp.clocked, hon.graft_close _, ?_⟩
    rw [State.close_chan]
    exact ⟨hact, hidle, hemptied, hempties, hqueue, hpages.close _⟩
  · obtain ⟨y, hends, hop⟩ := opDescriptorEnd_eq hp hf ha (by rw [hk]; rfl) (.inl ⟨d, k0, rfl⟩)
    obtain ⟨hon, hact, hqueue, hpages⟩ := (hop ▸ hends.follow_gap hq hg false : u.GoesOnWith (opDescriptorEnd u n) ..)
    refine ⟨_, hexec opDescriptorEnd hp.clocked, hon.graft_close _, ?_⟩
    rw [State.close_chan]
    exact ⟨hact, hqueue, hpages.close _⟩
  · obtain ⟨y, hends, hop⟩ := opDescriptorEnd_eq hp hf ha (by rw [hk]; rfl) (.inr ⟨d, k0, left, h, rfl, hleft⟩)
    obtain ⟨hon, hact, hqueue, hpages⟩ := (hop ▸ hends.follow_gap hq hg false : u.GoesOnWith (opDescriptorEnd u n) ..)
    refine ⟨_, hexec opDescriptorEnd hp.clocked, hon.graft_close _, ?_⟩
    rw [State.close_chan]
    exact ⟨hact, hqueue, hpages.close _⟩
  · obtain ⟨⟨hon, hact, hevents, hpages⟩, hqueue⟩ := opRepetitionEnd_repeats hp hf ha hk hleft
    refine ⟨_, hexec opRepetitionEnd hp.clocked, hon.graft_close _, ?_⟩
    rw [State.close_chan]
    exact ⟨hact, hqueue, hevents, hpages.close _⟩
  · obtain ⟨hon, hact, hqueue, -⟩ := (u.endsWith_syncTo n k).follow_gap hq hg true
    rw [← opTimegateOpen_eq hp hf ha hk] at hon hact hqueue
    refine ⟨_, hexec opTimegateOpen hp.clocked, hon.graft_close _, ?_⟩
    rw [State.close_chan]
    exact ⟨hact, hqueue⟩

end Sys2Proof.Machine
end

section
/-! SUPPORT and proof of O18. QUEUE_LIMIT and the room of a play queue (04_timetable_playback.md, R92). -/

namespace Sys2Proof.Machine

/-! ## QUEUE_LIMIT and the wait for room (R92): O18 -/

/-- A write of QUEUE_LIMIT in range sets the limit of the channel that PB_INDEX names. -/
theorem State.queueLimit_write {s u : State} {r : Req} {x : Session} {data : Bytes} {n v : Nat} (t : Nat)
    (hu : u = s.advance t) (hw : u.Writes r x 0x2300 0x2B data) (hl : data.length = 1) (hv : v = leNat data)
    (hn : n = x.sel.get 0x2300 0x28) (hrange : 1 ≤ v ∧ v ≤ 64) :
    ∃ s', s.hostWrite t r 0x2300 0x2B data = .next s' ∧ u.Replies s' (writeMsg r 0x2300 0x2B data) 0 [] ∧
      s'.chan n = { u.chan n with limit := v } ∧ (∀ m, m ≠ n → s'.chan m = u.chan m) ∧
      { u.graftReply s' with chans := u.chans } = u := by
  obtain ⟨hdone, -⟩ := State.hostWrite_num t (Entry.num 0x2300 0x2B .u8 .rw 64 0x28) hu (by decide) hw
    (by rw [hl]; decide) (fun e => by cases e) [rangeIf (decide (v < 1 ∨ 64 < v))]
    (fun y => y.modChan n fun c => { c with limit := v })
    (fun ss mb k => by rw [hn, hv]; rfl) (fun ss mb k => ⟨rfl, rfl, rfl, rfl, rfl⟩) (fun ss mb k => hw.parity)
  have hnamed : decide (v < 1 ∨ 64 < v) = false := decide_eq_false (by omega)
  obtain ⟨s', ss, mb, k, hexec, hreply, hs'⟩ := hdone (by rw [hnamed]; rfl)
  have hchan : ∀ m, s'.chan m = if n = m then { u.chan n with limit := v } else u.chan m := fun m => by
    have h := congrArg (fun z : State => z.chan m) hs'
    exact h.trans (State.chan_setChan _ n m _)
  refine ⟨s', hexec, hreply, by rw [hchan, if_pos rfl], fun m hm => by rw [hchan, if_neg (Ne.symm hm)], ?_⟩
  have h := congrArg (fun z : State => { z with chans := u.chans }) hs'
  exact h

theorem State.room_iff {s : State} (h : s.lockLost = false) (n : Nat) : s.room n = true ↔ s.depth n < (s.chan n).limit := by
  unfold State.room
  rw [h, Bool.not_false, Bool.and_true, decide_eq_true_iff]

/-- A wait for room counts in the queues without room and leaves what they hold. -/
theorem State.countWaits_queue (s : State) (ns : List Nat) (n : Nat) : ((s.countWaits ns).chan n).queue = (s.chan n).queue :=
  State.forAll_keeps (fun s => (s.chan n).queue) _ (fun s m => by
    rw [State.modChan_eq, State.chan_setChan]
    split
    · next h => rw [h]
    · rfl) _ s

theorem State.countWaits_tts (s : State) (ns : List Nat) : (s.countWaits ns).tts = s.tts :=
  State.forAll_keeps State.tts (fun s n => s.modChan n fun c => { c with fullWaits := c.fullWaits + 1 }) (fun _ _ => rfl) _ s

/-- A channel instruction of a gang that has a queue without room waits, whatever its descriptor would be. -/
theorem gangOp_waits {v : State} {i lat : Nat} (mk : State → Except TrapCause Descriptor)
    (hfull : ∃ n ∈ (v.tt i).gang, v.room n = false) : gangOp v i lat (some mk) = .wait .queue lat := by
  obtain ⟨n, hn, hroom⟩ := hfull
  have hgang : (v.tt i).gang ≠ [] := List.ne_nil_of_mem hn
  have hall : ¬ (v.tt i).gang.all v.room = true := fun h => by
    rw [List.all_eq_true.1 h n hn] at hroom
    cases hroom
  unfold gangOp
  dsimp only
  rw [if_neg hgang, if_neg hall]

/-- An issue that comes to a wait for room enqueues nothing. -/
theorem issue_waits_queue {s u : State} {t i lat : Nat} {f : Fetched} {row : Nat → Bool}
    {eff : State → Nat → Fetched → Effect} (hu : u = s.advance t) (h : u.Issues i f) (hr : row f.opcode = true)
    (he : eff (u.takeSlot i) i f = .wait .queue lat) :
    ∃ s', event s t (fun s => s.issue i row eff) = .next s' ∧ s'.tt i = (u.tt i).waitsAt .queue f (u.readyAfter lat) ∧
      ∀ n, (s'.chan n).queue = (u.chan n).queue := by
  have htt : ∀ ns, ((u.takeSlot i).countWaits ns).tt i = u.tt i := fun ns => by
    unfold State.tt
    rw [State.countWaits_tts]
    rfl
  rw [event_issue s u t i f row eff hu h hr, he]
  refine ⟨_, rfl, ?_, fun n => ?_⟩
  · rw [State.close_tt]
    refine (State.tt_setTt_self _ _ _).trans ?_
    exact congrArg (fun v : Timetable => v.waitsAt .queue f (u.readyAfter lat)) (htt _)
  · rw [State.close_chan]
    exact (u.takeSlot i).countWaits_queue _ n

/-- Settles O18: the write has one check, room is a comparison of depth and limit, and a channel instruction looks for
room before it makes its descriptor. -/
theorem queueLimitAndRoom : Obligations.QueueLimitAndRoom := by
  unfold Obligations.QueueLimitAndRoom
  refine ⟨fun s u t r x data n v hu hw hl hv hn hlow hhigh => ?_, fun s n h => State.room_iff h n,
    fun s u t tt f hu h ho hd hr _ hfull => ?_⟩
  · exact State.queueLimit_write t hu hw hl hv hn ⟨hlow, hhigh⟩
  · have hwaits : effPlay (u.takeSlot tt) tt f = .wait .queue 2 := by
      rw [effPlay_eq hd hr]
      exact gangOp_waits _ hfull
    exact issue_waits_queue (row := (· == 0x08)) hu h (beq_iff_eq.2 ho) hwaits

end Sys2Proof.Machine
end

section
/-! SUPPORT and proof of O28. Escapes (04_timetable_playback.md, R97, R99, R100). -/

namespace Sys2Proof.Machine

/-! ## What a channel keeps of a firing (R99, R117) -/

/-- `c'` counts as many firings as `c`, and ESC_FIRED of `c` stands. -/
structure Channel.KeepsFiring (c c' : Channel) : Prop where
  fires : c'.escFires = c.escFires
  flag : c.pbFlags.getLsbD pbEscFired = true → c'.pbFlags.getLsbD pbEscFired = true

theorem Channel.keepsFiring_refl (c : Channel) : c.KeepsFiring c := ⟨rfl, id⟩

theorem Channel.KeepsFiring.trans {a b c : Channel} (h : a.KeepsFiring b) (g : b.KeepsFiring c) : a.KeepsFiring c :=
  ⟨g.fires.trans h.fires, g.flag ∘ h.flag⟩

/-- The same counts and flags of playback. -/
theorem Channel.keepsFiring_of_eq {c c' : Channel} (hfires : c'.escFires = c.escFires) (hflags : c'.pbFlags = c.pbFlags) :
    c.KeepsFiring c' := ⟨hfires, fun h => hflags ▸ h⟩

theorem Channel.KeepsPlan.escFires {c c' : Channel} (h : c.KeepsPlan c') : c'.escFires = c.escFires := by
  have e := congrArg Channel.escFires h; exact e

theorem Channel.KeepsPlan.pbFlags {c c' : Channel} (h : c.KeepsPlan c') : c'.pbFlags = c.pbFlags := by
  have e := congrArg Channel.pbFlags h; exact e

theorem Channel.KeepsPlan.keepsFiring {c c' : Channel} (h : c.KeepsPlan c') : c.KeepsFiring c' :=
  Channel.keepsFiring_of_eq h.escFires h.pbFlags

theorem Channel.keepsFiring_lateGate (c : Channel) : c.KeepsFiring c.lateGate :=
  ⟨rfl, fun h => by simp only [Channel.lateGate, Channel.pbSet, BitVec.getLsbD_or, h, Bool.true_or]⟩

/-- Channel `n` keeps its firings. -/
def State.KeepsFiring (s x : State) (n : Nat) : Prop := (s.chan n).KeepsFiring (x.chan n)

theorem State.keepsFiring_refl (s : State) (n : Nat) : s.KeepsFiring s n := Channel.keepsFiring_refl _

theorem State.KeepsFiring.trans {s x y : State} {n : Nat} (h : s.KeepsFiring x n) (g : x.KeepsFiring y n) :
    s.KeepsFiring y n := Channel.KeepsFiring.trans h g

theorem State.keepsFiring_of_chans {s x : State} (h : x.chans = s.chans) (n : Nat) : s.KeepsFiring x n := by
  unfold State.KeepsFiring
  rw [State.chan_congr h n]
  exact Channel.keepsFiring_refl _

theorem State.keepsFiring_modChan (s : State) (n : Nat) {f : Channel → Channel} (hf : ∀ c : Channel, c.KeepsFiring (f c)) :
    s.KeepsFiring (s.modChan n f) n := by
  unfold State.KeepsFiring
  rw [State.chan_modChan_self]
  exact hf _

theorem State.keepsFiring_syncTo (s : State) (n k : Nat) : s.KeepsFiring (s.syncTo n k) n :=
  (s.keepsPlan_syncTo n k n).keepsFiring

theorem State.keepsFiring_popHead (s : State) (n k : Nat) : s.KeepsFiring (s.popHead n k) n :=
  s.keepsFiring_modChan n fun _ => ⟨rfl, id⟩

theorem State.keepsFiring_passGate (s : State) (n k : Nat) (d : Descriptor) : s.KeepsFiring (s.passGate n k d) n := by
  refine (s.keepsFiring_popHead n k).trans (State.keepsFiring_modChan _ n fun c => ?_)
  split
  · exact Channel.KeepsFiring.trans (b := c.leavePark) ⟨rfl, id⟩ (Channel.keepsFiring_lateGate _)
  · exact ⟨rfl, id⟩

/-! ## CONTROL descriptors keep them (R91) -/

theorem State.keepsFiring_when (s : State) (n : Nat) (b : Bool) {f : State → State} (hf : s.KeepsFiring (f s) n) :
    s.KeepsFiring (s.when b f) n := by
  unfold State.when
  split
  · exact hf
  · exact s.keepsFiring_refl n

theorem State.keepsFiring_meetHost (s : State) (n k : Nat) (d : Descriptor) : s.KeepsFiring (s.meetHost n k d) n := by
  unfold State.meetHost
  refine (s.keepsFiring_when n _ (State.keepsFiring_of_chans rfl n)).trans (State.keepsFiring_when _ n _ ?_)
  exact (State.keepsFiring_modChan _ n (f := fun c => { c with spanPending := none }) fun _ => ⟨rfl, id⟩).trans
    (State.keepsFiring_of_chans rfl n)

theorem State.keepsFiring_disarm (s : State) (n : Nat) : s.KeepsFiring (s.disarm n) n := by
  unfold State.KeepsFiring
  rw [State.chan_disarm]
  exact ⟨rfl, id⟩

theorem State.keepsFiring_fillHead (s : State) (n : Nat) (d : Descriptor) (x : Nat) : s.KeepsFiring (s.fillHead n d x) n :=
  (s.keepsFiring_modChan n (f := fun c => { c with head := some (d.headFrom x) }) fun _ => ⟨rfl, id⟩).trans
    (State.keepsFiring_of_chans rfl n)

theorem State.keepsFiring_applyEsc (s : State) (n k : Nat) (d : Descriptor) : s.KeepsFiring (s.applyEsc n k d) n := by
  unfold State.applyEsc
  extract_lets y
  have hy : s.KeepsFiring y n := s.keepsFiring_disarm n
  split
  · exact hy
  · refine hy.trans (State.KeepsFiring.trans ?_ (State.keepsFiring_modChan _ n fun c => ?_))
    · split
      · exact State.keepsFiring_refl _ n
      · exact State.keepsFiring_fillHead _ n _ _
    · split <;> exact ⟨rfl, id⟩

theorem State.keepsFiring_applySpan (s : State) (n k : Nat) (v : BitVec 3) (b : Bool) :
    s.KeepsFiring (s.applySpan n k v b) n := by
  refine s.keepsFiring_modChan n fun c => ?_
  split
  · exact ⟨rfl, id⟩
  · split <;> exact ⟨rfl, id⟩

theorem State.keepsFiring_applyControl (s : State) (n k : Nat) (d : Descriptor) : s.KeepsFiring (s.applyControl n k d) n := by
  unfold State.applyControl
  refine (s.keepsFiring_meetHost n k d).trans ?_
  generalize s.meetHost n k d = y
  have hset (f : Channel → Channel) (hf : ∀ c, (f c).escFires = c.escFires ∧ (f c).pbFlags = c.pbFlags) :
      y.KeepsFiring (y.modChan n f) n :=
    y.keepsFiring_modChan n fun c => Channel.keepsFiring_of_eq (hf c).1 (hf c).2
  dsimp only
  split
  -- RAMP starts only where its first piece is not empty.
  case h_3 =>
    refine hset _ fun c => ?_
    split
    · split <;> exact ⟨rfl, rfl⟩
    · exact ⟨rfl, rfl⟩
  case h_8 => exact y.keepsFiring_applySpan n k _ _
  case h_11 => exact y.keepsFiring_applyEsc n k d
  case h_12 => exact y.keepsFiring_refl n
  all_goals exact hset _ fun _ => ⟨rfl, rfl⟩

theorem State.keepsFiring_controlsAt (s : State) (n k : Nat) : s.KeepsFiring (s.controlsAt n k) n := by
  unfold State.controlsAt
  generalize 64 = fuel
  induction fuel generalizing s with
  | zero => exact s.keepsFiring_refl n
  | succ m ih =>
    unfold State.applyControls
    split
    · split
      · exact ((s.keepsFiring_popHead n k).trans (State.keepsFiring_applyControl _ n k _)).trans (ih _)
      · exact s.keepsFiring_refl n
    · exact s.keepsFiring_refl n

theorem State.keepsFiring_idleControls (n k fuel : Nat) : ∀ s : State, s.KeepsFiring (s.idleControls fuel n k) n := by
  induction fuel with
  | zero => exact fun s => s.keepsFiring_refl n
  | succ m ih =>
    intro s
    unfold State.idleControls
    split
    · dsimp only
      split
      · exact (((s.keepsFiring_syncTo n _).trans (State.keepsFiring_popHead _ n _)).trans
          (State.keepsFiring_applyControl _ n _ _)).trans (ih _)
      · exact s.keepsFiring_refl n
    · exact s.keepsFiring_refl n

theorem State.keepsFiring_replaceHead (n k fuel : Nat) : ∀ s : State, s.KeepsFiring (s.replaceHead fuel n k) n := by
  induction fuel with
  | zero => exact fun s => s.keepsFiring_refl n
  | succ m ih =>
    intro s
    unfold State.replaceHead
    refine (s.keepsFiring_controlsAt n k).trans ?_
    generalize s.controlsAt n k = y
    dsimp only
    split
    · split
      · exact y.keepsFiring_refl n
      · split
        · exact (y.keepsFiring_passGate n k _).trans (ih _)
        · exact (y.keepsFiring_popHead n k).trans (State.keepsFiring_of_chans (State.unpinAll_chans _ _ _) n)
    · exact y.keepsFiring_refl n

/-! ## What a firing does before its segment begins (R99 to R101) -/

/-- A PLAY with repetitions to come. -/
def Activity.repeats : Activity → Bool
  | .play _ _ left _ => decide (1 < left)
  | _ => false

/-- A late page that KEEPTIME skips whole where its slot ends (R111). -/
def State.skipsLate (s : State) (n : Nat) (a : Activity) : State :=
  match a with
  | .late d _ h => if d.lateKeep && !d.skipped && d.startAt.isNone then s.skipPage s.cycle n d h else s
  | _ => s

/-- A firing is counted and flagged, where a descriptor or repetition `ends` also as a hit of its boundary; the escape is
not armed any more, and the bells passed to it are done (R99, R100, R187). -/
def State.countsFiring (s : State) (n : Nat) (ends : Bool) : State :=
  (s.modChan n fun c => { (c.pbSet pbEscFired) with armed := none, escFires := c.escFires + 1, bells := [] }).when ends
    fun s => s.modChan n fun c => c.pbSet pbBoundaryHit

/-- What stands in the escape's way at boundary `k` gives way: what ends there with the head that would follow it, an idle
channel's due CONTROL descriptors, or the rest of what plays (R99 to R101). -/
def State.givesWay (s : State) (n k : Nat) (a : Activity) (ends : Bool) : State :=
  if ends && !a.repeats then
    (((s.skipsLate n a).release a).modChan n fun c => { c with act := .idle, events := [] }).replaceHead 65 n k
  else if a = .idle then s.idleControls 64 n k
  else (s.unpinAll a.pins false).modChan n fun c => { c with act := .idle, events := [] }

/-- What channel `n` produces at boundary `k` ends there. -/
def State.endsAt (s : State) (n k : Nat) : Bool := decide (s.activityEnd n (s.chan n).act = some k)

/-- The channel as the escape's segment finds it that fires at boundary `k`. -/
def State.firedAt (s : State) (n k : Nat) : State :=
  ((s.syncTo n k).countsFiring n ((s.syncTo n k).endsAt n k)).givesWay n k ((s.syncTo n k).chan n).act
    ((s.syncTo n k).endsAt n k)

theorem State.fireEscape_eq (s : State) (n k : Nat) (e : Escape) : s.fireEscape n k e =
    ((s.firedAt n k).modChan n fun c => { c with idleFrom := k }).beginEscape n k e.d true := rfl

/-- `c'` is `c` where the escape segment of `d` has begun at boundary `k`: queue, counts and flags stand. -/
structure Channel.BeginsEscape (c c' : Channel) (k : Nat) (d : Descriptor) : Prop where
  act : ∃ v h, c'.act = .escape { d with head := v } k h true
  events : c'.events = d.activeEvents
  begun : c'.begun = true
  queue : c'.queue = c.queue
  escFires : c'.escFires = c.escFires
  pbFlags : c'.pbFlags = c.pbFlags
  armed : c'.armed = c.armed
  bells : c'.bells = c.bells

/-- The boundary of a segment leaves an escape as it begins. -/
theorem Channel.BeginsEscape.segmentEdge {c : Channel} {s : State} {n k : Nat} {d : Descriptor}
    (h : c.BeginsEscape (s.chan n) k d) : c.BeginsEscape ((s.segmentEdge n k).chan n) k d := by
  have hedge := s.chan_segmentEdge n k
  generalize (s.segmentEdge n k).chan n = y at hedge ⊢
  rw [← hedge] at h
  obtain ⟨hact, hevents, hbegun, hqueue, hfires, hflags, harmed, hbells⟩ := h
  exact ⟨hact, hevents, hbegun, hqueue, hfires, hflags, harmed, hbells⟩

theorem Channel.beginsEscape (c : Channel) (k h nb : Nat) (d : Descriptor) (v : Option Head) :
    c.BeginsEscape (({ ({ c with idleFrom := k } : Channel).leavePark with
      act := .escape { d with head := v } k h true, notBefore := nb, planned := k, emptied := false
      gateOpened := none } : Channel).beginPlay { d with head := v } k h) k d :=
  ⟨⟨v, h, rfl⟩, rfl, rfl, rfl, rfl, rfl, rfl, rfl⟩

theorem State.segmentEdge_mem (s : State) (n k : Nat) : (s.segmentEdge n k).mem = s.mem := rfl

theorem State.beginsEscape_fireEscape (s : State) (n k : Nat) (e : Escape) :
    ((s.firedAt n k).chan n).BeginsEscape ((s.fireEscape n k e).chan n) k e.d ∧
      (s.fireEscape n k e).mem = (s.firedAt n k).mem := by
  rw [State.fireEscape_eq]
  generalize s.firedAt n k = y
  unfold State.beginEscape
  refine ⟨Channel.BeginsEscape.segmentEdge ?_, State.segmentEdge_mem _ n k⟩
  rw [State.chan_modChan_self, State.chan_modChan_self]
  exact Channel.beginsEscape _ k _ _ e.d _

/-! ## A firing counts (R99, R117) -/

theorem State.chan_countsFiring (s : State) (n : Nat) (ends : Bool) : (s.countsFiring n ends).chan n =
    { s.chan n with
      pbFlags := if ends = true then (s.chan n).pbFlags ||| 16#6 ||| 32#6 else (s.chan n).pbFlags ||| 16#6
      armed := none, escFires := (s.chan n).escFires + 1, bells := [] } := by
  unfold State.countsFiring State.when
  cases ends
  · rw [if_neg Bool.false_ne_true, State.chan_modChan_self]
    rfl
  · rw [if_pos rfl, State.chan_modChan_self, State.chan_modChan_self]
    rfl

theorem State.onChan_countsFiring (s : State) (n : Nat) (ends : Bool) : s.OnChan (s.countsFiring n ends) n :=
  (s.onChan_modChan n _).trans (State.onChan_when _ n ends _ fun s => s.onChan_modChan n _)

theorem State.countsFiring_mem (s : State) (n : Nat) (ends : Bool) : (s.countsFiring n ends).mem = s.mem := by
  cases ends <;> rfl

theorem State.ringAdvance_chans (s : State) (c i x p : Nat) : (s.ringAdvance c i x p).chans = s.chans := by
  unfold State.ringAdvance
  dsimp only
  split <;> rfl

/-- A page skipped for an escape counts in DROPPED_GRANULES of the channel only. -/
theorem State.chan_skipsLate (s : State) (n : Nat) (a : Activity) :
    ∃ g, (s.skipsLate n a).chan n = { s.chan n with dropped := g } := by
  have hstays : ∃ g, s.chan n = { s.chan n with dropped := g } := ⟨_, rfl⟩
  cases a
  case late d k0 h =>
    unfold State.skipsLate
    dsimp only
    split
    · unfold State.skipPage
      dsimp only
      rw [State.chan_modChan_self, State.chan_congr (State.ringAdvance_chans _ _ _ _ _)]
      exact ⟨_, rfl⟩
    · exact hstays
  all_goals exact hstays

theorem State.onChan_skipsLate (s : State) (n : Nat) (a : Activity) : s.OnChan (s.skipsLate n a) n :=
  s.onChan_skipLate s.cycle n a

/-- The channel where what it was on has ended, before the head that follows is replaced. -/
theorem State.chan_released (s : State) (n : Nat) (a : Activity) :
    ∃ g, (((s.skipsLate n a).release a).modChan n fun c => { c with act := .idle, events := [] }).chan n =
      { s.chan n with act := .idle, events := [], dropped := g } := by
  obtain ⟨g, hskip⟩ := s.chan_skipsLate n a
  rw [State.chan_modChan_self, State.chan_congr (State.release_chans _ a), hskip]
  exact ⟨g, rfl⟩

theorem State.keepsFiring_givesWay (s : State) (n k : Nat) (a : Activity) (ends : Bool) :
    s.KeepsFiring (s.givesWay n k a ends) n := by
  unfold State.givesWay
  split
  · refine State.KeepsFiring.trans ?_ (State.keepsFiring_replaceHead n k 65 _)
    obtain ⟨g, hg⟩ := s.chan_released n a
    unfold State.KeepsFiring
    rw [hg]
    exact ⟨rfl, id⟩
  · split
    · exact State.keepsFiring_idleControls n k 64 s
    · exact (State.keepsFiring_of_chans (s.unpinAll_chans _ _) n).trans
        (State.keepsFiring_modChan _ n fun _ => ⟨rfl, id⟩)

theorem State.firedAt_counts (s : State) (n k : Nat) : ((s.firedAt n k).chan n).escFires = (s.chan n).escFires + 1 ∧
    ((s.firedAt n k).chan n).pbFlags.getLsbD 4 = true := by
  have hkeeps := State.keepsFiring_givesWay ((s.syncTo n k).countsFiring n ((s.syncTo n k).endsAt n k)) n k
    ((s.syncTo n k).chan n).act ((s.syncTo n k).endsAt n k)
  unfold State.KeepsFiring at hkeeps
  rw [State.chan_countsFiring] at hkeeps
  obtain ⟨hfires, hflag⟩ := hkeeps
  refine ⟨hfires.trans ?_, hflag ?_⟩
  · rw [(s.keepsPlan_syncTo n k n).escFires]
  · dsimp only [pbEscFired]
    split <;> simp

/-! ## What gives way (R99 to R101) -/

theorem State.idleControls_eq {s : State} {n : Nat} {d : Descriptor} {r : List Descriptor} (hq : (s.chan n).queue = d :: r)
    (hd : d.kind ≠ .control) (k : Nat) : s.idleControls 64 n k = s := by
  unfold State.idleControls
  rw [hq]
  exact if_neg fun h => hd h.1

theorem State.idleControls_empty {s : State} {n : Nat} (hq : (s.chan n).queue = []) (k : Nat) : s.idleControls 64 n k = s := by
  unfold State.idleControls
  rw [hq]

theorem State.replaceHead_empty {s : State} {n : Nat} (hq : (s.chan n).queue = []) (k : Nat) : s.replaceHead 65 n k = s := by
  unfold State.replaceHead
  dsimp only
  rw [State.controlsAt_empty hq, hq]

/-- A GAP at the head leaves the queue where it would follow. -/
theorem State.replaceHead_gap {s : State} {n : Nat} {g : Descriptor} {r : List Descriptor} (hq : (s.chan n).queue = g :: r)
    (hg : g.kind = .gap) (k : Nat) : s.replaceHead 65 n k =
      if s.follows n k g = true then (s.popHead n k).unpinAll g.allPins false else s := by
  unfold State.replaceHead
  dsimp only
  rw [State.controlsAt_eq hq (by rw [hg]; decide), hq]
  dsimp only
  have hgate : ¬ (g.kind = .timegate ∧ s.boundaryOfTicks n g.gateTime ≤ k) := fun h => by
    rw [hg] at h
    cases h.1
  rw [if_neg hgate]
  cases s.follows n k g <;> rfl

/-- On an empty queue a firing arms nothing, and no bell is left (R98, R187). -/
theorem State.firedAt_empty {s : State} {n : Nat} (hq : (s.chan n).queue = []) (k : Nat) :
    ((s.firedAt n k).chan n).armed = none ∧ ((s.firedAt n k).chan n).bells = [] := by
  unfold State.firedAt
  have hchan := (s.syncTo n k).chan_countsFiring n ((s.syncTo n k).endsAt n k)
  generalize (s.syncTo n k).countsFiring n ((s.syncTo n k).endsAt n k) = y at hchan ⊢
  have hqueue : (y.chan n).queue = [] := by rw [hchan]; exact (s.keepsPlan_syncTo n k n).queue.trans hq
  unfold State.givesWay
  split
  · obtain ⟨g, hg⟩ := y.chan_released n ((s.syncTo n k).chan n).act
    rw [State.replaceHead_empty (by rw [hg]; exact hqueue), hg, hchan]
    exact ⟨rfl, rfl⟩
  · split
    · rw [State.idleControls_empty hqueue, hchan]
      exact ⟨rfl, rfl⟩
    · rw [State.chan_modChan_self, State.chan_congr (State.unpinAll_chans _ _ _), hchan]
      exact ⟨rfl, rfl⟩

/-- On an idle channel with a GAP at its head an escape replaces nothing (R99). -/
theorem State.firedAt_idle {s : State} {n : Nat} {g : Descriptor} {r : List Descriptor} (ha : (s.chan n).act = .idle)
    (hq : (s.chan n).queue = g :: r) (hg : g.kind = .gap) (k : Nat) : ((s.firedAt n k).chan n).queue = g :: r ∧
      ((s.firedAt n k).chan n).pbFlags.getLsbD 5 = (s.chan n).pbFlags.getLsbD 5 ∧ s.GivesUp (s.firedAt n k) [] := by
  have hact : ((s.syncTo n k).chan n).act = .idle := by
    rw [State.act_syncTo (by rw [ha]; exact fun _ _ _ e => by cases e), ha]
  have hends : (s.syncTo n k).endsAt n k = false := by
    unfold State.endsAt
    rw [hact]
    rfl
  have hplan := s.keepsPlan_syncTo n k n
  have hqueue : ((s.syncTo n k).countsFiring n false).chan n = _ := State.chan_countsFiring _ n false
  have hfired : s.firedAt n k = (s.syncTo n k).countsFiring n false := by
    unfold State.firedAt State.givesWay
    rw [hact, hends]
    exact State.idleControls_eq (d := g) (r := r) (by rw [hqueue]; exact hplan.queue.trans hq) (by rw [hg]; decide) k
  rw [hfired, hqueue]
  refine ⟨hplan.queue.trans hq, ?_, State.givesUp_nothing ((congrArg SegMem.pages (State.countsFiring_mem _ n false)).trans
    (s.mem_syncTo n k).2.1)⟩
  simp [hplan.pbFlags]

/-- A channel on a PLAY as the escape finds it: its repetition ends at `k` or not. -/
theorem State.firedAt_play {s : State} {n k0 left h : Nat} {d : Descriptor} (ha : (s.chan n).act = .play d k0 left h)
    (k : Nat) : s.firedAt n k = ((s.syncTo n k).countsFiring n (decide (k0 + d.lenG.toNat * h = k))).givesWay n k
      (.play d k0 left h) (decide (k0 + d.lenG.toNat * h = k)) := by
  have hact : ((s.syncTo n k).chan n).act = .play d k0 left h := by
    rw [State.act_syncTo (by rw [ha]; exact fun _ _ _ e => by cases e), ha]
  have hends : (s.syncTo n k).endsAt n k = decide (k0 + d.lenG.toNat * h = k) := by
    unfold State.endsAt
    rw [hact]
    exact decide_eq_decide.2 Option.some_inj
  unfold State.firedAt
  rw [hact, hends]

/-- What an escape cuts before its whole end gives up its pins. -/
theorem State.givesWay_cut {s : State} {n k : Nat} {a : Activity} {ends : Bool} (hrest : (ends && !a.repeats) = false)
    (ha : a ≠ .idle) : s.givesWay n k a ends =
      (s.unpinAll a.pins false).modChan n fun c => { c with act := .idle, events := [] } := by
  unfold State.givesWay
  rw [hrest, if_neg Bool.false_ne_true, if_neg ha]

/-- A play that an escape cuts gives up its pins, and the queue stays (R47, R99). -/
theorem State.firedAt_cuts {s : State} {n k k0 left h : Nat} {d : Descriptor} (ha : (s.chan n).act = .play d k0 left h)
    (hk : k < k0 + d.lenG.toNat * h) : ((s.firedAt n k).chan n).queue = (s.chan n).queue ∧
      ((s.firedAt n k).chan n).pbFlags.getLsbD 5 = (s.chan n).pbFlags.getLsbD 5 ∧ s.GivesUp (s.firedAt n k) d.allPins := by
  have hplan := s.keepsPlan_syncTo n k n
  rw [State.firedAt_play ha, decide_eq_false (Nat.ne_of_gt hk), State.givesWay_cut rfl (fun e => by cases e),
    State.chan_modChan_self, State.chan_congr (State.unpinAll_chans _ _ _), State.chan_countsFiring]
  refine ⟨hplan.queue, ?_, ?_⟩
  · simp [hplan.pbFlags]
  · exact (State.givesUp_unpinAll _ _).congr
      ((congrArg SegMem.pages (State.countsFiring_mem _ n false)).trans (s.mem_syncTo n k).2.1) rfl

/-- Where what plays ends as a whole, a GAP that would follow it leaves the queue, and the flags stand. -/
theorem State.givesWay_whole {s : State} {n : Nat} {a : Activity} {g : Descriptor} {r : List Descriptor}
    (hwhole : a.repeats = false) (hq : (s.chan n).queue = g :: r) (hg : g.kind = .gap) (k : Nat) :
    ((s.givesWay n k a true).chan n).pbFlags = (s.chan n).pbFlags ∧
      (s.GapFollows n k g → ((s.givesWay n k a true).chan n).queue = r) := by
  obtain ⟨v, hchan⟩ := s.chan_released n a
  have hon : s.OnChan (((s.skipsLate n a).release a).modChan n fun c => { c with act := .idle, events := [] }) n :=
    ((s.onChan_skipsLate n a).trans (State.onChan_release _ n a)).modChan _
  unfold State.givesWay
  rw [hwhole, Bool.not_false, Bool.and_true, if_pos rfl]
  generalize (((s.skipsLate n a).release a).modChan n fun c => { c with act := .idle, events := [] }) = y at hchan hon ⊢
  have hqueue : (y.chan n).queue = g :: r := by rw [hchan]; exact hq
  have hflags : (y.chan n).pbFlags = (s.chan n).pbFlags := by rw [hchan]
  rw [State.replaceHead_gap hqueue hg]
  split
  · rw [State.chan_congr (State.unpinAll_chans _ _ _)]
    unfold State.popHead
    rw [State.chan_modChan_self]
    exact ⟨hflags, fun _ => congrArg (List.drop 1) hqueue⟩
  · next hstays =>
    refine ⟨hflags, fun ⟨hkind, hvisible, hat⟩ => absurd (State.follows_gap ⟨hkind, hvisible, ?_⟩) hstays⟩
    rw [hon.boundaryFs]
    exact hat

/-- An escape that fires where a play or a repetition of it ends hits the boundary, and takes the place of the GAP that
would follow the play (R100). -/
theorem State.firedAt_ends {s : State} {n k k0 left h : Nat} {d g : Descriptor} {r : List Descriptor}
    (ha : (s.chan n).act = .play d k0 left h) (hk : k = k0 + d.lenG.toNat * h) (hq : (s.chan n).queue = g :: r)
    (hg : g.kind = .gap) : ((s.firedAt n k).chan n).pbFlags.getLsbD 5 = true ∧
      (1 < left → ((s.firedAt n k).chan n).queue = g :: r) ∧
      (left ≤ 1 → s.GapFollows n k g → ((s.firedAt n k).chan n).queue = r) := by
  have hqueue := (s.keepsPlan_syncTo n k n).queue.trans hq
  have hon := (s.onChan_syncTo n k).trans ((s.syncTo n k).onChan_countsFiring n true)
  have hchan := (s.syncTo n k).chan_countsFiring n true
  rw [State.firedAt_play ha, decide_eq_true hk.symm]
  generalize (s.syncTo n k).countsFiring n true = y at hon hchan ⊢
  have hflag : (y.chan n).pbFlags.getLsbD 5 = true := by rw [hchan]; simp
  replace hqueue : (y.chan n).queue = g :: r := by rw [hchan]; exact hqueue
  rcases Nat.lt_or_ge 1 left with hleft | hleft
  · have hrepeats : (Activity.play d k0 left h).repeats = true := decide_eq_true hleft
    rw [State.givesWay_cut (by rw [hrepeats]; rfl) (fun e => by cases e), State.chan_modChan_self,
      State.chan_congr (State.unpinAll_chans _ _ _)]
    exact ⟨hflag, fun _ => hqueue, fun hlast => absurd hlast (Nat.not_le.2 hleft)⟩
  · have hrepeats : (Activity.play d k0 left h).repeats = false := decide_eq_false (Nat.not_lt.2 hleft)
    obtain ⟨hflags, hreplaces⟩ := State.givesWay_whole hrepeats hqueue hg k
    rw [hflags]
    exact ⟨hflag, fun hmore => absurd hleft (Nat.not_le.2 hmore),
      fun _ ⟨hkind, hvisible, hat⟩ => hreplaces ⟨hkind, hvisible, by rw [hon.boundaryFs]; exact hat⟩⟩

/-! ## The happenings of a channel's escapes (R97, R99) -/

theorem opEscapeArmed_arms {u : State} {n : Nat} {e : Escape} (ha : (u.chan n).arming = some e)
    (hruns : u.clockRuns n = true) (hk : e.k ≤ u.boundaryNow n) :
    opEscapeArmed u n = (u.syncTo n e.k).modChan n fun c => { c with armed := some e, arming := none } := by
  have hreached : u.reached n e.k = true := by
    unfold State.reached
    rw [hruns, decide_eq_true hk]
    rfl
  unfold opEscapeArmed
  rw [ha]
  exact if_pos hreached

/-- Where no break waits, the bell's firing boundary fires the armed escape (R99, R202). -/
theorem opEscapeFire_fires {u : State} {n k : Nat} {e : Escape} (hp : u.Plays n k) (hf : u.firing n = some (k, e))
    (hbreak : u.truss.broken = false ∨ (u.chan n).broke ≠ .pending) : opEscapeFire u n = u.fireEscape n k e := by
  have hfirst : u.breakFirst n k = u := by
    rcases hbreak with h | h
    · unfold State.breakFirst
      rw [h]
      rfl
    · exact State.breakFirst_eq h k
  have hcome : (u.taking n && decide (k ≤ u.boundaryNow n) && u.reached n k) = true := by
    rw [hp.taking, decide_eq_true hp.reached, hp.reached_eq]
    rfl
  unfold opEscapeFire State.fireDue
  rw [if_pos hp.taking]
  simp only [hf, hcome, hfirst, if_true]

/-- An escape segment ends: its pins are given up and what follows comes at the same boundary. -/
theorem opEscapeEnd_eq {u : State} {n k k0 h : Nat} {d : Descriptor} {w : Bool} (hp : u.Plays n k) (hf : u.NoFiring n k)
    (ha : (u.chan n).act = .escape d k0 h w) (hk : k = k0 + d.lenG.toNat * h) :
    ∃ y, u.EndsWith y n d.allPins ∧ opEscapeEnd u n = y.followAt n k false := by
  refine ⟨((u.syncTo n k).unpinAll d.allPins false).segmentEdge n k,
    u.endsWith_release n k (a := .escape d k0 h w) (u.endsWith_syncTo n k) fun _ => rfl, ?_⟩
  unfold opEscapeEnd
  rw [hf.atEnd_eq (by rw [ha, hk]; rfl)]
  unfold endEscape
  rw [ha]
  dsimp only
  rw [← hk, hp.taking, hp.reached_eq]
  rfl

/-- Settles O28: a firing counts, clears the way and begins the escape's segment; an end of it is that of a descriptor. -/
theorem escapes : Obligations.Escapes := by
  unfold Obligations.Escapes
  intro s u t n hu
  have hexec (f : State → Nat → State) (hstill : u.still = false) :
      event s t (fun s => f s n) = .next ((f u n).close s.pending) := by
    subst hu
    exact event_next s t _ hstill
  refine ⟨fun e hstill ha hruns hk => ?_, fun e k hp hf hbreak => ?_,
    fun d k0 h w k hp ha hk hf => ⟨fun hq => ?_, fun g r hq hg => ?_⟩⟩
  · refine ⟨_, hexec opEscapeArmed hstill, (onChan_escapeArmed u n).graft_close _, ?_⟩
    rw [State.close_chan, opEscapeArmed_arms ha hruns hk, State.chan_modChan_self]
    exact ⟨rfl, rfl, (u.keepsPlan_syncTo n e.k n).queue⟩
  · have hon := u.onChan_fireEscape n k e
    obtain ⟨⟨hact, hevents, hbegun, hqueue, hfires, hflags, harmed, hbells⟩, hmem⟩ := u.beginsEscape_fireEscape n k e
    obtain ⟨hcount, hflag⟩ := u.firedAt_counts n k
    have hpages {ps : List Nat} (hps : u.GivesUp (u.firedAt n k) ps) : u.GivesUp ((u.fireEscape n k e).close s.pending) ps :=
      (hps.congr rfl (congrArg SegMem.pages hmem)).close _
    refine ⟨_, hexec opEscapeFire hp.clocked, ?_⟩
    rw [opEscapeFire_fires hp hf hbreak]
    refine ⟨hon.graft_close _, ?_⟩
    rw [State.close_chan, hfires, hbegun, hevents, hqueue, hflags, harmed, hbells]
    refine ⟨hact, hcount, rfl, rfl, hflag, fun hq => State.firedAt_empty hq k, fun g r hq hg => ⟨fun ha => ?_,
      fun d k0 left h ha => ⟨fun hk => ?_, fun hk => State.firedAt_ends ha hk hq hg⟩⟩⟩
    · obtain ⟨hstays, hhit, hps⟩ := State.firedAt_idle ha hq hg k
      exact ⟨hstays, hhit, hpages hps⟩
    · obtain ⟨hstays, hhit, hps⟩ := State.firedAt_cuts ha hk
      exact ⟨hstays.trans hq, hhit, hpages hps⟩
  · obtain ⟨y, hends, hop⟩ := opEscapeEnd_eq hp hf ha hk
    obtain ⟨hon, hact, hidle, hemptied, hempties, -, hpages⟩ :=
      (hop ▸ hends.follow_empty hq k false : u.Empties (opEscapeEnd u n) ..)
    refine ⟨_, hexec opEscapeEnd hp.clocked, hon.graft_close _, ?_⟩
    rw [State.close_chan]
    exact ⟨hact, hidle, hemptied, hempties, hpages.close _⟩
  · obtain ⟨y, hends, hop⟩ := opEscapeEnd_eq hp hf ha hk
    obtain ⟨hon, hact, hqueue, hpages⟩ := (hop ▸ hends.follow_gap hq hg false : u.GoesOnWith (opEscapeEnd u n) ..)
    refine ⟨_, hexec opEscapeEnd hp.clocked, hon.graft_close _, ?_⟩
    rw [State.close_chan]
    exact ⟨hact, hqueue, hpages.close _⟩

end Sys2Proof.Machine
end

section
/-! Refutation of O25: a setting out of range, written to a channel whose output stands behind
(05_channels_and_dac.md, R124, R393). -/

namespace Sys2Proof.Machine

/-! ## A setting out of range while the channel's clock runs (R393): O25 -/

/-- The session that writes. -/
def writingSession : Session :=
  { id := 1, version := 2, port := .mgmt, lastAt := 0, sel := {}, cache := [], open_ := [], proxy := false }

/-- Its request, on the management port. -/
def writingReq : Req := { port := .mgmt, ver := 2, device := 0, seq := 1, session := 1 }

/-- Channel 0 is PARKED and its clock runs; 2 us of its output have not been worked out yet. -/
def parkedBehind : State :=
  { now := 2000000000, sys := { state := .run }, oda := { sessions := [writingSession] }
    synM := { en := true, phase := .running, locked := true, tbLocked := true }, outs := [(0, { en := true })]
    chans := [(0, { state := .parked, enable := true })] }

theorem writes_parkedBehind : (parkedBehind.advance 0).Writes writingReq writingSession 0x2400 0x04 [4] where
  serves := by constructor <;> decide +kernel
  reach := by decide +kernel
  parity := by decide +kernel

/-- The granule to which the output of channel `n` is worked out after a command. -/
def workedOutTo (r : Result) (n : Nat) : Option Nat :=
  match r with
  | .next s => some (s.chan n).accK
  | _ => none

/-- The write of MODE 4, which is refused, works the channel's output out to granule 1000. -/
theorem workedOutTo_parkedBehind :
    workedOutTo (exec (.channelSettingWrite 0 writingReq 0 .mode [4]) parkedBehind) 0 = some 1000 := by
  decide +kernel

/-- Refutes O25: its last clause asks that a setting refused with RANGE leave the channel as it is. Before the device
looks at the value it works the channel's output out to the last granule boundary (R393), and the refusal keeps that:
a MODE of 4 leaves channel 0 at granule 1000, where it stood at granule 0. -/
theorem not_channelSettingsWait : ¬ Obligations.ChannelSettingsWait := by
  intro h
  obtain ⟨-, -, -, -, hrange⟩ := h parkedBehind _ 0 writingReq writingSession 0 [4] 4 _ rfl (by decide) (by decide +kernel) rfl
  obtain ⟨s', hexec, -, -, hsame⟩ := hrange _ List.mem_cons_self writes_parkedBehind rfl (by decide)
  have hstands := congrArg (fun z : State => (z.chan 0).accK) hsame
  have hbefore : ((parkedBehind.advance 0).chan 0).accK = 0 := by decide +kernel
  have hafter : some (s'.chan 0).accK = some 1000 := by
    have hworked := workedOutTo_parkedBehind
    rw [hexec] at hworked
    exact hworked
  have hmoved : (0 : Nat) = 1000 := hbefore.symm.trans (hstands.symm.trans (Option.some.inj hafter))
  exact absurd hmoved (by decide)

end Sys2Proof.Machine
end

section
/-! SUPPORT. A channel brought to a boundary while a request is served (05_channels_and_dac.md, R393). -/

namespace Sys2Proof.Machine

/-! ## Output worked out does not depend on the host's mail -/

theorem Channel.playGranule_withMail (s : State) (ss : List Session) (mb : List Mail) (m n : Nat) (src : Source) (g : Nat)
    (c : Channel) : c.playGranule (s.withMail ss mb m) n src g = c.playGranule s n src g := rfl

theorem Channel.playGranules_withMail (s : State) (ss : List Session) (mb : List Mail) (m ch : Nat) (src : Source) (n : Nat) :
    ∀ (g : Nat) (c : Channel),
      Channel.playGranules (s.withMail ss mb m) ch src n g c = Channel.playGranules s ch src n g c := by
  induction n with
  | zero => exact fun g c => rfl
  | succ n ih =>
    intro g c
    simp only [Channel.playGranules, ih, Channel.playGranule_withMail]

theorem Channel.renderTo_withMail (c : Channel) (s : State) (ss : List Session) (mb : List Mail) (m ch k : Nat) :
    c.renderTo (s.withMail ss mb m) ch k = c.renderTo s ch k := by
  unfold Channel.renderTo
  simp only [Channel.playGranules_withMail]
  rfl

theorem State.render_withMail (s : State) (ss : List Session) (mb : List Mail) (m n k : Nat) :
    (s.withMail ss mb m).render n k = (s.render n k).withMail ss mb m := by
  have h : ((s.withMail ss mb m).chan n).renderTo (s.withMail ss mb m) n k = (s.chan n).renderTo s n k :=
    Channel.renderTo_withMail _ s ss mb m n k
  unfold State.render
  rw [h]
  dsimp only
  split <;> rfl

theorem State.modChan_withMail (s : State) (ss : List Session) (mb : List Mail) (m n : Nat) (f : Channel → Channel) :
    (s.withMail ss mb m).modChan n f = (s.modChan n f).withMail ss mb m := rfl

theorem State.takeSettings_withMail (ss : List Session) (mb : List Mail) (m n k : Nat) (xs : List (Nat × SettingValue)) :
    ∀ s : State, (s.withMail ss mb m).takeSettings n k xs = (s.takeSettings n k xs).withMail ss mb m := by
  induction xs with
  | nil => exact fun s => rfl
  | cons a r ih =>
    obtain ⟨x, v⟩ := a
    intro s
    have hb : (s.withMail ss mb m).boundaryAfter n x = s.boundaryAfter n x := rfl
    rw [State.takeSettings, State.takeSettings, hb, State.render_withMail, State.modChan_withMail]
    split
    · exact ih _
    · rfl

theorem State.settle_withMail (s : State) (ss : List Session) (mb : List Mail) (m n k : Nat) :
    (s.withMail ss mb m).settle n k = (s.settle n k).withMail ss mb m := by
  have hc : (s.withMail ss mb m).chan n = s.chan n := rfl
  unfold State.settle
  dsimp only
  rw [hc]
  split
  · rw [State.render_withMail]; rfl
  · rw [State.takeSettings_withMail, State.render_withMail]; rfl

theorem State.syncGo_withMail (ss : List Session) (mb : List Mail) (m n k fuel : Nat) :
    ∀ s : State, (s.withMail ss mb m).syncGo fuel n k = (s.syncGo fuel n k).withMail ss mb m := by
  induction fuel with
  | zero => exact fun s => s.settle_withMail ss mb m n k
  | succ i ih =>
    intro s
    have hchan : (s.withMail ss mb m).chan n = s.chan n := rfl
    have hgo : ∀ (j : Nat) (f : Channel → Channel), State.syncGo i (((s.withMail ss mb m).settle n j).modChan n f) n k =
        (State.syncGo i ((s.settle n j).modChan n f) n k).withMail ss mb m := fun j f => by
      rw [State.settle_withMail, State.modChan_withMail]
      exact ih _
    unfold State.syncGo
    rw [hchan]
    split
    · exact s.settle_withMail ss mb m n k
    · exact hgo _ _
    · exact hgo _ _
    · split <;> exact hgo _ _

/-- A channel brought to a boundary before a request's mail is noted or after it is the same channel. -/
theorem State.syncTo_withMail (s : State) (ss : List Session) (mb : List Mail) (m n k : Nat) :
    (s.withMail ss mb m).syncTo n k = (s.syncTo n k).withMail ss mb m :=
  State.syncGo_withMail ss mb m n _ _ s

end Sys2Proof.Machine
end

section
/-! SUPPORT. A host write of an entry of a channel: the channel worked out first (R393), the write carried out or refused,
and answered. -/

namespace Sys2Proof.Machine

/-! ## A write that changes one channel, answered (R282, R288) -/

/-- What a write has changed of channel `n` is seen so after the reply. -/
theorem State.OnChan.graftReply {u z : State} {ss : List Session} {mb : List Mail} {m n : Nat}
    (h : (u.withMail ss mb m).OnChan z n) : u.OnChan (u.graftReply z) n := by
  obtain ⟨hrest, hchans, hbytes, hsegs, hevents⟩ := h
  have e := congrArg (fun y : State => { u.graftReply y with chans := u.chans, mem := u.mem, card := u.card, sys := u.sys }) hrest
  exact ⟨e, hchans, hbytes, hsegs, hevents⟩

/-- What a refusal leaves of the state in which the write was refused, seen without the reply and the count. -/
theorem State.graftRefusal_sent (u z : State) (ss : List Session) {b : Abort} (hb : b.code < 0x09000000) (p : Port) (n : Nat)
    (m : OutMsg) (q : List Instr) :
    u.graftRefusal (((z.aborted ss b).sendPort p n m).close q) = u.graftRefusal z := by
  obtain ⟨ls, o, h⟩ := (z.aborted ss b).sendPort_eq p n m
  unfold State.graftRefusal State.graftReply
  rw [State.graft_close, State.close_net, State.close_oda, h]
  unfold State.aborted
  rw [if_neg (Nat.not_le_of_lt hb)]
  rfl

/-- States that differ in the reply alone have the same channels. -/
theorem State.chan_of_graftReply {u x z : State} (h : u.graftReply x = u.graftReply z) (n : Nat) : x.chan n = z.chan n := by
  have e := congrArg (fun y : State => y.chan n) h
  exact e

theorem State.chan_of_graftRefusal {u x z : State} (h : u.graftRefusal x = u.graftRefusal z) (n : Nat) : x.chan n = z.chan n := by
  unfold State.graftRefusal at h
  have e := congrArg (fun y : State => y.chan n) h
  exact e

theorem State.OnChan.graftRefusal {u z : State} {ss : List Session} {mb : List Mail} {m n : Nat}
    (h : (u.withMail ss mb m).OnChan z n) : u.OnChan (u.graftRefusal z) n := by
  obtain ⟨hrest, hchans, hbytes, hsegs, hevents⟩ := h.graftReply
  have e := congrArg (fun y : State => { y with oda := { y.oda with aborts := u.oda.aborts } }) hrest
  unfold State.graftRefusal
  exact ⟨e, hchans, hbytes, hsegs, hevents⟩

/-- A write of channel `n` that leaves `z`, or is refused in `y`, both of which differ from the state of the moment in that
channel only. -/
theorem State.WriteEnds.onChan {s u y z : State} {t : Nat} {r : Req} {ix sub : Nat} {data : Bytes} {a : Act} {cs : Checks}
    (h : s.WriteEnds t r ix sub data a) {ss : List Session} {mb : List Mail} {m n : Nat} (ha : a = y.act cs z)
    (hy : (u.withMail ss mb m).OnChan y n) (hz : (u.withMail ss mb m).OnChan z n) (hp : z.sys.parity = []) :
    (cs.verdict = none → ∃ s', s.hostWrite t r ix sub data = .next s' ∧ u.Replies s' (writeMsg r ix sub data) 0 [] ∧
      u.OnChan (u.graftReply s') n ∧ s'.chan n = z.chan n) ∧
    (∀ b, cs.verdict = some b → b.code < 0x09000000 →
      ∃ s', s.hostWrite t r ix sub data = .next s' ∧ u.Replies s' (writeMsg r ix sub data) b.code [] ∧
        u.OnChan (u.graftRefusal s') n ∧ s'.chan n = y.chan n) := by
  obtain ⟨hdone, haway⟩ := h
  subst ha
  constructor
  · intro hv
    obtain ⟨ss', e⟩ := hdone hv hp
    have hanswer : u.Answers z := hz.onPlay.answers
    have hnoted : u.Answers { z with oda := { z.oda with sessions := ss' } } :=
      ⟨hanswer.lanes, hanswer.quads, hanswer.truss, hanswer.out, hanswer.now⟩
    have hgraft := u.graftReply_sent z ss' r.port 0 (z.replyTo (writeMsg r ix sub data) 0 []) s.pending
    have hon : u.OnChan (u.graftReply z) n := hz.graftReply
    rw [← hgraft] at hon
    refine ⟨_, e, hanswer.replies hnoted (writeMsg r ix sub data) 0 s.pending, hon, State.chan_of_graftReply hgraft n⟩
  · intro b hv hb
    obtain ⟨ss', e⟩ := haway b hv
    have hanswer : u.Answers y := hy.onPlay.answers
    have hcounted : u.Answers (y.aborted ss' b) :=
      ⟨hanswer.lanes, hanswer.quads, hanswer.truss, hanswer.out, hanswer.now⟩
    have hgraft := u.graftRefusal_sent y ss' hb r.port 0 (y.replyTo (writeMsg r ix sub data) b.code []) s.pending
    have hon : u.OnChan (u.graftRefusal y) n := hy.graftRefusal
    rw [← hgraft] at hon
    refine ⟨_, e, hanswer.replies hcounted (writeMsg r ix sub data) b.code s.pending, hon, State.chan_of_graftRefusal hgraft n⟩

/-- An entry of channel `n` is that of index 0x2400. -/
theorem State.syncEntry_channel {y : State} (hs : y.still = false) (n : Fin 64) (sub : Nat) :
    y.syncEntry (0x2400 + n) sub 0 = y.upTo n := by
  have hclass : classOf (0x2400 + n) = 0x2400 := by
    unfold classOf
    rw [if_pos (by omega)]
  have hunit : unitOf (0x2400 + n) = n := by
    unfold unitOf
    omega
  unfold State.syncEntry
  rw [hs, if_neg Bool.false_ne_true, if_pos hclass, hunit]
  rfl

/-- A write of an integer entry of channel `n`, by what it does to the channel worked out to its last boundary. -/
theorem State.writeNum_channel (y : State) (n : Fin 64) (sub e v : Nat) (z : Word) :
    y.writeNum (0x2400 + n) sub e v z = y.writeChannel n sub v := by
  have hclass : classOf (0x2400 + n) = 0x2400 := by
    unfold classOf
    rw [if_pos (by omega)]
  have hunit : unitOf (0x2400 + n) = n := by
    unfold unitOf
    omega
  unfold State.writeNum
  rw [hclass, hunit]
  rfl

end Sys2Proof.Machine
end

section
/-! SUPPORT. CH_CTRL: what a write does to the channel (R134, R135, R319). -/

namespace Sys2Proof.Machine

/-! ## CH_CTRL (R134, R135, R137, R319) -/

/-- The device time from which the 2 us of an ENABLE count (R134). -/
def State.enableFrom (s : State) (n : Nat) : Nat :=
  if s.clockRuns n = true then max s.now (s.boundaryFs n (s.chan n).idleFrom) else s.now

/-- The channel once ENABLE is written at the time `start`: a disable that waits is noted to enable again (R135). -/
def Channel.enabledFrom (c : Channel) (start : Nat) : Channel :=
  match c.disabling with
  | some (k, _) => { c with enable := true, disabling := some (k, true) }
  | none => { c with enable := true, enabling := some start }

/-- The channel after a write of CH_CTRL: `start` is the time from which an ENABLE counts, `next` the boundary at which a
cleared ENABLE acts. -/
def Channel.controlled (c : Channel) (v start next : Nat) : Channel :=
  let c := { c with detectEn := bitOf v 1 }
  if c.state = .fault then
    if bitOf v 15 = true then { c with state := .off, enable := false, enabling := none, disabling := none }
    else { c with enable := bitOf v 0 }
  else if bitOf v 0 = true then
    if c.enable = true then c else c.enabledFrom start
  else if c.enable = true then { c with enable := false, disabling := some (next, false) }
  else c

theorem State.chan_enableChannel (s : State) (n : Nat) : (s.enableChannel n).chan n =
    if (s.chan n).enable = true then s.chan n else (s.chan n).enabledFrom (s.enableFrom n) := by
  unfold State.enableChannel Channel.enabledFrom
  dsimp only
  split
  · rfl
  · cases hd : (s.chan n).disabling with
    | some p => dsimp only; exact s.chan_modChan_self n _
    | none => dsimp only; rw [State.chan_modChan_self, hd]; rfl

theorem State.chan_disableChannel (s : State) (n : Nat) : (s.disableChannel n).chan n =
    if (s.chan n).enable = true then { s.chan n with enable := false, disabling := some (s.nextBoundary n, false) }
    else s.chan n := by
  unfold State.disableChannel
  dsimp only
  cases (s.chan n).enable
  · rfl
  · rw [Bool.not_true, if_neg Bool.false_ne_true, if_pos rfl, State.chan_modChan_self]

/-- What CH_CTRL does where it is carried out. -/
def State.controls (s : State) (n v : Nat) : State :=
  let s1 := s.modChan n fun c => { c with detectEn := bitOf v 1 }
  if (s.chan n).state = .fault then
    if bitOf v 15 then s1.clearFault n else s1.modChan n fun c => { c with enable := bitOf v 0 }
  else if bitOf v 0 then s1.enableChannel n else s1.disableChannel n

/-- CH_CTRL of a channel, worked out to its last boundary first. -/
theorem State.writeChannel_ctrl {y : State} (hs : y.still = false) (n : Fin 64) (v : Nat) : y.writeChannel n 0x01 v =
    (y.upTo n).act [(decide ((y.upTo n).sys.state = .faultSafe) && bitOf v 0, .wrongState)] ((y.upTo n).controls n v) := by
  unfold State.writeChannel
  rw [State.syncEntry_channel hs]
  rfl

theorem State.onChan_clearFault (s : State) (n : Nat) : s.OnChan (s.clearFault n) n :=
  s.onChan_modChan n _

theorem State.onChan_enableChannel (s : State) (n : Nat) : s.OnChan (s.enableChannel n) n := by
  unfold State.enableChannel
  dsimp only
  split
  · exact s.onChan_refl n
  · split
    · exact s.onChan_modChan n _
    · exact s.onChan_modChan n _

theorem State.onChan_disableChannel (s : State) (n : Nat) : s.OnChan (s.disableChannel n) n := by
  unfold State.disableChannel
  dsimp only
  split
  · exact s.onChan_refl n
  · exact s.onChan_modChan n _

theorem State.onChan_controls (s : State) (n v : Nat) : s.OnChan (s.controls n v) n := by
  unfold State.controls
  extract_lets s1
  have h1 : s.OnChan s1 n := s.onChan_modChan n _
  refine h1.trans ?_
  split
  · split
    · exact s1.onChan_clearFault n
    · exact s1.onChan_modChan n _
  · split
    · exact s1.onChan_enableChannel n
    · exact s1.onChan_disableChannel n

theorem State.enableChannel_sys (s : State) (n : Nat) : (s.enableChannel n).sys = s.sys := by
  unfold State.enableChannel
  dsimp only
  split
  · rfl
  · split
    · rfl
    · rfl

theorem State.disableChannel_sys (s : State) (n : Nat) : (s.disableChannel n).sys = s.sys := by
  unfold State.disableChannel
  dsimp only
  split
  · rfl
  · rfl

theorem State.clearFault_sys (s : State) (n : Nat) : (s.clearFault n).sys = s.sys := rfl

theorem State.controls_sys (s : State) (n v : Nat) : (s.controls n v).sys = s.sys := by
  unfold State.controls
  dsimp only
  split
  · split
    · exact State.clearFault_sys _ n
    · rfl
  · split
    · exact State.enableChannel_sys _ n
    · exact State.disableChannel_sys _ n

theorem State.chan_controls (s : State) (n v : Nat) :
    (s.controls n v).chan n = (s.chan n).controlled v (s.enableFrom n) (s.nextBoundary n) := by
  unfold State.controls Channel.controlled
  extract_lets s1 c
  have h1 : s1.chan n = c := s.chan_modChan_self n _
  have hon : s.OnChan s1 n := s.onChan_modChan n _
  have hfrom : s1.enableFrom n = s.enableFrom n := by
    unfold State.enableFrom
    rw [hon.clockRuns, hon.now, hon.boundaryFs, h1]
  have hnext : s1.nextBoundary n = s.nextBoundary n := State.nextBoundary_congr hon (by rw [h1])
  split
  · split
    · exact (State.chan_modChan_self _ _ _).trans (by rw [h1])
    · exact (State.chan_modChan_self _ _ _).trans (by rw [h1])
  · split
    · rw [State.chan_enableChannel, h1, hfrom]
    · rw [State.chan_disableChannel, h1, hnext]

theorem plainEntry_chCtrl : ∀ n : Fin 64, plainEntry (0x2400 + n) 0x01 (Entry.num 0x2400 0x01 .u32 .rw 2) = true := by
  decide

/-- A write of CH_CTRL: carried out, or with ENABLE in FAULT-SAFE refused; either way the channel has been worked out to
its last boundary. -/
theorem State.chCtrl_write {s u : State} {r : Req} {x : Session} {data : Bytes} {v : Nat} (t : Nat) (n : Fin 64)
    (hu : u = s.advance t) (hs : u.still = false) (hv : v = leNat data) (hw : u.Writes r x (0x2400 + n) 0x01 data)
    (hl : data.length = 4) :
    (¬ (u.sys.state = .faultSafe ∧ bitOf v 0 = true) →
      ∃ s', s.hostWrite t r (0x2400 + n) 0x01 data = .next s' ∧ u.Replies s' (writeMsg r (0x2400 + n) 0x01 data) 0 [] ∧
        u.OnChan (u.graftReply s') n ∧ s'.chan n =
          ((u.upTo n).chan n).controlled v ((u.upTo n).enableFrom n) ((u.upTo n).nextBoundary n)) ∧
    (u.sys.state = .faultSafe ∧ bitOf v 0 = true →
      ∃ s', s.hostWrite t r (0x2400 + n) 0x01 data = .next s' ∧
        u.Replies s' (writeMsg r (0x2400 + n) 0x01 data) Abort.wrongState.code [] ∧ u.OnChan (u.graftRefusal s') n ∧
        s'.chan n = (u.upTo n).chan n) := by
  obtain ⟨ss, mb, H⟩ := State.hostWrite_plain t (Entry.num 0x2400 0x01 .u32 .rw 2) hu (plainEntry_chCtrl n) hw
    (by rw [hl]; decide) (fun e => by cases e)
  generalize hm : u.net.traffic + 1000000 * (32 + data.length) = m at H
  have hsync : (u.withMail ss mb m).upTo n = (u.upTo n).withMail ss mb m := State.syncTo_withMail ..
  have hon : (u.withMail ss mb m).OnChan ((u.withMail ss mb m).upTo n) n := State.onChan_syncTo _ _ _
  have hsys : u.sys.SameButAlert (u.upTo n).sys := u.sys_syncTo n _
  have hstate : (u.upTo n).sys.state = u.sys.state := by have e := congrArg Sys.state hsys; exact e
  have hparity : (u.upTo n).sys.parity = u.sys.parity := by have e := congrArg Sys.parity hsys; exact e
  have hact : (u.withMail ss mb m).writeNum (0x2400 + n) 0x01 (x.sel.element (Entry.num 0x2400 0x01 .u32 .rw 2) (0x2400 + n))
      (leNat data) r.session = ((u.withMail ss mb m).upTo n).act [(decide (u.sys.state = .faultSafe) && bitOf v 0, .wrongState)]
        (((u.withMail ss mb m).upTo n).controls n v) := by
    rw [State.writeNum_channel, ← hv]
    rw [State.writeChannel_ctrl (y := u.withMail ss mb m) hs, hsync, show ((u.upTo n).withMail ss mb m).sys.state = u.sys.state from hstate]
  have hends : s.WriteEnds t r (0x2400 + n) 0x01 data _ := H _ hact.symm
  obtain ⟨hdone, haway⟩ := hends.onChan rfl hon (hon.trans (State.onChan_controls _ n v))
    (by rw [State.controls_sys, hsync]; exact hparity.trans hw.parity)
  constructor
  · intro hfree
    have hpass : (decide (u.sys.state = .faultSafe) && bitOf v 0) = false := by
      rw [Bool.and_eq_false_iff, decide_eq_false_iff_not, ← Bool.not_eq_true, ← not_and_or]
      exact hfree
    obtain ⟨s', hexec, hreply, hchan, hc⟩ := hdone (by rw [hpass]; rfl)
    refine ⟨s', hexec, hreply, hchan, hc.trans ?_⟩
    rw [State.chan_controls, hsync]
    rfl
  · rintro ⟨hsafe, hbit⟩
    obtain ⟨s', hexec, hreply, hchan, hc⟩ := haway .wrongState (by rw [hsafe, hbit]; rfl) (by decide)
    exact ⟨s', hexec, hreply, hchan, hc.trans (by rw [hsync]; rfl)⟩

end Sys2Proof.Machine
end

section
/-! SUPPORT. What a channel leaves of its bay and of Plumb: frames of cut, silence and a bell raised (R136, R138, R142). -/

namespace Sys2Proof.Machine

/-! ## What a channel, its bay and Plumb change -/

/-- `x` differs from `s` in channel `n`, in bays, cores and Plumb, in the hall passes and rings of the bulk window, in the
counts of memory errors and in the device's flags only: no other channel and no byte of segment memory. -/
structure State.OnUnit (s x : State) (n : Nat) : Prop where
  rest : { x with
    chans := s.chans, mem := s.mem, card := s.card, sys := s.sys, bays := s.bays, cores := s.cores, plumb := s.plumb } = s
  others : ∀ m, m ≠ n → x.chan m = s.chan m
  bytes : x.mem.bytes = s.mem.bytes

theorem State.onUnit_refl (s : State) (n : Nat) : s.OnUnit s n := ⟨rfl, fun _ _ => rfl, rfl⟩

theorem State.OnUnit.trans {s x y : State} {n : Nat} (h : s.OnUnit x n) (g : x.OnUnit y n) : s.OnUnit y n := by
  refine ⟨?_, fun m hm => (g.others m hm).trans (h.others m hm), g.bytes.trans h.bytes⟩
  have e := congrArg (fun z : State => { z with
    chans := s.chans, mem := s.mem, card := s.card, sys := s.sys, bays := s.bays, cores := s.cores, plumb := s.plumb }) g.rest
  exact e.trans h.rest

theorem State.OnChan.onUnit {s x : State} {n : Nat} (h : s.OnChan x n) : s.OnUnit x n := by
  obtain ⟨hrest, hchans, hbytes, -, -⟩ := h
  have e := congrArg (fun z : State => { z with bays := s.bays, cores := s.cores, plumb := s.plumb }) hrest
  exact ⟨e, hchans, hbytes⟩

theorem State.onUnit_modBay (s : State) (n b : Nat) (f : Bay → Bay) : s.OnUnit (s.modBay b f) n := ⟨rfl, fun _ _ => rfl, rfl⟩

theorem State.OnUnit.tts {s x : State} {n : Nat} (h : s.OnUnit x n) : x.tts = s.tts := by
  have e := congrArg State.tts h.rest; exact e

theorem State.onUnit_freeSub (s : State) (n : Nat) (b : Bool) : s.OnUnit (s.freeSub n b) n := by
  unfold State.freeSub
  split
  · exact s.onUnit_modBay n _ _
  · exact s.onUnit_refl n

/-- Plumb, its cores and the bays are all that differs. -/
def State.SameButPlumb (s x : State) : Prop := { x with bays := s.bays, cores := s.cores, plumb := s.plumb } = s

theorem State.SameButPlumb.trans {s x y : State} (h : s.SameButPlumb x) (g : x.SameButPlumb y) : s.SameButPlumb y := by
  have e := congrArg (fun z : State => { z with bays := s.bays, cores := s.cores, plumb := s.plumb }) g
  exact e.trans h

theorem State.sameButPlumb_endRuns (s : State) (n : Nat) : s.SameButPlumb (s.endRuns n) :=
  State.SameButPlumb.trans (x := { s with plumb := { s.plumb with run := none } }) rfl rfl

theorem State.sameButPlumb_discardRun (s : State) (n : Nat) : s.SameButPlumb (s.discardRun n) := by
  unfold State.discardRun
  split
  · split
    · extract_lets s1
      have h1 : (s.endRuns n).SameButPlumb s1 :=
        State.SameButPlumb.trans (x := (s.endRuns n).modCore n fun c => { c with reason := 0x0C }) rfl rfl
      exact ((s.sameButPlumb_endRuns n).trans h1).trans rfl
    · rfl
  · rfl

theorem State.SameButPlumb.onUnit {s x : State} (h : s.SameButPlumb x) (n : Nat) : s.OnUnit x n := by
  have e := congrArg (fun z : State => { z with chans := s.chans, mem := s.mem, card := s.card, sys := s.sys }) h
  have hchan : ∀ m, x.chan m = s.chan m := fun m => by have e := congrArg (fun z : State => z.chan m) h; exact e
  have hbytes := congrArg (fun z : State => z.mem.bytes) h
  exact ⟨e, fun m _ => hchan m, hbytes⟩

theorem State.onUnit_discardRun (s : State) (n m : Nat) : s.OnUnit (s.discardRun m) n :=
  (s.sameButPlumb_discardRun m).onUnit n

theorem State.onUnit_silence (s : State) (n k : Nat) (st : ChState) : s.OnUnit (s.silence n k st) n := by
  unfold State.silence
  exact (((s.onChan_cut n k false).onUnit.trans (State.onUnit_freeSub _ n false)).trans (State.onUnit_discardRun _ n n)).trans
    (State.onChan_modChan _ n _).onUnit

/-! ## A channel cut and silenced (R114, R136) -/

theorem State.chan_segmentEdge_eq (s : State) (n k : Nat) : (s.segmentEdge n k).chan n =
    { s.chan n with spanPending := ((s.segmentEdge n k).chan n).spanPending } := by
  have e := congrArg (fun c : Channel => { c with spanPending := ((s.segmentEdge n k).chan n).spanPending })
    (s.chan_segmentEdge n k)
  exact e

/-- A cut that keeps the escape leaves of the channel, worked out to the boundary, all but what is in progress, its
pending span and a FLUSH. -/
theorem State.chan_cut (s : State) (n k : Nat) : ∃ p,
    (s.cut n k false).chan n = { (s.syncTo n k).chan n with
      spanPending := p, flushing := none, act := .idle, idleFrom := k, events := [], gateOpened := none, emptied := true } := by
  unfold State.cut
  extract_lets s1 a ended s2 s3
  have hfree : (if ended = true then s1.release a else s1.unpinAll a.pins false).chans = s1.chans := by
    split
    · exact s1.release_chans a
    · exact s1.unpinAll_chans _ _
  have h2 : ∃ p, s2.chan n = { s1.chan n with spanPending := p } := by
    unfold s2 State.when
    split
    · have hedge := State.chan_segmentEdge_eq (if ended = true then s1.release a else s1.unpinAll a.pins false) n k
      rw [State.chan_congr hfree] at hedge
      exact ⟨_, hedge⟩
    · exact ⟨(s1.chan n).spanPending, State.chan_congr hfree n⟩
  obtain ⟨p, h2⟩ := h2
  refine ⟨p, ?_⟩
  rw [if_neg Bool.false_ne_true]
  refine (State.chan_modChan_self s2 n _).trans ?_
  rw [h2]

theorem State.freeSub_chans (s : State) (n : Nat) (b : Bool) : (s.freeSub n b).chans = s.chans := by
  unfold State.freeSub
  split <;> rfl

theorem State.discardRun_chans (s : State) (n : Nat) : (s.discardRun n).chans = s.chans := by
  have e := congrArg State.chans (s.sameButPlumb_discardRun n)
  exact e

/-- A channel that enters OFF or FAULT, what was in progress being over. -/
def Channel.silenced (c : Channel) (st : ChState) : Channel :=
  { c with
    state := st, under := .off, returning := none, stale := false, marks := 0, marksWere := [], pulses := [], drawn := []
    enabling := none, bells := [], broke := if c.broke = .pending then .pending else .none
    span := match c.spanDeferred with | some (v, _) => v | none => c.span
    spanDeferred := none }

theorem State.chan_silence (s : State) (n k : Nat) (st : ChState) :
    (s.silence n k st).chan n = ((s.cut n k false).chan n).silenced st := by
  have hc : (((s.cut n k false).freeSub n false).discardRun n).chan n = (s.cut n k false).chan n :=
    State.chan_congr ((State.discardRun_chans _ n).trans (State.freeSub_chans _ n false)) n
  unfold State.silence
  rw [State.chan_modChan_self, hc]
  rfl

/-- What a channel that has fallen silent is left with (R136). -/
structure State.Silent (s x : State) (n k : Nat) (st : ChState) : Prop where
  state : (x.chan n).state = st
  act : (x.chan n).act = .idle
  marks : (x.chan n).marks = 0
  pulses : (x.chan n).pulses = []
  returning : (x.chan n).returning = none
  flags : (x.chan n).flags = ((s.syncTo n k).chan n).flags
  complFaults : (x.chan n).complFaults = ((s.syncTo n k).chan n).complFaults

theorem State.silent_silence (s : State) (n k : Nat) (st : ChState) : s.Silent (s.silence n k st) n k st := by
  obtain ⟨p, hcut⟩ := s.chan_cut n k
  have h := s.chan_silence n k st
  rw [hcut] at h
  constructor <;> rw [h] <;> rfl

/-! ## The substitute of a channel that has fallen silent (R136, R142) -/

theorem State.serves_freeSub (s : State) (n : Nat) (b : Bool) :
    (s.freeSub n b).serves n = false ∧ (s.freeSub n b).connectsTo n = false := by
  unfold State.freeSub
  split
  · unfold State.serves State.connectsTo
    simp
  · next h =>
    simpa [Bool.or_eq_false_iff] using h

/-- Where a run of Plumb is discarded, a bay is at most taken out of OWN_PLUMB. -/
theorem State.bay_discardRun (s : State) (n b : Nat) :
    (s.discardRun n).bay b = s.bay b ∨ (s.discardRun n).bay b = { s.bay b with phase := .idle } := by
  unfold State.discardRun
  split
  · split
    · extract_lets s1
      have h1 : s1.bay b = s.bay b := rfl
      clear_value s1
      rw [State.modBay_eq, State.bay_setBay]
      split
      · next h =>
        rw [h, h1]
        split
        · exact .inr rfl
        · exact .inl rfl
      · exact .inl h1
    · exact .inl rfl
  · exact .inl rfl

theorem State.serves_discardRun {s : State} {m : Nat} (h : s.serves m = false) (n : Nat) : (s.discardRun n).serves m = false := by
  unfold State.serves at h ⊢
  rcases s.bay_discardRun n (m / 8) with e | e
  · rw [e]; exact h
  · rw [e]; simp

theorem State.connectsTo_discardRun (s : State) (n m : Nat) : (s.discardRun n).connectsTo m = s.connectsTo m := by
  unfold State.connectsTo
  rcases s.bay_discardRun n (m / 8) with e | e <;> rw [e]

theorem State.serves_silence (s : State) (n k : Nat) (st : ChState) :
    (s.silence n k st).serves n = false ∧ (s.silence n k st).connectsTo n = false := by
  obtain ⟨hserves, hconnects⟩ := (s.cut n k false).serves_freeSub n false
  exact ⟨State.serves_discardRun hserves n, (State.connectsTo_discardRun _ n n).trans hconnects⟩

/-! ## Channels while a bell is raised (R198) -/

/-- A bell raised may break the truss, and of a channel it changes no more than that it meets the break. -/
def State.SameButBroke (s x : State) : Prop := ∀ m, { x.chan m with broke := (s.chan m).broke } = s.chan m

theorem State.SameButBroke.trans {s x y : State} (h : s.SameButBroke x) (g : x.SameButBroke y) : s.SameButBroke y := fun m => by
  have e := congrArg (fun c : Channel => { c with broke := (s.chan m).broke }) (g m)
  exact e.trans (h m)

theorem State.sameButBroke_of_chans {s x : State} (h : x.chans = s.chans) : s.SameButBroke x := fun m => by
  rw [State.chan_congr h]

theorem State.sendLinks_chans (s : State) (ls : List Nat) (b : LinkBlock) : (s.sendLinks ls b).chans = s.chans :=
  State.forAll_keeps State.chans (fun s l => s.sendLink l b) (fun _ _ => rfl) ls s

theorem State.forwardBell_chans (s : State) (w : BellWord) (but : Option Nat) : (s.forwardBell w but).chans = s.chans :=
  State.forAll_keeps State.chans (fun s l => s.sendBell l w) (fun _ _ => rfl) _ s

theorem State.sameButBroke_enterBroken (s : State) (l : Option Nat) (n : Nat) (p : Byte) : s.SameButBroke (s.enterBroken l n p) := by
  unfold State.enterBroken
  split
  · exact State.sameButBroke_of_chans rfl
  · extract_lets now ta tb s1 s2 v s3
    have h2 : s2.chans = s.chans := s1.sendLinks_chans _ _
    have h3 : s3.chans = s.chans := by
      unfold s3
      split <;> exact h2
    intro m
    rw [State.chan_allChans, State.chan_congr h3]
    split <;> rfl

theorem State.sameButBroke_holdBell (s : State) (w : BellWord) (x : Ticks) : s.SameButBroke (s.holdBell w x) := by
  unfold State.holdBell
  extract_lets b
  split
  · exact State.sameButBroke_of_chans rfl
  · split
    · split
      · exact State.sameButBroke_of_chans rfl
      · unfold State.lateBreak State.when
        split
        · exact State.SameButBroke.trans (x := s.countLate.keepBell (b.turnLate s.truss.latePolicy x))
            (State.sameButBroke_of_chans rfl) (State.sameButBroke_enterBroken _ _ _ _)
        · exact State.sameButBroke_of_chans rfl
    · split <;> exact State.sameButBroke_of_chans rfl

theorem State.sameButBroke_raiseBell (s : State) (k : Nat) (p : Byte) (o : Ticks) (a b : Nat) (x : Ticks) :
    s.SameButBroke (s.raiseBell k p o a b x) := by
  unfold State.raiseBell
  split
  · unfold State.admitBell
    extract_lets w t s1
    have h1 : (s1.forwardBell w none).chans = s.chans := s1.forwardBell_chans w none
    exact (State.sameButBroke_of_chans h1).trans (State.sameButBroke_holdBell _ _ _)
  · exact State.sameButBroke_of_chans rfl

end Sys2Proof.Machine
end

section
/-! SUPPORT. What comes about at a boundary of its own, stage by stage (05_channels_and_dac.md, R135, R141, R143). -/

namespace Sys2Proof.Machine

/-! ## The stages of a boundary (R135) -/

/-- A reset whose boundary has come. -/
def State.resetDue (s : State) (n : Nat) : State :=
  match (s.chan n).resetK with
  | some (k, _) => if s.reached n k then s.resetChannel n k else s
  | none => s

/-- The factory trims whose boundary has come. -/
def State.reloadDue (s : State) (n : Nat) : State :=
  match (s.chan n).reloadK with
  | some k => if s.reached n k then ((s.syncTo n k).reloadCore n).modChan n fun c => { c with reloadK := none } else s
  | none => s

/-- A FLUSH whose boundary has come. -/
def State.flushDue (s : State) (n : Nat) : State :=
  match (s.chan n).flushing with
  | some k => if s.reached n k then s.cut n k true else s
  | none => s

/-- A cleared ENABLE acts at boundary `k`; the 2 us of one set again count from there. -/
def State.disableAt (s : State) (n k : Nat) (again : Bool) : State :=
  (s.silence n k .off).modChan n fun c => { c with
    disabling := none, broke := .none, enabling := if again then some (s.boundaryFs n k) else none }

/-- A cleared ENABLE whose boundary has come. -/
def State.disableDue (s : State) (n : Nat) : State :=
  match (s.chan n).disabling with
  | some (k, again) => if s.reached n k then s.disableAt n k again else s
  | none => s

/-- A handover whose boundary has come. -/
def State.connectDue (s : State) (n : Nat) : State :=
  match (s.bay (n / 8)).connecting with
  | some k => if s.connectsTo n && s.reached n k then s.beginHandover n k else s
  | none => s

/-- A handback whose boundary has come. -/
def State.leaveDue (s : State) (n : Nat) : State :=
  match (s.bay (n / 8)).leaving with
  | some k =>
    if s.serves n && s.reached n k then
      s.modBay (n / 8) fun b => { b with phase := .settleOut, phaseK := k, leaving := none } else s
  | none => s

/-- The end of a hold whose boundary has come. -/
def State.returnDue (s : State) (n : Nat) : State :=
  match (s.chan n).returning with
  | some k => if s.reached n k then (s.modBay (n / 8) fun b => { b with holds := b.holds + 1 }).resumeCodes n k else s
  | none => s

/-- What waits for a boundary is carried out stage by stage. -/
theorem State.dueAt_stages (s : State) (n : Nat) :
    s.dueAt n = ((((((s.resetDue n).reloadDue n).flushDue n).disableDue n).connectDue n).leaveDue n).returnDue n := rfl

/-- Where neither a reset, trims nor a FLUSH waits, the cleared ENABLE comes first. -/
theorem State.dueAt_from_disable {s : State} {n : Nat} (hreset : (s.chan n).resetK = none) (hreload : (s.chan n).reloadK = none)
    (hflush : (s.chan n).flushing = none) :
    s.dueAt n = (((s.disableDue n).connectDue n).leaveDue n).returnDue n := by
  have h1 : s.resetDue n = s := by unfold State.resetDue; rw [hreset]
  have h2 : s.reloadDue n = s := by unfold State.reloadDue; rw [hreload]
  have h3 : s.flushDue n = s := by unfold State.flushDue; rw [hflush]
  rw [State.dueAt_stages, h1, h2, h3]

theorem State.disableDue_none {s : State} {n : Nat} (h : (s.chan n).disabling = none) : s.disableDue n = s := by
  unfold State.disableDue; rw [h]

theorem State.connectDue_none {s : State} {n : Nat} (h : s.connectsTo n = false) : s.connectDue n = s := by
  unfold State.connectDue
  split
  · rw [h, Bool.false_and, if_neg Bool.false_ne_true]
  · rfl

theorem State.leaveDue_none {s : State} {n : Nat} (h : s.serves n = false ∨ (s.bay (n / 8)).leaving = none) : s.leaveDue n = s := by
  unfold State.leaveDue
  split
  · next k hk =>
    rcases h with h | h
    · rw [h, Bool.false_and, if_neg Bool.false_ne_true]
    · rw [hk] at h; cases h
  · rfl

theorem State.returnDue_none {s : State} {n : Nat} (h : (s.chan n).returning = none) : s.returnDue n = s := by
  unfold State.returnDue; rw [h]

end Sys2Proof.Machine
end

section
/-! Proof of O26. The states of a channel: enabled, disabled, cleared and tripped (05_channels_and_dac.md, R134 to
R138). -/

namespace Sys2Proof.Machine

/-! ## A cleared ENABLE at its boundary (R135, R136) -/

theorem State.serves_modChan (s : State) (n m : Nat) (f : Channel → Channel) : (s.modChan n f).serves m = s.serves m := rfl

theorem State.connectsTo_modChan (s : State) (n m : Nat) (f : Channel → Channel) :
    (s.modChan n f).connectsTo m = s.connectsTo m := rfl

/-- A channel made OFF at its boundary has left its substitute, and nothing else waits there. -/
theorem State.dueAt_disables {s : State} {n k : Nat} {again : Bool} (hd : (s.chan n).disabling = some (k, again))
    (hk : s.reached n k = true) (hreset : (s.chan n).resetK = none) (hreload : (s.chan n).reloadK = none)
    (hflush : (s.chan n).flushing = none) : s.dueAt n = s.disableAt n k again := by
  have hstage : s.disableDue n = s.disableAt n k again := by
    unfold State.disableDue
    rw [hd]
    exact if_pos hk
  obtain ⟨hserves, hconnects⟩ := s.serves_silence n k .off
  have hs : (s.disableAt n k again).serves n = false := (State.serves_modChan _ n n _).trans hserves
  have hc : (s.disableAt n k again).connectsTo n = false := (State.connectsTo_modChan _ n n _).trans hconnects
  have hr : ((s.disableAt n k again).chan n).returning = none :=
    (congrArg Channel.returning (State.chan_modChan_self _ n _)).trans (s.silent_silence n k .off).returning
  rw [State.dueAt_from_disable hreset hreload hflush, hstage, State.connectDue_none hc, State.leaveDue_none (.inl hs),
    State.returnDue_none hr]

theorem State.onUnit_disableAt (s : State) (n k : Nat) (again : Bool) : s.OnUnit (s.disableAt n k again) n :=
  (s.onUnit_silence n k .off).trans (State.onChan_modChan _ n _).onUnit

/-! ## A detector trip (R137, R138) -/

/-- What a trip has done of the channel before its bell rings. -/
def State.tripped (s : State) (n : Nat) (legs : BitVec 6) : State :=
  let s := (s.silence n (s.boundaryNow n) .fault).modChan n fun c => { c with
    flags := c.flags ||| BitVec.ofNat 8 (4 * legs.toNat), complFaults := c.complFaults + 1, disabling := none }
  ({ s with card := { s.card with
    compl := sset (fun _ => 0) s.card.compl n (satInc 32 (sget (fun _ => 0) s.card.compl n)) } } : State).alert alChFault

theorem opDetectorTrip_trips {s : State} {n : Nat} {legs : BitVec 6} (hflags : s.tripFlags n legs ≠ 0)
    (hstate : (s.chan n).state.consumes = true) (harmed : (s.chan n).detectEn = true) (hclk : s.clockRuns n = true) :
    ∃ cause, opDetectorTrip s n legs = (s.tripped n (s.tripFlags n legs)).faultBell n cause := by
  have h : (s.armedDetectors n && decide (s.tripFlags n legs ≠ 0)) = true := by
    unfold State.armedDetectors
    rw [hstate, harmed, hclk, decide_eq_true hflags]
    rfl
  unfold opDetectorTrip
  dsimp only
  rw [if_pos h]
  exact ⟨_, rfl⟩

theorem State.onUnit_setCard (s : State) (n : Nat) (v : Card) : s.OnUnit { s with card := v } n := ⟨rfl, fun _ _ => rfl, rfl⟩

theorem State.onUnit_tripped (s : State) (n : Nat) (legs : BitVec 6) : s.OnUnit (s.tripped n legs) n := by
  unfold State.tripped
  extract_lets s1
  have h1 : s.OnUnit s1 n := (s.onUnit_silence n _ .fault).trans (State.onChan_modChan _ n _).onUnit
  clear_value s1
  exact (h1.trans (s1.onUnit_setCard n _)).trans (State.onChan_alert _ n _).onUnit

theorem State.chan_tripped (s : State) (n : Nat) (legs : BitVec 6) : (s.tripped n legs).chan n =
    { (s.silence n (s.boundaryNow n) .fault).chan n with
      flags := ((s.silence n (s.boundaryNow n) .fault).chan n).flags ||| BitVec.ofNat 8 (4 * legs.toNat)
      complFaults := ((s.silence n (s.boundaryNow n) .fault).chan n).complFaults + 1, disabling := none } := by
  unfold State.tripped
  extract_lets s1
  have h1 : s1.chan n = _ := State.chan_modChan_self (s.silence n (s.boundaryNow n) .fault) n _
  clear_value s1
  exact h1

theorem State.faultBell_rings (s : State) (n cause : Nat) :
    s.SameButBroke (s.faultBell n cause) ∧ s.SameButBells (s.faultBell n cause) := by
  unfold State.faultBell
  dsimp only
  split
  · exact ⟨State.sameButBroke_raiseBell _ _ _ _ _ _ _, State.sameButBells_raiseBell _ _ _ _ _ _ _⟩
  · exact ⟨State.sameButBroke_of_chans rfl, rfl⟩

/-- What a trip leaves, its bell rung. -/
theorem detectorTrip_trips {s : State} {n : Nat} {legs : BitVec 6} (hflags : s.tripFlags n legs ≠ 0)
    (hstate : (s.chan n).state.consumes = true) (harmed : (s.chan n).detectEn = true) (hclk : s.clockRuns n = true) :
    ∃ x, opDetectorTrip s n legs = x ∧ (x.chan n).state = .fault ∧ (x.chan n).act = .idle ∧ (x.chan n).marks = 0 ∧
      (x.chan n).complFaults = ((s.upTo n).chan n).complFaults + 1 ∧
      (x.chan n).flags = ((s.upTo n).chan n).flags ||| BitVec.ofNat 8 (4 * (s.tripFlags n legs).toNat) ∧
      (∀ m, m ≠ n → { x.chan m with broke := (s.chan m).broke } = s.chan m) ∧ x.mem.bytes = s.mem.bytes ∧ x.tts = s.tts := by
  obtain ⟨cause, hop⟩ := opDetectorTrip_trips hflags hstate harmed hclk
  have hunit := s.onUnit_tripped n (s.tripFlags n legs)
  have hchan := s.chan_tripped n (s.tripFlags n legs)
  have hsilent := s.silent_silence n (s.boundaryNow n) .fault
  obtain ⟨hbroke, hbells⟩ := (s.tripped n (s.tripFlags n legs)).faultBell_rings n cause
  refine ⟨_, hop, ?_⟩
  generalize s.silence n (s.boundaryNow n) .fault = y at hchan hsilent
  generalize s.tripped n (s.tripFlags n legs) = z at hunit hchan hbroke hbells ⊢
  generalize z.faultBell n cause = x at hbroke hbells ⊢
  have hn := hbroke n
  refine ⟨?_, ?_, ?_, ?_, ?_, fun m hm => ?_, ?_, ?_⟩
  · have e := congrArg Channel.state hn
    exact Eq.trans e (by rw [hchan]; exact hsilent.state)
  · have e := congrArg Channel.act hn
    exact Eq.trans e (by rw [hchan]; exact hsilent.act)
  · have e := congrArg Channel.marks hn
    exact Eq.trans e (by rw [hchan]; exact hsilent.marks)
  · have e := congrArg Channel.complFaults hn
    exact Eq.trans e (by rw [hchan]; exact congrArg (· + 1) hsilent.complFaults)
  · have e := congrArg Channel.flags hn
    exact Eq.trans e (by rw [hchan]; exact congrArg (· ||| BitVec.ofNat 8 (4 * (s.tripFlags n legs).toNat)) hsilent.flags)
  · have e := hbroke m
    rw [hunit.others m hm] at e
    exact e
  · have e := congrArg (fun v : State => v.mem.bytes) hbells
    exact Eq.trans e hunit.bytes
  · have e := congrArg State.tts hbells
    exact Eq.trans e hunit.tts

/-! ## The end of ENABLING (R134) -/

/-- After its 2 us the channel is PARKED at the boundary. -/
theorem opEnablingComplete_parks {s : State} {n x k : Nat} (hx : (s.chan n).enabling = some x)
    (hk : k = s.boundaryFrom n (max x (s.chan n).runsFrom + 2 * usFs)) (hr : s.reached n k = true) :
    ((opEnablingComplete s n).chan n).state = .parked ∧ ((opEnablingComplete s n).chan n).enabling = none ∧
      ((opEnablingComplete s n).chan n).idleFrom = k ∧
      ((opEnablingComplete s n).chan n).queue = ((s.syncTo n k).chan n).queue := by
  unfold opEnablingComplete
  rw [hx]
  dsimp only
  rw [← hk, if_pos hr, State.chan_modChan_self]
  exact ⟨rfl, rfl, rfl, rfl⟩

/-! ## CH_CTRL by the channel's state (R134, R135) -/

/-- Settles O26: CH_CTRL by the state of the channel worked out, the end of ENABLING, a trip and a cleared ENABLE. -/
theorem channelStates : Obligations.ChannelStates := by
  unfold Obligations.ChannelStates
  refine ⟨fun s u t n c hu hs hc => ⟨fun r x data v hv hw hl => ?_, fun x k hx hk hclk hnow => ?_,
    fun legs hflags hstate harmed hclk => ?_⟩, fun y n k again hd hk hreset hreload hflush => ?_⟩
  · obtain ⟨hdone, haway⟩ := State.chCtrl_write t n hu hs hv hw hl
    rw [← hc] at hdone haway
    refine ⟨fun hbit hsafe => ?_, fun hbit hsafe => haway ⟨hsafe, hbit⟩, fun hbit hfault => ?_, fun hbit hfault hsafe => ?_⟩
    · obtain ⟨s', hexec, hreply, hon, hchan⟩ := hdone fun h => hsafe h.1
      have hfrom : (u.upTo n).enableFrom n =
          if (u.upTo n).clockRuns n = true then max u.now ((u.upTo n).boundaryFs n c.idleFrom) else u.now := by
        have hnow : (u.upTo n).now = u.now := (u.onChan_syncTo n _).now
        unfold State.enableFrom
        rw [hnow, hc]
      refine ⟨s', hexec, hon, fun _ => hreply, fun hfault hen hdis => ?_, fun k b hfault hen hdis => ?_, fun hfault hen => ?_,
        fun hfault hclr => ?_⟩
      · rw [hchan, ← hfrom]; simp [Channel.controlled, Channel.enabledFrom, hfault, hbit, hen, hdis]
      · rw [hchan]; simp [Channel.controlled, Channel.enabledFrom, hfault, hbit, hen, hdis]
      · rw [hchan]; simp [Channel.controlled, hfault, hbit, hen]
      · rw [hchan]; simp [Channel.controlled, hfault, hbit, hclr]
    · obtain ⟨s', hexec, hreply, hon, hchan⟩ := hdone fun h => by rw [hbit] at h; exact Bool.false_ne_true h.2
      refine ⟨s', hexec, hreply, hon, ?_⟩
      rw [hchan]; simp [Channel.controlled, hfault, hbit]
    · obtain ⟨s', hexec, hreply, hon, hchan⟩ := hdone fun h => by rw [hsafe h.1] at h; exact Bool.false_ne_true h.2
      refine ⟨s', hexec, hreply, hon, ?_⟩
      rw [hchan]; simp [Channel.controlled, hfault, hbit]
  · have hr : u.reached n k = true := by
      unfold State.reached
      rw [hclk, decide_eq_true hnow]
      rfl
    have hexec : exec (.enablingComplete t n) s = .next ((opEnablingComplete u n).close s.pending) := by
      subst hu; exact event_next s t (fun s => opEnablingComplete s n) hs
    refine ⟨_, hexec, (onChan_enablingComplete u n).graft_close _, ?_⟩
    rw [State.close_chan]
    exact opEnablingComplete_parks hx hk hr
  · have hexec : exec (.detectorTrip t n legs) s = .next ((opDetectorTrip u n legs).close s.pending) := by
      subst hu; exact event_next s t (fun s => opDetectorTrip s n legs) hs
    obtain ⟨x, hop, hfault, hact, hmarks, hcount, hflag, hothers, hbytes, htts⟩ :=
      detectorTrip_trips hflags hstate harmed hclk
    rw [hop] at hexec
    rw [← hc] at hcount hflag
    refine ⟨_, hexec, ?_⟩
    simp only [State.close_chan, State.close_mem, State.close_tts]
    exact ⟨hfault, hact, hmarks, hcount, hflag, fun m _ hm => hothers m hm, hbytes, htts⟩
  · have hsilent := y.silent_silence n k .off
    have hunit := y.onUnit_disableAt n k again
    rw [State.dueAt_disables hd hk hreset hreload hflush]
    have hchan : (y.disableAt n k again).chan n = _ := State.chan_modChan_self _ n _
    refine ⟨?_, ?_, ?_, ?_, ?_, hunit.others, hunit.bytes, hunit.tts⟩ <;> rw [hchan]
    · exact hsilent.state
    · exact hsilent.act
    · exact hsilent.marks
    · exact hsilent.pulses

end Sys2Proof.Machine
end

section
/-! SUPPORT. What a boundary of its own leaves of the rest of the device (05_channels_and_dac.md, R135). -/

namespace Sys2Proof.Machine

/-! ## What a boundary leaves alone (R133, R135, R200) -/

theorem State.onUnit_modCore (s : State) (n m : Nat) (f : Core → Core) : s.OnUnit (s.modCore m f) n := ⟨rfl, fun _ _ => rfl, rfl⟩

/-- A deferred span that applies changes its channel only. -/
theorem State.onUnit_applyDeferred (s : State) (n k : Nat) (v : BitVec 3) (host : Bool) :
    s.OnUnit ((s.modChan n fun c => { c with spanDeferred := none }).applySpan n k v host) n :=
  ((s.onChan_modChan n _).trans (State.onChan_applySpan _ n k v host)).onUnit

theorem State.onUnit_resetChannel (s : State) (n k : Nat) : s.OnUnit (s.resetChannel n k) n := by
  unfold State.resetChannel
  extract_lets s1 s2 s3
  have h1 : s.OnUnit s1 n := ((s.onChan_emptyQueue n).trans (State.onChan_cut _ n k true)).onUnit
  have h2 : s1.OnUnit s2 n := by
    unfold s2
    split
    · exact (s1.onUnit_freeSub n true).trans (State.onUnit_discardRun _ n n)
    · exact s1.onUnit_refl n
  have h3 : s2.OnUnit s3 n := (s2.onChan_modChan n _).onUnit
  refine ((h1.trans h2).trans h3).trans ?_
  clear_value s3
  split
  · exact s3.onUnit_applyDeferred n k _ _
  · exact s3.onUnit_refl n

theorem State.onUnit_applyBreak (s : State) (n k : Nat) : s.OnUnit (s.applyBreak n k) n := by
  have hchan : ∀ (y : State) (f : Channel → Channel), y.OnUnit (y.modChan n f) n := fun y f => (y.onChan_modChan n f).onUnit
  have hcut : ∀ (y : State) (f : Channel → Channel), y.OnUnit (((y.emptyQueue n).cut n k true).modChan n f) n := fun y f =>
    (((y.onChan_emptyQueue n).trans (State.onChan_cut _ n k true)).modChan f).onUnit
  unfold State.applyBreak
  extract_lets s1 c pol
  have h1 : s.OnUnit s1 n := (s.onChan_syncTo n k).onUnit
  refine h1.trans ?_
  split
  · split
    · exact hchan s1 _
    · exact (s1.onUnit_silence n k .off).trans (hchan _ _)
  · split
    · exact hchan s1 _
    · split
      · exact hchan s1 _
      · split
        · exact hchan s1 _
        · split
          · exact hchan s1 _
          · exact hcut s1 _
        · split
          · exact hchan s1 _
          · exact hcut s1 _
        · exact hchan s1 _

theorem State.onUnit_returnChannel (s : State) (n k : Nat) : s.OnUnit (s.returnChannel n k) n := by
  unfold State.returnChannel
  extract_lets s1 s2
  have h2 : s.OnUnit s2 n := ((s.onChan_syncTo n k).modChan _).onUnit
  refine h2.trans ?_
  clear_value s2
  split
  · exact s2.onUnit_applyDeferred n k _ _
  · exact s2.onUnit_refl n

theorem State.onUnit_resumeCodes (s : State) (n k : Nat) : s.OnUnit (s.resumeCodes n k) n := by
  unfold State.resumeCodes
  extract_lets s1
  have h1 : s.OnUnit s1 n := (s.onChan_modChan n _).onUnit.trans (State.onUnit_returnChannel _ n k)
  refine h1.trans ?_
  split
  · exact s1.onUnit_applyBreak n k
  · exact s1.onUnit_refl n

theorem State.onUnit_beginHandover (s : State) (n k : Nat) : s.OnUnit (s.beginHandover n k) n := by
  unfold State.beginHandover
  extract_lets cover s1 c
  have h1 : s.OnUnit s1 n := (s.onChan_syncTo n k).onUnit
  exact (h1.trans (s1.onUnit_modBay n _ _)).trans (State.onChan_modChan _ n _).onUnit

theorem State.onUnit_resetDue (s : State) (n : Nat) : s.OnUnit (s.resetDue n) n := by
  unfold State.resetDue
  split
  · split
    · exact s.onUnit_resetChannel n _
    · exact s.onUnit_refl n
  · exact s.onUnit_refl n

theorem State.onUnit_reloadDue (s : State) (n : Nat) : s.OnUnit (s.reloadDue n) n := by
  unfold State.reloadDue
  split
  · split
    · exact ((s.onChan_syncTo n _).onUnit.trans (State.onUnit_modCore _ n n _)).trans (State.onChan_modChan _ n _).onUnit
    · exact s.onUnit_refl n
  · exact s.onUnit_refl n

theorem State.onUnit_flushDue (s : State) (n : Nat) : s.OnUnit (s.flushDue n) n := by
  unfold State.flushDue
  split
  · split
    · exact (s.onChan_cut n _ true).onUnit
    · exact s.onUnit_refl n
  · exact s.onUnit_refl n

theorem State.onUnit_disableDue (s : State) (n : Nat) : s.OnUnit (s.disableDue n) n := by
  unfold State.disableDue
  split
  · split
    · exact s.onUnit_disableAt n _ _
    · exact s.onUnit_refl n
  · exact s.onUnit_refl n

theorem State.onUnit_connectDue (s : State) (n : Nat) : s.OnUnit (s.connectDue n) n := by
  unfold State.connectDue
  split
  · split
    · exact s.onUnit_beginHandover n _
    · exact s.onUnit_refl n
  · exact s.onUnit_refl n

theorem State.onUnit_leaveDue (s : State) (n : Nat) : s.OnUnit (s.leaveDue n) n := by
  unfold State.leaveDue
  split
  · split
    · exact s.onUnit_modBay n _ _
    · exact s.onUnit_refl n
  · exact s.onUnit_refl n

theorem State.onUnit_returnDue (s : State) (n : Nat) : s.OnUnit (s.returnDue n) n := by
  unfold State.returnDue
  split
  · split
    · exact (s.onUnit_modBay n _ _).trans (State.onUnit_resumeCodes _ n _)
    · exact s.onUnit_refl n
  · exact s.onUnit_refl n

/-- What comes about at a boundary of channel `n` changes no other channel, no timetable and nothing on the lanes. -/
theorem State.onUnit_dueAt (s : State) (n : Nat) : s.OnUnit (s.dueAt n) n := by
  rw [State.dueAt_stages]
  have hoff : s.OnUnit (((s.resetDue n).reloadDue n).flushDue n |>.disableDue n) n :=
    (((s.onUnit_resetDue n).trans (State.onUnit_reloadDue _ n)).trans (State.onUnit_flushDue _ n)).trans
      (State.onUnit_disableDue _ n)
  exact ((hoff.trans (State.onUnit_connectDue _ n)).trans (State.onUnit_leaveDue _ n)).trans (State.onUnit_returnDue _ n)

end Sys2Proof.Machine
end

section
/-! SUPPORT. The tap of a core withdrawn from the TIU (09_time_interval_unit.md, R228). -/

namespace Sys2Proof.Machine

/-! ## The tap of a core withdrawn from the TIU (R228) -/

/-- Slot `w` is slot `v` with TAP_GAP and its pairing begun again, where its measurement was met; else it is slot `v`. -/
def TiuSlot.GapOf (v w : TiuSlot) (met : Bool) : Prop :=
  if met = true then
    { w with starts := v.starts, stops := v.stops, resyncs := v.resyncs, skipA := v.skipA, skipB := v.skipB } =
      { v with flags := v.flags ||| 8 }
  else w = v

theorem TiuSlot.GapOf.trans {v w z : TiuSlot} {a b : Bool} (h : v.GapOf w a) (g : w.GapOf z b) : v.GapOf z (a || b) := by
  have htwice : v.flags ||| 8 ||| 8 = v.flags ||| 8 := by rw [BitVec.or_assoc, BitVec.or_self]
  unfold TiuSlot.GapOf at *
  cases a
  · subst h; exact g
  · cases b
    · subst g; exact h
    · have e := congrArg (fun y : TiuSlot =>
        { y with starts := v.starts, stops := v.stops, resyncs := v.resyncs, skipA := v.skipA, skipB := v.skipB }) g
      have f := congrArg (fun y : TiuSlot => { y with flags := y.flags ||| 8 }) h
      have hw : w.flags = v.flags ||| 8 := by have i := congrArg TiuSlot.flags h; exact i
      refine Eq.trans e (Eq.trans f ?_)
      exact congrArg (fun x => { v with flags := x }) htwice

/-- Whether a slot's measurement uses channel `x` of the TIU is not changed by a gap. -/
theorem TiuSlot.GapOf.meets {v w : TiuSlot} {a : Bool} (h : v.GapOf w a) (c x : Nat) :
    (w.measuring && w.uses c x) = (v.measuring && v.uses c x) ∧ w.src = v.src := by
  unfold TiuSlot.GapOf at h
  cases a
  · subst h; exact ⟨rfl, rfl⟩
  · have e := congrArg (fun y : TiuSlot => (y.measuring && y.uses c x, y.src)) h
    exact Prod.mk.inj e

/-- Slot `c` loses the tap that channel `x` of the TIU measures with. -/
def State.gapSlot (s : State) (x c : Nat) : State :=
  if (s.slot c).measuring && (s.slot c).uses c x then (s.modSlot c fun v => v.set mfTapGap).resyncPairs c x else s

/-- The tap is withdrawn from channel `x` of the TIU. -/
def State.gapChannel (s : State) (x : Nat) : State := s.forAll (List.range 16) fun s c => s.gapSlot x c

theorem State.gapTap_eq (s : State) (i : Nat) : s.gapTap i =
    s.forAll ((List.range 16).filter fun x => decide ((s.slot x).src = i + 1)) State.gapChannel := rfl

/-- The slots are all that differs. -/
def State.SameButSlots (s x : State) : Prop := { x with tiu := { x.tiu with slots := s.tiu.slots } } = s

theorem State.SameButSlots.trans {s x y : State} (h : s.SameButSlots x) (g : x.SameButSlots y) : s.SameButSlots y := by
  have e := congrArg (fun z : State => { z with tiu := { z.tiu with slots := s.tiu.slots } }) g
  exact Eq.trans e h

theorem State.sameButSlots_setSlot (s : State) (c : Nat) (v : TiuSlot) : s.SameButSlots (s.setSlot c v) := rfl

theorem State.sameButSlots_gapSlot (s : State) (x c : Nat) : s.SameButSlots (s.gapSlot x c) := by
  unfold State.gapSlot
  split
  · have h := s.sameButSlots_setSlot c ((s.slot c).set mfTapGap)
    rw [State.modSlot_eq]
    refine h.trans ?_
    unfold State.resyncPairs
    dsimp only
    split
    · exact State.sameButSlots_setSlot _ _ _
    · rfl
  · rfl

/-- What is met at slot `c` by the withdrawal of the tap from channel `x` of the TIU. -/
theorem State.slot_gapSlot (s : State) (x c i : Nat) :
    (s.slot i).GapOf ((s.gapSlot x c).slot i) (decide (i = c) && ((s.slot c).measuring && (s.slot c).uses c x)) := by
  have hmarked : ∀ v : TiuSlot, v.GapOf (v.set mfTapGap) true := fun v => rfl
  unfold State.gapSlot
  split
  · next hmet =>
    rw [hmet, Bool.and_true, State.modSlot_eq]
    have h1 := s.slot_setSlot c i ((s.slot c).set mfTapGap)
    unfold State.resyncPairs
    by_cases h : i = c
    · subst h
      rw [decide_eq_true rfl]
      dsimp only
      split
      · rw [State.slot_setSlot_self, State.slot_setSlot_self]
        rfl
      · rw [State.slot_setSlot_self]
        exact hmarked _
    · rw [decide_eq_false h]
      rw [if_neg (Ne.symm h)] at h1
      dsimp only
      split
      · exact (State.slot_setSlot _ c i _).trans ((if_neg (Ne.symm h)).trans h1)
      · exact h1
  · next hmet =>
    rw [Bool.not_eq_true] at hmet
    rw [hmet, Bool.and_false]
    exact rfl

/-- A tap withdrawn from channel `x` of the TIU, slot after slot. -/
theorem State.slot_gapSlots (x : Nat) (cs : List Nat) : ∀ (s : State) (i : Nat),
    (s.slot i).GapOf ((s.forAll cs fun s c => s.gapSlot x c).slot i)
      (decide (i ∈ cs) && ((s.slot i).measuring && (s.slot i).uses i x)) := by
  induction cs with
  | nil => exact fun s i => rfl
  | cons c r ih =>
    intro s i
    have h1 := s.slot_gapSlot x c i
    have h2 := ih (s.gapSlot x c) i
    rw [(h1.meets i x).1] at h2
    have h := h1.trans h2
    have hmet : ((decide (i = c) && ((s.slot c).measuring && (s.slot c).uses c x)) ||
        (decide (i ∈ r) && ((s.slot i).measuring && (s.slot i).uses i x))) =
        (decide (i ∈ c :: r) && ((s.slot i).measuring && (s.slot i).uses i x)) := by
      by_cases e : i = c
      · subst e; simp
      · simp [e]
    rw [hmet] at h
    exact h

/-- The slots whose measurements use one of the TIU's channels `xs`. -/
def TiuSlot.usesAny (v : TiuSlot) (c : Nat) (xs : List Nat) : Bool := xs.any fun x => v.measuring && v.uses c x

theorem State.forAll_cons {α : Type} (s : State) (a : α) (r : List α) (f : State → α → State) :
    s.forAll (a :: r) f = (f s a).forAll r f := rfl

theorem State.slot_gapChannels (xs : List Nat) : ∀ (s : State) (i : Nat),
    (s.slot i).GapOf ((s.forAll xs State.gapChannel).slot i)
      (decide (i < 16) && (s.slot i).usesAny i xs) := by
  induction xs with
  | nil => intro s i; rw [show (s.slot i).usesAny i [] = false from rfl, Bool.and_false]; exact rfl
  | cons x r ih =>
    intro s i
    have h1 : (s.slot i).GapOf ((s.gapChannel x).slot i) _ := s.slot_gapSlots x (List.range 16) i
    have h2 := ih (s.gapChannel x) i
    have hkeep : ((s.gapChannel x).slot i).usesAny i r = (s.slot i).usesAny i r := by
      unfold TiuSlot.usesAny
      exact congrArg r.any (funext fun y => (h1.meets i y).1)
    rw [hkeep] at h2
    have h := h1.trans h2
    have hmet : ((decide (i ∈ List.range 16) && ((s.slot i).measuring && (s.slot i).uses i x)) ||
        (decide (i < 16) && (s.slot i).usesAny i r)) = (decide (i < 16) && (s.slot i).usesAny i (x :: r)) := by
      rw [decide_eq_decide.2 List.mem_range, ← Bool.and_or_distrib_left]
      unfold TiuSlot.usesAny
      rw [List.any_cons]
    rw [hmet] at h
    rw [State.forAll_cons]
    exact h

/-- The slots that measure with the tap of core `i` take TAP_GAP, the others stay, and nothing but the slots changes. -/
theorem State.slot_gapTap (s : State) (i c : Nat) : (s.slot c).GapOf ((s.gapTap i).slot c)
    (decide (c < 16) && (s.slot c).usesAny c ((List.range 16).filter fun x => decide ((s.slot x).src = i + 1))) := by
  rw [State.gapTap_eq]
  exact State.slot_gapChannels _ s c

theorem State.sameButSlots_forAll {f : State → Nat → State} (h : ∀ (s : State) (a : Nat), s.SameButSlots (f s a)) (xs : List Nat) :
    ∀ s : State, s.SameButSlots (s.forAll xs f) := by
  induction xs with
  | nil => exact fun s => rfl
  | cons a r ih => exact fun s => (h s a).trans (ih (f s a))

theorem State.sameButSlots_gapTap (s : State) (i : Nat) : s.SameButSlots (s.gapTap i) := by
  rw [State.gapTap_eq]
  exact State.sameButSlots_forAll (fun s x => State.sameButSlots_forAll (fun s c => s.sameButSlots_gapSlot x c) _ s) _ s

end Sys2Proof.Machine
end

section
/-! Proof of O31. Handovers, from b0 to the channel's return (05_channels_and_dac.md, R141 to R143). -/

namespace Sys2Proof.Machine

/-! ## A channel returns (R141, R143) -/

/-- A channel without a deferred span or break takes its codes up again at boundary `k`: PLAYING, or PARKED where no
descriptor had begun. -/
structure State.Resumes (s x : State) (n : Nat) : Prop where
  state : (x.chan n).state = if (s.chan n).begun = true then .playing else .parked
  stale : (x.chan n).stale = false
  returning : (x.chan n).returning = none
  bays : x.bays = s.bays

theorem Channel.KeepsPlan.returned {c c' : Channel} (h : c.KeepsPlan c') : c'.state = c.state ∧ c'.begun = c.begun ∧
    c'.broke = c.broke ∧ c'.spanDeferred = c.spanDeferred ∧ c'.returning = c.returning := by
  have e := congrArg (fun v : Channel => (v.state, v.begun, v.broke, v.spanDeferred, v.returning)) h
  simpa only [Prod.mk.injEq] using e

/-- A channel that returns, not MUTED and without a deferred span. -/
theorem State.returnChannel_eq {s : State} {n k : Nat} (hspan : (s.chan n).spanDeferred = none) (hmuted : (s.chan n).state ≠ .muted) :
    s.returnChannel n k = (s.syncTo n k).setChan n { (s.syncTo n k).chan n with
      state := if (s.chan n).begun = true then .playing else .parked, stale := false } := by
  obtain ⟨hstate, hbegun, -, hdeferred, -⟩ := (s.keepsPlan_syncTo n k n).returned
  have hmuted' : ¬ ((s.syncTo n k).chan n).state = .muted := by rw [hstate]; exact hmuted
  unfold State.returnChannel
  extract_lets s1 s2
  have h2 : s2 = s1.setChan n { s1.chan n with state := if (s.chan n).begun = true then .playing else .parked, stale := false } := by
    unfold s2
    rw [State.modChan_eq]
    dsimp only
    rw [if_neg hmuted', hbegun]
  have hnone : (s2.chan n).spanDeferred = none := by
    rw [h2, State.chan_setChan_self]
    exact hdeferred.trans hspan
  rw [hnone, h2]

theorem State.resumes_resumeCodes {s : State} {n : Nat} (k : Nat) (hspan : (s.chan n).spanDeferred = none)
    (hbroke : (s.chan n).broke ≠ .deferred) (hmuted : (s.chan n).state ≠ .muted) : s.Resumes (s.resumeCodes n k) n := by
  have h0 : (s.modChan n fun c => { c with returning := none }).chan n = { s.chan n with returning := none } :=
    s.chan_modChan_self n _
  have hon : s.OnChan (s.modChan n fun c => { c with returning := none }) n := s.onChan_modChan n _
  unfold State.resumeCodes
  generalize (s.modChan n fun c => { c with returning := none }) = y at h0 hon
  have hreturn := State.returnChannel_eq (s := y) (n := n) (k := k) (by rw [h0]; exact hspan) (by rw [h0]; exact hmuted)
  obtain ⟨-, -, hb, -, hr⟩ := (y.keepsPlan_syncTo n k n).returned
  have hsync : s.OnChan (y.syncTo n k) n := hon.trans (y.onChan_syncTo n k)
  have hbegun : (y.chan n).begun = (s.chan n).begun := by rw [h0]
  have hchan : (y.returnChannel n k).chan n = { (y.syncTo n k).chan n with
      state := if (s.chan n).begun = true then .playing else .parked, stale := false } := by
    rw [hreturn, State.chan_setChan_self, hbegun]
  have hkept : ((y.returnChannel n k).chan n).broke ≠ .deferred := by
    rw [hchan]
    dsimp only
    rw [hb, h0]
    exact hbroke
  dsimp only
  rw [if_neg fun h => hkept h.1]
  refine ⟨by rw [hchan], by rw [hchan], ?_, ?_⟩
  · rw [hchan]
    dsimp only
    rw [hr, h0]
  · have e := congrArg State.bays hsync.1
    rw [hreturn]
    exact e

/-! ## What comes about at the boundary of a handover (R141, R143) -/

theorem State.OnChan.bays {s x : State} {n : Nat} (h : s.OnChan x n) : x.bays = s.bays := by
  have e := congrArg State.bays h.1; exact e

theorem State.bay_congr {x y : State} (h : x.bays = y.bays) (b : Nat) : x.bay b = y.bay b := by
  unfold State.bay
  rw [h]

/-- The bay once a handover has begun at boundary `k`, held with the code `code` where the dividers differ. -/
theorem State.bay_beginHandover (s : State) (n k b : Nat) : (s.beginHandover n k).bay b =
    if n / 8 = b then { s.bay (n / 8) with
        phase := .settleIn, holdMode := !s.sameDivider n, channel := n, phaseK := k, connecting := none
        heldCode := (s.chanAt n k).lastCode.getD (s.chanAt n k).vals.park }
    else s.bay b := by
  have hbays : (s.syncTo n k).bays = s.bays := (s.onChan_syncTo n k).bays
  unfold State.beginHandover State.chanAt
  extract_lets cover s1 c
  have hs1 : s1.bays = s.bays := hbays
  have hc : c = s1.chan n := rfl
  rw [← hc]
  rw [State.modChan_eq, State.setChan_bay, State.modBay_eq, State.bay_setBay, State.bay_congr hs1, State.bay_congr hs1]

theorem State.chan_beginHandover (s : State) (n k : Nat) : (s.beginHandover n k).chan n =
    if s.sameDivider n = true then { s.chanAt n k with state := .substituted }
    else { s.chanAt n k with state := .held, stale := true } := by
  unfold State.beginHandover State.chanAt
  extract_lets cover s1 c
  exact State.chan_modChan_self _ n _

/-- A handover ordered for boundary `k` begins there. -/
theorem State.dueAt_begins {s : State} {n k : Nat} (hreset : (s.chan n).resetK = none) (hreload : (s.chan n).reloadK = none)
    (hflush : (s.chan n).flushing = none) (hdis : (s.chan n).disabling = none) (hk : s.reached n k = true)
    (hconnect : (s.bay (n / 8)).connecting = some k) (hchannel : (s.bay (n / 8)).channel = n)
    (hleave : (s.bay (n / 8)).leaving = none) (hreturn : (s.chan n).returning = none) :
    s.dueAt n = s.beginHandover n k := by
  have hto : s.connectsTo n = true := by
    unfold State.connectsTo
    dsimp only
    rw [hconnect, hchannel, decide_eq_true rfl]
    rfl
  have hstage : s.connectDue n = s.beginHandover n k := by
    unfold State.connectDue
    rw [hconnect]
    exact if_pos (by rw [hto, hk]; rfl)
  have hl : ((s.beginHandover n k).bay (n / 8)).leaving = none := by
    rw [State.bay_beginHandover, if_pos rfl]
    exact hleave
  have hr : ((s.beginHandover n k).chan n).returning = none := by
    obtain ⟨-, -, -, -, hkept⟩ := (s.keepsPlan_syncTo n k n).returned
    have hnone : (s.chanAt n k).returning = none := hkept.trans hreturn
    rw [State.chan_beginHandover]
    split <;> exact hnone
  rw [State.dueAt_from_disable hreset hreload hflush, State.disableDue_none hdis, hstage, State.leaveDue_none (.inr hl),
    State.returnDue_none hr]

theorem State.connectsTo_none {s : State} {n : Nat} (h : (s.bay (n / 8)).connecting = none) : s.connectsTo n = false := by
  unfold State.connectsTo
  dsimp only
  rw [h]
  exact Bool.and_false _

/-- A handback ordered for boundary `k` opens its settle-out there. -/
theorem State.dueAt_leaves {s : State} {n k : Nat} (hreset : (s.chan n).resetK = none) (hreload : (s.chan n).reloadK = none)
    (hflush : (s.chan n).flushing = none) (hdis : (s.chan n).disabling = none) (hk : s.reached n k = true)
    (hleave : (s.bay (n / 8)).leaving = some k) (hconnect : (s.bay (n / 8)).connecting = none) (hserves : s.serves n = true)
    (hreturn : (s.chan n).returning = none) :
    s.dueAt n = s.modBay (n / 8) fun b => { b with phase := .settleOut, phaseK := k, leaving := none } := by
  have hstage : s.leaveDue n = s.modBay (n / 8) fun b => { b with phase := .settleOut, phaseK := k, leaving := none } := by
    unfold State.leaveDue
    rw [hleave]
    exact if_pos (by rw [hserves, hk]; rfl)
  rw [State.dueAt_from_disable hreset hreload hflush, State.disableDue_none hdis,
    State.connectDue_none (State.connectsTo_none hconnect), hstage]
  exact State.returnDue_none hreturn

/-- A hold that ends at boundary `k` gives the channel back there. -/
theorem State.dueAt_returns {s : State} {n k : Nat} (hreset : (s.chan n).resetK = none) (hreload : (s.chan n).reloadK = none)
    (hflush : (s.chan n).flushing = none) (hdis : (s.chan n).disabling = none) (hk : s.reached n k = true)
    (hconnect : (s.bay (n / 8)).connecting = none) (hleave : (s.bay (n / 8)).leaving = none)
    (hreturn : (s.chan n).returning = some k) :
    s.dueAt n = (s.modBay (n / 8) fun b => { b with holds := b.holds + 1 }).resumeCodes n k := by
  rw [State.dueAt_from_disable hreset hreload hflush, State.disableDue_none hdis,
    State.connectDue_none (State.connectsTo_none hconnect), State.leaveDue_none (.inr hleave)]
  unfold State.returnDue
  rw [hreturn]
  exact if_pos hk

/-! ## Time alone, with one boundary waiting -/

/-- Where one boundary is all that time brings about, it is what time brings about. -/
theorem State.advance_oneBoundary {s : State} (t : Nat) {n : Nat} (hstill : s.still = false) (hset : s.unsettled = false)
    (hlane : s.laneWaits = false) (htraffic : s.net.traffic = 0) (hup : s.upLanes = []) (hwait : s.waitingChans = [n]) :
    s.advance t = (s.tick t).dueAt n := by
  have hdrain : State.drain (s.eclk.cycleAt t - s.cycle) t s = s := by
    cases s.eclk.cycleAt t - s.cycle with
    | zero => rfl
    | succ i =>
      rw [State.drain, hlane, Bool.false_and, Bool.false_and, Bool.false_and, if_neg Bool.false_ne_true]
  have hunit := (s.tick t).onUnit_dueAt n
  have hnet : ((s.tick t).dueAt n).net = s.net := by have e := congrArg State.net hunit.rest; exact e
  have hlanes : ((s.tick t).dueAt n).upLanes = [] := by
    have e := congrArg State.upLanes hunit.rest
    exact Eq.trans e hup
  have hserved : ∀ fs, ((s.tick t).dueAt n).serveTraffic fs = (s.tick t).dueAt n := fun fs => by
    unfold State.serveTraffic
    split
    · rfl
    · have hzero : ({ ((s.tick t).dueAt n).net with traffic := ((s.tick t).dueAt n).net.traffic - microIn 16 fs } : Net) =
          ((s.tick t).dueAt n).net := by
        rw [hnet, htraffic, Nat.zero_sub, ← htraffic]
      rw [hzero]
  have hst : (s.tick t).still = false := hstill
  have hse : (s.tick t).unsettled = false := hset
  have hwa : (s.tick t).waitingChans = [n] := hwait
  unfold State.advance
  rw [hdrain]
  unfold State.moveTo
  dsimp only
  rw [hst, hse, if_neg Bool.false_ne_true, Bool.false_and, if_neg Bool.false_ne_true, hwa, State.forAll_cons]
  show (((s.tick t).dueAt n).serveTraffic _).forAll ((s.tick t).dueAt n).upLanes State.runLane = _
  rw [hserved, hlanes]
  rfl

/-! ## The end of a phase (R141, R142, R228) -/

/-- What a phase's end leaves where it changes its bay only. -/
theorem State.modBay_close (u : State) (b : Nat) (f : Bay → Bay) (q : List Instr) :
    ((u.modBay b f).close q).bay b = f (u.bay b) ∧ (∀ c, c ≠ b → ((u.modBay b f).close q).bay c = u.bay c) ∧
      { u.graft ((u.modBay b f).close q) with bays := u.bays } = u := by
  refine ⟨?_, fun c hc => ?_, ?_⟩
  · rw [State.close_bay, State.modBay_eq, State.bay_setBay_self]
  · rw [State.close_bay, State.modBay_eq, State.bay_setBay, if_neg (Ne.symm hc)]
  · rw [State.graft_close]; rfl

theorem State.reached_of {s : State} {n k : Nat} (hclk : s.clockRuns n = true) (hk : k ≤ s.boundaryNow n) : s.reached n k = true := by
  unfold State.reached
  rw [hclk, decide_eq_true hk]
  rfl

/-- A slot that measures with the tap of core `i` by one of the TIU's channels. -/
theorem State.usesAny_taps (u : State) (i c : Nat) :
    (u.slot c).usesAny c ((List.range 16).filter fun x => decide ((u.slot x).src = i + 1)) = true ↔
      (u.slot c).measuring = true ∧ ∃ x, x < 16 ∧ (u.slot x).src = i + 1 ∧ (u.slot c).uses c x = true := by
  unfold TiuSlot.usesAny
  simp only [List.any_eq_true, List.mem_filter, List.mem_range, decide_eq_true_eq, Bool.and_eq_true]
  constructor
  · rintro ⟨x, ⟨hx, hsrc⟩, hm, hu⟩
    exact ⟨hm, x, hx, hsrc, hu⟩
  · rintro ⟨hm, x, hx, hsrc, hu⟩
    exact ⟨x, ⟨hx, hsrc⟩, hm, hu⟩

/-- The end of a fade-in that covers: the slots that measure with the channel's tap take TAP_GAP. -/
theorem State.fadeIn_covers (u : State) (b i : Nat) (f : Bay → Bay) (q : List Instr) :
    (((u.modBay b f).gapTap i).close q).bay b = f (u.bay b) ∧
      (∀ c, c ≠ b → (((u.modBay b f).gapTap i).close q).bay c = u.bay c) ∧
      (∀ c x, c < 16 → x < 16 → (u.slot x).src = i + 1 → (u.slot c).measuring = true → (u.slot c).uses c x = true →
        { (((u.modBay b f).gapTap i).close q).slot c with
          starts := (u.slot c).starts, stops := (u.slot c).stops, resyncs := (u.slot c).resyncs
          skipA := (u.slot c).skipA, skipB := (u.slot c).skipB } =
          { u.slot c with flags := (u.slot c).flags ||| 8 }) ∧
      (∀ c, (u.slot c).measuring = false ∨ (∀ x, x < 16 → (u.slot x).src = i + 1 → (u.slot c).uses c x = false) →
        (((u.modBay b f).gapTap i).close q).slot c = u.slot c) ∧
      { u.graft (((u.modBay b f).gapTap i).close q) with
        bays := u.bays, tiu := { (((u.modBay b f).gapTap i).close q).tiu with slots := u.tiu.slots } } = u := by
  have hslots := (u.modBay b f).sameButSlots_gapTap i
  have hslot := (u.modBay b f).slot_gapTap i
  have hbays : ((u.modBay b f).gapTap i).bays = (u.modBay b f).bays := by have e := congrArg State.bays hslots; exact e
  have hkept : ∀ c, (u.modBay b f).slot c = u.slot c := fun _ => rfl
  obtain ⟨hown, hothers, -⟩ := u.modBay_close b f q
  rw [State.close_bay] at hown
  refine ⟨?_, fun c hc => ?_, fun c x hc hx hsrc hm hu => ?_, fun c hnone => ?_, ?_⟩
  · rw [State.close_bay, State.bay_congr hbays]
    exact hown
  · rw [State.close_bay, State.bay_congr hbays, ← hothers c hc, State.close_bay]
  · have h := hslot c
    have hmet := (u.usesAny_taps i c).2 ⟨hm, x, hx, hsrc, hu⟩
    simp only [hkept] at h
    rw [decide_eq_true hc, hmet] at h
    rw [State.close_slot]
    exact h
  · have h := hslot c
    have hmet : (u.slot c).usesAny c ((List.range 16).filter fun x => decide ((u.slot x).src = i + 1)) = false := by
      rw [← Bool.not_eq_true, u.usesAny_taps i c]
      rintro ⟨hm, x, hx, hsrc, hu⟩
      rcases hnone with hn | hn
      · rw [hm] at hn; cases hn
      · rw [hn x hx hsrc] at hu; cases hu
    simp only [hkept] at h
    rw [hmet, Bool.and_false] at h
    rw [State.close_slot]
    exact h
  · rw [State.graft_close, State.close_tiu]
    generalize (u.modBay b f).gapTap i = z at hslots
    have e := congrArg (fun y : State => { u.graft y with bays := u.bays }) hslots
    exact e

/-- What the end of a hold's fade-out leaves: its bay and its channel change, nothing else. -/
theorem State.setBay_setChan_close (u : State) (b n : Nat) (w : Bay) (c : Channel) (q : List Instr) :
    (((u.setBay b w).setChan n c).close q).bay b = w ∧
      (∀ i, i ≠ b → (((u.setBay b w).setChan n c).close q).bay i = u.bay i) ∧
      (((u.setBay b w).setChan n c).close q).chan n = c ∧
      (∀ m, m ≠ n → (((u.setBay b w).setChan n c).close q).chan m = u.chan m) ∧
      { u.graft (((u.setBay b w).setChan n c).close q) with bays := u.bays, chans := u.chans } = u := by
  refine ⟨?_, fun i hi => ?_, ?_, fun m hm => ?_, ?_⟩
  · rw [State.close_bay, State.setChan_bay, State.bay_setBay_self]
  · rw [State.close_bay, State.setChan_bay, State.bay_setBay, if_neg (Ne.symm hi)]
  · rw [State.close_chan, State.chan_setChan_self]
  · rw [State.close_chan, State.chan_setChan, if_neg (Ne.symm hm)]
    rfl
  · rw [State.graft_close]; rfl

/-- A bay that is written, and a channel that returns at boundary `k`. -/
theorem State.setBay_resumeCodes (u : State) (b k : Nat) {n : Nat} (w : Bay) (hspan : (u.chan n).spanDeferred = none)
    (hbroke : (u.chan n).broke ≠ .deferred) (hmuted : (u.chan n).state ≠ .muted) :
    ((u.setBay b w).resumeCodes n k).bay b = w ∧ (∀ c, c ≠ b → ((u.setBay b w).resumeCodes n k).bay c = u.bay c) ∧
      (((u.setBay b w).resumeCodes n k).chan n).state = (if (u.chan n).begun = true then .playing else .parked) ∧
      (((u.setBay b w).resumeCodes n k).chan n).stale = false ∧
      (((u.setBay b w).resumeCodes n k).chan n).returning = none ∧
      (∀ m, m ≠ n → ((u.setBay b w).resumeCodes n k).chan m = u.chan m) ∧
      ((u.setBay b w).resumeCodes n k).tts = u.tts ∧ ((u.setBay b w).resumeCodes n k).mem.bytes = u.mem.bytes := by
  obtain ⟨hstate, hstale, hreturning, hbays⟩ := State.resumes_resumeCodes (s := u.setBay b w) (n := n) k hspan hbroke hmuted
  have hunit : u.OnUnit ((u.setBay b w).resumeCodes n k) n :=
    (u.onUnit_modBay n b fun _ => w).trans ((u.setBay b w).onUnit_resumeCodes n k)
  refine ⟨?_, fun c hc => ?_, hstate, hstale, hreturning, hunit.others, hunit.tts, hunit.bytes⟩
  · rw [State.bay_congr hbays, State.bay_setBay_self]
  · rw [State.bay_congr hbays, State.bay_setBay, if_neg (Ne.symm hc)]

/-! ## The operations at the end of a phase (R141, R142) -/

theorem opSettleInEnd_eq {u : State} {b k : Nat} {v : Bay} (hv : v = u.bay b) (hr : u.reached v.channel k = true)
    (hphase : v.phase = .settleIn) (hend : k = v.phaseK + u.settleGranules v.channel) :
    opSettleInEnd u b = u.modBay b fun v => { v with phase := .fadeIn, phaseK := k, fadeK := v.fadeG } := by
  unfold opSettleInEnd
  dsimp only
  rw [← hv, ← hend, if_pos ⟨hphase, hr⟩]

theorem opSettleOutEnd_eq {u : State} {b k : Nat} {v : Bay} (hv : v = u.bay b) (hr : u.reached v.channel k = true)
    (hphase : v.phase = .settleOut) (hend : k = v.phaseK + u.settleGranules v.channel) :
    opSettleOutEnd u b = u.modBay b fun v => { v with phase := .fadeOut, phaseK := k, fadeK := v.fadeG } := by
  unfold opSettleOutEnd
  dsimp only
  rw [← hv, ← hend, if_pos ⟨hphase, hr⟩]

theorem opFadeInEnd_eq {u : State} {b k : Nat} {v : Bay} (hv : v = u.bay b) (hr : u.reached v.channel k = true)
    (hphase : v.phase = .fadeIn) (hend : k = v.phaseK + v.fadeK) :
    opFadeInEnd u b = if u.measures v.channel = true
      then (u.modBay b fun v => { v with phase := .cover, phaseK := k }).gapTap v.channel
      else u.modBay b fun v => { v with phase := .settleOut, phaseK := k } := by
  unfold opFadeInEnd
  dsimp only
  rw [← hv, ← hend, if_pos ⟨hphase, hr⟩]
  cases u.measures v.channel <;> rfl

/-- The end of the fade-out of a hold: the channel returns one granule later. -/
theorem opFadeOutEnd_hold {u : State} {b k n : Nat} {v : Bay} (hv : v = u.bay b) (hr : u.reached v.channel k = true)
    (hn : n = v.channel) (hphase : v.phase = .fadeOut) (hend : k = v.phaseK + v.fadeK) (hhold : v.holdMode = true) :
    opFadeOutEnd u b = (u.setBay b { v with phase := .idle, channel := 0, holdMode := false }).setChan n
      { u.chan n with returning := some (k + 1) } := by
  unfold opFadeOutEnd
  dsimp only
  rw [State.modBay_eq, ← hv, ← hend, if_pos ⟨hphase, hr⟩, hhold, ← hn]
  rfl

/-- The end of the fade-out of a substitution: the channel's codes go on at once. -/
theorem opFadeOutEnd_substitution {u : State} {b k n : Nat} {v : Bay} (hv : v = u.bay b) (hr : u.reached v.channel k = true)
    (hn : n = v.channel) (hphase : v.phase = .fadeOut) (hend : k = v.phaseK + v.fadeK) (hhold : v.holdMode = false) :
    opFadeOutEnd u b = (u.setBay b { v with
      phase := .idle, channel := 0, holdMode := false, handovers := v.handovers + 1 }).resumeCodes n k := by
  unfold opFadeOutEnd
  dsimp only
  rw [State.modBay_eq, ← hv, ← hend, if_pos ⟨hphase, hr⟩, hhold, ← hn, if_neg Bool.false_ne_true, if_neg Bool.false_ne_true]

/-! ## The obligation -/

/-- Settles O31: each phase ends by a change of its bay, and each stage of a boundary is what time carries out. -/
theorem handoverPhases : Obligations.HandoverPhases := by
  unfold Obligations.HandoverPhases
  refine ⟨fun s u t b v k hu hs hv hclk hnow => ?_, fun s t n hstill hset hlane htraffic hup hwait =>
    State.advance_oneBoundary t hstill hset hlane htraffic hup hwait, fun y u n k b hu hb hk hreset hreload hflush hdis => ?_⟩
  · have hr : u.reached v.channel k = true := State.reached_of hclk hnow
    have hevent : ∀ f : State → State, event s t f = .next ((f u).close s.pending) := fun f => by
      subst hu; exact event_next s t f hs
    refine ⟨fun hphase hend => ?_, fun hphase hend => ?_, fun hphase hend => ⟨fun hmeas => ?_, fun hmeas => ?_⟩,
      fun n hn hphase hend => ⟨fun hhold => ?_, fun hhold hspan hbroke hmuted => ?_⟩⟩
    · have hop := opSettleInEnd_eq hv hr hphase hend
      refine ⟨_, hevent fun s => opSettleInEnd s b, ?_⟩
      dsimp only
      rw [hop, hv]
      exact u.modBay_close b _ _
    · have hop := opSettleOutEnd_eq hv hr hphase hend
      refine ⟨_, hevent fun s => opSettleOutEnd s b, ?_⟩
      dsimp only
      rw [hop, hv]
      exact u.modBay_close b _ _
    · have hop := opFadeInEnd_eq hv hr hphase hend
      rw [hmeas, if_neg Bool.false_ne_true] at hop
      refine ⟨_, hevent fun s => opFadeInEnd s b, ?_⟩
      dsimp only
      rw [hop, hv]
      exact u.modBay_close b _ _
    · have hop := opFadeInEnd_eq hv hr hphase hend
      rw [if_pos hmeas] at hop
      refine ⟨_, hevent fun s => opFadeInEnd s b, ?_⟩
      dsimp only
      rw [hop]
      have h := u.fadeIn_covers b v.channel (fun v => { v with phase := .cover, phaseK := k }) s.pending
      rw [← hv] at h
      exact h
    · have hop := opFadeOutEnd_hold hv hr hn hphase hend hhold
      refine ⟨_, hevent fun s => opFadeOutEnd s b, ?_⟩
      dsimp only
      rw [hop]
      exact u.setBay_setChan_close b n _ _ _
    · have hop := opFadeOutEnd_substitution hv hr hn hphase hend hhold
      obtain ⟨hown, hbays, hstate, hstale, -, hchans, htts, hbytes⟩ := u.setBay_resumeCodes b k (n := n) { v with
          phase := .idle, channel := 0, holdMode := false, handovers := v.handovers + 1 } hspan hbroke hmuted
      refine ⟨_, hevent fun s => opFadeOutEnd s b, ?_⟩
      rw [hop]
      simp only [State.close_bay, State.close_chan, State.close_tts, State.close_mem]
      exact ⟨hown, hbays, hstate, hstale, hchans, htts, hbytes⟩
  · have hunit := y.onUnit_dueAt n
    rw [← hu] at hunit
    refine ⟨fun hconnect hchannel hleave hreturn => ?_, fun hleave hconnect hserves hreturn => ?_,
      fun hconnect hleave hreturn hspan hbroke hmuted => ?_⟩
    · rw [hb] at hconnect hchannel hleave
      have hdue : u = y.beginHandover n k :=
        hu.trans (State.dueAt_begins hreset hreload hflush hdis hk hconnect hchannel hleave hreturn)
      have hbay := y.bay_beginHandover n k
      have hchan := y.chan_beginHandover n k
      rw [← hdue] at hchan
      simp only [← hdue] at hbay
      refine ⟨?_, fun hsame => ?_, fun hsame => ?_, fun c hc => ?_, hunit.others, hunit.tts, hunit.bytes⟩
      · rw [hbay, if_pos rfl, hb]
        exact congrArg (fun i => { y.bay (n / 8) with
          phase := .settleIn, holdMode := !y.sameDivider n, channel := i, phaseK := k, connecting := none
          heldCode := (y.chanAt n k).lastCode.getD (y.chanAt n k).vals.park }) hchannel.symm
      · rw [hchan, if_pos hsame]
      · rw [hchan, hsame]
        exact if_neg Bool.false_ne_true
      · rw [hbay, if_neg (Ne.symm hc)]
    · rw [hb] at hleave hconnect
      have hdue : u = y.setBay (n / 8) { y.bay (n / 8) with phase := .settleOut, phaseK := k, leaving := none } :=
        hu.trans (State.dueAt_leaves hreset hreload hflush hdis hk hleave hconnect hserves hreturn)
      refine ⟨?_, fun c hc => ?_, ?_⟩
      · rw [hdue, State.bay_setBay_self, hb]
      · rw [hdue, State.bay_setBay, if_neg (Ne.symm hc)]
      · rw [hdue]
        rfl
    · rw [hb] at hleave hconnect
      have hdue : u = (y.setBay (n / 8) { y.bay (n / 8) with holds := (y.bay (n / 8)).holds + 1 }).resumeCodes n k :=
        hu.trans (State.dueAt_returns hreset hreload hflush hdis hk hconnect hleave hreturn)
      obtain ⟨hown, hbays, hstate, hstale, hnone, -⟩ := y.setBay_resumeCodes (n / 8) k (n := n)
        { y.bay (n / 8) with holds := (y.bay (n / 8)).holds + 1 } hspan hbroke hmuted
      rw [← hdue] at hown hstate hstale hnone
      simp only [← hdue] at hbays
      rw [hb]
      exact ⟨hown, hnone, hstale, hstate, hbays, hunit.others, hunit.tts, hunit.bytes⟩

end Sys2Proof.Machine
end

section
/-! Proof of O36. SYN-A's ramp started by its bell, and its steps (06_clock_synthesis.md, R169, R170). -/

namespace Sys2Proof.Machine

/-! ## SYN-A's ramp (R169, R170): O36 -/

/-- The loop time at which the next step of SYN-A's ramp is due: the phase-detector cycles counted since its start. -/
def State.rampDue (s : State) : Nat := s.ramp.from_ + s.ramp.cycles * (s.pfdFs s.synA).1 / (s.pfdFs s.synA).2

/-- The ramp's place in the profile after a step of piece `p`: on with the piece, the next one that is live, or the profile's
end (R170). -/
def SynRamp.moved (r : SynRamp) (p : SynPiece) : SynRamp :=
  if r.made < p.count then r
  else if r.piece < 31 ∧ (r.at_ (r.piece + 1)).count ≠ 0 then { r with piece := r.piece + 1, made := 0 }
  else { r with passes := (r.passes + 1) % 65536, piece := if r.repeats then 0 else r.piece, made := 0, running := r.repeats }

/-- The next step follows after the dwell of the piece in progress. -/
def SynRamp.paced (r : SynRamp) : SynRamp := { r with cycles := r.cycles + (r.at_ r.piece).dwell }

/-- The ramp one step on (R169, R170). -/
def SynRamp.stepped (r : SynRamp) : SynRamp :=
  (({ r with shift := r.shift + (r.at_ r.piece).step.toInt, made := r.made + 1 } : SynRamp).moved (r.at_ r.piece)).paced

theorem opSynaRampStep_eq {s : State} (hruns : s.ramp.running = true) (hen : s.synA.en = true)
    (hdue : s.rampDue ≤ s.loopFs s.now) :
    opSynaRampStep s = { s.syncMash .A s.rampDue with ramp := s.ramp.stepped } :=
  if_pos ⟨hruns, hen, hdue⟩

theorem SynRamp.moved_within {r : SynRamp} {p : SynPiece} (h : r.made < p.count) : r.moved p = r := if_pos h

theorem SynRamp.moved_next {r : SynRamp} {p : SynPiece} (h : p.count ≤ r.made) (hlt : r.piece < 31)
    (hc : (r.at_ (r.piece + 1)).count ≠ 0) : r.moved p = { r with piece := r.piece + 1, made := 0 } :=
  (if_neg (Nat.not_lt.2 h)).trans (if_pos ⟨hlt, hc⟩)

theorem SynRamp.moved_end {r : SynRamp} {p : SynPiece} (h : p.count ≤ r.made)
    (hend : r.piece = 31 ∨ (r.at_ (r.piece + 1)).count = 0) : r.moved p =
      { r with passes := (r.passes + 1) % 65536, piece := if r.repeats then 0 else r.piece, made := 0, running := r.repeats } :=
  (if_neg (Nat.not_lt.2 h)).trans (if_neg fun ⟨hlt, hc⟩ => hend.elim (fun e => absurd hlt (e ▸ Nat.lt_irrefl 31)) hc)

/-- Wherever the ramp comes to in the profile, what it has added, its profile and its count of cycles stand. -/
theorem SynRamp.moved_keeps (r : SynRamp) (p : SynPiece) :
    (r.moved p).shift = r.shift ∧ (r.moved p).profile = r.profile ∧ (r.moved p).cycles = r.cycles := by
  unfold SynRamp.moved
  split
  · exact ⟨rfl, rfl, rfl⟩
  · split <;> exact ⟨rfl, rfl, rfl⟩

/-- A piece is read from the profile, whatever else the ramp holds. -/
theorem SynRamp.at_congr {r r' : SynRamp} (h : r.profile = r'.profile) (p : Nat) : r.at_ p = r'.at_ p := by
  unfold SynRamp.at_
  rw [h]

theorem SynRamp.stepped_adds (r : SynRamp) : r.stepped.shift = r.shift + (r.at_ r.piece).step.toInt ∧
    r.stepped.profile = r.profile ∧ r.stepped.cycles = r.cycles + (r.at_ r.stepped.piece).dwell := by
  obtain ⟨hshift, hprofile, hcycles⟩ := SynRamp.moved_keeps
    { r with shift := r.shift + (r.at_ r.piece).step.toInt, made := r.made + 1 } (r.at_ r.piece)
  exact ⟨hshift, hprofile, congrArg₂ (fun a (b : SynPiece) => a + b.dwell) hcycles (SynRamp.at_congr hprofile _)⟩

/-- Within a piece a step goes on with it. -/
theorem SynRamp.stepped_within {r : SynRamp} (h : r.made + 1 < (r.at_ r.piece).count) :
    r.stepped.piece = r.piece ∧ r.stepped.made = r.made + 1 ∧ r.stepped.running = r.running ∧ r.stepped.passes = r.passes := by
  have hmoved := SynRamp.moved_within (r := { r with shift := r.shift + (r.at_ r.piece).step.toInt, made := r.made + 1 }) h
  unfold SynRamp.stepped
  rw [hmoved]
  exact ⟨rfl, rfl, rfl, rfl⟩

/-- A piece's last step goes on with the next piece, where that has steps. -/
theorem SynRamp.stepped_next {r : SynRamp} (h : (r.at_ r.piece).count ≤ r.made + 1) (hlt : r.piece < 31)
    (hc : (r.at_ (r.piece + 1)).count ≠ 0) :
    r.stepped.piece = r.piece + 1 ∧ r.stepped.made = 0 ∧ r.stepped.running = r.running ∧ r.stepped.passes = r.passes := by
  have hmoved := SynRamp.moved_next (r := { r with shift := r.shift + (r.at_ r.piece).step.toInt, made := r.made + 1 })
    h hlt hc
  unfold SynRamp.stepped
  rw [hmoved]
  exact ⟨rfl, rfl, rfl, rfl⟩

/-- The profile's last step ends a pass. -/
theorem SynRamp.stepped_end {r : SynRamp} (h : (r.at_ r.piece).count ≤ r.made + 1)
    (hend : r.piece = 31 ∨ (r.at_ (r.piece + 1)).count = 0) :
    r.stepped.made = 0 ∧ r.stepped.passes = (r.passes + 1) % 65536 ∧ r.stepped.running = r.repeats ∧
      r.stepped.piece = if r.repeats = true then 0 else r.piece := by
  have hmoved := SynRamp.moved_end (r := { r with shift := r.shift + (r.at_ r.piece).step.toInt, made := r.made + 1 }) h hend
  unfold SynRamp.stepped
  rw [hmoved]
  exact ⟨rfl, rfl, rfl, rfl⟩

theorem opSynaRampBellStart_eq {s : State} {e : Ticks} (hat : s.ramp.startAt = some e) (hwait : s.ramp.waiting = true)
    (htime : s.time.running = true) (hge : ticksGe s.trussNow e = true) :
    ∃ f, opSynaRampBellStart s = s.rampGo f ∧ ∀ x n, x = s.loopFs (s.fsOfTicks e) → n = (s.pfdFs s.synA).1 / (s.pfdFs s.synA).2 →
      (s.loopFs s.now ≤ x + n → f = s.loopFs s.now) ∧ (x + n < s.loopFs s.now → x ≤ f ∧ f ≤ x + n) := by
  unfold opSynaRampBellStart
  rw [hat]
  dsimp only
  rw [hwait, htime, hge]
  refine ⟨_, if_pos rfl, ?_⟩
  rintro x n rfl rfl
  refine ⟨fun h => if_pos h, fun h => ?_⟩
  rw [if_neg (Nat.not_le.2 h)]
  have hplace := Nat.mod_lt (Config.freeValue s.draws 90).toNat (Nat.add_one_pos ((s.pfdFs s.synA).1 / (s.pfdFs s.synA).2))
  omega

/-- Settles O36: the bell starts the ramp by `rampGo`; a step is `SynRamp.stepped`, by its place in the profile. -/
theorem synARampRuns : Obligations.SynARampRuns := by
  unfold Obligations.SynARampRuns
  refine ⟨fun s u t x n e hu hs hat hwait htime hge hx hn => ?_, fun s u t p q hu hs hruns hen hdue hp hq => ?_⟩
  · obtain ⟨f, hop, hplace⟩ := opSynaRampBellStart_eq hat hwait htime hge
    have hexec : exec (.synaRampBellStart t) s = .next ((opSynaRampBellStart u).close s.pending) := by
      subst hu; exact event_next s t opSynaRampBellStart hs
    obtain ⟨hnow, hcycle⟩ := hplace x n hx hn
    refine ⟨_, f, hexec, ?_, hnow, hcycle, ?_⟩
    · rw [State.close_ramp, hop]
      rfl
    · rw [State.graft_close, hop]
      rfl
  · have hexec : exec (.synaRampStep t) s = .next ((opSynaRampStep u).close s.pending) := by
      subst hu; exact event_next s t opSynaRampStep hs
    have hop := opSynaRampStep_eq hruns hen hdue
    have hramp : ((opSynaRampStep u).close s.pending).ramp = u.ramp.stepped := by rw [State.close_ramp, hop]
    have hsyn : ((opSynaRampStep u).close s.pending).synA = { u.synA with mash := u.mashAt .A u.rampDue } := by
      rw [State.close_synA, hop]
      rfl
    obtain ⟨hshift, hprofile, hcycles⟩ := u.ramp.stepped_adds
    subst hq hp
    refine ⟨_, hexec, ?_⟩
    rw [hramp, hsyn]
    refine ⟨hshift, hprofile, hcycles, fun h => ?_, fun h hlt hc => ?_, SynRamp.stepped_end, rfl, rfl, ?_⟩
    · rw [← hruns]
      exact SynRamp.stepped_within h
    · rw [← hruns]
      exact SynRamp.stepped_next h hlt hc
    · rw [State.graft_close, hop]
      rfl

end Sys2Proof.Machine
end

section
/-! Refutation of O33: the clock that OUT_CFG starts finds a bell behind it, and the break reaches the other channels
(06_clock_synthesis.md, R155; 07_bells_and_truss.md, R190, R198). -/

namespace Sys2Proof.Machine

/-! ## A core output enabled behind a bell (R155, R198): O33 -/

/-- SYN-M runs and the output of channel 0 is disabled; the delivery queue of channel 0 holds a bell whose effective time
has passed, and a late bell breaks the truss. -/
def clockBehindBell : State :=
  { now := 2000000000, sys := { state := .run }, oda := { sessions := [writingSession] }
    synM := { en := true, phase := .running, locked := true, tbLocked := true }, truss := { latePolicy := 2 }
    chans := [(0, { bells := [{ number := 0, payload := 0, effective := 0, actsFrom := 0 }] })] }

/-- OUT_CFG of a core output: enabled, ceiling 5, divider 2. -/
def outCfgOn : Bytes := [2, 0, 0, 0x85]

theorem writes_clockBehindBell :
    (clockBehindBell.advance 0).Writes writingReq writingSession 0x2100 0x21 outCfgOn where
  serves := by constructor <;> decide +kernel
  reach := by decide +kernel
  parity := by decide +kernel

/-- What a command leaves of channel `n`'s break. -/
def brokeAfter (r : Result) (n : Nat) : Option BreakMark :=
  match r with
  | .next s => some (s.chan n).broke
  | _ => none

/-- The write starts the clock of channel 0, whose late bell breaks the truss: the break waits on channel 1 too. -/
theorem brokeAfter_clockBehindBell :
    brokeAfter (exec (.outputEnable 0 writingReq .M outCfgOn) clockBehindBell) 1 = some .pending := by
  decide +kernel

/-- Refutes O33: its first clause asks that an OUT_CFG that enables a core output leave every channel but that output's
own as it is. The clock it starts resumes the channel, a bell of the channel's delivery queue that has passed meanwhile
is late (R190), and where late bells break the truss (R198) the break is noted on all 64 channels: channel 1, which had
no break, waits for one. The statement has no premise on the channel's bells or on the truss's policy. -/
theorem not_outputAndRampCommands : ¬ Obligations.OutputAndRampCommands := by
  intro h
  obtain ⟨houtputs, -⟩ := h
  obtain ⟨henables, -⟩ := houtputs clockBehindBell _ 0 writingReq writingSession .M 0x21 0 0x85000002 outCfgOn {} rfl rfl
    writes_clockBehindBell rfl (by decide) (by decide +kernel) (fun _ => by decide) (by decide +kernel) (by decide)
    (fun _ => by decide) (by decide) (by decide +kernel)
  obtain ⟨s', hexec, -, -, -, hothers, -⟩ := henables (by decide) rfl
  have hbefore : ((clockBehindBell.advance 0).chan 1).broke = .none := by decide +kernel
  have hafter : (s'.chan 1).broke = .pending := by
    have hbroke := brokeAfter_clockBehindBell
    rw [hexec] at hbroke
    exact Option.some.inj hbroke
  have hstands : (s'.chan 1).broke = ((clockBehindBell.advance 0).chan 1).broke :=
    congrArg Channel.broke (hothers 1 (by decide))
  rw [hafter, hbefore] at hstands
  cases hstands

end Sys2Proof.Machine
end

section
/-! SUPPORT. The synthesizers, their references and their outputs: what each shared operation leaves
(06_clock_synthesis.md, R157 to R167). -/

namespace Sys2Proof.Machine

/-! ## Events -/

/-- An event of the clocked part, `u` being the state of the moment. -/
theorem event_clocked {s u : State} {t : Nat} (hu : u = s.advance t) (hs : u.still = false) (f : State → State) :
    event s t f = .next ((f u).close s.pending) := by
  subst hu
  exact event_next s t f hs

/-- A change of the reference alone, at the end of a command. -/
theorem State.graft_ref {u x : State} (h : { x with ref := u.ref } = u) : { u.graft x with ref := u.ref } = u := by
  have e := congrArg u.graft h
  exact e

/-! ## The two synthesizers -/

theorem State.syn_setSyn (s : State) (y z : Syn) (v : Synth) : (s.setSyn y v).syn z = if z = y then v else s.syn z := by
  cases y <;> cases z <;> rfl

@[simp] theorem State.syn_setSyn_self (s : State) (y : Syn) (v : Synth) : (s.setSyn y v).syn y = v := by
  rw [State.syn_setSyn, if_pos rfl]

theorem State.syn_setSyn_other (s : State) {y z : Syn} (h : z ≠ y) (v : Synth) : (s.setSyn y v).syn z = s.syn z := by
  rw [State.syn_setSyn, if_neg h]

@[simp] theorem State.syn_modSyn_self (s : State) (y : Syn) (f : Synth → Synth) : (s.modSyn y f).syn y = f (s.syn y) :=
  s.syn_setSyn_self y _

theorem State.syn_modSyn_other (s : State) {y z : Syn} (h : z ≠ y) (f : Synth → Synth) : (s.modSyn y f).syn z = s.syn z :=
  s.syn_setSyn_other h _

theorem State.modSyn_ref (s : State) (y : Syn) (f : Synth → Synth) : (s.modSyn y f).ref = s.ref := by
  cases y <;> rfl

@[simp] theorem State.close_syn (s : State) (q : List Instr) (y : Syn) : (s.close q).syn y = s.syn y := by
  cases y
  · exact s.close_synM q
  · exact s.close_synA q

theorem State.setSyn_rest (s : State) (y : Syn) (v : Synth) :
    { s.setSyn y v with synM := s.synM, synA := s.synA } = s := by
  cases y <;> rfl

/-- A synthesizer that waits for PPS aligns from now on. -/
def Synth.goes (v : Synth) (now : Nat) : Synth := if v.phase = .alignWait then { v with phase := .aligning, since := now } else v

theorem State.syn_alignGo_both (s : State) (y : Syn) : ((s.alignGo .M).alignGo .A).syn y = (s.syn y).goes s.now := by
  cases y <;> rfl

/-! ## Slews and the loss of REFIN (R164 to R167) -/

/-- The loops' and TCLK's warps are all that the end of a slew changes. -/
theorem State.endSlew_eq (s : State) :
    ∃ w v, s.endSlew = { s with ref := { s.ref with warps := w }, tiu := { s.tiu with warps := v } } := by
  unfold State.endSlew
  split
  · split
    · unfold State.when
      split
      · exact ⟨_, _, rfl⟩
      · exact ⟨_, _, rfl⟩
    · exact ⟨_, _, rfl⟩
  · exact ⟨_, _, rfl⟩

theorem State.forAll_unaccept (rs : List Req) : ∀ s : State, ∃ o d, s.forAll rs State.unaccept = { s with out := o, oda := d } := by
  induction rs with
  | nil => exact fun s => ⟨_, _, rfl⟩
  | cons r rs ih =>
    intro s
    obtain ⟨o, d, h⟩ := ih (s.unaccept r)
    exact ⟨o, d, h⟩

/-- REF_CMDs that a loss refuses change what is answered only. -/
theorem State.loseCmds_eq (s : State) :
    ∃ o d, s.loseCmds = { s with out := o, oda := d, ref := { s.ref with cmds := (0, []) } } := by
  unfold State.loseCmds
  split
  · obtain ⟨o, d, h⟩ := State.forAll_unaccept s.ref.cmds.2 s
    rw [h]
    exact ⟨o, d, rfl⟩
  · exact ⟨_, _, rfl⟩

/-- TCLK that stops changes truss time only. -/
theorem State.freezeTime_eq (s : State) : ∃ m v, s.freezeTime = { s with time := m, truss := { s.truss with timeValid := v } } := by
  unfold State.freezeTime
  split
  · exact ⟨_, _, rfl⟩
  · exact ⟨_, _, rfl⟩

theorem State.tiuRefLost_eq (s : State) : ∃ i m v, s.tiuRefLost = { s with tiu := i, time := m, truss := v } := by
  obtain ⟨m, v, h⟩ := ({ s with tiu := { s.tiu with own := false } } : State).freezeTime_eq
  unfold State.tiuRefLost
  dsimp only
  rw [h]
  split
  · exact ⟨_, _, _, rfl⟩
  · split
    · exact ⟨_, _, _, rfl⟩
    · split <;> exact ⟨_, _, _, rfl⟩

/-- What the loops' return to REFIN leaves (R165, R236). -/
structure State.Rejoins (s x : State) : Prop where
  ref : { x.ref with warps := s.ref.warps } = { s.ref with mode := .refin, holdSince := none, slewEnd := none, measuring := none }
  synM : { x.synM with mash := s.synM.mash } = { s.synM with onXtal := false }
  synA : { x.synA with mash := s.synA.mash } = { s.synA with onXtal := false }
  rest : { x with ref := s.ref, synM := s.synM, synA := s.synA, tiu := s.tiu } = s

theorem State.rejoins_rejoin (s : State) : s.Rejoins s.rejoin := by
  obtain ⟨w, v, h⟩ := s.endSlew_eq
  unfold State.rejoin
  rw [h]
  exact ⟨rfl, rfl, rfl, rfl⟩

end Sys2Proof.Machine
end

section
/-! SUPPORT. Core clocks that stop and run again, seen from outside (06_clock_synthesis.md, R163). -/

namespace Sys2Proof.Machine

/-! ## Channels, bays and Plumb under a stop of their clocks (R142, R163) -/

/-- `x` differs from `s` in channels, bays, cores and Plumb, in the hall passes and rings of the bulk window, in the counts
of memory errors and in the device's alerts only: no byte of segment memory. -/
structure State.OnUnits (s x : State) : Prop where
  rest : { x with
    chans := s.chans, mem := s.mem, card := s.card, sys := s.sys, bays := s.bays, cores := s.cores, plumb := s.plumb } = s
  bytes : x.mem.bytes = s.mem.bytes
  sys : s.sys.SameButAlert x.sys

theorem State.onUnits_refl (s : State) : s.OnUnits s := ⟨rfl, rfl, rfl⟩

theorem State.OnUnits.trans {s x y : State} (h : s.OnUnits x) (g : x.OnUnits y) : s.OnUnits y := by
  refine ⟨?_, g.bytes.trans h.bytes, h.sys.trans g.sys⟩
  have e := congrArg (fun z : State => { z with
    chans := s.chans, mem := s.mem, card := s.card, sys := s.sys, bays := s.bays, cores := s.cores, plumb := s.plumb }) g.rest
  exact e.trans h.rest

theorem State.OnUnit.onUnits {s x : State} {n : Nat} (h : s.OnUnit x n) (hs : s.sys.SameButAlert x.sys) : s.OnUnits x :=
  ⟨h.rest, h.bytes, hs⟩

theorem State.OnUnits.eq {s x : State} (h : s.OnUnits x) : ∃ c m k v b o p, x = { s with
    chans := c, mem := m, card := k, sys := v, bays := b, cores := o, plumb := p } := by
  have e := congrArg (fun z : State => { z with
    chans := x.chans, mem := x.mem, card := x.card, sys := x.sys, bays := x.bays, cores := x.cores, plumb := x.plumb }) h.rest
  exact ⟨_, _, _, _, _, _, _, e⟩

theorem State.onUnits_forAll {α : Type} {f : State → α → State} (h : ∀ (s : State) (a : α), s.OnUnits (f s a)) (xs : List α) :
    ∀ s : State, s.OnUnits (s.forAll xs f) := by
  induction xs with
  | nil => exact fun s => s.onUnits_refl
  | cons a r ih => exact fun s => (h s a).trans (ih (f s a))

theorem State.freeSub_sys (s : State) (n : Nat) (b : Bool) : (s.freeSub n b).sys = s.sys := by
  unfold State.freeSub
  split <;> rfl

theorem State.discardRun_sys (s : State) (n : Nat) : (s.discardRun n).sys = s.sys := by
  have e := congrArg State.sys (s.sameButPlumb_discardRun n)
  exact e

theorem State.onUnits_modChan (s : State) (n : Nat) (f : Channel → Channel) : s.OnUnits (s.modChan n f) :=
  (s.onChan_modChan n f).onUnit.onUnits rfl

theorem State.onUnits_freeSub (s : State) (n : Nat) (b : Bool) : s.OnUnits (s.freeSub n b) :=
  (s.onUnit_freeSub n b).onUnits (by rw [s.freeSub_sys n b]; rfl)

theorem State.onUnits_discardRun (s : State) (n : Nat) : s.OnUnits (s.discardRun n) :=
  (s.onUnit_discardRun n n).onUnits (by rw [s.discardRun_sys n]; rfl)

theorem State.onUnits_syncTo (s : State) (n k : Nat) : s.OnUnits (s.syncTo n k) :=
  (s.onChan_syncTo n k).onUnit.onUnits (s.sys_syncTo n k)

theorem State.onUnits_cut (s : State) (n k : Nat) (esc : Bool) : s.OnUnits (s.cut n k esc) :=
  (s.onChan_cut n k esc).onUnit.onUnits (s.cuts_cut n k esc).sys

theorem State.onUnits_emptyQueue (s : State) (n : Nat) : s.OnUnits (s.emptyQueue n) :=
  (s.onChan_emptyQueue n).onUnit.onUnits (by rw [s.emptyQueue_sys n]; rfl)

theorem State.onUnits_silence (s : State) (n k : Nat) (st : ChState) : s.OnUnits (s.silence n k st) := by
  unfold State.silence
  exact (((s.onUnits_cut n k false).trans (State.onUnits_freeSub _ n false)).trans (State.onUnits_discardRun _ n)).trans
    (State.onUnits_modChan _ n _)

theorem State.onUnits_applyBreak (s : State) (n k : Nat) : s.OnUnits (s.applyBreak n k) := by
  have hcut : ∀ (y : State) (f : Channel → Channel), y.OnUnits (((y.emptyQueue n).cut n k true).modChan n f) := fun y f =>
    ((y.onUnits_emptyQueue n).trans (State.onUnits_cut _ n k true)).trans (State.onUnits_modChan _ n f)
  unfold State.applyBreak
  extract_lets s1 c pol
  refine (s.onUnits_syncTo n k).trans ?_
  change s1.OnUnits _
  split
  · split
    · exact s1.onUnits_modChan n _
    · exact (s1.onUnits_silence n k .off).trans (State.onUnits_modChan _ n _)
  · split
    · exact s1.onUnits_modChan n _
    · split
      · exact s1.onUnits_modChan n _
      · split
        · exact s1.onUnits_modChan n _
        · split
          · exact s1.onUnits_modChan n _
          · exact hcut s1 _
        · split
          · exact s1.onUnits_modChan n _
          · exact hcut s1 _
        · exact s1.onUnits_modChan n _

theorem State.onChan_stopClock (s : State) (n : Nat) : s.OnChan (s.stopClock n) n := by
  unfold State.stopClock
  split
  · exact (s.onChan_syncTo n _).modChan _
  · exact s.onChan_modChan n _

theorem State.onUnits_stopClock (s : State) (n : Nat) : s.OnUnits (s.stopClock n) := by
  unfold State.stopClock
  split
  · exact (s.onUnits_syncTo n _).trans (State.onUnits_modChan _ n _)
  · exact s.onUnits_modChan n _

/-- The channel of an abandoned handover in the state it had. -/
def State.takenBack (s : State) (n : Nat) : State :=
  ((s.freeSub n true).discardRun n).modChan n fun c =>
    if c.state = .muted then { c with under := if c.begun then .playing else .parked, stale := false }
    else { c with state := if c.begun then .playing else .parked, stale := false }

/-- A span that waited for the handover's end applies. -/
def State.spansNow (s : State) (n k : Nat) : State :=
  match (s.chan n).spanDeferred with
  | some (v, host) => (s.modChan n fun c => { c with spanDeferred := none }).applySpan n k v host
  | none => s

/-- A break that waited for the handover's end applies. -/
def State.breaksNow (s : State) (n k : Nat) : State :=
  if (s.chan n).broke = .deferred ∧ (s.chan n).state ≠ .muted then s.applyBreak n k else s

theorem State.abandonHandover_eq (s : State) (n : Nat) : s.abandonHandover n =
    if s.connectsTo n then (s.freeSub n true).discardRun n
    else if s.serves n then
      ((s.takenBack n).spansNow n ((s.takenBack n).chan n).stopK).breaksNow n ((s.takenBack n).chan n).stopK
    else s := rfl

theorem State.onUnits_spansNow (s : State) (n k : Nat) : s.OnUnits (s.spansNow n k) := by
  unfold State.spansNow
  split
  · exact (s.onUnit_applyDeferred n k _ _).onUnits rfl
  · exact s.onUnits_refl

theorem State.onUnits_breaksNow (s : State) (n k : Nat) : s.OnUnits (s.breaksNow n k) := by
  unfold State.breaksNow
  split
  · exact s.onUnits_applyBreak n k
  · exact s.onUnits_refl

theorem State.onUnits_abandonHandover (s : State) (n : Nat) : s.OnUnits (s.abandonHandover n) := by
  have hfreed : s.OnUnits ((s.freeSub n true).discardRun n) := (s.onUnits_freeSub n true).trans (State.onUnits_discardRun _ n)
  have hback : s.OnUnits (s.takenBack n) := hfreed.trans (State.onUnits_modChan _ n _)
  rw [State.abandonHandover_eq]
  split
  · exact hfreed
  · split
    · exact (hback.trans (State.onUnits_spansNow _ n _)).trans (State.onUnits_breaksNow _ n _)
    · exact s.onUnits_refl

theorem State.onUnits_haltClocks (s : State) : s.OnUnits s.haltClocks := by
  unfold State.haltClocks
  extract_lets s1 s2
  have h1 : s.OnUnits s1 := State.onUnits_forAll (fun s n => s.onUnits_stopClock n) _ s
  have h2 : s.OnUnits s2 := h1.trans (State.onUnits_forAll (fun s n => s.onUnits_abandonHandover n) _ s1)
  refine h2.trans ?_
  clear_value s2
  split
  · exact s2.onUnits_discardRun _
  · exact s2.onUnits_refl

/-! ## A synthesizer gated (R157, R159) -/

theorem State.output_settleFine (s : State) (i j : Nat) : (s.settleFine i).output j =
    if i = j then { s.output j with pos := s.fineTarget j } else s.output j := by
  unfold State.settleFine State.modOutput
  rw [State.output_setOutput]
  split
  · next h => rw [h]
  · rfl

/-- Where an output's fine delay moves to does not depend on where it stands. -/
theorem State.fineTarget_settleFine (s : State) (i j : Nat) : (s.settleFine i).fineTarget j = s.fineTarget j := by
  have hfine : ((s.settleFine i).output j).fine = (s.output j).fine := by
    rw [State.output_settleFine]
    split <;> rfl
  unfold State.fineTarget
  rw [hfine]
  rfl

theorem State.settleFine_rest (s : State) (i : Nat) : { s.settleFine i with outs := s.outs } = s := rfl

/-- Only outputs differ. -/
def State.SameButOuts (s x : State) : Prop := { x with outs := s.outs } = s

theorem State.SameButOuts.trans {s x y : State} (h : s.SameButOuts x) (g : x.SameButOuts y) : s.SameButOuts y := by
  have e := congrArg (fun z : State => { z with outs := s.outs }) g
  exact e.trans h

theorem State.SameButOuts.eq {s x : State} (h : s.SameButOuts x) : ∃ o, x = { s with outs := o } := by
  have e := congrArg (fun z : State => { z with outs := x.outs }) h
  exact ⟨_, e⟩

theorem State.sameButOuts_forAll {f : State → Nat → State} (h : ∀ (s : State) (i : Nat), s.SameButOuts (f s i)) (xs : List Nat) :
    ∀ s : State, s.SameButOuts (s.forAll xs f) := by
  induction xs with
  | nil => exact fun s => rfl
  | cons i r ih => exact fun s => (h s i).trans (ih (f s i))

/-- Fine delays of some outputs, each settled. -/
theorem State.output_settleFines (xs : List Nat) : ∀ (s : State) (j : Nat),
    (s.forAll xs State.settleFine).output j = if j ∈ xs then { s.output j with pos := s.fineTarget j } else s.output j := by
  induction xs with
  | nil => exact fun s j => rfl
  | cons i r ih =>
    intro s j
    rw [State.forAll_cons, ih, State.fineTarget_settleFine, State.output_settleFine]
    by_cases hij : i = j
    · subst hij
      simp
    · simp [hij, Ne.symm hij]

/-- Some outputs changed alike, the change being one that can be made twice. -/
theorem State.output_modOutputs {f : Output → Output} (hf : ∀ o, f (f o) = f o) (xs : List Nat) : ∀ (s : State) (j : Nat),
    (s.forAll xs fun s i => s.modOutput i f).output j = if j ∈ xs then f (s.output j) else s.output j := by
  induction xs with
  | nil => exact fun s j => rfl
  | cons i r ih =>
    intro s j
    rw [State.forAll_cons, ih, State.modOutput, State.output_setOutput]
    by_cases hij : i = j
    · subst hij
      simp [hf]
    · simp [hij, Ne.symm hij]

/-- What the gating of a synthesizer leaves (R159): it acquires from now. -/
def State.gatedSyn (s : State) (y : Syn) : Synth :=
  { s.syn y with phase := .acquiring, gated := true, since := s.now, alignEdge := none, lost := decide (y = .M) }

/-- What the gating of a synthesizer leaves of the device: its outputs are settled; SYN-M's stops TCLK and the channels. -/
structure State.Gates (s x : State) (y : Syn) : Prop where
  same : x.syn y = s.gatedSyn y
  others : ∀ z, z ≠ y → x.syn z = s.syn z
  rest : { x with
    chans := s.chans, mem := s.mem, card := s.card, sys := s.sys, bays := s.bays, cores := s.cores, plumb := s.plumb
    synM := s.synM, synA := s.synA, outs := s.outs, time := s.time, truss := s.truss } = s
  truss : { x.truss with timeValid := s.truss.timeValid } = s.truss
  bytes : x.mem.bytes = s.mem.bytes
  sys : s.sys.SameButAlert x.sys
  stops : y = .M → x.time.running = false

theorem State.freezeTime_stops (s : State) : s.freezeTime.time.running = false := by
  unfold State.freezeTime
  split
  · rfl
  · next h => exact Bool.eq_false_iff.2 h

theorem State.gates_gateSyn (s : State) (y : Syn) : s.Gates (s.gateSyn y) y := by
  have hsettle : ∀ z : State, z.SameButOuts (z.forAll (outsOf y) State.settleFine) :=
    State.sameButOuts_forAll (fun s i => s.settleFine_rest i) _
  cases y with
  | M =>
    have hhalt := s.onUnits_haltClocks
    obtain ⟨m, v, hfreeze⟩ := s.haltClocks.freezeTime_eq
    have hstops := s.haltClocks.freezeTime_stops
    obtain ⟨o, hs⟩ := (hsettle s.haltClocks.freezeTime).eq
    unfold State.gateSyn
    dsimp only
    rw [hs, hfreeze]
    rw [hfreeze] at hstops
    obtain ⟨c, m', k, d, b, e, p, hz⟩ := hhalt.eq
    obtain ⟨-, hbytes, hsys⟩ := hhalt
    rw [hz] at hbytes hsys ⊢
    exact ⟨rfl, fun z h => (State.syn_modSyn_other _ h _).trans (by cases z <;> rfl), rfl, rfl, hbytes, hsys, fun _ => hstops⟩
  | A =>
    obtain ⟨o, hs⟩ := (hsettle s).eq
    unfold State.gateSyn
    dsimp only
    rw [hs]
    exact ⟨rfl, fun z h => (State.syn_modSyn_other _ h _).trans (by cases z <;> rfl), rfl, rfl, rfl, rfl, fun h => by cases h⟩

end Sys2Proof.Machine
end

section
/-! Proof of O34. REFIN is lost, comes back and is rejoined; crystal gates and PPS edges
(06_clock_synthesis.md, R146 to R148, R161, R164, R165). -/

namespace Sys2Proof.Machine

/-! ## The loss of REFIN (R146, R164) -/

/-- A count of a frequency gate within the window of REFIN (R146). -/
def Ref.inWindow (r : Ref) (n : Nat) : Bool := decide (((n : Int) - r.freq).natAbs * 1000000 ≤ r.window * r.freq)

/-- The reference with what a frequency gate has found. -/
def State.gated (s : State) (amp freq : Bool) : State := { s with ref := { s.ref with ampOk := amp, freqOk := freq } }

/-- What a loss of REFIN leaves. -/
structure State.Loses (s x : State) : Prop where
  present : x.ref.present = false
  lost : x.ref.lost = true
  alert : x.sys.alert = s.sys.alert ||| 64
  crystal : s.ref.xtalSrc = true → x.ref.mode = s.ref.mode ∧ x.ref.holdovers = s.ref.holdovers ∧ x.synM = s.synM ∧
    x.synA = s.synA ∧ { x.tiu with warps := s.tiu.warps, own := s.tiu.own } = s.tiu
  auto : s.ref.xtalSrc = false → x.ref.mode = .holdover ∧ { x.synM with mash := s.synM.mash } = { s.synM with onXtal := true } ∧
    { x.synA with mash := s.synA.mash } = { s.synA with onXtal := true } ∧
    x.ref.holdovers = (if s.ref.holdSince = none then s.ref.holdovers + 1 else s.ref.holdovers) ∧
    x.ref.holdSince = some (s.ref.holdSince.getD s.now)
  kept : x.chans = s.chans ∧ x.tts = s.tts ∧ x.mem = s.mem ∧ x.outs = s.outs

/-- The reference that is lost: under AUTO in holdover, the holdover begun if none was (R164). -/
def Ref.gone (r : Ref) (now : Nat) : Ref :=
  { r with
    present := false, lost := true, gateSince := none, presentSince := none, measuring := none, qualAt := none
    slewEnd := none, cmds := (0, [])
    mode := if !r.xtalSrc then .holdover else r.mode
    holdovers := if !r.xtalSrc && !r.holdSince.isSome then r.holdovers + 1 else r.holdovers
    holdSince := if !r.xtalSrc && !r.holdSince.isSome then some now else r.holdSince }

theorem Ref.gone_crystal {r : Ref} (h : r.xtalSrc = true) (now : Nat) :
    (r.gone now).mode = r.mode ∧ (r.gone now).holdovers = r.holdovers := by
  simp [Ref.gone, h]

theorem Ref.gone_auto {r : Ref} (h : r.xtalSrc = false) (now : Nat) : (r.gone now).mode = .holdover ∧
    (r.gone now).holdovers = (if r.holdSince = none then r.holdovers + 1 else r.holdovers) ∧
    (r.gone now).holdSince = some (r.holdSince.getD now) := by
  unfold Ref.gone
  cases hs : r.holdSince <;> simp [h]

/-- The device with REFIN lost, its loops and TCLK not turned yet. -/
theorem State.loseRef_eq (s : State) : ∃ o d w v, s.loseRef =
    (let x : State := { s with
        out := o, oda := d, ref := { s.ref.gone s.now with warps := w }, tiu := { s.tiu with warps := v } }
     if !s.ref.xtalSrc then ((x.alert alRefLost).onCrystal true).tiuRefLost else x.alert alRefLost) := by
  obtain ⟨o, d, hcmds⟩ := s.loseCmds_eq
  obtain ⟨w, v, hslew⟩ := s.loseCmds.endSlew_eq
  rw [hcmds] at hslew
  unfold State.loseRef
  dsimp only
  rw [hcmds, hslew]
  exact ⟨o, d, w, v, rfl⟩

theorem State.loses_loseRef (s : State) : s.Loses s.loseRef := by
  obtain ⟨o, d, w, v, hlose⟩ := s.loseRef_eq
  rw [hlose]
  dsimp only
  cases hsrc : s.ref.xtalSrc with
  | true =>
    obtain ⟨hmode, hcount⟩ := Ref.gone_crystal hsrc s.now
    rw [if_neg (by decide)]
    exact ⟨rfl, rfl, rfl, fun _ => ⟨hmode, hcount, rfl, rfl, rfl⟩, fun h => absurd (hsrc.symm.trans h) (by decide),
      rfl, rfl, rfl, rfl⟩
  | false =>
    obtain ⟨hmode, hcount, hsince⟩ := Ref.gone_auto hsrc s.now
    rw [if_pos (by decide)]
    generalize hx : State.onCrystal _ true = x
    obtain ⟨i, m, t, htiu⟩ := x.tiuRefLost_eq
    rw [htiu, ← hx]
    exact ⟨rfl, rfl, rfl, fun h => absurd (hsrc.symm.trans h) (by decide), fun _ => ⟨hmode, rfl, rfl, hcount, hsince⟩,
      rfl, rfl, rfl, rfl⟩

/-! ## Frequency gates (R146) -/

theorem opRefinGateEnd_eq (s : State) (amp : Bool) (n : Nat) : opRefinGateEnd s amp n =
    if amp && s.ref.inWindow n then (if s.ref.present then s.gated amp (s.ref.inWindow n) else (s.gated amp (s.ref.inWindow n)).gainRef)
    else if s.ref.present then (s.gated amp (s.ref.inWindow n)).loseRef else s.gated amp (s.ref.inWindow n) := rfl

/-- A gate that is weak or outside the window is no good one. -/
theorem Ref.bad_gate {r : Ref} {ok : Bool} {n : Nat} (h : ok = true → r.window * r.freq < ((n : Int) - r.freq).natAbs * 1000000) :
    (ok && r.inWindow n) = false := by
  cases ok with
  | false => rfl
  | true =>
    unfold Ref.inWindow
    rw [decide_eq_false (Nat.not_le.2 (h rfl)), Bool.and_false]

/-- REFIN that comes to be present. -/
theorem State.gainRef_gains (s : State) : s.gainRef.ref.present = true ∧ s.gainRef.ref.ampOk = s.ref.ampOk ∧
    s.gainRef.ref.freqOk = s.ref.freqOk ∧ s.gainRef.ref.gateSince = some s.now ∧
    (s.ref.xtalSrc = true → s.gainRef.ref.mode = .xtal) ∧
    (s.ref.xtalSrc = false → s.ref.mode = .holdover →
      s.gainRef.ref.mode = .qualifying ∧ s.gainRef.ref.presentSince = some s.now) := by
  refine ⟨rfl, rfl, rfl, rfl, fun h => ?_, fun h hmode => ?_⟩
  · simp [State.gainRef, h]
  · simp [State.gainRef, h, hmode]

theorem Ref.good_gate {r : Ref} {n : Nat} (h : ((n : Int) - r.freq).natAbs * 1000000 ≤ r.window * r.freq) : r.inWindow n = true := by
  unfold Ref.inWindow
  exact decide_eq_true h

theorem State.gainRef_rest (s : State) (r : Ref) : { s.gainRef with ref := r } = { s with ref := r } := rfl

theorem opRefinGateEnd_good {s : State} {n : Nat} (h : s.ref.inWindow n = true) : opRefinGateEnd s true n =
    if s.ref.present = true then s.gated true true else (s.gated true true).gainRef := by
  rw [opRefinGateEnd_eq, h]
  rfl

theorem opRefinGateEnd_bad {s : State} {ok : Bool} {n : Nat}
    (h : ok = true → s.ref.window * s.ref.freq < ((n : Int) - s.ref.freq).natAbs * 1000000) : opRefinGateEnd s ok n =
      if s.ref.present = true then (s.gated ok (s.ref.inWindow n)).loseRef else s.gated ok (s.ref.inWindow n) := by
  rw [opRefinGateEnd_eq, Ref.bad_gate h]
  rfl

theorem opRefinQualified_eq {s : State} {z : Nat} (hz : s.ref.presentSince = some z) (hmode : s.ref.mode = .qualifying)
    (hm : s.ref.measuring = none) (hdue : z + s.ref.qual * msFs ≤ s.now) : opRefinQualified s =
      { s.calFrom srcRefin with ref := { s.ref with
        measuring := some (0, z + s.ref.qual * msFs), qualAt := some (z + s.ref.qual * msFs), presentSince := none } } := by
  unfold opRefinQualified
  rw [hz]
  exact if_pos ⟨hmode, hm, hdue⟩

theorem opSlewComplete_eq {s : State} {z : Nat} (hz : s.ref.slewEnd = some z) (hmode : s.ref.mode = .slewing) (hdue : z ≤ s.now) :
    opSlewComplete s = s.rejoin := by
  unfold opSlewComplete
  rw [hz]
  exact if_pos ⟨hmode, hdue⟩

/-- A REFIN that comes to be present is all that changes. -/
theorem opRefinGateEnd_gains {s : State} {n : Nat} (h : s.ref.inWindow n = true) :
    (opRefinGateEnd s true n).ref.present = true ∧ (opRefinGateEnd s true n).ref.ampOk = true ∧
      (opRefinGateEnd s true n).ref.freqOk = true ∧
      (s.ref.present = true → (opRefinGateEnd s true n).ref = { s.ref with ampOk := true, freqOk := true }) ∧
      (s.ref.present = false → (opRefinGateEnd s true n).ref.gateSince = some s.now ∧
        (s.ref.xtalSrc = true → (opRefinGateEnd s true n).ref.mode = .xtal) ∧
        (s.ref.xtalSrc = false → s.ref.mode = .holdover →
          (opRefinGateEnd s true n).ref.mode = .qualifying ∧ (opRefinGateEnd s true n).ref.presentSince = some s.now)) ∧
      { opRefinGateEnd s true n with ref := s.ref } = s := by
  rw [opRefinGateEnd_good h]
  split
  · next hp => exact ⟨hp, rfl, rfl, fun _ => rfl, fun h => absurd (hp.symm.trans h) (by decide), rfl⟩
  · next hp =>
    obtain ⟨hpresent, hamp, hfreq, hgate, hxtal, hauto⟩ := (s.gated true true).gainRef_gains
    exact ⟨hpresent, hamp, hfreq, fun h => absurd h hp, fun _ => ⟨hgate, hxtal, hauto⟩, State.gainRef_rest _ _⟩

/-! ## The phase step measured, and what it leads to (R165, R166) -/

/-- SRC over the rest of a slot's configuration reads as it was set. -/
theorem Tiu.src_over (cfg : Word) :
    bits (BitVec.ofNat 32 (srcRefin * 2 ^ 25) ||| (cfg &&& 0x01FFFFFF)).toNat 31 25 = srcRefin := by
  have hlow : (cfg.toNat &&& 33554431) / 2 ^ 25 = 0 :=
    Nat.div_eq_of_lt (Nat.and_lt_two_pow _ (by decide : 33554431 < 2 ^ 25))
  unfold bits
  rw [BitVec.toNat_or, BitVec.toNat_and, ← Nat.shiftRight_eq_div_pow, Nat.shiftRight_or_distrib,
    Nat.shiftRight_eq_div_pow, Nat.shiftRight_eq_div_pow]
  change (_ ||| (cfg.toNat &&& 33554431) / 2 ^ 25) % _ = _
  rw [hlow]
  decide

/-- The calibration channel measures REFIN, and no other slot changes (R165). -/
theorem State.slots_calFrom (s : State) :
    ((s.calFrom srcRefin).slot 16).src = 93 ∧ ∀ c, c ≠ 16 → (s.calFrom srcRefin).slot c = s.slot c := by
  refine ⟨?_, fun c hc => (State.slot_setSlot s 16 c _).trans (if_neg (Ne.symm hc))⟩
  have hslot : (s.calFrom srcRefin).slot 16 = _ := State.slot_setSlot_self s 16 _
  rw [hslot]
  exact Tiu.src_over _

theorem State.calFrom_eq (s : State) (src : Nat) : ∃ m, s.calFrom src = { s with tiu := { s.tiu with slots := m } } := ⟨_, rfl⟩

/-- REFIN with its phase step measured: `d`. -/
def State.measured (s : State) (d : Int) : State := { s with ref := { s.ref with step := d, returned := true, measuring := none } }

theorem opRefStepMeasured_eq {s : State} {mean : Int} {pol z : Nat} (hm : s.ref.measuring = some (pol, z))
    (hz : z + 65536 * secFs / s.ref.freq ≤ s.now) : opRefStepMeasured s mean =
      let d := s.ref.wrapStep mean
      if d.natAbs ≤ 1000 then (s.measured d).rejoin
      else if pol = 3 ∨ (pol = 0 ∧ s.ref.ret = 0) then (s.measured d).startSlew d
      else if pol = 4 ∨ (pol = 0 ∧ s.ref.ret = 1) then (s.measured d).hop
      else { s.measured d with ref := { (s.measured d).ref with mode := .waitHost } } := by
  unfold opRefStepMeasured
  rw [hm]
  dsimp only
  generalize z + 65536 * secFs / s.ref.freq = x at hz ⊢
  exact if_pos hz

/-- A synthesizer that is enabled relocks; the other and the reference stand. -/
theorem State.relock_eq (s : State) (y : Syn) : (s.relock y).ref = s.ref ∧ (∀ z, z ≠ y → (s.relock y).syn z = s.syn z) ∧
    (s.relock y).syn y = if (s.syn y).en = true then
      { s.gatedSyn y with locked := false, tbLocked := false, xtalY := none } else s.syn y := by
  obtain ⟨hsame, hothers, hrest, -⟩ := s.gates_gateSyn y
  have href : (s.gateSyn y).ref = s.ref := by have e := congrArg State.ref hrest; exact e
  unfold State.relock State.when
  split
  · refine ⟨by rw [State.modSyn_ref, State.unlock, State.modSyn_ref, href], fun z hz => ?_, ?_⟩
    · rw [State.syn_modSyn_other _ hz, State.unlock, State.syn_modSyn_other _ hz, hothers z hz]
    · rw [State.syn_modSyn_self, State.unlock, State.syn_modSyn_self, hsame]
  · exact ⟨rfl, fun _ _ => rfl, rfl⟩

/-- HOP: the loops return to REFIN, and each enabled synthesizer relocks (R165). -/
theorem State.hop_relocks (s : State) : s.hop.ref = s.rejoin.ref ∧ ∀ y, (s.rejoin.syn y).en = true →
    (s.hop.syn y).phase = .acquiring ∧ (s.hop.syn y).gated = true ∧ (s.hop.syn y).locked = false ∧
      (s.hop.syn y).onXtal = (s.rejoin.syn y).onXtal := by
  obtain ⟨hrefM, hothersM, hM⟩ := s.rejoin.relock_eq .M
  obtain ⟨hrefA, hothersA, hA⟩ := (s.rejoin.relock .M).relock_eq .A
  unfold State.hop
  refine ⟨hrefA.trans hrefM, fun y hen => ?_⟩
  cases y with
  | M =>
    rw [hothersA .M (by decide), hM, if_pos hen]
    exact ⟨rfl, rfl, rfl, rfl⟩
  | A =>
    have hstands := hothersM .A (by decide)
    rw [hA, hstands, if_pos hen]
    unfold State.gatedSyn
    rw [hstands]
    exact ⟨rfl, rfl, rfl, rfl⟩

theorem Tiu.warps_unless (i : Tiu) (ws : List Warp) :
    { i with warps := if i.own then i.warps else ws } = if i.own = true then i else { i with warps := ws } := by
  split <;> rfl

theorem State.startSlew_eq {s : State} {d : Int} {span scale : Nat} (hspan : span = d.natAbs * 1000000000 / s.ref.slewRate)
    (hscale : scale = if 0 < d then 1000000000 - s.ref.slewRate else 1000000000 + s.ref.slewRate) : s.startSlew d =
      { s with
        ref := { s.ref with mode := .slewing, slewEnd := some (s.now + span), warps := slewed s.ref.warps s.now span scale }
        tiu := if s.tiu.own = true then s.tiu else { s.tiu with warps := slewed s.tiu.warps s.now span scale } } := by
  subst hspan hscale
  rw [← Tiu.warps_unless]
  rfl

/-- What a return to REFIN leaves of channels and memory. -/
theorem State.Rejoins.kept {s x : State} (h : s.Rejoins x) : x.chans = s.chans ∧ x.mem = s.mem := by
  have hchans := congrArg State.chans h.rest
  have hmem := congrArg State.mem h.rest
  exact ⟨hchans, hmem⟩

/-- Both loops follow REFIN again, enabled as they were. -/
theorem State.Rejoins.syn {s x : State} (h : s.Rejoins x) (y : Syn) : (x.syn y).en = (s.syn y).en ∧ (x.syn y).onXtal = false := by
  have hback : { x.syn y with mash := (s.syn y).mash } = { s.syn y with onXtal := false } := by
    cases y
    · exact h.synM
    · exact h.synA
  have hen := congrArg Synth.en hback
  have hxtal := congrArg Synth.onXtal hback
  exact ⟨hen, hxtal⟩

/-- With no slew in progress the loops' warps stand too. -/
theorem State.rejoin_done {s : State} (h : ∀ x, s.ref.slewEnd = some x → x ≤ s.now) : s.rejoin.ref =
    { s.ref with mode := .refin, holdSince := none, slewEnd := none, measuring := none } := by
  have hslew : s.endSlew = s := by
    unfold State.endSlew
    split
    · next x hx => exact if_neg (Nat.not_lt.2 (h x hx))
    · rfl
  unfold State.rejoin
  rw [hslew]
  rfl

/-! ## Crystal gates, PPS edges and their absence (R147, R148, R161) -/

theorem opXtalGateEnd_eq {s : State} {z : Nat} (offset : Int) (hz : s.ref.gateSince = some z) (hp : s.ref.present = true)
    (hdue : z + secFs ≤ s.now) : opXtalGateEnd s offset =
      let r := { s.ref with gates := (offset :: s.ref.gates).take 16, gateSince := some (z + secFs) }
      { s with ref := { r with xtalRange := r.xtalRange || decide (2000000 < r.gateMean.natAbs) } } := by
  unfold opXtalGateEnd
  rw [hz]
  exact if_pos ⟨hp, hdue⟩

theorem opPpsEdge_goes {s : State} (disagree : Bool) (h : s.truss.ppsDue = none) :
    (opPpsEdge s disagree).ref = { s.ref with ppsAt := some s.now, ppsMargin := s.ref.ppsMargin || disagree } ∧
      (∀ y, (opPpsEdge s disagree).syn y = (s.syn y).goes s.now) ∧
      { opPpsEdge s disagree with ref := s.ref, synM := s.synM, synA := s.synA } = s := by
  have hop : opPpsEdge s disagree =
      ((({ s with ref := { s.ref with ppsAt := some s.now, ppsMargin := s.ref.ppsMargin || disagree } } : State).alignGo
        .M).alignGo .A) := by
    unfold opPpsEdge
    dsimp only
    generalize hx : (({ s with ref := _ } : State).alignGo .M).alignGo .A = x
    have hx' : x.truss.ppsDue = none := by rw [← hx]; exact h
    rw [hx']
  rw [hop]
  have hsyn := State.syn_alignGo_both ({ s with ref := { s.ref with ppsAt := some s.now, ppsMargin := s.ref.ppsMargin || disagree } } : State)
  exact ⟨rfl, fun y => (hsyn y).trans (by cases y <;> rfl), rfl⟩

/-- A synthesizer that has waited 1.1 s for PPS. -/
def State.waitsLong (s : State) (v : Synth) : Bool := decide (v.phase = .alignWait ∧ v.since + 1100 * msFs ≤ s.now)

theorem opAlignTimeout_eq {s : State} {y : Syn} (hphase : (s.syn y).phase = .alignWait)
    (hdue : (s.syn y).since + 1100 * msFs ≤ s.now) : opAlignTimeout s = { s with ref := { s.ref with alignTimeout := true } } := by
  have hwaits : s.waitsLong (s.syn y) = true := by
    unfold State.waitsLong
    exact decide_eq_true ⟨hphase, hdue⟩
  have hlate : (s.waitsLong s.synM || s.waitsLong s.synA) = true := by
    cases y with
    | M => rw [show s.waitsLong s.synM = true from hwaits, Bool.true_or]
    | A => rw [show s.waitsLong s.synA = true from hwaits, Bool.or_true]
  exact if_pos hlate

/-- Settles O34, each event by the operation that it comes to. -/
theorem referenceEvents : Obligations.ReferenceEvents := by
  unfold Obligations.ReferenceEvents
  intro s u t x hu hs hx
  subst hx
  have hrun (f : State → State) : event s t f = .next ((f u).close s.pending) := event_clocked hu hs f
  have hgate (ok : Bool) (n : Nat) : exec (.refinGateEnd t ok n) s = .next ((opRefinGateEnd u ok n).close s.pending) :=
    hrun fun s => opRefinGateEnd s ok n
  refine ⟨fun hp c hc => ?_, fun hp => ⟨?_, fun ok n hbad => ?_⟩, fun n hgood => ?_, fun z hz hmode hm hdue => ?_,
    fun pol z mean d hm hdue hd => ⟨fun hsmall => ?_, fun span scale hbig hpol hspan hscale => ?_, fun hbig hpol => ?_,
      fun hbig hpol hret => ?_⟩,
    fun z hz hmode hdue => ?_, fun z offset hz hp hdue => ?_, fun disagree hnone => ?_, fun y hphase hdue => ?_⟩
  · have hlose : ∃ a f, exec c s = .next (((u.gated a f).loseRef).close s.pending) := by
      rcases hc with rfl | ⟨ok, n, rfl, hbad⟩
      · have hop : opRefinLoss u = (u.gated false u.ref.freqOk).loseRef := if_pos hp
        exact ⟨_, _, hop ▸ hrun opRefinLoss⟩
      · have hop : opRefinGateEnd u ok n = (u.gated ok (u.ref.inWindow n)).loseRef := by
          rw [opRefinGateEnd_eq, Ref.bad_gate hbad, if_neg Bool.false_ne_true, if_pos hp]
        exact ⟨_, _, hop ▸ hgate ok n⟩
    obtain ⟨a, f, hexec⟩ := hlose
    obtain ⟨hpresent, hlost, halert, hcrystal, hauto, hkept⟩ := (u.gated a f).loses_loseRef
    refine ⟨_, hexec, ?_⟩
    simp only [State.close_ref, State.close_alert, State.close_synM, State.close_synA, State.close_tiu, State.close_chans,
      State.close_tts, State.close_mem, State.close_outs]
    exact ⟨hpresent, hlost, halert, hcrystal, hauto, hkept⟩
  · have hop : opRefinLoss u = { u with ref := { u.ref with ampOk := false } } := if_neg (by rw [hp]; decide)
    exact ⟨_, hrun opRefinLoss, by rw [State.graft_close, hop]; rfl⟩
  · exact ⟨_, hgate ok n, by
      rw [State.graft_close, opRefinGateEnd_bad hbad, if_neg (by rw [hp]; decide)]; rfl⟩
  · obtain ⟨hpresent, hamp, hfreq, hstays, hgains, hrest⟩ := opRefinGateEnd_gains (Ref.good_gate hgood)
    refine ⟨_, hgate true n, ?_⟩
    rw [State.close_ref, State.graft_close]
    exact ⟨hpresent, hamp, hfreq, hstays, hgains, State.graft_ref hrest⟩
  · obtain ⟨hsrc, hslots⟩ := u.slots_calFrom
    refine ⟨_, hrun opRefinQualified, ?_⟩
    simp only [State.close_ref, State.close_slot, State.graft_close, State.close_tiu]
    rw [opRefinQualified_eq hz hmode hm hdue]
    obtain ⟨m, hcal⟩ := u.calFrom_eq srcRefin
    rw [hcal] at hsrc hslots ⊢
    exact ⟨rfl, hsrc, hslots, rfl⟩
  · have hop : opRefStepMeasured u mean = (u.measured d).rejoin := by
      rw [opRefStepMeasured_eq hm hdue, ← hd]
      exact if_pos hsmall
    have hrejoins := (u.measured d).rejoins_rejoin
    obtain ⟨hchans, hmem⟩ := hrejoins.kept
    refine ⟨_, hrun fun s => opRefStepMeasured s mean, ?_⟩
    simp only [State.close_ref, State.close_synM, State.close_synA, State.close_chans, State.close_mem]
    rw [hop]
    exact ⟨hrejoins.ref, hrejoins.synM, hrejoins.synA, hchans, hmem⟩
  · have hop : opRefStepMeasured u mean = (u.measured d).startSlew d := by
      rw [opRefStepMeasured_eq hm hdue, ← hd]
      dsimp only
      rw [if_neg (Nat.not_le.2 hbig), if_pos hpol.symm]
    refine ⟨_, hrun fun s => opRefStepMeasured s mean, ?_⟩
    simp only [State.close_ref, State.close_tiu, State.graft_close]
    rw [hop, State.startSlew_eq (s := u.measured d) hspan hscale]
    exact ⟨rfl, rfl, rfl⟩
  · have hop : opRefStepMeasured u mean = (u.measured d).hop := by
      have hslew : ¬ (pol = 3 ∨ (pol = 0 ∧ u.ref.ret = 0)) := by omega
      rw [opRefStepMeasured_eq hm hdue, ← hd]
      dsimp only
      rw [if_neg (Nat.not_le.2 hbig), if_neg hslew, if_pos hpol.symm]
    obtain ⟨href, hrelocks⟩ := (u.measured d).hop_relocks
    have hrejoins := (u.measured d).rejoins_rejoin
    refine ⟨_, hrun fun s => opRefStepMeasured s mean, ?_⟩
    simp only [State.close_ref, State.close_syn]
    rw [hop, href]
    refine ⟨?_, ?_, fun y hen => ?_⟩
    · have e := congrArg Ref.mode hrejoins.ref
      exact e
    · have e := congrArg Ref.step hrejoins.ref
      exact e
    · obtain ⟨hback, hrefin⟩ := hrejoins.syn y
      obtain ⟨hphase, hgated, hlocked, hxtal⟩ := hrelocks y (hback.trans (by cases y <;> exact hen))
      exact ⟨hphase, hgated, hlocked, hxtal.trans hrefin⟩
  · have hop : opRefStepMeasured u mean = { u.measured d with ref := { (u.measured d).ref with mode := .waitHost } } := by
      rw [opRefStepMeasured_eq hm hdue, ← hd]
      dsimp only
      rw [if_neg (Nat.not_le.2 hbig), if_neg (by omega), if_neg (by omega)]
    refine ⟨_, hrun fun s => opRefStepMeasured s mean, ?_⟩
    rw [State.close_ref, State.graft_close, hop]
    exact ⟨rfl, rfl⟩
  · have hrejoins := u.rejoins_rejoin
    obtain ⟨hchans, hmem⟩ := hrejoins.kept
    refine ⟨_, hrun opSlewComplete, ?_⟩
    simp only [State.close_ref, State.close_synM, State.close_synA, State.close_chans, State.close_mem]
    rw [opSlewComplete_eq hz hmode hdue]
    exact ⟨State.rejoin_done fun y hy => (Option.some.inj (hz.symm.trans hy)) ▸ hdue, hrejoins.synM, hrejoins.synA, hchans, hmem⟩
  · refine ⟨_, hrun fun s => opXtalGateEnd s offset, ?_⟩
    rw [State.close_ref, State.graft_close, opXtalGateEnd_eq offset hz hp hdue]
    exact ⟨rfl, rfl, fun h => (by dsimp only; rw [h]; rfl), rfl⟩
  · refine ⟨_, hrun fun s => opPpsEdge s disagree, ?_⟩
    simp only [State.close_ref, State.close_syn, State.graft_close]
    obtain ⟨href, hsyn, hrest⟩ := opPpsEdge_goes disagree hnone
    have e := congrArg u.graft hrest
    exact ⟨href, hsyn, e⟩
  · refine ⟨_, hrun opAlignTimeout, ?_⟩
    rw [State.close_ref, State.graft_close, opAlignTimeout_eq hphase hdue]
    exact ⟨rfl, rfl⟩

end Sys2Proof.Machine
end

section
/-! SUPPORT. Core clocks and TCLK that run again, seen from outside (06_clock_synthesis.md, R163;
07_bells_and_truss.md, R180, R183, R190). -/

namespace Sys2Proof.Machine

/-! ## Channels whose clocks run again (R163) -/

/-- `x` differs from `s` in channels, bays, cores and Plumb, in the hall passes and rings of the bulk window, in the counts
of memory errors, in the device's flags and in what a bell that is late changes only: no byte of segment memory. -/
structure State.OnClocks (s x : State) : Prop where
  rest : { x with
    chans := s.chans, mem := s.mem, card := s.card, sys := s.sys, bays := s.bays, cores := s.cores, plumb := s.plumb
    truss := s.truss, lanes := s.lanes, out := s.out } = s
  bytes : x.mem.bytes = s.mem.bytes

theorem State.onClocks_refl (s : State) : s.OnClocks s := ⟨rfl, rfl⟩

theorem State.OnClocks.trans {s x y : State} (h : s.OnClocks x) (g : x.OnClocks y) : s.OnClocks y := by
  refine ⟨?_, g.bytes.trans h.bytes⟩
  have e := congrArg (fun z : State => { z with
    chans := s.chans, mem := s.mem, card := s.card, sys := s.sys, bays := s.bays, cores := s.cores, plumb := s.plumb
    truss := s.truss, lanes := s.lanes, out := s.out }) g.rest
  exact e.trans h.rest

theorem State.OnUnits.onClocks {s x : State} (h : s.OnUnits x) : s.OnClocks x := by
  have e := congrArg (fun z : State => { z with truss := s.truss, lanes := s.lanes, out := s.out }) h.rest
  exact ⟨e, h.bytes⟩

theorem State.SameButBells.onClocks {s x : State} (h : s.SameButBells x) : s.OnClocks x := by
  have e := congrArg (fun z : State => { z with mem := s.mem, bays := s.bays, cores := s.cores, plumb := s.plumb }) h
  have hbytes := congrArg (fun z : State => z.mem.bytes) h
  exact ⟨e, hbytes⟩

theorem State.onClocks_modChan (s : State) (n : Nat) (f : Channel → Channel) : s.OnClocks (s.modChan n f) :=
  (s.onUnits_modChan n f).onClocks

theorem State.OnClocks.output {s x : State} (h : s.OnClocks x) (n : Nat) : x.output n = s.output n := by
  have e := congrArg (fun z : State => z.output n) h.rest
  exact e

theorem State.onClocks_forAll {α : Type} {f : State → α → State} (h : ∀ (s : State) (a : α), s.OnClocks (f s a)) (xs : List α) :
    ∀ s : State, s.OnClocks (s.forAll xs f) := by
  induction xs with
  | nil => exact fun s => s.onClocks_refl
  | cons a r ih => exact fun s => (h s a).trans (ih (f s a))

/-- The clocks of the same channels stand. -/
def State.SameStops (s x : State) : Prop := ∀ m, (x.chan m).clkStopped = (s.chan m).clkStopped

theorem State.SameStops.trans {s x y : State} (h : s.SameStops x) (g : x.SameStops y) : s.SameStops y := fun m =>
  (g m).trans (h m)

theorem State.SameButBroke.sameStops {s x : State} (h : s.SameButBroke x) : s.SameStops x := fun m => by
  have e := congrArg Channel.clkStopped (h m)
  exact e

theorem State.sameStops_syncTo (s : State) (n k : Nat) : s.SameStops (s.syncTo n k) := fun m => by
  have e := congrArg Channel.clkStopped (s.keepsPlan_syncTo n k m)
  exact e

theorem State.sameStops_modChan (s : State) (n : Nat) {f : Channel → Channel} (h : (f (s.chan n)).clkStopped = (s.chan n).clkStopped) :
    s.SameStops (s.modChan n f) := fun m => by
  rw [State.modChan_eq, State.chan_setChan]
  split
  · next hm => rw [← hm, h]
  · rfl

theorem State.sameStops_silence (s : State) (n k : Nat) (st : ChState) : s.SameStops (s.silence n k st) := fun m => by
  by_cases hm : m = n
  · obtain ⟨p, hcut⟩ := s.chan_cut n k
    rw [hm, State.chan_silence, hcut]
    exact s.sameStops_syncTo n k n
  · exact congrArg Channel.clkStopped ((s.onUnit_silence n k st).others m hm)

theorem State.lateBreak_breaks (s : State) : s.SameButBroke s.lateBreak := by
  unfold State.lateBreak State.when
  split
  · exact s.sameButBroke_enterBroken none 63 0xFE
  · exact State.sameButBroke_of_chans rfl

theorem State.lateAtResume_late (s : State) (n k : Nat) : s.OnClocks (s.lateAtResume n k) ∧ s.SameStops (s.lateAtResume n k) := by
  have hbells : ∀ f : List PassedBell → List PassedBell,
      s.OnClocks (s.modChan n fun c => { c with bells := f c.bells }) ∧
        s.SameStops (s.modChan n fun c => { c with bells := f c.bells }) := fun f =>
    ⟨s.onClocks_modChan n _, s.sameStops_modChan n rfl⟩
  unfold State.lateAtResume State.when
  extract_lets late keep broken
  obtain ⟨hclocks, hstops⟩ := hbells (List.filterMap keep)
  split
  · exact ⟨hclocks.trans (State.sameButBells_lateBreak _).onClocks, hstops.trans (State.lateBreak_breaks _).sameStops⟩
  · exact ⟨hclocks, hstops⟩

/-- The clock of channel `n` runs again, and no other channel's clock starts or stops. -/
structure State.Clocks (s x : State) (n : Nat) : Prop where
  onClocks : s.OnClocks x
  runs : (x.chan n).clkStopped = false
  others : ∀ m, m ≠ n → (x.chan m).clkStopped = (s.chan m).clkStopped

/-- What happens to a channel that runs again starts and stops no clock. -/
theorem State.Clocks.trans {s x y : State} {n : Nat} (h : s.Clocks x n) (hy : x.OnClocks y) (hs : x.SameStops y) : s.Clocks y n :=
  ⟨h.onClocks.trans hy, (hs n).trans h.runs, fun m hm => (hs m).trans (h.others m hm)⟩

/-- The boundary from which an escape that was being armed counts as armed. -/
def State.rearmed (s : State) (n k : Nat) : State :=
  s.modChan n fun c => match c.arming with
    | some e => { c with arming := some { e with k := max k ((e.due.map (s.boundaryOfTicks n)).getD e.k), due := none } }
    | none => c

/-- A disabling that waited for the clock comes about. -/
def State.disabled (s : State) (n k : Nat) : State :=
  match (s.chan n).disabling with
  | some (_, again) =>
    (s.silence n k .off).modChan n fun c => { c with
      disabling := none, enabling := if again then some (s.boundaryFs n k) else none }
  | none => s

/-- A channel taken to boundary `k` of the grid now in force, what was in progress cut, runs; what follows is an escape
that goes on being armed, late bells and a disabling that waited (R163). -/
theorem State.resumeClock_regrids {s : State} {n : Nat} (h : (s.chan n).clkStopped = true) (k : Nat) :
    ∃ x, s.Clocks x n ∧ s.resumeClock n k = (((x.rearmed n k).syncTo n k).lateAtResume n k).disabled n k := by
  unfold State.resumeClock
  rw [if_pos h]
  extract_lets was s1 s2 s3 s4
  have hcut : s.OnUnits s1 := s.onUnits_cut n _ _
  have hon : s.OnChan s2 n := (s.onChan_cut n _ _).modChan _
  have hclocks : s1.OnClocks s2 := s1.onClocks_modChan n _
  have hruns : (s2.chan n).clkStopped = false := congrArg Channel.clkStopped (s1.chan_modChan_self n _)
  refine ⟨s2, ⟨hcut.onClocks.trans hclocks, hruns, fun m hm => congrArg Channel.clkStopped (hon.2.1 m hm)⟩, ?_⟩
  clear_value s2
  have hrearmed : s3 = s2.rearmed n k := rfl
  clear_value s3
  rw [← hrearmed]
  rfl

theorem State.sameStops_rearmed (s : State) (n k : Nat) : s.SameStops (s.rearmed n k) := by
  refine s.sameStops_modChan n ?_
  split <;> rfl

theorem State.disabled_disables (s : State) (n k : Nat) : s.OnClocks (s.disabled n k) ∧ s.SameStops (s.disabled n k) := by
  unfold State.disabled
  split
  · exact ⟨((s.onUnits_silence n k .off).trans (State.onUnits_modChan _ n _)).onClocks,
      (s.sameStops_silence n k .off).trans (State.sameStops_modChan _ n rfl)⟩
  · exact ⟨s.onClocks_refl, fun _ => rfl⟩

theorem State.clocks_startClock (s : State) (n k : Nat) : s.Clocks (s.startClock n k) n := by
  have hstopped : ((s.modChan n fun c => { c with clkStopped := true }).chan n).clkStopped = true :=
    congrArg Channel.clkStopped (s.chan_modChan_self n _)
  have hon := s.onChan_modChan n fun c => { c with clkStopped := true }
  have hfirst := s.onClocks_modChan n fun c => { c with clkStopped := true }
  unfold State.startClock
  obtain ⟨x, ⟨hgrid, hruns, hothers⟩, hresume⟩ := State.resumeClock_regrids hstopped k
  rw [hresume]
  have hgridded : s.Clocks x n :=
    ⟨hfirst.trans hgrid, hruns, fun m hm => (hothers m hm).trans (congrArg Channel.clkStopped (hon.2.1 m hm))⟩
  obtain ⟨hlate, hlates⟩ := ((x.rearmed n k).syncTo n k).lateAtResume_late n k
  obtain ⟨hoff, hoffs⟩ := (((x.rearmed n k).syncTo n k).lateAtResume n k).disabled_disables n k
  exact (((hgridded.trans (State.onClocks_modChan _ n _) (State.sameStops_rearmed _ n k)).trans
    (State.onUnits_syncTo _ n k).onClocks (State.sameStops_syncTo _ n k)).trans hlate hlates).trans hoff hoffs

/-- The clocks of the enabled outputs among `xs` start. -/
def State.startClocks (s : State) (xs : List Nat) : State :=
  s.forAll xs fun s n => if (s.output n).en then s.startClock n 0 else s

theorem State.onClocks_startClocks (s : State) (xs : List Nat) : s.OnClocks (s.startClocks xs) := by
  refine State.onClocks_forAll (fun s n => ?_) xs s
  split
  · exact (s.clocks_startClock n 0).onClocks
  · exact s.onClocks_refl

theorem State.startClocks_run (xs : List Nat) : ∀ (s : State) (n : Nat),
    (s.chan n).clkStopped = false ∨ (n ∈ xs ∧ (s.output n).en = true) → ((s.startClocks xs).chan n).clkStopped = false := by
  induction xs with
  | nil => exact fun s n h => h.elim id fun h => absurd h.1 List.not_mem_nil
  | cons a r ih =>
    intro s n h
    refine ih _ n ?_
    dsimp only
    split
    · next hen =>
      have hclocks := s.clocks_startClock a 0
      rw [hclocks.onClocks.output]
      by_cases hn : n = a
      · exact .inl (hn ▸ hclocks.runs)
      · rw [hclocks.others n hn]
        exact h.imp_right fun h => ⟨(List.mem_cons.1 h.1).resolve_left hn, h.2⟩
    · next hen =>
      refine h.imp_right fun h => ⟨(List.mem_cons.1 h.1).resolve_left ?_, h.2⟩
      rintro rfl
      exact hen h.2

/-! ## TCLK runs again (R180, R183, R189) -/

/-- Truss time runs again from its edge at device time `at_`; late bells apart, nothing else changes. -/
structure State.StartsTime (s x : State) (at_ : Nat) : Prop where
  rest : { x with
    time := s.time, truss := s.truss, lanes := s.lanes, out := s.out, chans := s.chans, card := s.card, sys := s.sys } = s
  running : x.time.running = true
  from_ : x.time.at_ = s.tclkAt at_

/-- Bells that turn late and count. -/
theorem State.sameButBells_countLates (s : State) (t : Truss) (bs : List PendingBell) :
    s.SameButBells (({ s with truss := t } : State).forAll bs fun s _ => s.countLate) := by
  have hcount : ∀ (y : State) (b : PendingBell), y.SameButBells ((fun s _ => s.countLate) y b) := fun y b => rfl
  exact State.SameButBells.trans (x := { s with truss := t }) rfl (State.sameButBells_forAll hcount bs _)

theorem State.sameButBells_lateWhileGated (s : State) (x : Ticks) : s.SameButBells (s.lateWhileGated x) := by
  unfold State.lateWhileGated State.when
  dsimp only
  split
  · exact (s.sameButBells_countLates _ _).trans (State.sameButBells_lateBreak _)
  · exact s.sameButBells_countLates _ _

theorem State.sameButBells_modLane (s : State) (l : Nat) (f : Lane → Lane) : s.SameButBells (s.modLane l f) := rfl

theorem State.sameButBells_timeRequest (s : State) (l e : Nat) : s.SameButBells (s.timeRequest l e) := by
  unfold State.timeRequest
  exact (s.sameButBells_sendLink l _).trans (State.sameButBells_modLane _ l _)

/-- What follows of late bells once truss time runs leaves truss time. -/
theorem State.startsTime_of_bells {s y x : State} {m : TrussTime} {t : Truss} {z : Nat} (hy : y = { s with time := m, truss := t })
    (hm : m.running = true) (hz : m.at_ = s.tclkAt z) (h : y.SameButBells x) : s.StartsTime x z := by
  subst hy
  have hrest := congrArg (fun z : State => { z with
    time := s.time, truss := s.truss, lanes := s.lanes, out := s.out, chans := s.chans, card := s.card, sys := s.sys }) h
  have htime : x.time = m := congrArg State.time h
  exact ⟨hrest, htime ▸ hm, htime ▸ hz⟩

theorem State.startsTime_startTime (s : State) (x : Nat) : s.StartsTime (s.startTime x) x := by
  unfold State.startTime
  split
  · exact ⟨rfl, rfl, rfl⟩
  · dsimp only
    generalize hy : ({ s with time := _, truss := _ } : State) = y
    have hlate := y.sameButBells_lateWhileGated s.time.count
    split
    · unfold State.when
      split
      · exact State.startsTime_of_bells hy.symm rfl rfl (hlate.trans (State.sameButBells_timeRequest ..))
      · exact State.startsTime_of_bells hy.symm rfl rfl hlate
    · exact State.startsTime_of_bells hy.symm rfl rfl hlate

end Sys2Proof.Machine
end

section
/-! Proof of O35. A synthesizer locks, aligns, releases its outputs and loses lock; the ceiling guard, fine delays and
TCLK (06_clock_synthesis.md, R157 to R163; 07_bells_and_truss.md, R180, R188; 09_time_interval_unit.md, R236). -/

namespace Sys2Proof.Machine

/-! ## Changes of the synthesizers alone -/

/-- The state but for its synthesizers. -/
theorem State.graft_syns {u x : State} (h : { x with synM := u.synM, synA := u.synA } = u) :
    { u.graft x with synM := u.synM, synA := u.synA } = u := by
  have e := congrArg u.graft h
  exact e

/-- An event that sets one synthesizer to `v` changes nothing else. -/
theorem State.event_setSyn (u : State) (y : Syn) (v : Synth) (q : List Instr) : ((u.setSyn y v).close q).syn y = v ∧
    (∀ z, z ≠ y → ((u.setSyn y v).close q).syn z = u.syn z) ∧
    { u.graft ((u.setSyn y v).close q) with synM := u.synM, synA := u.synA } = u := by
  rw [State.close_syn, State.syn_setSyn_self, State.graft_close]
  exact ⟨rfl, fun z h => by rw [State.close_syn, State.syn_setSyn_other _ h], State.graft_syns (u.setSyn_rest y v)⟩

/-! ## Lock, settling and the retry (R150, R159, R161) -/

/-- The synthesizer with loop `l` locked. -/
def Synth.lockedBy (v : Synth) (l : Loop) : Synth :=
  match l with
  | .main => { v with locked := true }
  | .timeBase => { v with tbLocked := true }

theorem State.setLock_eq (s : State) (y : Syn) (l : Loop) : s.setLock y l true = s.setSyn y ((s.syn y).lockedBy l) := by
  cases l <;> rfl

theorem State.synLocked_setSyn (s : State) (y : Syn) (w : Synth) :
    (s.setSyn y w).synLocked y = (w.locked && (decide (y = .A) || w.tbLocked)) := by
  cases y <;> rfl

/-- SYN-M, locked on the crystal after a loss of lock, goes back to REFIN where that has qualified (R167). -/
def State.goesBack (s : State) (y : Syn) (v : Synth) : Bool :=
  decide (y = .M) && v.lost && v.onXtal && !s.ref.xtalSrc && s.ref.qualAt.isSome

/-- A synthesizer that is locked settles from now. -/
def State.settles (s : State) (y : Syn) : State := s.modSyn y fun v => { v with phase := .settling, since := s.now }

/-- The loops back on REFIN, the synthesizer with its own words. -/
def State.backOnRefin (s : State) (y : Syn) : State := s.rejoin.modSyn y fun v => { v with xtalY := none }

theorem State.goesBack_setSyn (s : State) (y z : Syn) (v w : Synth) : (s.setSyn z w).goesBack y v = s.goesBack y v := by
  cases z <;> rfl

theorem opLockDeclared_eq {s : State} {y : Syn} {l : Loop} (hl : hasLoop y l = true) (hen : (s.syn y).en = true)
    (hphase : (s.syn y).phase = .acquiring) (hpar : (s.syn y).parity = false)
    (hdue : (s.syn y).since + s.lockFs y l ≤ s.now) : opLockDeclared s y l =
      if ((s.syn y).lockedBy l).locked && (decide (y = .A) || ((s.syn y).lockedBy l).tbLocked) then
        (if s.goesBack y (s.syn y) then (s.setSyn y ((s.syn y).lockedBy l)).backOnRefin y
          else s.setSyn y ((s.syn y).lockedBy l)).settles y
      else s.setSyn y ((s.syn y).lockedBy l) := by
  rw [← State.synLocked_setSyn s, ← State.goesBack_setSyn s y y (s.syn y) ((s.syn y).lockedBy l), ← State.setLock_eq]
  unfold opLockDeclared
  dsimp only
  rw [hl, hen, hpar, decide_eq_true ⟨hphase, hdue⟩]
  rfl

theorem opSettleComplete_eq {s : State} {y : Syn} (hphase : (s.syn y).phase = .settling)
    (hdue : (s.syn y).since + 20 * usFs ≤ s.now) : opSettleComplete s y =
      s.setSyn y { s.syn y with phase := if s.ref.alignPps = true then .alignWait else .aligning, since := s.now } := by
  unfold opSettleComplete
  dsimp only
  rw [if_pos ⟨hphase, hdue⟩]

theorem opLockRetry_eq {s : State} {y : Syn} (hen : (s.syn y).en = true) (hphase : (s.syn y).phase = .acquiring)
    (hdue : (s.syn y).since + (if (s.syn y).retried = true then 10 * msFs else msFs) ≤ s.now) : opLockRetry s y =
      s.setSyn y { s.syn y with
        entry := (s.selectBand (s.syn y)).or (s.syn y).entry, attempts := (s.syn y).attempts + 1, retried := true, since := s.now } := by
  unfold opLockRetry
  dsimp only
  rw [if_pos ⟨hen, hphase, hdue⟩]

/-! ## The alignment edge (R161, R162) -/

theorem State.fineTarget_setSyn (s : State) (y : Syn) (v : Synth) (i : Nat) : (s.setSyn y v).fineTarget i = s.fineTarget i := by
  cases y <;> rfl

theorem State.output_setSyn (s : State) (y : Syn) (v : Synth) (i : Nat) : (s.setSyn y v).output i = s.output i := by
  cases y <;> rfl

/-- The synthesizer at its alignment edge. -/
def State.aligned (s : State) (v : Synth) : Synth :=
  { v with
    alignEdge := some s.now, alignedXtal := v.onXtal
    mash := { at_ := s.loopFs s.now, known := decide (v.onXtal = v.xtalY.isSome) } }

theorem opAlignmentEdge_eq {s : State} {y : Syn} (hphase : (s.syn y).phase = .aligning) (hedge : (s.syn y).alignEdge = none) :
    opAlignmentEdge s y = (s.setSyn y (s.aligned (s.syn y))).forAll (outsOf y) State.settleFine := by
  unfold opAlignmentEdge
  dsimp only
  rw [if_pos ⟨hphase, hedge⟩]
  rfl

/-! ## The release edge (R161, R163, R180) -/

theorem State.OnClocks.eq {s x : State} (h : s.OnClocks x) : ∃ c m k v b o p t l e, x = { s with
    chans := c, mem := m, card := k, sys := v, bays := b, cores := o, plumb := p, truss := t, lanes := l, out := e } := by
  have e := congrArg (fun z : State => { z with
    chans := x.chans, mem := x.mem, card := x.card, sys := x.sys, bays := x.bays, cores := x.cores, plumb := x.plumb
    truss := x.truss, lanes := x.lanes, out := x.out }) h.rest
  exact ⟨_, _, _, _, _, _, _, _, _, _, e⟩

theorem State.StartsTime.eq {s x : State} {z : Nat} (h : s.StartsTime x z) : ∃ m t l o c k v, x = { s with
    time := m, truss := t, lanes := l, out := o, chans := c, card := k, sys := v } := by
  have e := congrArg (fun z : State => { z with
    time := x.time, truss := x.truss, lanes := x.lanes, out := x.out, chans := x.chans, card := x.card, sys := x.sys }) h.rest
  exact ⟨_, _, _, _, _, _, _, e⟩

/-- At its last edge truss time reads its count. -/
theorem State.trussAt_edge {s : State} {x : Nat} (h : s.time.at_ = s.tclkAt x) : s.trussAt x = s.time.count := by
  unfold State.trussAt
  rw [h, Nat.sub_self]
  simp

theorem State.onClocks_flagCore (s : State) (i : Nat) (a t : Bool) (k : PlumbRank) : s.OnClocks (s.flagCore i a t k) := by
  unfold State.flagCore
  split
  · exact s.onClocks_refl
  · split <;> exact ⟨rfl, rfl⟩

theorem State.flagCore_chans (s : State) (i : Nat) (a t : Bool) (k : PlumbRank) : (s.flagCore i a t k).chans = s.chans := by
  unfold State.flagCore
  split
  · rfl
  · split <;> rfl

/-- The state of TCLK's base as a release leaves it. -/
def State.releasedTb (s : State) : State :=
  let gated := decide (s.tiu.tb = 3) && s.tiu.onXtal && !s.tiu.xtal && !s.ref.xtalSrc
  { s with tiu := { s.tiu with tb := if s.tiu.tb = 3 ∧ gated = false then 0 else s.tiu.tb } }

/-- TCLK runs from the release edge, unless policy STOP gates it. -/
def State.releasedTime (s : State) (x : Nat) : State :=
  if decide (s.tiu.tb = 3) && s.tiu.onXtal && !s.tiu.xtal && !s.ref.xtalSrc then s.releasedTb else s.releasedTb.startTime x

/-- Timing flags of all cores after a lock (R259). -/
def State.flagsTiming (s : State) : State :=
  if s.plumb.mode = 0 then s.forAll (List.range 72) fun s i => s.flagCore i false true .postLock else s

theorem State.releaseM_eq (s : State) (x : Nat) : s.releaseM x =
    (((s.releasedTime x).modSyn .M fun v => { v with anchor := (s.releasedTime x).trussAt x }).startClocks (List.range 64)).flagsTiming := by
  unfold State.releaseM State.flagsTiming State.startClocks State.releasedTime
  generalize List.range 64 = chans
  generalize List.range 72 = cores
  rfl

theorem State.flagsTiming_flags (s : State) : s.OnClocks s.flagsTiming ∧ s.flagsTiming.chans = s.chans := by
  unfold State.flagsTiming
  split
  · exact ⟨State.onClocks_forAll (fun s i => s.onClocks_flagCore i _ _ _) _ s,
      State.forAll_keeps State.chans _ (fun s i => s.flagCore_chans i _ _ _) _ s⟩
  · exact ⟨s.onClocks_refl, rfl⟩

/-- What the release of SYN-M's outputs leaves (R161, R163, R180). -/
structure State.Releases (s x : State) (at_ : Nat) : Prop where
  synM : { x.synM with anchor := s.synM.anchor } = s.synM
  synA : x.synA = s.synA
  outs : x.outs = s.outs
  bytes : x.mem.bytes = s.mem.bytes
  time : s.tiu.tb ≠ 3 → x.time.running = true ∧ x.time.at_ = s.tclkAt at_ ∧ x.synM.anchor = x.time.count ∧
    ∀ n, n < 64 → (s.output n).en = true → (x.chan n).clkStopped = false

/-- TCLK, where it starts, starts at the release edge; the rest but truss time and late bells stands. -/
theorem State.releasedTime_eq (s : State) (x : Nat) : ∃ m t l o c k v i, s.releasedTime x = { s with
    time := m, truss := t, lanes := l, out := o, chans := c, card := k, sys := v, tiu := i } ∧
    (s.tiu.tb ≠ 3 → m.running = true ∧ m.at_ = s.tclkAt x ∧ i = s.tiu) := by
  unfold State.releasedTime
  split
  · next h =>
    refine ⟨_, _, _, _, _, _, _, _, rfl, fun htb => ?_⟩
    rw [decide_eq_false htb] at h
    cases h
  · have hstarts := s.releasedTb.startsTime_startTime x
    obtain ⟨m, t, l, o, c, k, v, heq⟩ := hstarts.eq
    obtain ⟨-, hruns, hfrom⟩ := hstarts
    rw [heq] at hruns hfrom ⊢
    refine ⟨m, t, l, o, c, k, v, _, rfl, fun htb => ⟨hruns, hfrom, ?_⟩⟩
    unfold State.releasedTb
    dsimp only
    rw [if_neg fun h => htb h.1]

theorem State.releases_releaseM (s : State) (x : Nat) : s.Releases (s.releaseM x) x := by
  obtain ⟨m, t, l, o, c, k, v, i, hfirst, htime⟩ := s.releasedTime_eq x
  rw [State.releaseM_eq]
  generalize hy : (s.releasedTime x).modSyn .M (fun v => { v with anchor := (s.releasedTime x).trussAt x }) = y
  have hrun := State.startClocks_run (List.range 64) y
  have hon := (y.onClocks_startClocks (List.range 64)).trans (State.flagsTiming_flags _).1
  have hchans := (State.flagsTiming_flags (y.startClocks (List.range 64))).2
  generalize (y.startClocks (List.range 64)).flagsTiming = z at hon hchans ⊢
  have hbytes := hon.bytes
  obtain ⟨_, _, _, _, _, _, _, _, _, _, hz⟩ := hon.eq
  have hsynM : z.synM = { s.synM with anchor := (s.releasedTime x).trussAt x } := by rw [hz, ← hy, hfirst]; rfl
  have hout : ∀ n, y.output n = s.output n := fun n => by rw [← hy, hfirst]; rfl
  refine ⟨by rw [hsynM], by rw [hz, ← hy, hfirst]; rfl, by rw [hz, ← hy, hfirst]; rfl,
    hbytes.trans (by rw [← hy, hfirst]; rfl), fun htb => ?_⟩
  obtain ⟨hruns, hfrom, htiu⟩ := htime htb
  have hcount : z.time = m := by rw [hz, ← hy, hfirst]; rfl
  have hanchor : (s.releasedTime x).trussAt x = m.count := by
    rw [hfirst, htiu]
    exact State.trussAt_edge hfrom
  refine ⟨hcount ▸ hruns, hcount ▸ hfrom, by rw [hsynM, hanchor, hcount], fun n hn hen => ?_⟩
  rw [State.chan_congr hchans]
  exact hrun n (.inr ⟨List.mem_range.2 hn, by rw [hout]; exact hen⟩)

/-- A synthesizer whose outputs run from the release edge. -/
def State.releasedSyn (s : State) (v : Synth) (e : Nat) : Synth :=
  { v with phase := .running, gated := false, lost := false, releaseAt := s.loopFs (e + releaseFs), alignEdge := none }

/-- An output no longer gated by the ceiling guard. -/
def Output.unguarded (o : Output) : Output := { o with ceilGated := false }

/-- A synthesizer that releases its outputs, before SYN-M's channels and TCLK start. -/
def State.ungated (s : State) (y : Syn) (e : Nat) : State :=
  (s.setSyn y (s.releasedSyn (s.syn y) e)).forAll (outsOf y) fun s i => s.modOutput i Output.unguarded

theorem opOutputRelease_eq {s : State} {y : Syn} {e : Nat} (hphase : (s.syn y).phase = .aligning)
    (hedge : (s.syn y).alignEdge = some e) (hdue : e + releaseFs ≤ s.now) : opOutputRelease s y =
      match y with
      | .M => (s.ungated .M e).releaseM (e + releaseFs)
      | .A => s.ungated .A e := by
  unfold opOutputRelease
  dsimp only
  rw [hedge]
  dsimp only
  rw [if_pos ⟨hphase, hdue⟩]
  cases y <;> rfl

theorem State.ungated_eq (s : State) (y : Syn) (e : Nat) :
    ∃ o, s.ungated y e = { s.setSyn y (s.releasedSyn (s.syn y) e) with outs := o } :=
  have hone : ∀ (s : State) (i : Nat), s.SameButOuts (s.modOutput i Output.unguarded) := fun _ _ => rfl
  State.SameButOuts.eq (State.sameButOuts_forAll hone (outsOf y) _)

theorem State.output_ungated (s : State) (y : Syn) (e i : Nat) : (s.ungated y e).output i =
    if i ∈ outsOf y then { s.output i with ceilGated := false } else s.output i := by
  unfold State.ungated
  rw [State.output_modOutputs (f := Output.unguarded) fun o => rfl, State.output_setSyn]
  rfl

/-! ## Loss of lock (R150, R159, R163) -/

/-- An alert that is raised stands. -/
theorem alert_raised (a b : BitVec 16) : (a ||| b) &&& b = b := by
  ext i hi
  rw [BitVec.getElem_and, BitVec.getElem_or]
  cases a[i] <;> cases b[i] <;> rfl

/-- The synthesizer with loop `l` not locked. -/
def Synth.unlockedBy (v : Synth) (l : Loop) : Synth :=
  match l with
  | .main => { v with locked := false }
  | .timeBase => { v with tbLocked := false }

/-- A loss of lock counted, and an attempt to lock again. -/
def Synth.countsLoss (v : Synth) : Synth := { v with lol := true, lols := v.lols + 1, attempts := v.attempts + 1, retried := false }

theorem State.setSyn_eq (s : State) (y : Syn) (v : Synth) : ∃ m a, s.setSyn y v = { s with synM := m, synA := a } := by
  cases y <;> exact ⟨_, _, rfl⟩

theorem State.syn_alert (s : State) (i : Nat) (y : Syn) : (s.alert i).syn y = s.syn y := by
  cases y <;> rfl

theorem opLossOfLock_loses {s : State} {y : Syn} {l : Loop} (hl : hasLoop y l = true) (hen : (s.syn y).en = true)
    (hlocked : (s.syn y).loopLocked l = true) :
    (opLossOfLock s y l).syn y = ((s.gatedSyn y).unlockedBy l).countsLoss ∧
      ∃ m a, opLossOfLock s y l = { (s.gateSyn y).alert alSynLol with synM := m, synA := a } := by
  have hop : opLossOfLock s y l = (((s.gateSyn y).setSyn y (((s.gateSyn y).syn y).unlockedBy l)).alert alSynLol).modSyn y
      Synth.countsLoss := by
    unfold opLossOfLock
    rw [hl, hen, hlocked]
    cases l <;> rfl
  rw [hop, State.syn_modSyn_self, (s.gates_gateSyn y).same]
  obtain ⟨m, a, hset⟩ := (s.gateSyn y).setSyn_eq y ((s.gatedSyn y).unlockedBy l)
  have hsyn := (s.gateSyn y).syn_setSyn_self y ((s.gatedSyn y).unlockedBy l)
  rw [hset] at hsyn ⊢
  refine ⟨by rw [State.syn_alert, hsyn], ?_⟩
  obtain ⟨m', a', hset'⟩ := State.setSyn_eq (({ s.gateSyn y with synM := m, synA := a } : State).alert alSynLol) y
    ((({ s.gateSyn y with synM := m, synA := a } : State).alert alSynLol).syn y).countsLoss
  exact ⟨m', a', hset'⟩

/-! ## The ceiling guard and fine delays (R157, R160) -/

/-- The clock that the ceiling guard stops. -/
def State.guardStops (s : State) (i : Nat) : State :=
  if i < 64 then s.haltClock i else if i = 72 then s.freezeTime else s

/-- What the stop of one clock leaves: other channels, every byte, outputs, cores, bays and synthesizers. -/
theorem State.guardStops_eq (s : State) (i : Nat) : (∃ c m k v o t, s.guardStops i = { s with
    chans := c, mem := m, card := k, sys := v, time := o, truss := t }) ∧
    (∀ n, n ≠ i → (s.guardStops i).chan n = s.chan n) ∧ (s.guardStops i).mem.bytes = s.mem.bytes := by
  unfold State.guardStops
  split
  · obtain ⟨hrest, hothers, hbytes, -, -⟩ := s.onChan_stopClock i
    have e := congrArg (fun z : State => { z with
      chans := (s.stopClock i).chans, mem := (s.stopClock i).mem, card := (s.stopClock i).card, sys := (s.stopClock i).sys }) hrest
    exact ⟨⟨_, _, _, _, _, _, e⟩, hothers, hbytes⟩
  · split
    · obtain ⟨m, v, hfreeze⟩ := s.freezeTime_eq
      rw [hfreeze]
      exact ⟨⟨_, _, _, _, _, _, rfl⟩, fun _ _ => rfl, rfl⟩
    · exact ⟨⟨_, _, _, _, _, _, rfl⟩, fun _ _ => rfl, rfl⟩

/-- An output that the ceiling guard has gated. -/
def Output.tripped (o : Output) : Output := { o with ceilGated := true }

theorem opCeilingTrip_eq {s : State} {i : Nat} (hguard : s.guarded i = true) (hruns : s.synRuns (synOf i) = true)
    (hgated : (s.output i).ceilGated = false) : opCeilingTrip s i =
      ((((s.guardStops i).modOutput i Output.tripped).settleFine i).modSyn (synOf i) fun v =>
        { v with ceilTrip := true }) := by
  unfold opCeilingTrip
  dsimp only
  rw [if_pos ⟨hguard, hruns, hgated⟩]
  rfl

theorem opFineDelayStep_eq {s : State} {i : Nat} (h : s.fineAtOnce i = false) : opFineDelayStep s i =
    s.modOutput i fun o => { o with pos := o.pos + max (-64) (min 64 (s.fineTarget i - (s.output i).pos)) } := by
  unfold opFineDelayStep
  rw [if_neg (by rw [h]; decide)]

/-- A change of one output leaves the others. -/
theorem State.output_modOutput (s : State) (i j : Nat) (f : Output → Output) :
    (s.modOutput i f).output j = if i = j then f (s.output i) else s.output j := s.output_setOutput i j _

/-! ## TCLK under policy STOP (R236) -/

theorem opTclkUngate_eq {s : State} {z : Nat} (hz : s.ref.qualAt = some z) (htb : s.tiu.tb = 3) (hruns : s.synRuns .M = true)
    (hdue : z + 20 * usFs ≤ s.now) : opTclkUngate s =
      (({ s with tiu := { s.tiu with tb := 0, onXtal := false, own := decide (s.ref.mode ≠ .refin) } } : State).steadyTclk).startTime
        s.now := by
  unfold opTclkUngate
  rw [hz]
  dsimp only
  rw [if_pos ⟨htb, hruns, hdue⟩]

/-! ## The events of a synthesizer -/

theorem State.settles_setSyn (s : State) (y : Syn) (w : Synth) :
    (s.setSyn y w).settles y = s.setSyn y { w with phase := .settling, since := s.now } := by
  cases y <;> rfl

/-- SYN-M back on REFIN settles, with its own words; SYN-A follows. -/
theorem State.settles_backOnRefin (s : State) (w : Synth) {x : State} (hx : x = ((s.setSyn .M w).backOnRefin .M).settles .M) :
    { x.synM with mash := w.mash } = { w with phase := .settling, since := s.now, onXtal := false, xtalY := none } ∧
      { x.synA with mash := s.synA.mash } = { s.synA with onXtal := false } ∧ x.ref.mode = .refin ∧ x.ref.holdSince = none ∧
      x.chans = s.chans ∧ x.mem = s.mem := by
  have hrejoins := (s.setSyn .M w).rejoins_rejoin
  obtain ⟨hchans, hmem⟩ := hrejoins.kept
  unfold State.backOnRefin at hx
  generalize (s.setSyn .M w).rejoin = r at hrejoins hchans hmem hx
  obtain ⟨href, hsynM, hsynA, hrest⟩ := hrejoins
  have hnow : r.now = s.now := by have e := congrArg State.now hrest; exact e
  have hown : { r.synM with mash := w.mash, xtalY := none, phase := .settling, since := r.now } =
      { w with onXtal := false, xtalY := none, phase := .settling, since := s.now } := by
    rw [hnow]
    have e := congrArg (fun v : Synth => { v with xtalY := none, phase := .settling, since := s.now }) hsynM
    exact e
  have hmode := congrArg Ref.mode href
  have hhold := congrArg Ref.holdSince href
  subst hx
  exact ⟨hown, hsynA, hmode, hhold, hchans, hmem⟩

theorem State.synRuns_running {s : State} {y : Syn} (hphase : (s.syn y).phase = .running) (hgated : (s.syn y).gated = false) :
    s.synRuns y = true := by
  unfold State.synRuns
  rw [hphase, hgated]
  rfl

theorem State.synRuns_acquiring {s : State} {y : Syn} (hphase : (s.syn y).phase = .acquiring) : s.synRuns y = false := by
  unfold State.synRuns
  rw [hphase]
  rfl

/-- What a release leaves of either synthesizer's device. -/
theorem opOutputRelease_releases {s : State} {y : Syn} {e : Nat} (hphase : (s.syn y).phase = .aligning)
    (hedge : (s.syn y).alignEdge = some e) (hdue : e + releaseFs ≤ s.now) :
    (∃ n, (opOutputRelease s y).syn y = { s.releasedSyn (s.syn y) e with anchor := n }) ∧
      (∀ z, z ≠ y → (opOutputRelease s y).syn z = s.syn z) ∧ (opOutputRelease s y).outs = (s.ungated y e).outs ∧
      (opOutputRelease s y).mem.bytes = s.mem.bytes := by
  rw [opOutputRelease_eq hphase hedge hdue]
  obtain ⟨o, hung⟩ := s.ungated_eq y e
  cases y with
  | A =>
    dsimp only
    rw [hung]
    exact ⟨⟨_, rfl⟩, fun z h => (State.syn_setSyn_other s h _ :), rfl, rfl⟩
  | M =>
    obtain ⟨hsynM, hsynA, houts, hbytes, -⟩ := (s.ungated .M e).releases_releaseM (e + releaseFs)
    dsimp only
    generalize (s.ungated .M e).releaseM (e + releaseFs) = x at hsynM hsynA houts hbytes
    rw [hung] at hsynM hsynA hbytes
    have hown := congrArg (fun v : Synth => { v with anchor := x.synM.anchor }) hsynM
    refine ⟨⟨x.synM.anchor, hown⟩, fun z h => ?_, houts, hbytes⟩
    cases z with
    | M => exact absurd rfl h
    | A => exact hsynA

/-- SYN-A's release leaves channels and truss time. -/
theorem opOutputRelease_A {s : State} {e : Nat} (hphase : (s.syn .A).phase = .aligning) (hedge : (s.syn .A).alignEdge = some e)
    (hdue : e + releaseFs ≤ s.now) : (opOutputRelease s .A).chans = s.chans ∧ (opOutputRelease s .A).time = s.time := by
  rw [opOutputRelease_eq hphase hedge hdue]
  obtain ⟨o, hung⟩ := s.ungated_eq .A e
  dsimp only
  rw [hung]
  exact ⟨rfl, rfl⟩

/-- SYN-M's release starts TCLK and the channels, where policy STOP does not hold TCLK. -/
theorem opOutputRelease_M {s : State} {e : Nat} (hphase : (s.syn .M).phase = .aligning) (hedge : (s.syn .M).alignEdge = some e)
    (hdue : e + releaseFs ≤ s.now) (htb : s.tiu.tb ≠ 3) : (opOutputRelease s .M).time.running = true ∧
      (opOutputRelease s .M).time.at_ = s.tclkAt (e + releaseFs) ∧
      (opOutputRelease s .M).synM.anchor = (opOutputRelease s .M).time.count ∧
      ∀ n, n < 64 → (s.output n).en = true → ((opOutputRelease s .M).chan n).clkStopped = false := by
  rw [opOutputRelease_eq hphase hedge hdue]
  dsimp only
  obtain ⟨o, hung⟩ := s.ungated_eq .M e
  have hen : ∀ n, ((s.ungated .M e).output n).en = (s.output n).en := fun n => by
    rw [State.output_ungated]
    split <;> rfl
  have htime := ((s.ungated .M e).releases_releaseM (e + releaseFs)).time
  generalize (s.ungated .M e).releaseM (e + releaseFs) = x at htime ⊢
  obtain ⟨hruns, hfrom, hanchor, hclocks⟩ := htime (by rw [hung]; exact htb)
  exact ⟨hruns, hfrom.trans (by rw [hung]; rfl), hanchor, fun n hn h => hclocks n hn ((hen n).trans h)⟩

theorem State.output_congr {s x : State} (h : x.outs = s.outs) (i : Nat) : x.output i = s.output i := by
  unfold State.output
  rw [h]

theorem State.close_tclkAt (s : State) (q : List Instr) (x : Nat) : (s.close q).tclkAt x = s.tclkAt x := by
  unfold State.tclkAt
  rw [State.close_tiu]

theorem State.goesBack_M {s : State} {y : Syn} {v : Synth} (h : s.goesBack y v = true) : y = .M := by
  cases y with
  | M => rfl
  | A => cases h

/-- What the alignment edge leaves. -/
theorem opAlignmentEdge_aligns {s : State} {y : Syn} (hphase : (s.syn y).phase = .aligning) (hedge : (s.syn y).alignEdge = none) :
    (opAlignmentEdge s y).syn y = s.aligned (s.syn y) ∧ (∀ z, z ≠ y → (opAlignmentEdge s y).syn z = s.syn z) ∧
      (∀ i, (opAlignmentEdge s y).output i = if i ∈ outsOf y then { s.output i with pos := s.fineTarget i } else s.output i) ∧
      { opAlignmentEdge s y with synM := s.synM, synA := s.synA, outs := s.outs } = s := by
  have hout : ∀ i, (opAlignmentEdge s y).output i = _ := fun i =>
    (congrArg (fun z : State => z.output i) (opAlignmentEdge_eq hphase hedge)).trans
      (State.output_settleFines (outsOf y) (s.setSyn y (s.aligned (s.syn y))) i)
  obtain ⟨o, hfine⟩ := (State.sameButOuts_forAll (fun s i => s.settleFine_rest i) (outsOf y)
    (s.setSyn y (s.aligned (s.syn y)))).eq
  rw [← opAlignmentEdge_eq hphase hedge] at hfine
  rw [hfine] at hout ⊢
  refine ⟨by cases y <;> rfl, fun z h => Eq.trans (by cases z <;> rfl) (s.syn_setSyn_other h (s.aligned (s.syn y))), fun i => ?_,
    by cases y <;> rfl⟩
  rw [hout i, State.output_setSyn, State.fineTarget_setSyn]

theorem Synth.countsLoss_unlockedBy (v : Synth) (l : Loop) : (v.unlockedBy l).countsLoss.phase = v.phase ∧
    (v.unlockedBy l).countsLoss.gated = v.gated ∧ (v.unlockedBy l).countsLoss.loopLocked l = false ∧
    (v.unlockedBy l).countsLoss.lol = true ∧ (v.unlockedBy l).countsLoss.lols = v.lols + 1 ∧
    (v.unlockedBy l).countsLoss.attempts = v.attempts + 1 ∧ (v.unlockedBy l).countsLoss.since = v.since := by
  cases l <;> exact ⟨rfl, rfl, rfl, rfl, rfl, rfl, rfl⟩

theorem State.fineTarget_modOutput (s : State) (i j : Nat) {f : Output → Output} (hf : ∀ o, (f o).fine = o.fine) :
    (s.modOutput i f).fineTarget j = s.fineTarget j := by
  have hfine : ((s.modOutput i f).output j).fine = (s.output j).fine := by
    rw [State.output_modOutput]
    split
    · next h => rw [hf, h]
    · rfl
  unfold State.fineTarget
  rw [hfine]
  rfl

/-- What the ceiling guard leaves. -/
theorem opCeilingTrip_trips {s : State} {i : Nat} (hguard : s.guarded i = true) (hruns : s.synRuns (synOf i) = true)
    (hgated : (s.output i).ceilGated = false) :
    (opCeilingTrip s i).output i = { s.output i with ceilGated := true, pos := s.fineTarget i } ∧
      (∀ j, j ≠ i → (opCeilingTrip s i).output j = s.output j) ∧
      (opCeilingTrip s i).syn (synOf i) = { s.syn (synOf i) with ceilTrip := true } ∧
      (∀ m, m ≠ i → (opCeilingTrip s i).chan m = s.chan m) ∧ (opCeilingTrip s i).mem.bytes = s.mem.bytes := by
  rw [opCeilingTrip_eq hguard hruns hgated]
  obtain ⟨⟨c, m, k, v, o, t, hstop⟩, hothers, hbytes⟩ := s.guardStops_eq i
  rw [hstop] at hothers hbytes ⊢
  generalize hy : ({ s with chans := c, mem := m, card := k, sys := v, time := o, truss := t } : State) = y at hothers hbytes ⊢
  have hout : ∀ j, y.output j = s.output j := fun j => by rw [← hy]; rfl
  have hfine : y.fineTarget i = s.fineTarget i := by rw [← hy]; rfl
  have hsyn : y.syn (synOf i) = s.syn (synOf i) := by rw [← hy]; cases synOf i <;> rfl
  have hall : ∀ j, ((((y.modOutput i Output.tripped).settleFine i).modSyn (synOf i) fun v =>
      { v with ceilTrip := true }).output j) =
        if i = j then { s.output i with ceilGated := true, pos := s.fineTarget i } else s.output j := fun j => by
    rw [State.modSyn, State.output_setSyn, State.output_settleFine, State.output_modOutput, hout, hout]
    split
    · next h =>
      rw [← h, State.fineTarget_modOutput y i i (f := Output.tripped) fun o => rfl, hfine]
      rfl
    · rfl
  refine ⟨(hall i).trans (if_pos rfl), fun j hj => (hall j).trans (if_neg (Ne.symm hj)), ?_, ?_, ?_⟩
  · rw [State.syn_modSyn_self, ← hsyn]
    cases synOf i <;> rfl
  · intro m hm
    exact Eq.trans (by cases synOf i <;> rfl) (hothers m hm)
  · exact Eq.trans (by cases synOf i <;> rfl) hbytes

/-- TCLK goes on at its edge of now; truss time and late bells apart, TB_STATE is all that changes (R236). -/
theorem opTclkUngate_starts {s : State} {z : Nat} (hz : s.ref.qualAt = some z) (htb : s.tiu.tb = 3)
    (hruns : s.synRuns .M = true) (hdue : z + 20 * usFs ≤ s.now) :
    ∃ b : State, b = ({ s with tiu := { s.tiu with tb := 0, onXtal := false, own := decide (s.ref.mode ≠ .refin) } } :
      State).steadyTclk ∧ b.StartsTime (opTclkUngate s) s.now :=
  ⟨_, rfl, by rw [opTclkUngate_eq hz htb hruns hdue]; exact State.startsTime_startTime _ _⟩

/-- Settles O35, each event by the operation that it comes to. -/
theorem synthesizerEvents : Obligations.SynthesizerEvents := by
  unfold Obligations.SynthesizerEvents
  intro s u t x hu hs hx
  subst hx
  have hrun (f : State → State) : event s t f = .next ((f u).close s.pending) := event_clocked hu hs f
  refine ⟨?_, fun i hguard hruns hgated => ?_, fun i hfine => ?_, fun z hz htb hruns hdue => ?_⟩
  · rintro y v rfl
    refine ⟨fun l w hl hen hphase hpar hdue hw => ?_, fun hphase hdue => ?_, fun hphase hedge => ?_, fun e hphase hedge hdue => ?_,
      fun l hl hen hlocked => ?_, fun hen hphase hdue => ?_⟩
    · have hw' : w = (u.syn y).lockedBy l := hw
      have hop := opLockDeclared_eq hl hen hphase hpar hdue
      rw [← hw'] at hop
      refine ⟨fun hopen => ⟨_, hrun fun s => opLockDeclared s y l, ?_⟩, fun hall => ⟨fun hstays =>
        ⟨_, hrun fun s => opLockDeclared s y l, ?_⟩, fun hback => ⟨_, hrun fun s => opLockDeclared s y l, ?_⟩⟩⟩
      · rw [hop, hopen, if_neg Bool.false_ne_true]
        exact u.event_setSyn y w _
      · have hstays' : u.goesBack y (u.syn y) = false := hstays
        rw [hop, hall, if_pos rfl, hstays', if_neg Bool.false_ne_true, State.settles_setSyn]
        exact u.event_setSyn y _ _
      · have hback' : u.goesBack y (u.syn y) = true := hback
        obtain rfl := State.goesBack_M hback'
        rw [hall, if_pos rfl, hback', if_pos rfl] at hop
        have hmash : u.synM.mash = w.mash := by rw [hw']; cases l <;> rfl
        obtain ⟨hsynM, hsynA, hmode, hhold, hchans, hmem⟩ := u.settles_backOnRefin w hop
        simp only [State.close_synM, State.close_synA, State.close_ref, State.close_chans, State.close_mem]
        rw [hmash]
        exact ⟨hsynM, hsynA, hmode, hhold, hchans, hmem⟩
    · refine ⟨_, hrun fun s => opSettleComplete s y, ?_⟩
      rw [opSettleComplete_eq hphase hdue]
      exact u.event_setSyn y _ _
    · obtain ⟨hown, hothers, houts, hrest⟩ := opAlignmentEdge_aligns hphase hedge
      refine ⟨_, hrun fun s => opAlignmentEdge s y, ?_⟩
      simp only [State.close_syn, State.close_output, State.graft_close]
      have e := congrArg u.graft hrest
      exact ⟨hown, hothers, houts, e⟩
    · obtain ⟨⟨n, hown⟩, hothers, houts, hbytes⟩ := opOutputRelease_releases hphase hedge hdue
      refine ⟨_, hrun fun s => opOutputRelease s y, ?_⟩
      simp only [State.close_syn, State.close_output, State.close_mem, State.close_chans, State.close_time, State.close_synM,
        State.close_chan]
      refine ⟨by rw [hown]; rfl, by rw [hown]; rfl, by rw [hown]; rfl, by rw [hown]; rfl,
        State.synRuns_running (by rw [State.close_syn, hown]; rfl) (by rw [State.close_syn, hown]; rfl),
        fun i => (State.output_congr houts i).trans (u.output_ungated y e i), hothers, hbytes, ?_, ?_⟩
      · rintro rfl
        exact opOutputRelease_A hphase hedge hdue
      · rintro rfl htb
        exact opOutputRelease_M hphase hedge hdue htb
    · obtain ⟨hown, m, a, hop⟩ := opLossOfLock_loses hl hen hlocked
      have hgates := u.gates_gateSyn y
      obtain ⟨hphase, hgated, hloop, hlol, hlols, hattempts, hsince⟩ := (u.gatedSyn y).countsLoss_unlockedBy l
      refine ⟨_, hrun fun s => opLossOfLock s y l, ?_⟩
      simp only [State.close_syn, State.close_mem, State.close_time, State.close_alert]
      rw [hown]
      refine ⟨hphase, hgated, hloop, hlol, hlols, hattempts, hsince,
        State.synRuns_acquiring (by rw [State.close_syn, hown]; exact hphase), ?_, ?_, fun hM => ?_⟩
      · rw [hop]
        exact alert_raised _ _
      · rw [hop]
        exact hgates.bytes
      · rw [hop]
        exact hgates.stops hM
    · refine ⟨_, hrun fun s => opLockRetry s y, ?_⟩
      rw [opLockRetry_eq hen hphase hdue]
      exact u.event_setSyn y _ _
  · obtain ⟨hown, houts, hsyn, hchans, hbytes⟩ := opCeilingTrip_trips hguard hruns hgated
    refine ⟨_, hrun fun s => opCeilingTrip s i, ?_⟩
    simp only [State.close_syn, State.close_output, State.close_chan, State.close_mem]
    refine ⟨hown, houts, hsyn, hchans, fun _ => ?_, hbytes⟩
    unfold State.clockRuns
    rw [State.close_output, hown]
    exact Bool.and_false _
  · refine ⟨_, hrun fun s => opFineDelayStep s i, ?_⟩
    simp only [State.close_output, State.graft_close]
    rw [opFineDelayStep_eq hfine]
    refine ⟨(u.output_modOutput i i _).trans (if_pos rfl), fun j hj => (u.output_modOutput i j _).trans (if_neg (Ne.symm hj)), rfl⟩
  · obtain ⟨b, hb, hstarts⟩ := opTclkUngate_starts hz htb hruns hdue
    obtain ⟨m, t, l, o, c, k, v, heq⟩ := hstarts.eq
    obtain ⟨-, hgoes, hfrom⟩ := hstarts
    refine ⟨_, hrun opTclkUngate, ?_⟩
    simp only [State.close_tiu, State.close_time, State.close_mem, State.close_tts, State.close_joiners, State.close_outs,
      State.close_ref, State.close_synM, State.close_synA, State.close_tclkAt]
    rw [heq] at hgoes hfrom ⊢
    subst hb
    exact ⟨rfl, rfl, rfl, rfl, hgoes, hfrom, rfl, rfl, rfl, rfl, rfl, rfl, rfl⟩

end Sys2Proof.Machine
end

section
/-! Proof of O32. Writes of the reference, the alignment source, the enables and the band tables
(06_clock_synthesis.md, R145, R149, R153, R154, R161, R167). -/

namespace Sys2Proof.Machine

/-! ## A write that may stop truss time, answered (R282, R288) -/

/-- What the reply depends on is as in `u`. -/
structure State.RepliesAs (u y : State) : Prop where
  lanes : y.lanes = u.lanes
  quads : y.quads = u.quads
  num : y.truss.num = u.truss.num
  out : y.out = u.out
  now : y.now = u.now

/-- The reply that `x` gives, sent from `y`. -/
theorem State.RepliesAs.replies {u x y : State} (hx : u.RepliesAs x) (hy : u.RepliesAs y) (m : OdaMsg) (c : Nat) (q : List Instr) :
    u.Replies ((y.sendPort m.req.port 0 (x.replyTo m c [])).close q) m c [] := by
  have hrole : ∀ k, (x.lane k).role = (y.lane k).role := fun k => by
    unfold State.lane
    rw [hx.lanes, hy.lanes]
  have hnum := State.deviceNum_congr hrole (hx.quads.trans hy.quads.symm) (hx.num.trans hy.num.symm)
  rw [State.replyTo_congr hnum m c []]
  exact State.replies_close (d := []) q hy.out hy.lanes hy.quads hy.now (State.replyTo_sent y y m _ _ c [] _ q rfl rfl rfl)

/-- A write that is carried out is answered, with what it leaves as it is but for the reply. -/
theorem State.WriteEnds.done {s u : State} {t : Nat} {r : Req} {ix sub : Nat} {data : Bytes} {a : Act}
    (h : s.WriteEnds t r ix sub data a) (hz : u.RepliesAs a.after) (hp : a.after.sys.parity = []) (hv : a.checks.verdict = none) :
    ∃ s', s.hostWrite t r ix sub data = .next s' ∧ u.Replies s' (writeMsg r ix sub data) 0 [] ∧
      u.graftReply s' = u.graftReply a.after := by
  obtain ⟨ss, e⟩ := h.1 hv hp
  have hnoted : u.RepliesAs { a.after with oda := { a.after.oda with sessions := ss } } := ⟨hz.lanes, hz.quads, hz.num, hz.out, hz.now⟩
  exact ⟨_, e, hz.replies hnoted (writeMsg r ix sub data) 0 s.pending, u.graftReply_sent a.after ss _ _ _ _⟩

/-- A write that is refused is turned away and counted, with what the refusal leaves as it is but for the reply. -/
theorem State.WriteEnds.away {s u : State} {t : Nat} {r : Req} {ix sub : Nat} {data : Bytes} {a : Act} {b : Abort}
    (h : s.WriteEnds t r ix sub data a) (hz : u.RepliesAs (a.refused b)) (hv : a.checks.verdict = some b) (hb : b.code < 0x09000000) :
    ∃ s', s.hostWrite t r ix sub data = .next s' ∧ u.Replies s' (writeMsg r ix sub data) b.code [] ∧
      u.graftRefusal s' = u.graftRefusal (a.refused b) ∧ s'.oda.aborts = (a.refused b).oda.aborts + 1 := by
  obtain ⟨ss, e⟩ := h.2 b hv
  have hcounted : u.RepliesAs ((a.refused b).aborted ss b) := ⟨hz.lanes, hz.quads, hz.num, hz.out, hz.now⟩
  refine ⟨_, e, hz.replies hcounted (writeMsg r ix sub data) b.code s.pending, u.graftRefusal_sent _ ss hb _ _ _ _, ?_⟩
  obtain ⟨ls, o, hsend⟩ := ((a.refused b).aborted ss b).sendPort_eq r.port 0 ((a.refused b).replyTo (writeMsg r ix sub data) b.code [])
  rw [State.close_oda, hsend]
  unfold State.aborted
  rw [if_neg (Nat.not_le_of_lt hb)]

/-! ## REF_FREQ and ALIGN_SRC (R145, R161) -/

theorem State.refFreq_write {s u : State} {r : Req} {x : Session} {data : Bytes} {d n : Nat} (t : Nat) (hu : u = s.advance t)
    (hw : u.Writes r x 0x2100 0x01 data) (hl : data.length = 4) (hlo : 10000000 ≤ leNat data) (hhi : leNat data ≤ 500000000)
    (htb : tbWords (leNat data) = some (d, n)) :
    (u.synM.en = false → u.synA.en = false →
      ∃ s', s.hostWrite t r 0x2100 0x01 data = .next s' ∧ u.Replies s' (writeMsg r 0x2100 0x01 data) 0 [] ∧
        s'.ref = { u.ref with freq := leNat data, tbDiv := d, tbN := n } ∧ { u.graftReply s' with ref := u.ref } = u) ∧
    (u.synM.en = true ∨ u.synA.en = true →
      ∃ s', s.hostWrite t r 0x2100 0x01 data = .next s' ∧
        u.TurnsAway s' (writeMsg r 0x2100 0x01 data) Abort.blockRunning.code) := by
  have hrange : (decide (leNat data < 10000000 ∨ 500000000 < leNat data) || (tbWords (leNat data)).isNone) = false := by
    rw [htb, decide_eq_false (by omega)]
    rfl
  have hact : ∀ ss mb k, (u.withMail ss mb k).writeRefFreq (leNat data) = (u.withMail ss mb k).act
      [rangeIf false, (u.synM.en || u.synA.en, .blockRunning)]
      { u.withMail ss mb k with ref := { u.ref with freq := leNat data, tbDiv := d, tbN := n } } := fun ss mb k => by
    unfold State.writeRefFreq
    rw [hrange, htb]
    rfl
  obtain ⟨hdone, haway⟩ := State.hostWrite_num t (Entry.num 0x2100 0x01 .u32 .rwl 0x989680) hu (by decide) hw (by rw [hl]; decide)
    (fun e => by cases e) [rangeIf false, (u.synM.en || u.synA.en, .blockRunning)]
    (fun y => { y with ref := { u.ref with freq := leNat data, tbDiv := d, tbN := n } }) hact
    (fun ss mb k => ⟨rfl, rfl, rfl, rfl, rfl⟩) (fun ss mb k => hw.parity)
  refine ⟨fun hM hA => ?_, fun hen => haway .blockRunning (by rw [Bool.or_eq_true_iff.2 hen]; rfl) (by decide)⟩
  obtain ⟨s', ss, mb, k, hexec, hreply, hs'⟩ := hdone (by rw [hM, hA]; rfl)
  have href := congrArg State.ref hs'
  have hrest := congrArg (fun z : State => { z with ref := u.ref }) hs'
  exact ⟨s', hexec, hreply, href, hrest⟩

/-- States that differ in the reply alone have the same synthesizers. -/
theorem State.syn_of_graftReply {u x z : State} (h : u.graftReply x = u.graftReply z) (y : Syn) : x.syn y = z.syn y := by
  have hM := congrArg State.synM h
  have hA := congrArg State.synA h
  cases y
  · exact hM
  · exact hA

theorem State.syn_of_graftRefusal {u x z : State} (h : u.graftRefusal x = u.graftRefusal z) (y : Syn) : x.syn y = z.syn y := by
  have hM := congrArg State.synM h
  have hA := congrArg State.synA h
  cases y
  · exact hM
  · exact hA

theorem State.syn_withMail (u : State) (ss : List Session) (mb : List Mail) (k : Nat) (y : Syn) : (u.withMail ss mb k).syn y = u.syn y := by
  cases y <;> rfl

/-- A write answered that has set one synthesizer. -/
theorem State.graftReply_setSyn {u x : State} {ss : List Session} {mb : List Mail} {k : Nat} {y : Syn} {v : Synth}
    (h : u.graftReply x = u.graftReply ((u.withMail ss mb k).setSyn y v)) : x.syn y = v ∧ (∀ z, z ≠ y → x.syn z = u.syn z) ∧
      { u.graftReply x with synM := u.synM, synA := u.synA } = u := by
  refine ⟨(State.syn_of_graftReply h y).trans (State.syn_setSyn_self _ y v), fun z hz => ?_, ?_⟩
  · rw [State.syn_of_graftReply h, State.syn_setSyn_other _ hz, State.syn_withMail]
  · have e := congrArg (fun z : State => { z with synM := u.synM, synA := u.synA }) h
    exact e.trans (by cases y <;> rfl)

/-- What a refusal leaves is the state of the moment but for the reply and the count. -/
theorem State.graftRefusal_withMail (u : State) (ss : List Session) (mb : List Mail) (k : Nat) (m a : Synth) :
    { u.graftRefusal { u.withMail ss mb k with synM := m, synA := a } with synM := u.synM, synA := u.synA } = u := by
  unfold State.graftRefusal State.graftReply State.graft State.withMail
  rfl

/-- A write refused that has set one synthesizer. -/
theorem State.graftRefusal_setSyn {u x : State} {ss : List Session} {mb : List Mail} {k : Nat} {y : Syn} {v : Synth}
    (h : u.graftRefusal x = u.graftRefusal ((u.withMail ss mb k).setSyn y v)) : x.syn y = v ∧ (∀ z, z ≠ y → x.syn z = u.syn z) ∧
      { u.graftRefusal x with synM := u.synM, synA := u.synA } = u := by
  refine ⟨(State.syn_of_graftRefusal h y).trans (State.syn_setSyn_self _ y v), fun z hz => ?_, ?_⟩
  · rw [State.syn_of_graftRefusal h, State.syn_setSyn_other _ hz, State.syn_withMail]
  · obtain ⟨m, a, hset⟩ := (u.withMail ss mb k).setSyn_eq y v
    rw [hset] at h
    have e := congrArg (fun z : State => { z with synM := u.synM, synA := u.synA }) h
    exact e.trans (u.graftRefusal_withMail ss mb k m a)

/-- ALIGN_SRC set to `v`. -/
def State.alignedBy (s : State) (v : Nat) : State :=
  if v = 0 then ((({ s with ref := { s.ref with alignPps := decide (v = 1) } } : State).alignGo .M).alignGo .A)
  else { s with ref := { s.ref with alignPps := decide (v = 1) } }

theorem State.alignedBy_sets (s : State) (v : Nat) : (s.alignedBy v).ref = { s.ref with alignPps := decide (v = 1) } ∧
    (∀ y, (s.alignedBy v).syn y = if v = 0 then (s.syn y).goes s.now else s.syn y) ∧
    { s.alignedBy v with ref := s.ref, synM := s.synM, synA := s.synA } = s := by
  unfold State.alignedBy
  split
  · exact ⟨rfl, fun y => (State.syn_alignGo_both _ y).trans (by cases y <;> rfl), rfl⟩
  · exact ⟨rfl, fun y => (by cases y <;> rfl), rfl⟩

theorem State.alignSrc_write {s u : State} {r : Req} {x : Session} {data : Bytes} (t : Nat) (hu : u = s.advance t)
    (hw : u.Writes r x 0x2100 0x0E data) (hl : data.length = 1) (hone : leNat data ≤ 1) :
    ∃ s', s.hostWrite t r 0x2100 0x0E data = .next s' ∧ u.Replies s' (writeMsg r 0x2100 0x0E data) 0 [] ∧
      s'.ref = { u.ref with alignPps := decide (leNat data = 1) } ∧
      (∀ y, s'.syn y = if leNat data = 0 then (u.syn y).goes u.now else u.syn y) ∧
      { u.graftReply s' with ref := u.ref, synM := u.synM, synA := u.synA } = u := by
  have hkeeps : ∀ ss mb k, u.Answers ((u.withMail ss mb k).alignedBy (leNat data)) ∧
      ((u.withMail ss mb k).alignedBy (leNat data)).sys.parity = [] := fun ss mb k => by
    unfold State.alignedBy
    split <;> exact ⟨⟨rfl, rfl, rfl, rfl, rfl⟩, hw.parity⟩
  obtain ⟨hdone, -⟩ := State.hostWrite_num t (Entry.num 0x2100 0x0E .u8 .rw 0) hu (by decide) hw (by rw [hl]; decide)
    (fun e => by cases e) [rangeIf (decide (1 < leNat data))] (fun y => y.alignedBy (leNat data)) (fun ss mb k => rfl)
    (fun ss mb k => (hkeeps ss mb k).1) (fun ss mb k => (hkeeps ss mb k).2)
  obtain ⟨s', ss, mb, k, hexec, hreply, hs'⟩ := hdone (by rw [decide_eq_false (Nat.not_lt.2 hone)]; rfl)
  obtain ⟨href, hsyn, hrest⟩ := (u.withMail ss mb k).alignedBy_sets (leNat data)
  have href' := congrArg State.ref hs'
  have hrest' := congrArg (fun z : State => { z with ref := u.ref, synM := u.synM, synA := u.synA }) hs'
  have hback := congrArg u.graftReply hrest
  refine ⟨s', hexec, hreply, href'.trans href, fun y => ?_, hrest'.trans hback⟩
  rw [State.syn_of_graftReply hs', hsyn, State.syn_withMail]
  rfl

/-! ## Band tables (R153) -/

theorem bandTable_eq (f : Nat → Band) (n : Nat) : bandTable ((List.range n).map f) =
    (List.range n).foldl (fun m i => sset (fun _ => {}) m (0 + i) (f i)) [] := by
  induction n with
  | zero => rfl
  | succ n ih =>
    unfold bandTable at ih ⊢
    simp only [List.range_succ, List.map_append, List.zipIdx_append, List.foldl_append, ih, List.map_cons, List.map_nil,
      List.length_map, List.length_range, List.zipIdx_singleton, List.foldl_cons, List.foldl_nil]

theorem sget_bandTable (f : Nat → Band) {i : Nat} (hi : i < 64) : sget (fun _ => {}) (bandTable ((List.range 64).map f)) i = f i := by
  rw [bandTable_eq, sget_foldl_range, if_pos (by omega)]
  rfl

theorem State.bandTable_write {s u : State} {r : Req} {x : Session} {y : Syn} {sub : Nat} {data : Bytes} (t : Nat)
    (hu : u = s.advance t) (hsub : sub = if y = .M then 0x16 else 0x36) (hw : u.Writes r x 0x2100 sub data)
    (hl : data.length = 1024) (hen : (u.syn y).en = false) (hok : ∀ i, i < 64 → (bandOf data i).ok y = true) :
    ∃ s', s.hostWrite t r 0x2100 sub data = .next s' ∧ u.Replies s' (writeMsg r 0x2100 sub data) 0 [] ∧
      (∀ i, i < 64 → (s'.syn y).band i = bandOf data i) ∧ s'.syn y = { u.syn y with bands := (s'.syn y).bands } ∧
      (∀ z, z ≠ y → s'.syn z = u.syn z) ∧ { u.graftReply s' with synM := u.synM, synA := u.synA } = u := by
  have hend : ∃ ss mb k, s.WriteEnds t r 0x2100 sub data ((u.withMail ss mb k).writeBands y data) := by
    cases y with
    | M =>
      rw [if_pos rfl] at hsub
      subst hsub
      obtain ⟨ss, mb, H⟩ := State.hostWrite_blob t (Entry.blob 0x2100 0x16 .domain .rwl 1024 1024) hu (by decide) hw (by rw [hl]; decide)
      exact ⟨ss, mb, _, H _ rfl⟩
    | A =>
      rw [if_neg (by decide)] at hsub
      subst hsub
      obtain ⟨ss, mb, H⟩ := State.hostWrite_blob t (Entry.blob 0x2100 0x36 .domain .rwl 1024 1024) hu (by decide) hw (by rw [hl]; decide)
      exact ⟨ss, mb, _, H _ rfl⟩
  obtain ⟨ss, mb, k, hend⟩ := hend
  have hbad : (((List.range 64).map (bandOf data)).any fun b => !b.ok y) = false := by
    simp only [List.any_map, List.any_eq_false, List.mem_range, Function.comp, Bool.not_eq_true', Bool.not_eq_false]
    exact hok
  have hstands : ((u.withMail ss mb k).syn y).en = false := by cases y <;> exact hen
  obtain ⟨m, a, hset⟩ := (u.withMail ss mb k).setSyn_eq y { (u.withMail ss mb k).syn y with
    bands := bandTable ((List.range 64).map (bandOf data)) }
  have hafter : ((u.withMail ss mb k).writeBands y data).after = { u.withMail ss mb k with synM := m, synA := a } := hset
  obtain ⟨s', hexec, hreply, hs'⟩ := hend.done (u := u) (by rw [hafter]; exact ⟨rfl, rfl, rfl, rfl, rfl⟩)
    (by rw [hafter]; exact hw.parity) (by
      unfold State.writeBands
      dsimp only
      rw [hl, hstands, hbad]
      rfl)
  obtain ⟨hown, hothers, hrest⟩ := State.graftReply_setSyn (y := y) (v := { (u.withMail ss mb k).syn y with
    bands := bandTable ((List.range 64).map (bandOf data)) }) hs'
  rw [State.syn_withMail] at hown
  refine ⟨s', hexec, hreply, fun i hi => ?_, by rw [hown], hothers, hrest⟩
  unfold Synth.band
  rw [hown]
  exact sget_bandTable (bandOf data) hi

/-! ## SYNM_EN and SYNA_EN (R149, R154, R167) -/

/-- A write of 0 or 1 to the enable of a synthesizer. -/
theorem State.synEn_ends {s u : State} {r : Req} {x : Session} {y : Syn} {sub : Nat} {data : Bytes} (t : Nat) (hu : u = s.advance t)
    (hsub : sub = if y = .M then 0x10 else 0x30) (hw : u.Writes r x 0x2100 sub data) (hl : data.length = 1) (hone : leNat data ≤ 1) :
    ∃ ss mb k, s.WriteEnds t r 0x2100 sub data ((u.withMail ss mb k).writeSynEn y (leNat data)) := by
  cases y with
  | M =>
    rw [if_pos rfl] at hsub
    subst hsub
    obtain ⟨ss, mb, H⟩ := State.hostWrite_plain t (Entry.num 0x2100 0x10 .bool .rw 0) hu (by decide) hw (by rw [hl]; decide)
      fun _ => hone
    exact ⟨ss, mb, _, H _ rfl⟩
  | A =>
    rw [if_neg (by decide)] at hsub
    subst hsub
    obtain ⟨ss, mb, H⟩ := State.hostWrite_plain t (Entry.num 0x2100 0x30 .bool .rw 0) hu (by decide) hw (by rw [hl]; decide)
      fun _ => hone
    exact ⟨ss, mb, _, H _ rfl⟩

/-- The synthesizer that an enable has taken, with band `band`: it acquires, its outputs gated. -/
def State.acquiring (s : State) (v : Synth) (band : Option Nat) : Synth :=
  { v with
    en := true, phase := .acquiring, gated := true, locked := false, tbLocked := false, lost := false, parity := false
    mash := { v.mash with at_ := s.loopFs s.now, known := false }
    entry := band, since := s.now, retried := false, alignEdge := none, onXtal := !s.onRefin }

/-- What an enable does beside the synthesizer itself: SYN-M's channels stand and TCLK takes its reference; SYN-A's ramp
starts anew. -/
def State.enableRest (s : State) (y : Syn) : State :=
  match y with
  | .M => { s.allChans fun _ c => { c with clkStopped := true } with tiu := { s.tiu with onXtal := !s.onRefin } }
  | .A => { s with ramp := { s.ramp with shift := 0, running := false, waiting := false, startAt := none } }

theorem State.synEnable_eq {s : State} {y : Syn} (h : (s.syn y).en = false) : s.synEnable y =
    { checks := [rangeIf (!s.loopOk y (s.enabled y)), ((s.selectBand (s.enabled y)).isNone, .noBand)]
      refused := fun a => s.when (decide (a = .noBand)) fun s => s.setSyn y { s.syn y with phase := .noBand }
      after := (s.enableRest y).setSyn y (s.acquiring (s.enabled y) (s.selectBand (s.enabled y))) } := by
  unfold State.synEnable
  rw [if_neg (by rw [h]; decide)]
  cases y <;> rfl

theorem State.synEnable_again {s : State} {y : Syn} (h : (s.syn y).en = true) : s.synEnable y = s.act [] s := by
  unfold State.synEnable
  exact if_pos h

theorem State.enableRest_M (s : State) : ∃ c, s.enableRest .M = { s with
    chans := c, tiu := { s.tiu with onXtal := !s.onRefin } } ∧
    ∀ n, n < 64 → sget Channel.init c n = { s.chan n with clkStopped := true } :=
  ⟨_, rfl, fun n hn => (s.chan_allChans (fun _ c => { c with clkStopped := true }) n).trans (if_pos hn)⟩

/-- An enable changes its synthesizer, SYN-M's channels and TCLK's reference, and SYN-A's ramp only. -/
theorem State.enables {s x : State} {y : Syn} {v : Synth} (hx : x = (s.enableRest y).setSyn y v) : x.syn y = v ∧
    (∀ z, z ≠ y → x.syn z = s.syn z) ∧
    { x with
      synM := s.synM, synA := s.synA, chans := s.chans, ramp := s.ramp, tiu := { x.tiu with onXtal := s.tiu.onXtal } } = s ∧
    (y = .A → x.chans = s.chans ∧ x.tiu = s.tiu ∧ x.ramp.running = false ∧ x.ramp.waiting = false ∧ x.ramp.shift = 0) ∧
    (y = .M → x.ramp = s.ramp ∧ x.tiu.onXtal = (!s.onRefin) ∧ ∀ n, n < 64 → x.chan n = { s.chan n with clkStopped := true }) := by
  cases y with
  | M =>
    obtain ⟨c, hrest, hchan⟩ := s.enableRest_M
    rw [hrest] at hx
    subst hx
    exact ⟨rfl, fun z hz => (State.syn_setSyn_other _ hz v).trans (by cases z <;> rfl), rfl, fun h => (by cases h),
      fun _ => ⟨rfl, rfl, hchan⟩⟩
  | A =>
    subst hx
    exact ⟨rfl, fun z hz => (State.syn_setSyn_other _ hz v).trans (by cases z <;> rfl), rfl,
      fun _ => ⟨rfl, rfl, rfl, rfl, rfl⟩, fun h => by cases h⟩

theorem State.not_onRefin (s : State) : (!s.onRefin) = (s.ref.xtalSrc || !(decide (s.ref.mode = .refin) && s.ref.present)) := by
  unfold State.onRefin
  cases s.ref.xtalSrc <;> rfl

/-- Where an enable runs from the crystal it takes y of R148. -/
theorem State.enabled_xtalY (s : State) (y : Syn) : (s.enabled y).xtalY = if (!s.onRefin) = true then some s.ref.y else none := by
  unfold State.enabled
  cases s.onRefin <;> rfl

/-- What an enable keeps, seen after the reply. -/
theorem State.enables_graft {u x s' : State} {ss : List Session} {mb : List Mail} {k : Nat} (hs' : u.graftReply s' = u.graftReply x)
    (hrest : { x with
      synM := u.synM, synA := u.synA, chans := u.chans, ramp := u.ramp, tiu := { x.tiu with onXtal := u.tiu.onXtal } } =
        u.withMail ss mb k) :
    { u.graftReply s' with
      synM := u.synM, synA := u.synA, chans := u.chans, ramp := u.ramp, tiu := { s'.tiu with onXtal := u.tiu.onXtal } } = u := by
  have e := congrArg (fun z : State => { z with
    synM := u.synM, synA := u.synA, chans := u.chans, ramp := u.ramp, tiu := { z.tiu with onXtal := u.tiu.onXtal } }) hs'
  have hback := congrArg u.graftReply hrest
  exact e.trans hback

theorem State.enables_repliesAs {u x : State} {ss : List Session} {mb : List Mail} {k : Nat} (hp : u.sys.parity = [])
    (hrest : { x with
      synM := u.synM, synA := u.synA, chans := u.chans, ramp := u.ramp, tiu := { x.tiu with onXtal := u.tiu.onXtal } } =
        u.withMail ss mb k) : u.RepliesAs x ∧ x.sys.parity = [] := by
  have hlanes := congrArg State.lanes hrest
  have hquads := congrArg State.quads hrest
  have hnum := congrArg (fun z : State => z.truss.num) hrest
  have hout := congrArg State.out hrest
  have hnow := congrArg State.now hrest
  have hpar := congrArg (fun z : State => z.sys.parity) hrest
  exact ⟨⟨hlanes, hquads, hnum, hout, hnow⟩, hpar.trans hp⟩

/-- An enable whose words keep the loop limits: its checks, and what it leaves where it is carried out or no band covers it. -/
theorem State.synEnable_ends {s u : State} {r : Req} {x : Session} {y : Syn} {sub : Nat} (t : Nat) (hu : u = s.advance t)
    (hsub : sub = if y = .M then 0x10 else 0x30) (hw : u.Writes r x 0x2100 sub [1]) (hen : (u.syn y).en = false)
    (hok : u.loopOk y (u.enabled y) = true) : ∃ ss mb k a, s.WriteEnds t r 0x2100 sub [1] a ∧
      a.checks = [rangeIf false, ((u.selectBand (u.enabled y)).isNone, .noBand)] ∧
      a.refused .noBand = (u.withMail ss mb k).setSyn y { u.syn y with phase := .noBand } ∧
      a.after = ((u.withMail ss mb k).enableRest y).setSyn y (u.acquiring (u.enabled y) (u.selectBand (u.enabled y))) := by
  obtain ⟨ss, mb, k, hend⟩ := State.synEn_ends t hu hsub hw rfl (by decide)
  have hstands : ((u.withMail ss mb k).syn y).en = false := by rw [State.syn_withMail, hen]
  have henabled : (u.withMail ss mb k).enabled y = u.enabled y := by cases y <;> rfl
  have hloop : (u.withMail ss mb k).loopOk y (u.enabled y) = true := hok
  have hact : (u.withMail ss mb k).writeSynEn y (leNat [1]) = (u.withMail ss mb k).synEnable y := rfl
  rw [hact] at hend
  refine ⟨ss, mb, k, _, hend, ?_, ?_, ?_⟩
  · rw [State.synEnable_eq hstands, henabled, hloop]
    rfl
  · rw [State.synEnable_eq hstands, ← State.syn_withMail u ss mb k]
    rfl
  · rw [State.synEnable_eq hstands, henabled]
    rfl

/-- What an enable that a band covers leaves. -/
theorem State.synEnable_write {s u : State} {r : Req} {x : Session} {y : Syn} {sub i : Nat} (t : Nat) (hu : u = s.advance t)
    (hsub : sub = if y = .M then 0x10 else 0x30) (hw : u.Writes r x 0x2100 sub [1]) (hen : (u.syn y).en = false)
    (hok : u.loopOk y (u.enabled y) = true) (hband : u.selectBand (u.enabled y) = some i) :
    ∃ s', s.hostWrite t r 0x2100 sub [1] = .next s' ∧ u.Replies s' (writeMsg r 0x2100 sub [1]) 0 [] ∧
      s'.syn y = u.acquiring (u.enabled y) (some i) ∧ (∀ z, z ≠ y → s'.syn z = u.syn z) ∧
      { u.graftReply s' with
        synM := u.synM, synA := u.synA, chans := u.chans, ramp := u.ramp, tiu := { s'.tiu with onXtal := u.tiu.onXtal } } = u ∧
      (y = .A → s'.chans = u.chans ∧ s'.tiu = u.tiu ∧ s'.ramp.running = false ∧ s'.ramp.waiting = false ∧ s'.ramp.shift = 0) ∧
      (y = .M → s'.ramp = u.ramp ∧ s'.tiu.onXtal = (!u.onRefin) ∧ ∀ n, n < 64 → s'.chan n = { u.chan n with clkStopped := true }) := by
  obtain ⟨ss, mb, k, a, hend, hchecks, -, hafter⟩ := State.synEnable_ends t hu hsub hw hen hok
  rw [hband] at hchecks hafter
  obtain ⟨hown, hothers, hrest, hA, hM⟩ := State.enables hafter
  obtain ⟨hreplies, hpar⟩ := State.enables_repliesAs hw.parity hrest
  obtain ⟨s', hexec, hreply, hs'⟩ := hend.done hreplies hpar (by rw [hchecks]; rfl)
  generalize a.after = z at hs' hown hothers hrest hA hM
  have hchans : s'.chans = z.chans := by have e := congrArg State.chans hs'; exact e
  have htiu : s'.tiu = z.tiu := by have e := congrArg State.tiu hs'; exact e
  have hramp : s'.ramp = z.ramp := by have e := congrArg State.ramp hs'; exact e
  refine ⟨s', hexec, hreply, (State.syn_of_graftReply hs' y).trans hown, fun w hz => ?_, State.enables_graft hs' hrest,
    fun h => ?_, fun h => ?_⟩
  · rw [State.syn_of_graftReply hs', hothers w hz, State.syn_withMail]
  · rw [hchans, htiu, hramp]
    exact hA h
  · rw [htiu, hramp]
    obtain ⟨hramp', hxtal, hstops⟩ := hM h
    exact ⟨hramp', hxtal, fun n hn => (State.chan_congr hchans n).trans (hstops n hn)⟩

/-- An enable that no band covers. -/
theorem State.synEnable_noBand {s u : State} {r : Req} {x : Session} {y : Syn} {sub : Nat} (t : Nat) (hu : u = s.advance t)
    (hsub : sub = if y = .M then 0x10 else 0x30) (hw : u.Writes r x 0x2100 sub [1]) (hen : (u.syn y).en = false)
    (hok : u.loopOk y (u.enabled y) = true) (hband : u.selectBand (u.enabled y) = none) :
    ∃ s', s.hostWrite t r 0x2100 sub [1] = .next s' ∧ u.Replies s' (writeMsg r 0x2100 sub [1]) Abort.noBand.code [] ∧
      s'.syn y = { u.syn y with phase := .noBand } ∧ (∀ z, z ≠ y → s'.syn z = u.syn z) ∧
      s'.oda.aborts = u.oda.aborts + 1 ∧ { u.graftRefusal s' with synM := u.synM, synA := u.synA } = u := by
  obtain ⟨ss, mb, k, a, hend, hchecks, hrefused, -⟩ := State.synEnable_ends t hu hsub hw hen hok
  rw [hband] at hchecks
  obtain ⟨m, n, hset⟩ := (u.withMail ss mb k).setSyn_eq y { u.syn y with phase := .noBand }
  have hrest := hrefused.trans hset
  have hreplies : u.RepliesAs (a.refused .noBand) := by
    rw [hrest]
    exact ⟨rfl, rfl, rfl, rfl, rfl⟩
  have hcount : (a.refused .noBand).oda.aborts = u.oda.aborts := by rw [hrest]; rfl
  obtain ⟨s', hexec, hreply, hs', haborts⟩ := hend.away hreplies (by rw [hchecks]; rfl) (by decide)
  rw [hrefused] at hs'
  obtain ⟨hown, hothers, hkept⟩ := State.graftRefusal_setSyn hs'
  exact ⟨s', hexec, hreply, hown, hothers, haborts.trans (congrArg (· + 1) hcount), hkept⟩

/-- A write of 1 to the enable of an enabled synthesizer leaves it. -/
theorem State.synEnable_again_write {s u : State} {r : Req} {x : Session} {y : Syn} {sub : Nat} (t : Nat) (hu : u = s.advance t)
    (hsub : sub = if y = .M then 0x10 else 0x30) (hw : u.Writes r x 0x2100 sub [1]) (hen : (u.syn y).en = true) :
    ∃ s', s.hostWrite t r 0x2100 sub [1] = .next s' ∧ u.Replies s' (writeMsg r 0x2100 sub [1]) 0 [] ∧ u.graftReply s' = u := by
  obtain ⟨ss, mb, k, hend⟩ := State.synEn_ends t hu hsub hw rfl (by decide)
  have hact : (u.withMail ss mb k).writeSynEn y (leNat [1]) = (u.withMail ss mb k).act [] (u.withMail ss mb k) :=
    State.synEnable_again (by rw [State.syn_withMail, hen])
  rw [hact] at hend
  exact hend.done (u := u) ⟨rfl, rfl, rfl, rfl, rfl⟩ hw.parity rfl

/-- A synthesizer that is not enabled. -/
def Synth.retired (v : Synth) : Synth := { v with en := false, phase := .disabled, gated := false, lost := false, entry := none }

/-- A gated synthesizer disabled; SYN-A's ramp ends. -/
def State.retire (s : State) (y : Syn) : State :=
  match y with
  | .M => (s.unlock .M).modSyn .M Synth.retired
  | .A =>
    { (s.unlock .A).modSyn .A Synth.retired with
      ramp := { ((s.unlock .A).modSyn .A Synth.retired).ramp with running := false, waiting := false, startAt := none } }

theorem State.retire_eq (s : State) (y : Syn) : ∃ m a p, s.retire y = { s with synM := m, synA := a, ramp := p } := by
  cases y <;> exact ⟨_, _, _, rfl⟩

theorem State.syn_retire (s : State) (y : Syn) :
    (s.retire y).syn y = ({ s.syn y with locked := false, tbLocked := false } : Synth).retired ∧
      ∀ z, z ≠ y → (s.retire y).syn z = s.syn z := by
  cases y with
  | M => exact ⟨rfl, fun z hz => (State.syn_modSyn_other _ hz _).trans (State.syn_modSyn_other _ hz _)⟩
  | A => exact ⟨rfl, fun z hz => by cases z <;> [rfl; exact absurd rfl hz]⟩

theorem State.synDisable_eq (s : State) (y : Syn) :
    s.synDisable y = s.act [] (if (s.syn y).en = true then (s.gateSyn y).retire y else s) := by
  unfold State.synDisable
  cases hen : (s.syn y).en with
  | false => rfl
  | true =>
    rw [if_pos rfl]
    cases y <;> rfl

/-- What a disable leaves of the device: every byte, and what a reply depends on. -/
theorem State.retire_keeps (s : State) (y : Syn) : ((s.gateSyn y).retire y).mem.bytes = s.mem.bytes ∧
    s.RepliesAs ((s.gateSyn y).retire y) ∧ ((s.gateSyn y).retire y).sys.parity = s.sys.parity := by
  obtain ⟨-, -, hgated, htruss, hbytes, hsys, -⟩ := s.gates_gateSyn y
  obtain ⟨m, a, p, hretire⟩ := (s.gateSyn y).retire_eq y
  rw [hretire]
  generalize s.gateSyn y = g at hgated htruss hbytes hsys ⊢
  have hlanes := congrArg State.lanes hgated
  have hquads := congrArg State.quads hgated
  have hout := congrArg State.out hgated
  have hnow := congrArg State.now hgated
  have hnum := congrArg Truss.num htruss
  have hparity := congrArg Sys.parity hsys
  exact ⟨hbytes, ⟨hlanes, hquads, hnum, hout, hnow⟩, hparity⟩

/-- A write of 0 to the enable of a synthesizer. -/
theorem State.synDisable_write {s u : State} {r : Req} {x : Session} {y : Syn} {sub : Nat} (t : Nat) (hu : u = s.advance t)
    (hsub : sub = if y = .M then 0x10 else 0x30) (hw : u.Writes r x 0x2100 sub [0]) :
    ∃ s', s.hostWrite t r 0x2100 sub [0] = .next s' ∧ u.Replies s' (writeMsg r 0x2100 sub [0]) 0 [] ∧
      (∀ z, z ≠ y → s'.syn z = u.syn z) ∧ s'.mem.bytes = u.mem.bytes ∧
      ((u.syn y).en = true → (s'.syn y).en = false ∧ (s'.syn y).phase = .disabled ∧ (s'.syn y).locked = false ∧
        (s'.syn y).tbLocked = false ∧ (s'.syn y).entry = none) ∧
      ((u.syn y).en = false → u.graftReply s' = u) := by
  obtain ⟨ss, mb, k, hend⟩ := State.synEn_ends t hu hsub hw rfl (by decide)
  have hact : (u.withMail ss mb k).writeSynEn y (leNat [0]) = (u.withMail ss mb k).synDisable y := rfl
  rw [hact, State.synDisable_eq, State.syn_withMail] at hend
  cases hen : (u.syn y).en with
  | false =>
    rw [hen, if_neg Bool.false_ne_true] at hend
    obtain ⟨s', hexec, hreply, hs'⟩ := hend.done (u := u) ⟨rfl, rfl, rfl, rfl, rfl⟩ hw.parity rfl
    have hstands : u.graftReply s' = u := hs'
    have hbytes : s'.mem.bytes = u.mem.bytes := by have e := congrArg (fun z : State => z.mem.bytes) hstands; exact e
    exact ⟨s', hexec, hreply, fun z _ => (State.syn_of_graftReply hs' z).trans (u.syn_withMail ss mb k z), hbytes,
      fun h => (by cases h), fun _ => hstands⟩
  | true =>
    rw [hen, if_pos rfl] at hend
    obtain ⟨hbytes, hreplies, hparity⟩ := (u.withMail ss mb k).retire_keeps y
    obtain ⟨hown, hothers⟩ := ((u.withMail ss mb k).gateSyn y).syn_retire y
    have hgated := ((u.withMail ss mb k).gates_gateSyn y).others
    generalize (u.withMail ss mb k).gateSyn y = g at hend hbytes hreplies hparity hown hothers hgated
    obtain ⟨s', hexec, hreply, hs'⟩ := hend.done (u := u)
      ⟨hreplies.lanes, hreplies.quads, hreplies.num, hreplies.out, hreplies.now⟩ (hparity.trans hw.parity) rfl
    change u.graftReply s' = u.graftReply (g.retire y) at hs'
    have hbytes' : s'.mem.bytes = (g.retire y).mem.bytes := by have e := congrArg (fun z : State => z.mem.bytes) hs'; exact e
    have hown' := (State.syn_of_graftReply hs' y).trans hown
    refine ⟨s', hexec, hreply, fun z hz => ?_, hbytes'.trans hbytes, fun _ => ?_, fun h => by cases h⟩
    · rw [State.syn_of_graftReply hs', hothers z hz, hgated z hz, State.syn_withMail]
    · rw [hown']
      exact ⟨rfl, rfl, rfl, rfl, rfl⟩

theorem Synth.goes_if (v : Synth) (now n : Nat) : (if n = 0 then v.goes now else v) =
    if n = 0 ∧ v.phase = .alignWait then { v with phase := .aligning, since := now } else v := by
  by_cases hn : n = 0
  · rw [if_pos hn]
    simp only [hn, true_and]
    rfl
  · rw [if_neg hn, if_neg fun h => hn h.1]

theorem State.synRuns_disabled {s : State} {y : Syn} (hphase : (s.syn y).phase = .disabled) : s.synRuns y = false := by
  unfold State.synRuns
  rw [hphase]
  rfl

theorem State.synRuns_congr {s x : State} {y : Syn} (h : x.syn y = s.syn y) : x.synRuns y = s.synRuns y := by
  unfold State.synRuns
  rw [h]

/-- Settles O32: each write by the checks of its register and what it sets. -/
theorem referenceAndSynthesizerWrites : Obligations.ReferenceAndSynthesizerWrites := by
  unfold Obligations.ReferenceAndSynthesizerWrites
  refine ⟨?_, ?_, ?_, ?_⟩
  · rintro s u t r x data v d n hu rfl hw hl hlo hhi htb
    exact State.refFreq_write t hu hw hl hlo hhi htb
  · rintro s u t r x data v hu rfl hw hl hone
    obtain ⟨s', hexec, hreply, href, hsyn, hrest⟩ := State.alignSrc_write t hu hw hl hone
    refine ⟨s', hexec, hreply, href, fun y => ?_, hrest⟩
    rw [hsyn, Synth.goes_if]
  · intro s u t r x y sub v hu hsub
    have hexec : ∀ data, s.hostWrite t r 0x2100 (if y = .M then 0x10 else 0x30) data = s.hostWrite t r 0x2100 sub data := fun data => by
      rw [hsub]
    refine ⟨fun hw hen hv hok => ⟨fun i hband => ?_, fun hband => ?_⟩, fun hw hen => ?_, fun hw hruns => ?_⟩
    · subst hv
      obtain ⟨s', hs', hreply, hown, hothers, hrest, hA, hM⟩ := State.synEnable_write t hu hsub hw hen hok hband
      refine ⟨s', (hexec [1]).trans hs', hreply, ?_⟩
      rw [hown]
      refine ⟨rfl, rfl, rfl, rfl, rfl, rfl, rfl, rfl, u.not_onRefin, u.enabled_xtalY y, hothers, hrest, hA, fun h => ?_⟩
      obtain ⟨hramp, hxtal, hstops⟩ := hM h
      subst h
      have hown' : s'.synM = u.acquiring (u.enabled .M) (some i) := hown
      exact ⟨hramp, by rw [hxtal, hown']; rfl, hstops⟩
    · subst hv
      obtain ⟨s', hs', h⟩ := State.synEnable_noBand t hu hsub hw hen hok hband
      exact ⟨s', (hexec [1]).trans hs', h⟩
    · obtain ⟨s', hs', h⟩ := State.synEnable_again_write t hu hsub hw hen
      exact ⟨s', (hexec [1]).trans hs', h⟩
    · obtain ⟨s', hs', hreply, hothers, hbytes, hoff, hstands⟩ := State.synDisable_write t hu hsub hw
      refine ⟨s', (hexec [0]).trans hs', hreply, ?_, hothers, hbytes, hoff, hstands⟩
      cases hen : (u.syn y).en with
      | true => exact State.synRuns_disabled (hoff hen).2.1
      | false =>
        have hsame : s'.syn y = u.syn y := State.syn_of_graftReply (u := u) (z := u) (hstands hen) y
        exact (State.synRuns_congr hsame).trans (hruns.resolve_left (by rw [hen]; decide))
  · intro s u t r x y sub data hu hsub hw hl hen hok
    obtain ⟨s', hs', h⟩ := State.bandTable_write t hu hsub hw hl hen hok
    exact ⟨s', (by rw [← hs', hsub]; rfl), h⟩

end Sys2Proof.Machine
end
